-- ==== Sys2Proof/Word.lean ====
section
/-! DEFINITION. The plainest types of the model: bytes, samples, and tables keyed by a number. -/

namespace Sys2Proof

/-- One byte of a value on a transport (R11). -/
abbrev Byte := BitVec 8

/-- A finite table from numbers (instance numbers, dictionary keys) to entries; `Machine.Table.get` reads it. -/
abbrev Table (α : Type) := List (Nat × α)

end Sys2Proof
end

