-- ==== Sys2Proof/Syntax.lean ====
section
/-! DEFINITION. The commands of the block: one constructor per row of the table of operations and events, with the operands
the row's rule names: the instance it concerns, the value a host writes, or what the hub measures at that step. -/

namespace Sys2Proof

/-- The two control transports (R261): each host number has one mailbox per transport (R270). -/
inductive Transport where
  | twoWire | tether
deriving DecidableEq, Repr

/-- Who sends a mailbox command: the transport and the host number the access carries (R163). -/
structure Who where
  via : Transport
  host : Nat
deriving DecidableEq, Repr

/-- The three converter paths of an input (R53). -/
inductive Path where
  | l | m | h
deriving DecidableEq, Repr

/-- One 768 kHz sample of the three paths of an input slice: as decimated, in steps of which 2^31 are the full scale of the path (R53, R54), or,
after R54, input-referred S32. -/
structure PathSample where
  l : Int
  m : Int
  h : Int
deriving DecidableEq, Repr

/-- A match set (R63): gains in 0.0001 dB about nominal, delays in 1/4096 sample, offsets in nV. -/
structure MatchSet where
  lmGain : Int
  lmDelay : Int
  mhGain : Int
  mhDelay : Int
  lhGain : Int
  lhDelay : Int
  lOffset : Int
  mOffset : Int
  hOffset : Int
deriving DecidableEq, Repr, Inhabited

/-- The standard errors of one pair's estimates (R64), each in thousandths of the error at which the confidence is zero: the gain in 0.000001 dB,
the delay in 0.004/4096 sample, the offset of the more sensitive path in 0.1 nV. -/
structure PairErrors where
  gain : Nat
  delay : Nat
  offset : Nat
deriving DecidableEq, Repr

/-- A converter slice under supervision (R343, R344). -/
inductive SliceId where
  | input (n : Nat) | output (n : Nat)
deriving DecidableEq, Repr

/-- A relief unit (R342): an input relief slice IRSk or an output relief slice ORSk. -/
inductive ReliefUnit where
  | irs (k : Nat) | ors (k : Nat)
deriving DecidableEq, Repr

/-- What one completed supervision window measured (R343, R344). Noise of the paths judged and tone in 0.01 dBFS, DC in
microvolts. -/
inductive Judgement where
  | noise (l m h : Option Int)
  | tone (line : Int)
  | stale
  | dc (microvolts : Int)
deriving DecidableEq, Repr

/-- Why a lane fault is declared (R190). -/
inductive LaneFaultCause where
  | missedDeadline | uncorrectableWord | patrolMismatch | correctedWords
deriving DecidableEq, Repr

/-- The outcome of L8's twofold recheck (R191). -/
inductive Recheck where
  | differsFromLane | agreesWithLane | resultsDiffer
deriving DecidableEq, Repr

/-- What an episode belongs to (R41, R86, R102, R141, R240, R311, R89). -/
inductive Episode where
  | inputClip (n : Nat) | inputOverload (n : Nat) | inputPhantom (n : Nat)
  | busClip (b : Nat) | compliance (n : Nat) | patrol (n : Nat) | slip (p : Nat) | tetherCrc
deriving DecidableEq, Repr

/-- What the contacts of a jack measured during a classification (R124): loads in ohms (`none` above 100 kΩ), the
ring 2 to sleeve resistance, and the two microphone test readings in millivolts. -/
structure JackMeasure where
  tip : Option Nat
  ring : Option Nat
  ring2ToSleeve : Nat
  sleeveMv : Nat
  ring2Mv : Nat
deriving DecidableEq, Repr

/-- FS and DI of a port as they stand at the rising and at the falling edge of one period of BCLK (R226). -/
structure BclkPeriod where
  fsRise : Bool
  diRise : Bool
  fsFall : Bool
  diFall : Bool
deriving DecidableEq, Repr

/-- One port frame at the pins (R226, R240): its BCLK periods and the one after them; and how far the port's frames have run against the core
since the frame before, in 1/65536 frame of each FIFO's fill (R239, log 132). -/
structure PortFrame where
  periods : List BclkPeriod
  after : BclkPeriod
  /-- Nanoseconds since the frame start before (R231). -/
  sinceNs : Nat
  driftIn : Int
  driftOut : Int
deriving DecidableEq, Repr

/-- The levels the hub measures once per block (R441, R438, R114, R36): rails in the units of their objects, sensors in 0.01 °C,
phantom and bias currents in microamperes per input. -/
structure Measures where
  vph : Nat
  vpos : Nat
  vneg : Int
  avdd : Nat
  vcoreIn : Nat
  vcoreMin : Nat
  vaon : Nat
  vio : Nat
  vspk : Nat
  coreMa : Nat
  temps : List Int
  phantomUa : List (Nat × Nat)
  biasUa : List (Nat × Nat)
deriving DecidableEq, Repr

/-- The two Tether ports of a hub (R304). -/
inductive TetherPort where
  | up | down
deriving DecidableEq, Repr

/-- A frame as received on the Tether link (R310): the bytes between SOF and its end, and how it ended. -/
inductive FrameEnd where
  | eof | abortEnd | violation
deriving DecidableEq, Repr

structure TetherFrame where
  bytes : List Byte
  ending : FrameEnd
  /-- Where in the present core frame its SOF arrived, in 1/65536 frame (R320). -/
  arrival : Nat := 0
deriving DecidableEq, Repr

/-- The roll-call payload of R314. -/
structure RollCall where
  sticky : Bool
  counter : Nat
  returning : Bool
  overflow : Bool
  taken : Nat
  list : List Nat
deriving DecidableEq, Repr

/-- The SYNC payload of R319; times in 1/65536 frame. -/
structure SyncFrame where
  time : Nat
  delayAcc : Nat
  ring : Bool
  ringBroken : Bool
  timeValid : Bool
  generation : Nat
deriving DecidableEq, Repr

/-- The wake sources of Stable (R370). -/
inductive WakeSource where
  | comparator (c : Nat) | twoWire | tether | timer
deriving DecidableEq, Repr

/-- The digital rails whose fall below warning begins a dip (R432). -/
inductive DipRail where
  | vcoreIn | vaon
deriving DecidableEq, Repr

/-- The three ways R431 raises a core brown-out. -/
inductive BrownOut where
  | vcoreInLow | vcoreLow | regulatorLimit
deriving DecidableEq, Repr

/-- A word of sample memory (R195): one of output `n`'s delay line or of process `p`'s ring by its age in frames, one of a pre-roll ring, four bytes
of the capture ring, or one that none of these holds. -/
inductive SramWord where
  | delayLine (n age : Nat) | processRing (p age channel : Nat) | preroll (c pos : Nat) | capture (addr : Nat) | other
deriving DecidableEq, Repr

/-- What the ECC of a sample-memory bank finds (R356): an error it corrects, or a word it cannot correct. -/
inductive EccError where
  | corrected | uncorrectable (word : SramWord)
deriving DecidableEq, Repr

/-- A rising edge of WCKIN (R216): the nanoseconds since the last accepted one and the FABCLK tick of the present frame it falls at (R209). -/
structure WckEdge where
  sinceNs : Nat
  tick : Nat
deriving DecidableEq, Repr

/-- The times of a SYNC frame at this hub (R319, R320): how far into the present core frame its SOF came, and its residence, in 1/65536 frame. -/
structure SyncTimes where
  arrival : Nat
  residence : Nat
deriving DecidableEq, Repr

/-- One command of the block. -/
inductive Instr where
  | frameBoundary (src : List (Nat × Int))
  | blockBoundary (m : Measures)
  | healthJudgement (sl : SliceId) (j : Judgement)
  | sliceReferenceFault (sl : SliceId)
  | sliceTotalLoss (sl : SliceId)
  | reliefSettled (u : ReliefUnit)
  | reliefCrossfadeEnd (u : ReliefUnit)
  | reliefRequest (w : Who) (sl : SliceId) (v : Nat)
  | retireClear (w : Who) (sl : SliceId) (v : Nat)
  | reliefSelfTest (u : ReliefUnit) (pass : Bool)
  | phantomLeak (n : Nat)
  | sramError (bank : Nat) (e : EccError)
  | sramBankCopyDone (bank : Nat)
  | tsDisagree (k : Nat)
  | supervisorWatchdogExpiry (ramIntact : Bool)
  | supervisorRestartComplete
  | dspLaneFault (k : Nat) (cause : LaneFaultCause)
  | reliefLaneLoadComplete
  | dspTakeoverComplete
  | l8PatrolPeriodEnd
  | l8PatrolMismatch
  | l8RecheckComplete (r : Recheck)
  | instantiate (w : Who) (p v : Nat)
  | remove (w : Who) (p v : Nat)
  | processEnable (w : Who) (p v : Nat)
  | phantomWrite (w : Who) (n v : Nat)
  | phantomRampOnEnd (n : Nat)
  | phantomRampOffEnd (n : Nat)
  | phantomFaultTimerArm (n : Nat)
  | phantomFault (n : Nat)
  | vphLoss
  | vphReturn
  | phantomGroupRampStart (k : Nat)
  | polarityWrite (w : Who) (src v : Nat)
  | polarityInvert (src : Nat)
  | modulatorOverload (n : Nat) (p : Path)
  | pathUsable (n : Nat) (p : Path)
  | episodeEnd (e : Episode)
  | frontEndSettled (n : Nat)
  | hmuteAssert (k : Nat)
  | hmuteRelease (k : Nat)
  | hmuteSettled (k : Nat)
  | muteMaskWrite (w : Who) (k v : Nat)
  | biasFault (m : Nat)
  | combinerSample (xs : List (Nat × PathSample))
  | combinerFadeEnd (n : Nat) (p : Path) (shortPath : Bool)
  | matchCommitRequest (n : Nat) (lm mh lh : PairErrors) (refs : List PairErrors)
  | matchStale (n : Nat)
  | pathExclude (n : Nat) (p : Path)
  | pathRestore (w : Who) (n v : Nat)
  | resetMatch (w : Who) (n v : Nat)
  | matchSetStore (n : Nat)
  | outputModeChange (w : Who) (n : Nat) (mode range wiring : Option Nat)
  | outputChangeStep (n : Nat)
  | outputPowerupStep (n : Nat)
  | delayXfadeEnd (n : Nat)
  | cvCode (w : Who) (n code : Nat)
  | cvBlock (w : Who) (n : Nat) (data : List Byte)
  | cvFlush (w : Who) (n v : Nat)
  | cvTick (n : Nat)
  | cvCompliance (n : Nat) (present : Bool)
  | patrolScan (readings : List (Nat × Int))
  | patrolAudioWindow (n : Nat) (rms deviation residual : Int)
  | panicMute
  | panicRelease
  | lampTest (bits : Nat)
  | lampTestExpiry (k : Nat)
  | analogRailLow
  | analogRailRecover
  | inputRailMute
  | avddLow
  | avddRecover
  | hpOvercurrent (j : Nat)
  | spkOvercurrent
  | spkRestart
  | spkDcFault
  | vspkOutOfRange (high : Bool)
  | vspkRecover
  | faultClear (w : Who) (v : Nat)
  | spkEnable (w : Who) (v : Nat)
  | spkSequenceEnd
  | hpPowerupStep
  | jdEdge (j : Nat) (level : Bool)
  | jackInsertAccept (j : Nat)
  | jackRemoveAccept (j : Nat)
  | classifyComplete (j : Nat) (m : JackMeasure)
  | reclassify (w : Who) (j v : Nat)
  | hmBiasSettled (m : Nat)
  | buttonPress (j ohms : Nat)
  | buttonLongPress (j : Nat)
  | buttonRelease (j : Nat)
  | sinkSelect (w : Who) (s src : Nat)
  | sinkXfadeEnd (s : Nat)
  | generatorType (w : Who) (g v : Nat)
  | generatorSwitch (g : Nat)
  | crosspointWrite (w : Who) (b k entry : Nat)
  | xpFadeZero (b k : Nat)
  | scaleRecomputeDone (b : Nat)
  | bankMode (w : Who) (h v : Nat)
  | commit (w : Who) (v : Nat)
  | discard (w : Who) (v : Nat)
  | hostClaim (w : Who) (tag : Nat)
  | hostRelease (w : Who) (tag : Nat)
  | roleWrite (w : Who) (h v : Nat)
  | sessionTimeoutWrite (w : Who) (h v : Nat)
  | sessionTimerExpiry (h : Nat)
  | forceRelease (w : Who) (h v : Nat)
  | take (w : Who) (h key : Nat)
  | release (w : Who) (h key : Nat)
  | assign (w : Who) (h key : Nat)
  | trimWrite (w : Who) (view : Bool) (src h v : Nat)
  | clkXinStartTimeout
  | storedHoldStore (v : Int)
  | reinPhaseSample (anchor port : Nat)
  | reinLock
  | reinLimitEntry
  | anchorWrite (w : Who) (port : Bool) (v : Nat)
  | anchorLoss
  | wckinEdge (e : WckEdge)
  | wckinPeriodMissed
  | wckinRateFound (rate : Nat)
  | xtalFailure
  | xinRecovered
  | start (w : Who) (p v : Nat)
  | stop (w : Who) (p v : Nat)
  | portClockLock (p : Nat)
  | portPreambleEnd (p : Nat)
  | portFadeInEnd (p : Nat)
  | portFlushEnd (p : Nat)
  | portClockLoss (p : Nat)
  | portRateChange (p rate : Nat)
  | portFrame (p : Nat) (f : PortFrame)
  | rawWordSlip (p : Nat) (out : Bool) (dropped : Bool)
  | maskWrite (w : Who) (p sub v : Nat)
  | maskApply (p : Nat)
  | capArm (w : Who)
  | capStop (w : Who)
  | capData (w : Who)
  | asrcContextLock (k : Nat)
  | asrcRelock (k : Nat)
  | asrcHandoverEnd (p : Nat)
  | read (w : Who) (idx sub : Nat)
  | write (w : Who) (idx sub ty : Nat) (data : List Byte)
  | writeHeld (w : Who) (idx sub ty : Nat) (data : List Byte)
  | releaseBatch (w : Who)
  | discardBatch (w : Who)
  | readInfo (w : Who) (idx sub : Nat)
  | objectWrite (w : Who) (idx sub : Nat) (data : List Byte)
  | commandComplete (w : Who)
  | autoStore (idx sub : Nat)
  | store (w : Who) (v : Nat)
  | storeRowWritten (verified : Bool) (spareFails : Nat)
  | factoryReset (w : Who) (v : Nat)
  | occurClear (w : Who) (v : Nat)
  | eventPendingClear (w : Who) (bits : BitVec 128)
  | eventMaskWrite (w : Who) (bits : BitVec 128)
  | timerExpiry (i : Nat)
  | twiAddressMatch (addr : Nat) (isRead : Bool) (count : Nat)
  | twiStopCommit (bytes : List Byte)
  | twiProtocolError (code : Nat)
  | brstNReset
  | busTimeout
  | alertResponse (lowerTarget : Bool)
  | alertRepeat
  | watchHostAccess
  | watchClockRegate
  | tetherLinkChange (p : TetherPort) (up : Bool)
  | tetherFrameReceive (p : TetherPort) (f : TetherFrame)
  | tetherCommandFrame (p : TetherPort) (bytes : List Byte)
  | sync (p : TetherPort) (f : SyncFrame) (t : SyncTimes)
  | tetherTimeLockChange
  | echoReq (p : TetherPort)
  | echoRsp (p : TetherPort) (roundTrip : Nat)
  | rollcall (p : TetherPort) (r : RollCall)
  | confirm (p : TetherPort) (r : RollCall)
  | rollcallTimeout
  | reset (p : TetherPort) (dest src host seq : Nat) (payload : List Byte)
  | bulk (p : TetherPort) (dest src host seq : Nat) (offset : Nat) (data : List Byte)
  | notifyRepeat (h : Nat)
  | wakeDown (w : Who) (v : Nat)
  | request (w : Who) (v : Nat)
  | quiesceEnd
  | watchEntryComplete
  | watchExitStep
  | stableEntryComplete
  | stableWake (c : WakeSource)
  | wakeTimerExpiry
  | wakeComparatorFire (c : Nat)
  | domainEnable (w : Who) (v : Nat)
  | watchInputWrite (w : Who) (c v : Nat)
  | signatureTick (c : Nat) (bands : List Int) (rms : Int)
  | readerPlay (w : Who) (c : Nat)
  | readerStop (w : Who) (c : Nat)
  | padRelease (w : Who) (v : Nat)
  | wakeOutWrite (w : Who) (v : Nat)
  | powerOnReset
  | resetN
  | coreBrownOut (cause : BrownOut)
  | lowPowerBrownOut
  | thermalReset
  | bringUpStep (unreadable : Bool) (failed : List (Nat × Nat))
  | reducedServiceStart
  | bootImageChecked (image : List Byte) (recordsOk signatureOk : Bool)
  | fullService
  | imageData (w : Who) (offset : Nat) (data : List Byte)
  | flashProgramDone (readBackOk : Bool)
  | updateVerifyComplete (vendorOk counterOk : Bool)
  | abort (w : Who)
  | activate (w : Who)
  | schedule (w : Who)
  | cancel (w : Who)
  | activationDue
  | activationStepEnd (blocksOk : Bool)
  | makerKey (w : Who) (data : List Byte)
  | supplyDipStart (r : DipRail)
  | supplyDipEnd
  | vioWarn (fault : Bool)
  | thermalWarn
  | thermalCrit
  | thermalRecover (below105 : Bool)
  | vioRecover
  | brstNRelease
  | flushIncomplete
  | tapDelayXfadeEnd (p t : Nat)
deriving DecidableEq, Repr

end Sys2Proof
end

