-- ==== Sys2Proof/Config.lean ====
section
/-! DEFINITION. What an implementation fixes and the spec leaves open: free values. Every constant is opaque: nothing in Lean can
evaluate it, so no statement can rest on a number the spec does not give (notes/assumptions, entries named at each). -/

namespace Sys2Proof.Config

/-- Whether a product that is not a whole number of steps is rounded up: R140 does not state the rounding of a term (log 12). -/
opaque roundsUp : (num den : Int) → Bool

/-- Feedback taps of the maximal-length sequences of the noise generators, and the seed of each (R137): the polynomial is not stated. Log 13. -/
opaque noiseTaps : BitVec 32
opaque noiseSeed : Nat → BitVec 32

/-- Factory match set of an input, measured in production (R63). Log 14. -/
opaque factoryMatch : Nat → MatchSet

/-- Factory noise references of the supervision (R343). Log 14. -/
opaque factoryNoise : (slice path : Nat) → Int

/-- Factory STORED_HOLD (R204). Log 14. -/
opaque factoryStoredHold : Int

/-- The filters whose coefficients the spec does not state (R19, R54, R137, R160, R248, R372, R380). -/
inductive FilterKind where
  | core | mic | output | watch | reader | fixedIn | fixedOut | asrcIn | asrcOut | white | pink
deriving DecidableEq, Repr

/-- One run of such a filter: from its phase response or ratio, its memory and its new inputs to its memory after them and its outputs (log 15, log 17). -/
opaque filter : FilterKind → (phase memory : Nat) → List Int → Nat × List Int

/-- The sample a fractional-delay filter places `part / 2^20` of a sample further back than `whole` samples in a line, newest first (R54). Log 15. -/
opaque fraction : (part whole : Nat) → List Int → Int

/-- What one qualifying block alone says of a pair's gain, in 0.0001 dB about nominal, and of its delay, in 1/4096 sample (R63). Log 118. -/
opaque blockGain : (slice pair : Nat) → List PathSample → Int
opaque blockDelay : (slice pair : Nat) → List PathSample → Int

/-- What a process holds in its lane's data memory: what its algorithm keeps, its RESULT fields, the gains of its channels, and whether LOUD has
seen a gated block (R187, R199). -/
structure ProcState where
  memory : Nat := 0
  report : List Nat := []
  gains : List Nat := []
  gated : Bool := false
deriving DecidableEq, Repr, Inhabited

/-- One frame of a process (R178, R180): from its type and option, its parameters as they stand in this frame, its state, and its sends by the
latency and as they come, to its state and its returns. The algorithms' arithmetic is not stated (log 16). -/
opaque process : (type option : Nat) → (params : List Int) → ProcState → (sends newest : List Int) → ProcState × List Int

/-- The microcode image of a position (R178, R195): of a library version, for the types, options and channels of its processes. The library is the
maker's (log 16). -/
opaque microcode : (version : Nat) → List (Nat × Nat × Nat) → List Byte

/-- Data of the unit (R281): grade, silicon, serial number, lot. Log 18. -/
opaque grade : Bool
opaque siliconMajor : Nat
opaque siliconMinor : Nat
opaque serialNumber : Nat
opaque lot : List Byte
opaque loaderVersion : Nat

/-- The vendor and service object (R472): highest subindex and values. Log 19. -/
opaque vendorHighest : Nat
opaque vendorType : Nat → Nat
opaque vendorValue : Nat → List Byte

/-- Dither of a port output channel (R176): a random sequence. Log 20. -/
opaque dither : (draw width : Nat) → Int

/-- The loop filter of the Rein loop (R211): its state at a start from a steering; one phase sample at a bandwidth in 0.01 Hz, to the state after it
and the steering called for in FRAC steps; a change of bandwidth. The narrowing of the bandwidth between its two ends. Log 137. -/
opaque loopStart : (steer : Int) → Int
opaque loop : (bandwidth : Nat) → (state error : Int) → Int × Int
opaque loopRescale : (old new : Nat) → (state : Int) → Int
opaque narrowing : (frames wide narrow : Nat) → Nat

/-- The phase at which a word clock of the 44.1 kHz family starts (R221). Log 138. -/
opaque wordClockPhase : (draw : Nat) → Nat

/-- Time a SYNC frame stays in the hub, from SOF in to SOF out, in 1/65536 frame (R308, R320): only its bounds are stated. Log 40. -/
opaque residence : (draw : Nat) → Nat

/-- The always-correct verdicts of the image cryptography (R404 to R409): the keys are not given. Log 21. -/
opaque recordTagOk : (header : List Byte) → (record : Nat) → List Byte → Bool
opaque makerKeyOk : List Byte → Bool
opaque keyUnwraps : (header : List Byte) → Bool
opaque plaintext : (header : List Byte) → (record : Nat) → List Byte → List Byte

end Sys2Proof.Config
end

