-- ==== Sys2Proof/Machine/Real.lean ====
section
/-! DEFINITION. The real functions of the spec's formulas in fixed point: the raised cosine (R57, R61, R134, R149), decibels and amplitudes (R146),
sines (R137) and exponentials (R81). They are computed with 100 fractional bits and rounded to the 60 of a multiplier (log 10). -/

namespace Sys2Proof.Machine

/-- A multiplier of one, in units of 2^-60. -/
def unity : Nat := 1152921504606846976

/-- One in the 100 fractional bits the functions compute with, and pi, ln 2 and ln 10 in the same units. -/
def fixOne : Nat := 1267650600228229401496703205376
def fixPi : Nat := 3982441812995697363688351113952
def fixLn2 : Nat := 878668439483319573618263538048
def fixLn10 : Nat := 2918873375210475425442079017697

/-- `a / b` rounded to the nearest, a half upward. -/
def nearest (a : Int) (b : Nat) : Int := (2 * a + b) / (2 * b)

/-- A power series: the sum of `term`, `term * r / d 1`, `term * r / d 1 * r / d 2` and so on, `fuel` terms. -/
def series (r : Int) (d : Nat → Nat) : (fuel i : Nat) → (term sum : Int) → Int
  | 0, _, _, sum => sum
  | fuel + 1, i, term, sum => series r d fuel (i + 1) (term * r / ((fixOne : Int) * (d i : Int))) (sum + term)

/-- Sine of an angle from -pi to pi. -/
def fixSin (t : Int) : Int := series (-(t * t / fixOne)) (fun i => (2 * i + 2) * (2 * i + 3)) 24 0 t 0

/-- e to the power `y` for `y` from 0 to ln 2. -/
def fixExp (y : Int) : Int := series y (fun i => i + 1) 30 0 fixOne 0

/-- e to the power `y` in units of 2^-60. -/
def expUnit (y : Int) : Nat :=
  let n := y / fixLn2
  let m := fixExp (y - n * fixLn2)
  if 0 ≤ n then (nearest (m * 2 ^ n.toNat) 1099511627776).toNat
  else if n < -70 then 0
  else (nearest m (1099511627776 * 2 ^ (-n).toNat)).toNat

/-- The artanh series `z + z^3/3 + z^5/5` and so on. -/
def artanhSum (z2 : Int) : (fuel i : Nat) → (p sum : Int) → Int
  | 0, _, _, sum => sum
  | fuel + 1, i, p, sum => artanhSum z2 fuel (i + 1) (p * z2 / fixOne) (sum + p / (2 * i + 1 : Nat))

/-- Natural logarithm of `num / den`, both positive. -/
def fixLn (num den : Nat) : Int :=
  let q := num * fixOne * fixOne / den
  let n : Int := (Nat.log2 q : Int) - 200
  let m : Int := if 0 ≤ n + 100 then q / 2 ^ (n + 100).toNat else q * 2 ^ (-(n + 100)).toNat
  let z := (m - fixOne) * fixOne / (m + fixOne)
  2 * artanhSum (z * z / fixOne) 34 0 z 0 + n * fixLn2

/-- Amplitude of `c` centi-decibels in units of 2^-60: 10 to the power c / 2000. -/
def amplitude (c : Rat) : Nat := expUnit (c.num * fixLn10 / ((c.den * 2000 : Nat) : Int))

/-- Centi-decibels of a ratio of amplitudes, as a rational of 80 binary places. -/
def ratioDb (num den : Nat) : Rat := mkRat (fixLn num den * 2000 * 2 ^ 80 / fixLn10) (2 ^ 80)

/-- `0.5 (1 - cos (pi k / len))` in units of 2^-60, for `k` up to `len` (R149): the square of the sine of half the angle. -/
def cosineWeight (k len : Nat) : Nat :=
  let s := fixSin (fixPi * k / (2 * len) : Nat)
  (nearest (s * s) (fixOne * 1099511627776)).toNat

end Sys2Proof.Machine
end

