-- ==== Sys2Proof/Machine/State.lean ====
section
/-! DEFINITION. The state of the hub as plain data. Defaults of the fields are the values after reset: those the spec gives, and, marked
DESIGN CHOICE n, those the assumption log names (notes/assumptions/n.md). Settings of the object dictionary live in `objs`, `live` and `nv`
(their defaults are the Default column of their tables, `Machine.describe`); every other state is a field here. -/

namespace Sys2Proof.Machine

/-! ## Levels, ramps and fades (R146 to R149) -/

/-- A gain in force: in centi-decibels, or a linear amplitude in units of 2^-60 (0 is minus infinity). -/
inductive Level where
  | db (c : Rat) | lin (a : Nat)
deriving DecidableEq, Repr

/-- A gain ramp (R146, R148): sample `i` of `len` falls `i` ticks of its clock after `t0`. `len = 0` is a cut at `t0`. -/
structure Ramp where
  start : Level := .db 0
  target : Level := .db 0
  t0 : Nat := 0
  len : Nat := 0
deriving DecidableEq, Repr

/-- A raised-cosine fade of a multiplier in units of 2^-60 (R149). -/
structure Fade where
  m0 : Nat := 0
  m1 : Nat := 0
  t0 : Nat := 0
  len : Nat := 0
deriving DecidableEq, Repr

/-- A linear ramp of a voltage in millivolts (R33) or of a plain quantity. -/
structure LinRamp where
  v0 : Nat := 0
  v1 : Nat := 0
  t0 : Nat := 0
  len : Nat := 0
deriving DecidableEq, Repr

/-- A filter whose arithmetic is free: its memory, and the outputs of its last run (log 15). -/
structure Filter where
  memory : Nat := 0
  out : List Int := []
deriving DecidableEq, Repr

/-! ## What can fall due -/

/-- The deadlines the hub keeps, each with the rule that sets it. -/
inductive Timer where
  | phantomRamp (n : Nat)      -- R33
  | phantomArm (n : Nat)       -- R33: 50 ms after the turn-on ramp
  | polarity (src : Nat)       -- R38
  | settle (src : Nat)         -- R43, R436: 20 ms of settling
  | igOff (k : Nat)            -- R43: 200 ms
  | hmute (k : Nat)            -- R49: 20 ms after release
  | fullLevel (src : Nat)      -- R49: 30 ms after release
  | episode (e : Episode)      -- R41, R86, R102, R141, R240, R311
  | hmBias (m : Nat)           -- R124: 20 ms
  | outputChange (n : Nat)     -- R93
  | outputPowerup (n : Nat)    -- R91
  | outputDown (n : Nat)       -- R98
  | delayXfade (n : Nat)       -- R82
  | lampTest (k : Nat)         -- R299
  | spkRestart | spkSequence | hpPowerup | hpsOff  -- R115, R119, R117, R118
  | jdDebounce (j : Nat) | jackRemove (j : Nat) | classify (j : Nat)  -- R122, R123
  | longPress (j : Nat)        -- R125
  | sinkXfade (s : Nat)        -- R134
  | generator (g : Nat)        -- R137
  | xpFade (key : Nat)         -- R142
  | session (h : Nat)          -- R166
  | reinLock | reinLimit  -- R212, R213
  | storedHold                 -- R204
  | portFade (p : Nat)         -- R236, R237
  | contextLock (k : Nat)      -- R253, R254
  | handover (p : Nat)         -- R258
  | alertRepeat | notifyRepeat (h : Nat) | watchRegate  -- R300, R324, R302
  | rollcall                   -- R316: 100 ms
  | quiesce | watchEntry | watchExit | stableEntry | stableFlush  -- R367 to R370
  | dip | vio                  -- R432, R430: 5 ms
  | l8Patrol | takeover        -- R189, R192
  | process (p : Nat) | tap (p t : Nat)  -- R184, R188, R186
  | reliefSettle (u : ReliefUnit) | reliefMatch (u : ReliefUnit) | reliefTimeout (u : ReliefUnit)
  | reliefXfade (u : ReliefUnit) | reliefTest (u : ReliefUnit)  -- R349, R351, R352
  | matchStore (n : Nat)       -- R72: 10 min
  | timer (i : Nat)            -- R337
  | reset                      -- R323: 1 ms after the RESP
  | handoverService            -- R396: 20 ms
  | reader (c : Nat)           -- R380
  | wakeBurst                  -- R326
deriving DecidableEq, Repr

/-! ## Events -/

/-- For which host numbers an event is raised (R329). -/
inductive Scope where
  | all | twoWire | hostAndInstallers (h : Nat) | command (h : Nat)
deriving DecidableEq, Repr

/-- A cause waiting for its block boundary (R328). -/
structure Cause where
  event : Nat
  scope : Scope
deriving DecidableEq, Repr

/-! ## The object dictionary, the mailbox and hosts -/

/-- One accepted write on its way into force (R267). -/
structure Wr where
  key : Nat
  val : Nat
deriving DecidableEq, Repr

/-- How a command that completes later is waiting (R271). -/
inductive Waiting where
  | none | commit | store | claim
deriving DecidableEq, Repr

/-- The mailbox of one host number on one transport (R268, R270). -/
structure Mailbox where
  cmd : Nat := 0
  index : Nat := 0
  sub : Nat := 0
  ty : Nat := 0
  len : Nat := 0
  abort : Nat := 0
  data : List Byte := []
  result : Nat := 0
  overrun : Bool := false
  /-- The outcome of the command processed and not yet completed: abort code and reply data. -/
  outcome : Option (Nat × Nat × List Byte) := none
  /-- The frame of the running command may carry it (R313). -/
  valid : Bool := true
  waiting : Waiting := .none
  /-- Tether: SEQ and port of the running and of the last completed command (R322). -/
  seq : Nat := 0
  fromDown : Bool := false
  lastSeq : Option (Nat × Nat) := none
  lastResp : List Byte := []
  /-- Tether: the running command came by broadcast and gets no RESP (R323). -/
  silent : Bool := false
deriving DecidableEq, Repr

/-- One held write (R272). -/
structure HeldWrite where
  idx : Nat
  sub : Nat
  data : List Byte
deriving DecidableEq, Repr

/-- The host slot of one host number (R163, R177): what is not a stored setting. -/
structure HostSlot where
  claimed : Bool := false
  tag : Nat := 0
  result : Nat := 0
  onTwoWire : Bool := false
  onTether : Bool := false
  conflicts : Nat := 0
  queryKey : Nat := 0
  ownedStart : Nat := 0
  /-- Session seconds left while the timer is paused (R166), in frames. -/
  pausedLeft : Option Nat := none
  held : List HeldWrite := []
  /-- Bank control of the host (R151, R152): 0 idle, 1 pending, 2 deferred. -/
  commitState : Nat := 0
  commitSeq : Nat := 0
deriving DecidableEq, Repr

/-! ## Inputs (02, 03) -/

inductive PhantomState where
  | off | rampOn | on | rampOff | fault | noSupply
deriving DecidableEq, Repr

inductive FeState where
  | unpowered | settling | running | hwMuted | onRelief
deriving DecidableEq, Repr

inductive FadePhase where
  | steady | fadingOut | fadingIn
deriving DecidableEq, Repr

/-- What an input or headset-microphone stream carries on its way into the harness. -/
structure Stream where
  /-- Fade of the stream: settling, rail mute, total loss (R43, R49, R436, R350). -/
  gate : Fade := {}
  privacy : Bool := false
  inverted : Bool := false
  polTarget : Bool := false
  polPhase : FadePhase := .steady
  polFade : Fade := { m0 := unity, m1 := unity }
  hpf : Nat := 0
  blockPeak : Nat := 0
  peak : Int := -32768
  hostPeaks : List Int := []
  /-- Front-end writes that wait for the end of a hardware mute: subindex and value (R50). -/
  heldFront : List (Nat × Nat) := []
  /-- The last two inputs of the high-pass filter, and its last two outputs in 2^-40 step, newest first (R39). -/
  hpfX : List Int := []
  hpfY : List Int := []
  /-- Its core decimator (R19), and the core-stream sample of the present frame. -/
  decimator : Filter := {}
  sample : Int := 0
deriving DecidableEq, Repr

structure Phantom where
  state : PhantomState := .off
  pf : LinRamp := {}
  /-- The switch connects VPH (R33, R36). -/
  closed : Bool := false
  armed : Bool := false
  /-- A turn-on waits for the end of the turn-off ramp (R35). -/
  onAfter : Bool := false
  /-- PHANTOM 0 was written in FAULT while the ramp runs (R35). -/
  offAfter : Bool := false
  /-- PHANTOM reads 0 after a fault although the accepted value stands (R34). -/
  readsZero : Bool := false
  /-- The PHANTOM value in force; held while the group domain is off (R35). -/
  want : Bool := false
  held : Option Bool := none
  currentUa : Nat := 0
deriving DecidableEq, Repr

/-- A running weight fade of a combiner (R57): sample index of the fade. -/
structure WFade where
  g0 : Nat
  g1 : Nat
  i : Nat
deriving DecidableEq, Repr

/-- The weight of M or of H in one combiner (R56). -/
structure Weight where
  g : Nat := 0
  fade : Option WFade := none
  /-- Consecutive samples below the short-path ceiling less 3 dB (R61). -/
  quiet : Nat := 0
deriving DecidableEq, Repr

structure Combiner where
  m : Weight := { g := unity }
  h : Weight := {}
  /-- Fixed on M (R73) rather than following R58 or R61. -/
  fixedM : Bool := true
  y : Int := 0
deriving DecidableEq, Repr

/-- One converter path (R55, R69, R71). -/
structure PathState where
  usable : Bool := false
  /-- Samples run stable since the last start or overload, up to 64 (R55). -/
  stable : Nat := 0
  excluded : Bool := false
  probation : Bool := false
  /-- Exclusion accepted, waiting for its block boundary (R69). -/
  excludeDue : Bool := false
  overloads : List Nat := []
  /-- The samples in the delay line ahead of the fractional-delay filter, newest first (R54). -/
  line : List Int := []
deriving DecidableEq, Repr

/-- A forgetting mean (R63): the weights of the blocks, one in 2^-60, and their weighted sum. -/
structure Mean where
  weight : Nat := 0
  sum : Int := 0
deriving DecidableEq, Repr

/-- A pair of paths the estimator evaluates (R62), or in a match phase one relief path with the reference (R349). -/
inductive Pair where
  | lm | mh | lh | ref (p : Path)
deriving DecidableEq, Repr

/-- What one path is corrected by: offset in nV, gain in 0.0001 dB, delay in 1/4096 sample (R54, R63). -/
structure Correction where
  offset : Rat
  gain : Rat
  delay : Rat
deriving DecidableEq, Repr

/-- The estimator's record of one pair (R63, R64, R68): gain and delay, the confidence C last computed, and consecutive qualifying blocks out of
the limits. -/
structure PairEst where
  gain : Mean := {}
  delay : Mean := {}
  conf : Nat := 0
  outRun : Nat := 0
deriving DecidableEq, Repr

/-- The estimator's record of one slice: its pairs, in a match phase the pairs of each relief path with the reference (R349), and the mean of
each path in 2^-20 nV (R63). -/
structure Estimator where
  lm : PairEst := {}
  mh : PairEst := {}
  lh : PairEst := {}
  refL : PairEst := {}
  refM : PairEst := {}
  refH : PairEst := {}
  dcL : Mean := {}
  dcM : Mean := {}
  dcH : Mean := {}
deriving DecidableEq, Repr

/-- What the estimator keeps of one sample (R62): the three paths as decimated and as matched, and the look-ahead output. -/
structure Noted where
  raw : PathSample
  matched : PathSample
  y : Int
deriving DecidableEq, Repr

structure Tandem where
  l : PathState := {}
  m : PathState := {}
  h : PathState := {}
  look : Combiner := {}
  pred : Combiner := {}
  /-- Weight of M alone over the full splice, on watch channels (R73, R367, R368). -/
  toM : Fade := {}
  /-- The last samples of the look-ahead window, oldest first (R58). -/
  window : List PathSample := []
  prev : PathSample := ⟨0, 0, 0⟩
  /-- CEILING was lowered since the last sample (R59). -/
  lowered : Bool := false
  /-- The look-ahead outputs of the present frame, oldest first, on their way to the core decimator (R19). -/
  samples : List Int := []
  /-- The samples of the present block, newest first, and whether something spoils a pair in it (R62). -/
  block : List Noted := []
  spoilL : Bool := false
  spoilM : Bool := false
  spoilH : Bool := false
  spoiled : Bool := false
  /-- M reached its full scale in the present frame (R69, R73). -/
  mFull : Bool := false
  /-- The two banks of the match table (R66) and which is active. -/
  bankA : MatchSet
  bankB : MatchSet
  activeB : Bool := false
  swapReq : Bool := false
  swapFactory : Bool := false
  /-- The set the coefficients move from in the block after a swap, and its first frame (R66 step 4). -/
  movingFrom : Option (Nat × MatchSet) := none
  factory : Bool := true
  stale : Bool := false
  staleBlocks : Nat := 0
  lastCommit : Nat := 0
  est : Estimator := {}
deriving DecidableEq, Repr

inductive SliceState where
  | healthy | degraded | matching | crossfading | relieved | unrelieved | lost
deriving DecidableEq, Repr

/-- Supervision and relief of one slice (R346, R359). -/
structure Slice where
  state : SliceState := .healthy
  /-- DEGRADE_CAUSE, and causes waiting for the block boundary of the declaration (R346). -/
  cause : Nat := 0
  dueCause : Nat := 0
  declared : Bool := false
  /-- Declared and waiting for its unit; started by RELIEF_REQUEST (R347). -/
  waits : Bool := false
  requested : Bool := false
  totalLoss : Bool := false
  /-- Retirement record, and its clearing at the next reset (R353, R354). -/
  retired : Bool := false
  clearDue : Bool := false
  noiseL : Int := -32768
  noiseM : Int := -32768
  noiseH : Int := -32768
  noiseRunL : Nat := 0
  noiseRunM : Nat := 0
  noiseRunH : Nat := 0
  toneRun : Nat := 0
  matchConf : Nat := 0
  matchSince : Option Nat := none
  /-- Frames of the match step, held after it. -/
  matchElapsed : Nat := 0
  /-- Estimates of the relief paths (R349), and during the crossfade the set of the failing paths. -/
  reliefSet : Option MatchSet := none
  failingSet : Option MatchSet := none
  /-- The relief paths ahead of the crossfade: delay lines (R54), the samples of the block, and the estimator's record (R349). -/
  lineL : List Int := []
  lineM : List Int := []
  lineH : List Int := []
  block : List Noted := []
  est : Estimator := {}
  /-- Consecutive passing judgements of the relief in an output match (R351). -/
  passes : Nat := 0
deriving DecidableEq, Repr

structure Input where
  phantom : Phantom := {}
  fe : FeState := .unpowered
  impedance : Nat := 0
  stream : Stream := {}
  clipCount : Nat := 0
  overloadCount : Nat := 0
  phantomFaults : Nat := 0
  sat : Nat := 0
  cause : Nat := 0
  leak : Bool := false
  lossZero : Bool := false
  tandem : Tandem
  slice : Slice := {}
deriving DecidableEq, Repr

inductive BiasState where
  | off | on | fault
deriving DecidableEq, Repr

structure HeadMic where
  bias : BiasState := .off
  biasEnable : Bool := false
  biasVoltage : Nat := 22
  autoBias : Bool := false
  currentUa : Nat := 0
  fe : FeState := .unpowered
  stream : Stream := {}
  /-- Fade by bias settling and by the cough key (R124, R125). -/
  key : Fade := { m0 := unity, m1 := unity }
  connected : Bool := false
deriving DecidableEq, Repr

/-! ## Outputs (04) -/

inductive OutState where
  | off | powering | running | changing | fastMuted | panic | fault | powerupHold
deriving DecidableEq, Repr

/-- MODE, RANGE and WIRING of an output (R77). -/
structure OutCfg where
  mode : Nat := 0
  range : Nat := 0
  wiring : Nat := 0
deriving DecidableEq, Repr

/-- A crossfade between two things named by number (R82, R83, R134). -/
structure Xfade where
  old : Nat
  new : Nat
  t0 : Nat
  len : Nat
deriving DecidableEq, Repr

/-- A crossfade of a short-bus selection at 768 kHz (R83): what it moves from, as selections with their weights in 2^-60, its first sample and its
length. -/
structure SelFade where
  parts : List (Nat × Nat)
  t0 : Nat
  len : Nat
deriving DecidableEq, Repr

structure CvPart where
  queue : List (BitVec 20) := []
  target : BitVec 20 := 0
  present : BitVec 20 := 0
  divCount : Nat := 0
  emptyReported : Bool := false
  everQueued : Bool := false
  stepLimited : Bool := false
  powerupHold : Bool := false
  /-- Frame of the last tick (R87). -/
  tickAt : Option Nat := none
  /-- The code before the last update, and the frame of that update (R100). -/
  previous : BitVec 20 := 0
  updatedAt : Nat := 0
deriving DecidableEq, Repr

structure AudioPart where
  gain : Ramp := {}
  mute : Fade := { m0 := unity, m1 := unity }
  /-- Fade of the sequences and protections acting at the mute multiplier (R91, R93, R96, R99), and that of PANIC_MUTE (R97). -/
  protect : Fade := {}
  panicFade : Fade := { m0 := unity, m1 := unity }
  delay : Nat := 0
  delayXfade : Option Xfade := none
  delayHeld : Option Nat := none
  line : List Int := []
  /-- Gain reduction reached by the limiter, in 2^-40 of 0.01 dB (R81). -/
  reduction : Nat := 0
  limitingNow : Bool := false
  limiting : Bool := false
  short : Nat := 255
  shortXfade : Option SelFade := none
  saturatedNow : Bool := false
  saturated : Bool := false
  /-- The sample leaving stage 4 of R79, and the latest leaving stage 8. -/
  core : Int := 0
  interp : Filter := {}
  out : Int := 0
  blockPeak : Nat := 0
  peak : Int := -32768
deriving DecidableEq, Repr

structure PatrolPart where
  flag : Bool := false
  consec : Nat := 0
  readback : Int := 0
  deviation : Int := 0
  residual : Option Int := none
  lossRun : Nat := 0
deriving DecidableEq, Repr

structure Output where
  powered : Bool := false
  /-- The mute switch that clamps both pins (R76): closed, or fully open from a frame on. -/
  openAt : Option Nat := none
  /-- FAST_MUTED (R96) and FAULT (R99). -/
  fast : Bool := false
  fault : Bool := false
  /-- Configuration in force, the change running (its step 1 to 5) and its goal, and the change pending (R93, R95). -/
  cfg : OutCfg := {}
  step : Nat := 0
  goal : Option OutCfg := none
  pendingCfg : Option OutCfg := none
  doneDue : Bool := false
  /-- Status of the configuration as STATUS shows it (R94). -/
  shownMode : Nat := 0
  shownRange : Nat := 0
  /-- Step of the power-up sequence last reached, 0 when none runs (R91). -/
  powerup : Nat := 0
  goingDown : Bool := false
  cv : CvPart := {}
  audio : AudioPart := {}
  patrol : PatrolPart := {}
  cause : Nat := 0
  compliance : Bool := false
  onRelief : Bool := false
  /-- The relief crossfade of this output runs (R95). -/
  reliefXfade : Bool := false
  slice : Slice := {}
deriving DecidableEq, Repr

/-! ## Headphones, speaker and jacks (05) -/

structure Jack where
  accessory : Nat := 0
  /-- Raw level of JDj (the pin has a pull-up, R120), raw inserted state, and the debounced state (R122). -/
  pin : Bool := true
  inserted : Bool := false
  removing : Bool := false
  classifying : Bool := false
  tip : Nat := 0xFFFFFFFF
  ring : Nat := 0xFFFFFFFF
  micSwapped : Bool := false
  /-- The class ahead of a running classification (R124). -/
  before : Nat := 0
  buttons : Nat := 0
  buttonCause : Nat := 0
deriving DecidableEq, Repr

structure Headphone where
  /-- Mute switches fully open from a frame on, or closing until one (R116 to R118). -/
  openAt : Option Nat := none
  closeAt : Option Nat := none
  powered : Bool := false
  /-- Mute switches closed by a rail (R116) and by the current limit (R111). -/
  fast : Bool := false
  protect : Bool := false
  /-- Jack gate (R123). -/
  gate : Fade := {}
  gain : Ramp := {}
  mute : Fade := { m0 := unity, m1 := unity }
  /-- Fade of power-up, power-down and rail recovery (R116 to R118), and that of PANIC_MUTE. -/
  fade : Fade := {}
  panicFade : Fade := { m0 := unity, m1 := unity }
  shortL : Nat := 255
  shortR : Nat := 255
  shortXL : Option SelFade := none
  shortXR : Option SelFade := none
  /-- Gain reduction of the level limiter (R110), per channel, in 2^-40 of 0.01 dB. -/
  reductionL : Nat := 0
  reductionR : Nat := 0
  limitingNow : Bool := false
  saturatedNow : Bool := false
  limiting : Bool := false
  saturated : Bool := false
  cause : Nat := 0
  jack : Jack := {}
  /-- The samples leaving stage 3 of R110, and the latest leaving stage 7. -/
  coreL : Int := 0
  coreR : Int := 0
  interpL : Filter := {}
  interpR : Filter := {}
  outL : Int := 0
  outR : Int := 0
  blockPeakL : Nat := 0
  blockPeakR : Nat := 0
  peakL : Int := -32768
  peakR : Int := -32768
deriving DecidableEq, Repr

inductive SpkState where
  | off | powering | running | fastMuted | panic | restarting | latched | thermal | vspkOut
deriving DecidableEq, Repr

structure Speaker where
  /-- Off, powering, running, restarting, latched, thermal or vspkOut; fast-mute and panic overlay running. -/
  state : SpkState := .off
  bridgeOn : Bool := false
  /-- Step of R117 of the headphones and the speaker: 0 off, 2 from 35 ms, 3 from 37 ms, 4 from 57 ms, 5 from 60 ms, 6 after 87 ms. -/
  powerup : Nat := 0
  /-- Sequence running: 0 none, 1 turn-off, 2 turn-on or power-up (R119), 3 the 1 ms fade-out of the thermal protection (R115). -/
  seq : Nat := 0
  enable : Bool := false
  heldEnable : Option Bool := none
  restarts : List Nat := []
  fast : Bool := false
  fade : Fade := {}
  panicFade : Fade := { m0 := unity, m1 := unity }
  mute : Fade := { m0 := unity, m1 := unity }
  gainL : Ramp := {}
  gainR : Ramp := {}
  reductionL : Nat := 0
  reductionR : Nat := 0
  limitNowL : Bool := false
  limitNowR : Bool := false
  limitL : Bool := false
  limitR : Bool := false
  cause : Nat := 0
  vspkHigh : Bool := false
  vspkLow : Bool := false
  spread : Bool := false
  /-- The samples leaving stage 3 of R114, and the latest leaving stage 5. -/
  coreL : Int := 0
  coreR : Int := 0
  interpL : Filter := {}
  interpR : Filter := {}
  outL : Int := 0
  outR : Int := 0
  blockPeakL : Nat := 0
  blockPeakR : Nat := 0
  peakL : Int := -32768
  peakR : Int := -32768
deriving DecidableEq, Repr

/-! ## Harness (06) -/

/-- The selector of one sink (R134, R135). -/
structure Sink where
  source : Nat := 0
  xfade : Option Xfade := none
  held : Option Nat := none
  /-- Value the sink carries in the present frame, and the privacy flag with it (R50). -/
  sample : Int := 0
  privacy : Bool := false
  /-- Trims moving from the old owner's to the new owner's, by source (R171). -/
  trimMove : Table Ramp := []
  /-- Reduced service: the gain of the sink's fallback route (R390). -/
  fbGain : Option Level := none
deriving DecidableEq, Repr

structure Generator where
  type : Nat := 0
  target : Nat := 0
  phase : FadePhase := .steady
  fade : Fade := {}
  level : Ramp := { start := .db (-2000), target := .db (-2000) }
  freq : Nat := 1000000
  /-- Phase of the sine in 1/96,000,000 turn; the shift register of the noise, 0 before its seed is taken; the shaping of the noise; the present sample
  ahead of LEVEL. -/
  angle : Nat := 0
  noise : BitVec 32 := 0
  shape : Filter := {}
  sample : Int := 0
deriving DecidableEq, Repr

/-- A crosspoint or short-path slot as it acts (R139, R142). -/
structure Term where
  source : Nat := 0
  invert : Bool := false
  enabled : Bool := false
  gain : Ramp := { start := .lin 0, target := .lin 0 }
  mute : Fade := { m0 := unity, m1 := unity }
  muted : Bool := false
  /-- Fade of ENABLE, SOURCE and INVERT changes; the entry waiting for its zero point. -/
  fade : Fade := {}
  atZero : Option Nat := none
  /-- Trims moving from the old owner's to the new owner's, by source (R171). -/
  trimMove : Table Ramp := []
  /-- Frame of the last peak of -80 dBFS or more (R144). -/
  lastPeak : Option Nat := none
deriving DecidableEq, Repr

structure Bus where
  gain : Ramp := {}
  mute : Fade := { m0 := unity, m1 := unity }
  scale : Ramp := {}
  scaleN : Nat := 0
  clipCount : Nat := 0
  sat : Bool := false
  clippedNow : Bool := false
  termSatNow : Bool := false
  scaleRampedNow : Bool := false
  /-- Bits of STATUS for the last block (R143). -/
  clipped : Bool := false
  termSat : Bool := false
  scaleRamping : Bool := false
  enabledTerms : Nat := 0
  shadowDirty : Bool := false
  /-- A scale recomputation of the shadow bank is unfinished (R145). -/
  recomputing : Bool := false
  sample : Int := 0
  blockPeak : Nat := 0
  peak : Int := -32768
deriving DecidableEq, Repr

structure ShortBus where
  gain : Ramp := {}
  clippedNow : Bool := false
  sample : Int := 0
deriving DecidableEq, Repr

/-! ## DSP lanes (08) -/

/-- A checkpoint: its frame, and the state the process had reached (R187). -/
structure Checkpoint where
  frame : Nat
  st : Config.ProcState
deriving DecidableEq, Repr

structure Process where
  type : Nat := 0
  channels : Nat := 1
  slot : Nat := 0
  option : Nat := 1
  /-- 0 absent, 1 present from the block boundary at which it starts to run (R198). -/
  state : Nat := 0
  /-- Position placed on (R182). -/
  position : Option Nat := none
  cost : Nat := 0
  latency : Nat := 0
  poolBytes : Nat := 0
  placeResult : Nat := 0
  runDue : Bool := false
  removing : Bool := false
  enabled : Bool := true
  /-- Weight of the processed signal over bypass (R188), and of the returns during a removal (R184). -/
  wet : Fade := { m0 := unity, m1 := unity }
  out : Fade := { m0 := unity, m1 := unity }
  /-- Its part of the lane's data memory (R178). -/
  st : Config.ProcState := {}
  /-- The two checkpoint slots of R195, which of them holds the newest, and the checkpoint a resumption starts from (R187, R192). -/
  slotA : Option Checkpoint := none
  slotB : Option Checkpoint := none
  newestB : Bool := false
  restore : Option Checkpoint := none
  ramped : Table Ramp := []
  taps : Table Xfade := []
  tapHeld : Table Nat := []
  /-- Parameters of batches waiting for the resumption (R194): subindex and value. -/
  waitingWr : List (Nat × Nat) := []
  /-- The latest samples of the sends, newest first: the rings of R187. -/
  ring : List (List Int) := []
  /-- What the returns carry in the present frame. -/
  returns : List Int := []
deriving DecidableEq, Repr

structure Lane where
  /-- Microcode RAM (R178). -/
  microcode : List Byte := []
  retired : Bool := false
  faulty : Bool := false
  /-- A fault to be declared at the next block boundary (R190). -/
  faultDue : Bool := false
deriving DecidableEq, Repr

structure Dsp where
  /-- RELIEF_STATE: 0xFF patrolling, 0..7 serving, 0xFE faulty, 0xFD paused. -/
  relief : Nat := 0xFF
  patrolLane : Nat := 0
  cycles : Nat := 0
  errors : Nat := 0
  /-- Takeover in progress: position, and whether L8's load is complete, and whether the processes have resumed. -/
  takeover : Option Nat := none
  loaded : Bool := false
  resumed : Bool := false
  recheck : Bool := false
  sequence : Nat := 0
  /-- The region of lane images (R195), by position. -/
  images : Table (List Byte) := []
  /-- Checkpoints at the start of the block in which L8's return differed: process and checkpoint (R191). -/
  mismatchAt : List (Nat × Option Checkpoint) := []
  /-- PD_DSP is on; an activation of LANE stops the lanes, and they resume at the next boundary (R188, R419). -/
  on : Bool := true
  activating : Bool := false
  resumeDue : Bool := false
deriving DecidableEq, Repr

/-! ## Clocks (09) -/

/-- A rate tracker (R216, R217, R231): the last periods accepted, newest first, in nanoseconds; consecutive discarded periods; whether the
present period is discarded; periods since the last report; and what it reports. -/
structure Tracker where
  periods : List Nat := []
  missed : Nat := 0
  spoiled : Bool := false
  run : Nat := 0
  present : Bool := false
  rate : Nat := 0
  cls : Nat := 0
deriving DecidableEq, Repr

/-- The output of a fractional divider (R206): the word D = N * 65536 + F and the ROOTCLK period, from FRAME_COUNT 0, of its first rising edge.
Word 0 is an output held low. -/
structure Pulse where
  word : Nat := 0
  start : Nat := 0
deriving DecidableEq, Repr

/-- A clock output: the pattern before, to the end of its period at `ends`, and the pattern in force after it (R207, R221). -/
structure ClockOut where
  old : Pulse := {}
  ends : Nat := 0
  new : Pulse := {}
deriving DecidableEq, Repr

structure Clock where
  /-- REIN_STATE of R213: 0 FREE, 1 ACQUIRING, 2 LOCKED, 3 HOLDOVER, 4 LIMIT, 5 WATCH_HOLD. -/
  rein : Nat := 0
  /-- Steering in FRAC steps, the frame of the last movement judged, and the part of a step SLEW_LIMIT has allowed since (R208). -/
  steer : Int := 0
  slewAt : Nat := 0
  slewCredit : Nat := 0
  /-- The last phase sample taken by the loop, and the detector's next one, in 1/131072 core frame (R209); positive where the local clock is late
  (log 136). -/
  phaseError : Int := 0
  sample : Option Int := none
  /-- What the loop filter holds (R211; log 137). -/
  loop : Int := 0
  loopBw : Nat := 0
  badSamples : Nat := 0
  /-- Since when the phase error has stayed within 5 LOCK_WINDOW, and since when the bandwidth narrows (R211). -/
  nearSince : Option Nat := none
  narrowAt : Option Nat := none
  beforeWatch : Nat := 0
  lockTime : Nat := 0
  /-- CLK_SOURCE, ANCHOR and ANCHOR_PORT in force. -/
  activeSource : Nat := 0
  anchor : Nat := 0
  anchorPort : Nat := 0
  pllLocked : Bool := false
  bootHold : Bool := false
  xtalFail : Bool := false
  storedHold : Int
  /-- When STORED_HOLD was last stored (R204). -/
  holdStoredAt : Option Nat := none
  /-- Tracker of WCKIN (R216, R217). -/
  wck : Tracker := {}
  /-- Discarded periods not yet reported (R216): of the present run, and of runs that ended. -/
  wckFresh : Bool := false
  wckGlitched : Bool := false
  /-- Last usable class of WCKIN, which WCKOUT repeats (R221). -/
  repeatClass : Nat := 0
  /-- Core frame boundary or half-frame nearest the last accepted edge of WCKIN, in ROOTCLK periods (R209). -/
  wckNear : Nat := 0
  /-- MCLKO0, MCLKO1 and WCKOUT (R207, R221), and what the pattern of WCKOUT follows: source, class, alignment. -/
  mclk0 : ClockOut := {}
  mclk1 : ClockOut := {}
  wckout : ClockOut := {}
  wckoutFollows : Nat × Nat × Nat := (0, 0, 0)
  /-- The loop, WCKOUT and the MCLK outputs run (R203 step 5). -/
  running : Bool := false
deriving DecidableEq, Repr

/-! ## Ports, capture and ASRC (10, 11) -/

inductive PortState where
  | stopped | waitClock | preamble | fadeIn | running | fadeOut | flush
deriving DecidableEq, Repr

/-- One direction of a port: mask in force, the FIFO (frames of channel words in, of slot words out, newest first, R239), its fill in
1/65536 frame, slips (R240) and the net shift of raw mode (R241). -/
structure PortDir where
  mask : Nat := 0
  frames : List (List (Nat × Int)) := []
  fill : Nat := 0
  slips : Nat := 0
  slippedNow : Bool := false
  slipped : Bool := false
  shift : Int := 0
deriving DecidableEq, Repr

/-- One channel of a port between harness and FIFO: samples taken and not yet filtered, and its fixed-ratio filter (R248). -/
structure Conv where
  taken : List Int := []
  fixed : Filter := {}
deriving DecidableEq, Repr

/-- The pins of a port as its last frame left them (R226, R234): FS before the present frame, the frame on FS of a master and on DO by BCLK
period (`none` is high impedance), and the period that follows it on DO. -/
structure PortPins where
  fsBefore : Bool := false
  fs : List Bool := []
  dout : List (Option Bool) := []
  tail : Option Bool := none
  /-- Core frame until which a stopped master holds BCLK and FS low (R237). -/
  lowUntil : Nat := 0
  /-- Frames begun in a core frame (R229). -/
  coreFrame : Nat := 0
  begun : Nat := 0
  /-- Input fill about its target by the timestamps of FS, in 1/65536 frame: the phase detector of the anchor (R209, R239). -/
  phase : Int := 0
deriving DecidableEq, Repr

structure Port where
  state : PortState := .stopped
  pins : PortPins := {}
  /-- Channels in use, at `32 * direction + channel`. -/
  conv : Table Conv := []
  /-- Fade of the start, the stop, a clock loss and RATE_FAULT (R236 to R238, R232). -/
  fade : Fade := {}
  /-- Configuration in force, taken at the last start (R236): subindex and value. -/
  cfg : Table Nat := []
  din : PortDir := {}
  dout : PortDir := {}
  maskPending : Bool := false
  maskFrames : Nat := 0
  maskEventDue : Bool := false
  /-- Its contexts are still to follow a mask change, or to be claimed: both wait through a supervisor restart (R250). -/
  recountDue : Bool := false
  startDue : Bool := false
  stopDue : Bool := false
  startHeld : Bool := false
  startResult : Nat := 0
  divider : Nat := 0
  /-- BCLK of a master (R206, R230). -/
  bclk : Pulse := {}
  exactFrames : Nat := 0
  preambleLeft : Nat := 0
  flushLeft : Nat := 0
  onAsrc : Bool := false
  synchronous : Bool := false
  /-- RESERVE_SYNC as it stood at the start (R257, R260). -/
  reserve : Bool := false
  /-- A hand-over runs, and whether toward the contexts (R258). -/
  handover : Bool := false
  /-- Fades of single channels without a context, at `32 * direction + channel` (R258). -/
  chanFade : Table Fade := []
  rateFault : Bool := false
  alignLost : Bool := false
  /-- Tracker of FS (R231). -/
  track : Tracker := {}
  rateMeas : Nat := 0
  measClass : Nat := 0
  cause : Nat := 0
  sat : Nat := 0
  /-- Relocks of this port are complete and E37 is due (R254). -/
  relocked : Bool := false
  /-- Starts again on the return from Watch (R238). -/
  restart : Bool := false
deriving DecidableEq, Repr

structure Capture where
  state : Nat := 0
  armDue : Bool := false
  port : Nat := 0
  dir : Nat := 0
  mode : Nat := 0
  mask : Nat := 0
  recordBytes : Nat := 0
  records : Nat := 0
  head : Nat := 0
  start : Nat := 0
  readPos : Nat := 0
  slipSince : Bool := false
  /-- The capture ring of R195: address and byte, strictly rising, no zero bytes listed. -/
  mem : List Host.Cell := []
deriving DecidableEq, Repr

inductive CtxState where
  | free | reserved | acquiring | locked | relocking | handover
deriving DecidableEq, Repr

structure Context where
  state : CtxState := .free
  port : Nat := 0
  out : Bool := false
  chan : Nat := 0
  fade : Fade := {}
  filter : Filter := {}
  /-- Weight of this context over the fixed-ratio path (R258). -/
  weight : Fade := { m0 := unity, m1 := unity }
  /-- A relock waits for the end of a hand-over (R259). -/
  relockDue : Bool := false
deriving DecidableEq, Repr

structure Asrc where
  contexts : Table Context := []
  /-- Channels waiting in order: port, direction, channel (R251). -/
  waiting : List (Nat × Bool × Nat) := []
  /-- Contexts released in this block; they read FREE from the next boundary (R252). -/
  releasing : List Nat := []
  relockPorts : Nat := 0
  shortPorts : Nat := 0
deriving DecidableEq, Repr

/-! ## Two-wire port (13) -/

/-- Whose transaction is open on the two-wire bus. -/
inductive TwiTarget where
  | none | main | quick | ignored
deriving DecidableEq, Repr

structure Twi where
  adr : Nat := 0
  pointer : Nat := 0
  quickPointer : Nat := 0
  open_ : TwiTarget := .none
  reading : Bool := false
  /-- Bytes of the last read transaction (R286). -/
  sent : List Byte := []
  /-- A read that waits on a stretched clock for the loader's port service, by its number of bytes (R302). -/
  stretched : Option Nat := none
  lastError : Nat := 0
  protocolErrors : Nat := 0
  busResets : Nat := 0
  brstLow : Bool := false
  alertState : Nat := 0
  araWins : Nat := 0
  lampTest : Nat := 0
  panic : Bool := false
  /-- HOLD_STEPS, SETUP_STEPS and SPIKE_FILTER in force since the last START (R301). -/
  holdSteps : Nat := 30
  setupSteps : Nat := 0
  spikeFilter : Nat := 1
  /-- BUS_TIMEOUT, the value before it, and the frame from which it holds for new holds of SCL (R293). -/
  busTimeout : Bool := false
  busTimeoutWas : Bool := false
  busTimeoutAt : Nat := 0
  /-- Latches of FRAME_COUNT and ANY_PENDING of the quick window (R298). -/
  frameLatch : Nat := 0
  anyLatch : BitVec 128 := 0
deriving DecidableEq, Repr

/-! ## Tether (14) -/

/-- What a transmit port sends: the two ordered sets of R318, and whose frame, in the order of service (R308). -/
inductive TxKind where
  | echoReq | echoRsp | sync | forwarded | own
deriving DecidableEq, Repr

/-- A frame in a transmit port (R308): its bytes between SOF and EOF or ABORT_END, what is left to send in fifths of a symbol, and whether it is
being sent. -/
structure TxFrame where
  port : TetherPort
  kind : TxKind
  bytes : List Byte
  abortEnd : Bool := false
  left : Nat := 0
  started : Bool := false
deriving DecidableEq, Repr

structure Tether where
  address : Nat := 0xFF
  position : Nat := 0
  /-- Provisional address and place of a roll call (R315), until `Timer.rollcall`. -/
  provisional : Option (Nat × Nat) := none
  upLink : Bool := false
  downLink : Bool := false
  /-- TETHER_ENABLE since the last reset, and PD_TETHER (R306). -/
  enabled : Bool := true
  on : Bool := true
  tx : List TxFrame := []
  crcErrors : Nat := 0
  fwdDrops : Nat := 0
  /-- Tether time estimate at local time `timeAt`, both in 1/65536 frame (R320); the last SYNC frames as local and Tether time, newest first. -/
  time : Nat := 0
  timeAt : Nat := 0
  syncs : List (Nat × Nat) := []
  timeLocked : Bool := false
  timeValid : Bool := false
  ring : Bool := false
  ringBroken : Bool := false
  /-- Valid SYNC frames in a row with TIME_VALID (R321). -/
  goodSyncs : Nat := 0
  /-- SYNC frames in a row more than 1 µs from the estimate (R321). -/
  badSyncs : Nat := 0
  lastSync : Option Nat := none
  pathDelay : Nat := 0
  upDelay : Nat := 0
  downDelay : Nat := 0
  /-- Round trips counted toward the next average, and their sum, on either port (R318). -/
  upTrips : Nat := 0
  upSum : Nat := 0
  downTrips : Nat := 0
  downSum : Nat := 0
  generation : Nat := 0
  /-- An ECHO_REQ of the hub is unanswered on a port (R318). -/
  upEcho : Bool := false
  downEcho : Bool := false
  /-- TETHER_FRACTION as sampled with the last read of TETHER_TIME (R327). -/
  fraction : Nat := 0
deriving DecidableEq, Repr

/-! ## Store and supervisor (12, 01) -/

/-- A request for the non-volatile store (R276 to R278). -/
inductive StoreReq where
  | auto (key : Nat)
  | command (w : Who)
  /-- Records committed under their own rules (R276): match set, exclusions, owner record, mute mask, STORED_HOLD, Tether address, relief
  retirement, update pending, counter. -/
  | matchSet (n : Nat)
  | exclusion (n : Nat)
  | owner (key : Nat)
  | muteMask (k : Nat)
  | storedHold
  | address
  | retired (output : Bool) (n : Nat)
  | updatePending (b : Bool)
  | counter (v : Nat)
  | makerKey
deriving DecidableEq, Repr

structure Store where
  queue : List StoreReq := []
  /-- Objects still to write of the STORE at the head (`none` before its first row), and whether a row of it failed (R277, R278). -/
  rows : Option (List Nat) := none
  headFailed : Bool := false
  /-- A row write that a dip found in progress (R432). -/
  started : Bool := false
  /-- The store failed its verification at the last reset (R389). -/
  failed : Bool := false
  /-- Frame at which an object was last stored (R276). -/
  storedAt : Table Nat := []
  spareRows : Nat := 64
  lastStore : Nat := 0
  fails : Nat := 0
  resetArmed : Bool := false
  e5Done : Bool := false
deriving DecidableEq, Repr

structure Supervisor where
  running : Bool := false
  restarting : Bool := false
  fromFlash : Bool := false
  expiries : List Nat := []
  /-- Claims held during a restart, in arrival order (R24). -/
  heldClaims : List (Who × Nat × Nat) := []
  /-- Loader serves in the supervisor's place (R414). -/
  loaderOnly : Bool := false
deriving DecidableEq, Repr

/-! ## Relief units, sample memory, sensors (16) -/

/-- State of a relief unit: 0 idle, 1 matching, 2 crossfading, 3 serving, 4 faulty, 5 unpowered, 6 self-test (R361). -/
structure Relief where
  state : Nat := 0
  serves : Nat := 0
  settled : Bool := false
  /-- Taken for a total loss: no match phase (R350). -/
  direct : Bool := false
  seconds : Nat := 0
  since : Nat := 0
deriving DecidableEq, Repr

structure Sram where
  spares : Nat := 2
  retired : Nat := 0
  /-- Times of corrected words per bank (R356). -/
  corrected : Table (List Nat) := []
  copying : List Nat := []
  switchDue : List Nat := []
  sparesOut : Bool := false
  /-- Words that an uncorrectable error makes read as zero in the present frame (R28). -/
  zeroed : List SramWord := []
deriving DecidableEq, Repr

/-! ## Power, Watch (17) -/

structure WatchChan where
  mark : Nat := 0
  /-- 0 IDLE, 1 READY, 2 PLAYING, 3 STOPPING (R386). -/
  reader : Nat := 0
  truncated : Bool := false
  lag : Nat := 0
  fade : Fade := {}
  /-- Signature detector (R377). -/
  progress : Nat := 0
  inRun : Bool := false
  runLen : Nat := 0
  gap : Nat := 0
  /-- Level detector (R378): armed, and ticks above or below. -/
  armed : Bool := true
  above : Nat := 0
  below : Nat := 0
  /-- Pre-roll ring: write position and samples, zero where not listed (R379). -/
  wpos : Nat := 0
  ring : Table Int := []
  /-- Ring positions that hold the privacy flag (R50). -/
  flagged : List Nat := []
  /-- Decimator to 48 kHz (R372), and the filter of the reader (R380). -/
  decimator : Filter := {}
  playback : Filter := {}
deriving DecidableEq, Repr

/-- What a digital pad presents to the board (R451 to R454): not driven, with or without its pull resistor; a level; the crystal's oscillation; a
bit stream of a mean duty (R220); a Tether pair idle or in use. -/
inductive PadDrive where
  | highImpedance | pulledDown | pulledUp | low | high
  | oscillating | bitStream (duty : Rat) | electricalIdle | line
deriving DecidableEq, Repr

/-- The clock pads as they were latched (R381). REIN_CTL, the ports, QSPI and Tether have one latched state each. -/
structure PadLatch where
  wckout : PadDrive
  mclk0 : PadDrive
  mclk1 : PadDrive
deriving DecidableEq, Repr

structure Power where
  /-- 0 RUN, 1 WATCH, 2 IN_TRANSITION (R383). -/
  state : Nat := 0
  /-- Target of the transition in progress: 0 none, 1 Run, 2 Watch, 3 Stable. -/
  progress : Nat := 0
  /-- A request that waits for its block boundary, and the pending one (R365); with each the WAKE_CAUSE bit a Run request records. -/
  requested : Nat := 0
  reqCause : Nat := 0
  pendingReq : Nat := 0
  pendCause : Nat := 0
  lastResult : Nat := 0
  enable : Nat := 0xF00FFF
  domains : Nat := 0xF00FFF
  wakeCause : Nat := 0
  wakeOut : Bool := false
  /-- Step of R368 last taken. -/
  exitStep : Nat := 0
  quiesced : Bool := false
  /-- The flush of R369 waits for the end of a supply dip. -/
  flushHeld : Bool := false
  latchedWake : List WakeSource := []
  /-- Watch: clocks ungated for host access (R302). -/
  hostGate : Bool := false
  stable : Bool := false
  /-- Held SAP pads (R381). -/
  padHeld : Nat := 0
  /-- The clock pads while they are latched, until the loader starts the clocks (R203, R381). -/
  latch : Option PadLatch := none
deriving DecidableEq, Repr

/-! ## Bring-up and update (18, 19) -/

structure Boot where
  /-- Step of R387 last completed. -/
  step : Nat := 0
  /-- 0 BOOT, 1 REDUCED, 2 FULL (R391). -/
  service : Nat := 0
  /-- TH has passed: the mailbox serves as in full service (R275). -/
  full : Bool := false
  thDue : Bool := false
  resetFlags : Nat := 0
  bootResult : Nat := 0
  fullAt : Nat := 0
  routesDropped : Nat := 0
  filterPhase : Nat := 0
  /-- QSPI_CLK is FABCLK divided by 1, 2 or 4; 0 before the flash is read (R469). -/
  qspiDiv : Nat := 0
  factoryTest : Bool := false
  muteMask : Table Nat := []
  /-- Component versions running: WATCH, LANE, SUP, TET (R281). -/
  versions : List Nat := [0, 0, 0, 0]
  /-- First 320 bytes of the running image, kept in RAM (R417). -/
  header : List Byte := []
deriving DecidableEq, Repr

structure Update where
  /-- 0 IDLE, 1 HEADER, 2 BLOCKS, 3 VERIFYING, 4 ARMED, 5 SCHEDULED, 6 ACTIVATING, 7 FAILED (R423). -/
  state : Nat := 0
  next : Nat := 0
  size : Nat := 0
  written : Nat := 0
  lastError : Nat := 0
  host : Nat := 0xFF
  activateAt : Nat := 0
  step : Nat := 0
  flags : Nat := 0
  armed : List Nat := [0, 0, 0, 0]
  blockErrors : Nat := 0
  /-- Bytes staged of the record being received, and whole records awaiting flash (R411). -/
  staged : List Byte := []
  waiting : List (List Byte) := []
  /-- First 320 bytes of the image received. -/
  header : List Byte := []
  /-- Erases and page programs left of the record at the head of `waiting`, and whether its page was rewritten once (R413). -/
  ops : Option Nat := none
  retried : Bool := false
  /-- The records of an arming await their rows (R415). -/
  armWait : Bool := false
  /-- ACTIVATE was written, or a schedule fell due, and activation has not started (R418). -/
  activateDue : Bool := false
  /-- Every component is exchanged (R416); the step just ended; an activation that stops (R419). -/
  everything : Bool := false
  stepOver : Bool := false
  /-- The step waits for a takeover or for accepted commits (R419). -/
  stepWaits : Bool := false
  /-- A maker key accepted, on its way to the store (R408). -/
  makerKey : Option (List Byte) := none
deriving DecidableEq, Repr

/-- What survives every reset or lies outside the hub: the flash, the store beyond the dictionary, and the pins. -/
structure Outside where
  flashSize : Nat := 4194304
  flashId : Nat := 0
  /-- Highest clock in Hz that the flash declares for quad output read in its SFDP tables (R469). -/
  flashQuadHz : Nat := 104000000
  counter : Nat := 0
  updatePending : Bool := false
  makerKey : Option (List Byte) := none
  /-- Levels of HMUTE0..3: bit k set while the pin is low. -/
  hmutePins : Nat := 0
  /-- Straps ADR2..0 and TEST_N high. -/
  adrPins : Nat := 0
  testN : Bool := true
  vph : Nat := 4800
  vphLow : Bool := false
  xinOk : Bool := true
  stores : Table MatchSet := []
  /-- Writes of each row of the store since it holds this row (R357), by `rowNumber`. -/
  rowWrites : Table Nat := []
  /-- Retirement records (R353): inputs 1 to 48, outputs at 100 + n. -/
  retired : List Nat := []
  exclusions : Table Nat := []
  owners : Table Nat := []
  storedHold : Int
  address : Nat := 0xFF
deriving DecidableEq, Repr

structure Supply where
  dip : Bool := false
  recovering : Bool := false
  vcoreWarn : Bool := false
  vaonWarn : Bool := false
  vioWarn : Bool := false
  vioFault : Bool := false
  fastMute : Bool := false
  inputMute : Bool := false
  avddFault : Bool := false
  lastDip : Nat := 0
  minVcore : Nat := 0xFFFF
  vphHigh : Bool := false
  thermalWarn : Bool := false
  thermalCrit : Bool := false
  tsDisagree : Bool := false
  tempMax : Option Int := none
  levels : Table Int := []
  e3Due : Bool := false
deriving DecidableEq, Repr

/-! ## The hub -/

structure Hub where
  /-- Core frames since FRAME_COUNT 0; the register is this modulo 2^64 (R7, R338). -/
  now : Nat := 0
  /-- 768 kHz samples since the frame boundary (R21). -/
  sub : Nat := 0
  framesRun : Bool := false
  blockDone : Bool := true
  timers : List (Timer × Nat) := []
  objs : Table Nat := []
  live : Table Nat := []
  nv : Table Nat := []
  frameQ : List Wr := []
  batches : List (List Wr) := []
  clears : List Nat := []
  evDue : List Cause := []
  evNext : List Cause := []
  pend : Table (BitVec 128) := []
  mask : Table (BitVec 128) := []
  occ : Table (Table Nat) := []
  hosts : Table HostSlot := []
  mailTwi : Table Mailbox := []
  mailTether : Table Mailbox := []
  owners : Table Nat := []
  /-- Trim of source `src` for host `h` as it acts, at key `8 * src + h` (R172, R173). -/
  trims : Table Ramp := []
  ownerDue : List (Nat × Option Nat) := []
  ins : Table Input := []
  hms : Table HeadMic := []
  outs : Table Output := []
  hps : Table Headphone := []
  spk : Speaker := {}
  sinks : Table Sink := []
  gens : Table Generator := []
  terms : Table Term := []
  shadow : Table (Nat × Nat) := []
  buses : Table Bus := []
  commitSeq : Nat := 0
  lastCommit : Nat := 0
  slots : Table Term := []
  shorts : Table ShortBus := []
  sbClipped : Nat := 0
  procs : Table Process := []
  lanes : Table Lane := []
  dsp : Dsp := {}
  clk : Clock
  ports : Table Port := []
  cap : Capture := {}
  asrc : Asrc := {}
  twi : Twi := {}
  tet : Tether := {}
  store : Store := {}
  sup : Supervisor := {}
  irs : Table Relief := []
  ors : Table Relief := []
  sram : Sram := {}
  chans : Table WatchChan := []
  pwr : Power := {}
  boot : Boot := {}
  upd : Update := {}
  ext : Outside
  supply : Supply := {}
  /-- The model's own counter that free values are drawn with (not the spec's). -/
  draws : Nat := 0
deriving DecidableEq, Repr

/-- Why a step stops with a fault. No command of this block faults: the spec answers every error with an abort code, a state or an event. -/
inductive Fault where
  /-- An address outside the sample memory (R195). No command raises it: every address a meaning forms lies in the capture ring. Safe. -/
  | sampleMemoryRange
deriving DecidableEq, Repr

/-- Why a step is refused. -/
inductive Refusal where
  /-- The command has no meaning yet. Raised by arms of `exec` only; safe. -/
  | notModelled (mnemonic : String)
  /-- The command names an instance the part does not have (R1, R10), such as IN49 or SAP8, or an operand outside the numbers its rule
  gives. Raised by every meaning that takes such an operand; safe (no such command can be sent to the part). -/
  | noSuchInstance
deriving DecidableEq, Repr

/-- The block: the hub, the snapshot that status reads return (R266), and the commands waiting, first in first out. -/
structure State where
  hub : Hub
  snap : Hub
  pending : List Instr
deriving DecidableEq, Repr

/-- What lies outside the reset: the pins and stores as they stand in a new hub (R332, R168; the factory values of R63 and R204). -/
def Outside.fresh : Outside := { storedHold := Config.factoryStoredHold }

/-- The clock tree right after a reset (R213, R204). -/
def Clock.fresh (hold : Int) : Clock := { storedHold := hold }

/-- The hub right after a power-on reset of a new part: bring-up has taken no step yet (R387), and RESET_FLAGS shows POWER_ON (R400, log 47). -/
def Hub.fresh : Hub :=
  { clk := Clock.fresh Config.factoryStoredHold, ext := Outside.fresh, boot := { resetFlags := 2 } }

/-- The machine right after reset, with no command waiting. -/
def State.reset : State := { hub := Hub.fresh, snap := Hub.fresh, pending := [] }

end Sys2Proof.Machine
end

