-- ==== Sys2Proof/Machine/Ops.lean ====
section
/-! DEFINITION. The named operations the meanings share: tables, durations and deadlines, ramps and fades as functions of time, the cells
of the capture ring, access to instances of the hub, and raising causes of events. -/

namespace Sys2Proof.Machine

open Host (Outcome)

/-- The outcome type of the block. -/
abbrev Out := Outcome State Fault Refusal

/-! ## Tables -/

/-- Entry of a table, if listed. -/
def tget {α : Type} : Table α → Nat → Option α
  | [], _ => none
  | (j, a) :: r, k => if j = k then some a else tget r k

/-- Entry of a table, or the value every unlisted key has. -/
def tgetD {α : Type} (t : Table α) (k : Nat) (d : α) : α := (tget t k).getD d

/-- Lists `a` at key `k`, in ascending order of keys. -/
def tput {α : Type} : Table α → Nat → α → Table α
  | [], k, a => [(k, a)]
  | (j, b) :: r, k, a =>
    if j = k then (k, a) :: r else if k < j then (k, a) :: (j, b) :: r else (j, b) :: tput r k a

/-- Drops key `k`. -/
def tdel {α : Type} : Table α → Nat → Table α
  | [], _ => []
  | (j, b) :: r, k => if j = k then tdel r k else (j, b) :: tdel r k

/-- `l` without the elements equal to `a`. -/
def without {α : Type} [DecidableEq α] (l : List α) (a : α) : List α := l.filter (fun b => decide (b ≠ a))

/-- `l` with `a` added where it is missing. -/
def withOne {α : Type} [DecidableEq α] (l : List α) (a : α) : List α := if a ∈ l then l else l ++ [a]

/-- The numbers `lo` to `lo + n - 1`. -/
def upTo (lo n : Nat) : List Nat := (List.range n).map (lo + ·)

/-! ## Durations (R6, R8) -/

/-- Milliseconds in core frames. -/
def ms (n : Nat) : Nat := 96 * n

/-- Microseconds in core frames, rounded up (R8). -/
def us (n : Nat) : Nat := (n * 96 + 999) / 1000

/-- Microseconds in 768 kHz samples, rounded up (R156). -/
def usFast (n : Nat) : Nat := (n * 768 + 999) / 1000

/-- Seconds in core frames. -/
def secs (n : Nat) : Nat := 96000 * n

/-! ## Numbers -/

/-- `x` kept between `lo` and `hi`. -/
def clampNat (lo hi x : Nat) : Nat := if x < lo then lo else if hi < x then hi else x

def clampInt (lo hi x : Int) : Int := if x < lo then lo else if hi < x then hi else x

/-- The range of S32 (R5). -/
def s32Max : Int := 2147483647
def s32Min : Int := -2147483648

/-- Saturation to S32 (R140). -/
def satS32 (x : Int) : Int := clampInt s32Min s32Max x

/-- A core-stream sample of magnitude 2^31 - 1 or -2^31 (R41). -/
def isClip (x : Int) : Bool := decide (2147483647 ≤ x.natAbs)

/-- Bit `k` of `n`. -/
def bit (n k : Nat) : Bool := n.testBit k

/-- `n` with bit `k` set or cleared. -/
def setBit (n k : Nat) (b : Bool) : Nat :=
  if b then n ||| 2 ^ k else n &&& (2 ^ 64 - 1 - 2 ^ k)

def b2n (b : Bool) : Nat := if b then 1 else 0

/-- Counts the set bits of the low `w` bits of `n`. -/
def popcount (n w : Nat) : Nat := ((List.range w).filter (bit n)).length

/-- The bits of `n` cleared where `m` has a one (W1C, R263). -/
def clearBits (n m : Nat) : Nat := n - (n &&& m)

/-! ## Ramps and fades (R146 to R149) -/

/-- Units of a gain reduction in 0.01 dB. -/
def reductionUnit : Nat := 1099511627776

/-- Linear amplitude of a level in 2^-60; 0 dB is exactly unity (log 11). -/
def Level.amp : Level → Nat
  | .db c => if c = 0 then unity else amplitude c
  | .lin a => a

/-- Centi-decibels of a level; none for minus infinity. -/
def Level.centi : Level → Option Rat
  | .db c => some c
  | .lin a => if a = 0 then none else some (ratioDb a unity)

/-- Sample `i` of a raised cosine of `len` samples from `a` to `b`: `a + (b - a) 0.5 (1 - cos (pi (i + 1) / len))` (R149, log 10). -/
def raisedCosine (a b i len : Nat) : Nat :=
  if len ≤ i + 1 then b
  else ((a : Int) + nearest (((b : Int) - a) * cosineWeight (i + 1) len) unity).toNat

/-- The gain a ramp has reached at time `f` (R146, R147): linear in decibels, or a raised cosine of the amplitude where its start or its target
is minus infinity. -/
def Ramp.at (r : Ramp) (f : Nat) : Level :=
  if f < r.t0 then r.start
  else if r.len ≤ f - r.t0 + 1 then r.target
  else
    match r.start.centi, r.target.centi with
    | some a, some b => .db (a + (b - a) * ((f - r.t0 + 1 : Nat) : Rat) / ((r.len : Nat) : Rat))
    | _, _ => .lin (raisedCosine r.start.amp r.target.amp (f - r.t0) r.len)

/-- Whether a ramp is still short of its target at time `f`. -/
def Ramp.running (r : Ramp) (f : Nat) : Bool := decide (f + 1 < r.t0 + r.len) || decide (f < r.t0)

/-- Whether time `f` is one of a ramp's samples. -/
def Ramp.moving (r : Ramp) (f : Nat) : Bool := decide (r.t0 ≤ f) && decide (f < r.t0 + r.len)

/-- A new target from the level reached before `t0`, over `len` from `t0` (R18, R148). A gain at its target and not ramping starts no ramp. -/
def Ramp.to (r : Ramp) (target : Level) (t0 len : Nat) : Ramp :=
  if r.target = target ∧ r.running (t0 - 1) = false then r
  else { start := r.at (t0 - 1), target := target, t0 := t0, len := len }

/-- A level of parts of 0.01 dB as a whole number: which way a part rounds is not stated (log 11). -/
def wholeDb (c : Rat) : Int :=
  if c.den = 1 then c.num
  else if (c - c.floor) * (reductionUnit : Rat) < 1 then c.floor
  else if (c.floor + 1 - c) * (reductionUnit : Rat) < 1 then c.floor + 1
  else if Config.roundsUp c.num c.den then c.floor + 1 else c.floor

/-- A gain standing at a level. -/
def Ramp.steady (l : Level) : Ramp := { start := l, target := l }

/-- The multiplier a fade has reached at time `f` (R149). -/
def Fade.at (r : Fade) (f : Nat) : Nat :=
  if f < r.t0 then r.m0 else raisedCosine r.m0 r.m1 (f - r.t0) r.len

def Fade.running (r : Fade) (f : Nat) : Bool := decide (f + 1 < r.t0 + r.len) || decide (f < r.t0)

/-- A fade to `m` from the multiplier reached before `t0` (R149). -/
def Fade.to (r : Fade) (m t0 len : Nat) : Fade :=
  if r.m1 = m ∧ r.running (t0 - 1) = false then r else { m0 := r.at (t0 - 1), m1 := m, t0 := t0, len := len }

/-- A multiplier standing at `m`. -/
def Fade.steady (m : Nat) : Fade := { m0 := m, m1 := m }

/-- A linear ramp of a plain quantity at time `f` (R33). -/
def LinRamp.at (r : LinRamp) (f : Nat) : Nat :=
  if f < r.t0 then r.v0
  else if r.len ≤ f - r.t0 then r.v1
  else if r.v0 ≤ r.v1 then r.v0 + (r.v1 - r.v0) * (f - r.t0) / r.len
  else r.v0 - (r.v0 - r.v1) * (f - r.t0) / r.len

/-- The weights of a selection's crossfade at time `f`: of what it moves from, and of its target (R83). -/
def SelFade.weights (x : SelFade) (target f : Nat) : List (Nat × Nat) :=
  let w := if f < x.t0 then 0 else raisedCosine 0 unity (f - x.t0) x.len
  ((target, w) :: x.parts.map (fun e => (e.1, (nearest ((e.2 * (unity - w) : Nat) : Int) unity).toNat))).filter (fun e => decide (e.2 ≠ 0))

/-- A new selection from what plays before `t0`: the mix a running crossfade has reached, or the selection alone (R83). -/
def SelFade.start (x : Option SelFade) (old t0 len : Nat) : SelFade :=
  match x with
  | some x => { parts := x.weights old (t0 - 1), t0 := t0, len := len }
  | none => { parts := [(old, unity)], t0 := t0, len := len }

/-- `p / d` as a whole number of steps: whether a broken quotient rounds up is free (log 12). -/
def roundFree (p : Int) (d : Nat) : Int :=
  if p % d = 0 then p / d else if Config.roundsUp p d then p / d + 1 else p / d

/-- `x` times multipliers in 2^-60, rounded once (log 12). -/
def product (x : Int) (ms : List Nat) : Int := roundFree (ms.foldl (fun (p : Int) (m : Nat) => p * m) x) (unity ^ ms.length)

/-- `x * m` for a multiplier in 2^-60. -/
def scaleBy (x : Int) (m : Nat) : Int := product x [m]

/-- One run of a filter (log 15). -/
def Filter.run (f : Filter) (k : Config.FilterKind) (phase : Nat) (xs : List Int) : Filter :=
  let r := Config.filter k phase f.memory xs
  { memory := r.1, out := r.2.map satS32 }

/-- The output of a filter's last run, zero where it gave none. -/
def Filter.value (f : Filter) (i : Nat) : Int := f.out.getD i 0

/-! ## Cells of the capture ring (R195, R244) -/

/-- What a cell that no entry lists reads as: the ring is filled with zeros at arming (log 22). -/
def Memory.blank : Byte := 0

/-- The canonical form: addresses strictly rising and no blank entry. -/
def Memory.wf : List Host.Cell → Bool
  | [] => true
  | (a, v) :: r => decide (v ≠ Memory.blank) && (r.all (fun c => decide (a < c.1))) && Memory.wf r

/-- Reads one byte. -/
def Memory.read : List Host.Cell → Nat → Byte
  | [], _ => Memory.blank
  | (b, v) :: r, a => if b = a then v else Memory.read r a

/-- Drops an address. -/
def Memory.drop : List Host.Cell → Nat → List Host.Cell
  | [], _ => []
  | (b, v) :: r, a => if b = a then Memory.drop r a else (b, v) :: Memory.drop r a

/-- Lists an address in its place. -/
def Memory.insert : List Host.Cell → Nat → Byte → List Host.Cell
  | [], a, v => [(a, v)]
  | (b, w) :: r, a, v => if a < b then (a, v) :: (b, w) :: r else (b, w) :: Memory.insert r a v

/-- Writes one byte, keeping the canonical form. -/
def Memory.write (m : List Host.Cell) (a : Nat) (v : Byte) : List Host.Cell :=
  if v = Memory.blank then Memory.drop m a else Memory.insert (Memory.drop m a) a v

/-- Writes bytes one after the other from `a`, in a ring of `size` bytes. -/
def Memory.writeRing (size : Nat) : List Host.Cell → Nat → List Byte → List Host.Cell
  | m, _, [] => m
  | m, a, b :: r => Memory.writeRing size (Memory.write m (a % size) b) (a + 1) r

/-- Reads `n` bytes from `a` in a ring of `size` bytes. -/
def Memory.readRing (size : Nat) (m : List Host.Cell) (a n : Nat) : List Byte :=
  (List.range n).map (fun i => Memory.read m ((a + i) % size))

/-! ## Running a command -/

/-- The hub of a state changed; snapshot and queue as they stand. -/
def State.mapHub (s : State) (f : Hub → Hub) : State := { s with hub := f s.hub }

/-- A command with an effect on the hub: refused where it names an instance the part does not have (R1, R10). -/
def run (ok : Bool) (f : Hub → Hub) (s : State) : Out :=
  if ok then .next (s.mapHub f) else .refused .noSuchInstance

/-- A command whose effect always happens. -/
def always (f : Hub → Hub) (s : State) : Out := .next (s.mapHub f)

/-! ## Instances -/

/-- What no entry lists is as at reset (R63: the factory match set). -/
def Input.fresh (n : Nat) : Input :=
  { tandem := { bankA := Config.factoryMatch n, bankB := Config.factoryMatch n } }

def Hub.input (h : Hub) (n : Nat) : Input := (tget h.ins n).getD (Input.fresh n)
def Hub.setInput (h : Hub) (n : Nat) (x : Input) : Hub := { h with ins := tput h.ins n x }
def Hub.modInput (h : Hub) (n : Nat) (f : Input → Input) : Hub := h.setInput n (f (h.input n))

def Hub.headMic (h : Hub) (m : Nat) : HeadMic := (tget h.hms m).getD {}
def Hub.setHeadMic (h : Hub) (m : Nat) (x : HeadMic) : Hub := { h with hms := tput h.hms m x }
def Hub.modHeadMic (h : Hub) (m : Nat) (f : HeadMic → HeadMic) : Hub := h.setHeadMic m (f (h.headMic m))

def Hub.output (h : Hub) (n : Nat) : Output := (tget h.outs n).getD {}
def Hub.setOutput (h : Hub) (n : Nat) (x : Output) : Hub := { h with outs := tput h.outs n x }
def Hub.modOutput (h : Hub) (n : Nat) (f : Output → Output) : Hub := h.setOutput n (f (h.output n))

def Hub.headphone (h : Hub) (j : Nat) : Headphone := (tget h.hps j).getD {}
def Hub.setHeadphone (h : Hub) (j : Nat) (x : Headphone) : Hub := { h with hps := tput h.hps j x }
def Hub.modHeadphone (h : Hub) (j : Nat) (f : Headphone → Headphone) : Hub := h.setHeadphone j (f (h.headphone j))
def Hub.modJack (h : Hub) (j : Nat) (f : Jack → Jack) : Hub := h.modHeadphone j (fun x => { x with jack := f x.jack })

def Hub.sink (h : Hub) (s : Nat) : Sink := (tget h.sinks s).getD {}
def Hub.setSink (h : Hub) (s : Nat) (x : Sink) : Hub := { h with sinks := tput h.sinks s x }
def Hub.modSink (h : Hub) (s : Nat) (f : Sink → Sink) : Hub := h.setSink s (f (h.sink s))

def Hub.gen (h : Hub) (g : Nat) : Generator := (tget h.gens g).getD {}
def Hub.modGen (h : Hub) (g : Nat) (f : Generator → Generator) : Hub := { h with gens := tput h.gens g (f (h.gen g)) }

def Hub.term (h : Hub) (k : Nat) : Term := (tget h.terms k).getD {}
def Hub.modTerm (h : Hub) (k : Nat) (f : Term → Term) : Hub := { h with terms := tput h.terms k (f (h.term k)) }

def Hub.slot (h : Hub) (k : Nat) : Term := (tget h.slots k).getD {}
def Hub.modSlot (h : Hub) (k : Nat) (f : Term → Term) : Hub := { h with slots := tput h.slots k (f (h.slot k)) }

def Hub.bus (h : Hub) (b : Nat) : Bus := (tget h.buses b).getD {}
def Hub.modBus (h : Hub) (b : Nat) (f : Bus → Bus) : Hub := { h with buses := tput h.buses b (f (h.bus b)) }

def Hub.short (h : Hub) (b : Nat) : ShortBus := (tget h.shorts b).getD {}
def Hub.modShort (h : Hub) (b : Nat) (f : ShortBus → ShortBus) : Hub := { h with shorts := tput h.shorts b (f (h.short b)) }

def Hub.proc (h : Hub) (p : Nat) : Process := (tget h.procs p).getD {}
def Hub.modProc (h : Hub) (p : Nat) (f : Process → Process) : Hub := { h with procs := tput h.procs p (f (h.proc p)) }

def Hub.lane (h : Hub) (k : Nat) : Lane := (tget h.lanes k).getD {}
def Hub.modLane (h : Hub) (k : Nat) (f : Lane → Lane) : Hub := { h with lanes := tput h.lanes k (f (h.lane k)) }

def Hub.port (h : Hub) (p : Nat) : Port := (tget h.ports p).getD {}
def Hub.setPort (h : Hub) (p : Nat) (x : Port) : Hub := { h with ports := tput h.ports p x }
def Hub.modPort (h : Hub) (p : Nat) (f : Port → Port) : Hub := h.setPort p (f (h.port p))

def Hub.ctx (h : Hub) (k : Nat) : Context := (tget h.asrc.contexts k).getD {}
def Hub.modCtx (h : Hub) (k : Nat) (f : Context → Context) : Hub :=
  { h with asrc := { h.asrc with contexts := tput h.asrc.contexts k (f (h.ctx k)) } }

def Hub.chan (h : Hub) (c : Nat) : WatchChan := (tget h.chans c).getD {}
def Hub.modChan (h : Hub) (c : Nat) (f : WatchChan → WatchChan) : Hub := { h with chans := tput h.chans c (f (h.chan c)) }

def Hub.host (h : Hub) (k : Nat) : HostSlot := (tget h.hosts k).getD {}
def Hub.setHost (h : Hub) (k : Nat) (x : HostSlot) : Hub := { h with hosts := tput h.hosts k x }
def Hub.modHost (h : Hub) (k : Nat) (f : HostSlot → HostSlot) : Hub := h.setHost k (f (h.host k))

/-- The relief unit's record (R361). -/
def Hub.relief (h : Hub) : ReliefUnit → Relief
  | .irs k => (tget h.irs k).getD {}
  | .ors k => (tget h.ors k).getD {}

def Hub.modRelief (h : Hub) (u : ReliefUnit) (f : Relief → Relief) : Hub :=
  match u with
  | .irs k => { h with irs := tput h.irs k (f (h.relief u)) }
  | .ors k => { h with ors := tput h.ors k (f (h.relief u)) }

/-- Supervision of a slice (R346). -/
def Hub.slice (h : Hub) : SliceId → Slice
  | .input n => (h.input n).slice
  | .output n => (h.output n).slice

def Hub.modSlice (h : Hub) (sl : SliceId) (f : Slice → Slice) : Hub :=
  match sl with
  | .input n => h.modInput n (fun x => { x with slice := f x.slice })
  | .output n => h.modOutput n (fun x => { x with slice := f x.slice })

/-- The mailbox of one host number on one transport (R270). -/
def Hub.mailbox (h : Hub) (w : Who) : Mailbox :=
  match w.via with
  | .twoWire => (tget h.mailTwi w.host).getD {}
  | .tether => (tget h.mailTether w.host).getD {}

def Hub.modMailbox (h : Hub) (w : Who) (f : Mailbox → Mailbox) : Hub :=
  match w.via with
  | .twoWire => { h with mailTwi := tput h.mailTwi w.host (f (h.mailbox w)) }
  | .tether => { h with mailTether := tput h.mailTether w.host (f (h.mailbox w)) }

/-- Applies `f` for each number of a list, in order. -/
def Hub.forAll (h : Hub) (ns : List Nat) (f : Hub → Nat → Hub) : Hub := ns.foldl f h

/-- Applies `f` where `c` holds. -/
def Hub.when (h : Hub) (c : Bool) (f : Hub → Hub) : Hub := if c then f h else h

/-- A word of sample memory as it reads in this frame (R28). -/
def Hub.sramRead (h : Hub) (w : SramWord) (x : Int) : Int := if h.sram.zeroed.contains w then 0 else x

/-! ## The instances the part has (R1, R10) -/

def isInput (n : Nat) : Bool := decide (1 ≤ n) && decide (n ≤ 48)
def isHeadMic (m : Nat) : Bool := decide (1 ≤ m) && decide (m ≤ 4)
def isOutput (n : Nat) : Bool := decide (1 ≤ n) && decide (n ≤ 32)
def isHeadphone (j : Nat) : Bool := decide (1 ≤ j) && decide (j ≤ 4)
def isPort (p : Nat) : Bool := decide (p < 8)
def isBus (b : Nat) : Bool := decide (b < 64)
def isHost (k : Nat) : Bool := decide (k < 8)
def isWho (w : Who) : Bool := isHost w.host
def isLane (k : Nat) : Bool := decide (k < 9)
def isProcess (p : Nat) : Bool := decide (p < 64)
def isMuteGroup (k : Nat) : Bool := decide (k < 4)
def isChannel (c : Nat) : Bool := decide (c < 4)
def isTrimSource (n : Nat) : Bool := decide (1 ≤ n) && decide (n ≤ 52)
/-- Sink IDs of R132. -/
def isSink (s : Nat) : Bool :=
  (decide (1 ≤ s) && decide (s ≤ 0x2A)) || (decide (0x40 ≤ s) && decide (s ≤ 0x13F)) || (decide (0x180 ≤ s) && decide (s ≤ 0x1BF))
/-- Source IDs of R131 that are not reserved. -/
def isSource (s : Nat) : Bool :=
  decide (s ≤ 0x34) || (decide (0x40 ≤ s) && decide (s ≤ 0x1C7)) || (decide (0x1D0 ≤ s) && decide (s ≤ 0x1D3))
def isSlice : SliceId → Bool
  | .input n => isInput n
  | .output n => isOutput n
def isUnit : ReliefUnit → Bool
  | .irs k => decide (k < 6)
  | .ors k => decide (k < 4)

/-- Contexts of R247. -/
def isCtx (k : Nat) : Bool := decide (1 ≤ k) && decide (k ≤ 128)
/-- The instances an episode can belong to. -/
def isEpisode : Episode → Bool
  | .inputClip n | .inputOverload n | .inputPhantom n => isInput n
  | .busClip b => isBus b
  | .compliance n | .patrol n => isOutput n
  | .slip p => isPort p
  | .tetherCrc => true

/-! ## Deadlines -/

/-- Starts (or restarts) a deadline `len` frames from `from_`. -/
def Hub.startAt (h : Hub) (t : Timer) (deadline : Nat) : Hub :=
  { h with timers := (t, deadline) :: h.timers.filter (fun e => decide (e.1 ≠ t)) }

/-- Starts (or restarts) a deadline `len` frames from now. -/
def Hub.start (h : Hub) (t : Timer) (len : Nat) : Hub := h.startAt t (h.now + len)

/-- Cancels a deadline. -/
def Hub.cancel (h : Hub) (t : Timer) : Hub := { h with timers := h.timers.filter (fun e => decide (e.1 ≠ t)) }

def timerOf : List (Timer × Nat) → Timer → Option Nat
  | [], _ => none
  | (u, d) :: r, t => if u = t then some d else timerOf r t

/-- The deadline in frames, if one stands. -/
def Hub.deadline (h : Hub) (t : Timer) : Option Nat := timerOf h.timers t

def Hub.armed (h : Hub) (t : Timer) : Bool := (h.deadline t).isSome

/-- Whether a deadline stands and has come. While no core frames run (before FRAME_COUNT starts, in Stable) the row itself says so (log 4). -/
def Hub.due (h : Hub) (t : Timer) : Bool :=
  match h.deadline t with
  | some d => !h.framesRun || decide (d ≤ h.now)
  | none => false

/-- The effect of a deadline that has come; before it nothing changes (log 4). -/
def Hub.whenDue (h : Hub) (t : Timer) (f : Hub → Hub) : Hub := if h.due t then f (h.cancel t) else h

/-! ## Block boundaries (R7) -/

/-- The frame of the next block boundary after the present frame. -/
def Hub.nextBlock (h : Hub) : Nat := (h.now / 32 + 1) * 32

/-- The present frame is a block boundary at which the block actions have not happened yet. -/
def Hub.atBoundary (h : Hub) : Bool := decide (h.now % 32 = 0) && !h.blockDone

/-- FRAME_COUNT (R7, R338): it wraps to zero. -/
def Hub.frameCount (h : Hub) : Nat := h.now % 18446744073709551616

/-! ## Events -/

/-- Records a cause of event `e` for the next raising (R328). -/
def Hub.cause (h : Hub) (e : Nat) (sc : Scope := .all) : Hub :=
  { h with evDue := withOne h.evDue { event := e, scope := sc } }

/-- Records a cause raised one block boundary later than `Hub.cause`. -/
def Hub.causeNext (h : Hub) (e : Nat) (sc : Scope := .all) : Hub :=
  { h with evNext := withOne h.evNext { event := e, scope := sc } }

/-- A number for a free value, used once. -/
def Hub.draw (h : Hub) : Nat × Hub := (h.draws, { h with draws := h.draws + 1 })

/-! ## Settings -/

/-- Key of an object: index and subindex in one number (R261). -/
def key (idx sub : Nat) : Nat := idx * 256 + sub

/-- Value in force of a setting, or `d` where none stands. -/
def Hub.setting (h : Hub) (idx sub d : Nat) : Nat := tgetD h.live (key idx sub) d

/-- A 32-bit word as the signed number it stands for. -/
def toS32 (v : Nat) : Int := if v < 2147483648 then v else (v : Int) - 4294967296

def toS16 (v : Nat) : Int := if v < 32768 then v else (v : Int) - 65536

/-- A signed number as a word of `w` bits. -/
def ofInt (w : Nat) (x : Int) : Nat := (x % (2 ^ w : Nat)).toNat

/-- The level a GAIN names: 0x80000000 is minus infinity (R262). -/
def gainLevel (v : Nat) : Level := if v = 2147483648 then .lin 0 else .db (toS32 v : Int)

end Sys2Proof.Machine
end

