-- ==== Sys2Proof/Machine/Operands.lean ====
section
/-! DEFINITION. The operand forms: the types of the object dictionary and their bytes (R11, R262), and the checks of a value (R264, check 9). -/

namespace Sys2Proof.Machine

/-- The types of R262; STR and DOMAIN carry their maximum length. -/
inductive Ty where
  | bool | u8 | u16 | u32 | u64 | s16 | s32 | gain | time | rate | code | str (max : Nat) | domain (max : Nat)
deriving DecidableEq, Repr

/-- Type codes of R262. -/
def Ty.number : Ty → Nat
  | .bool => 0x01 | .u8 => 0x02 | .u16 => 0x03 | .u32 => 0x04 | .u64 => 0x05 | .s16 => 0x06 | .s32 => 0x07
  | .gain => 0x08 | .time => 0x09 | .rate => 0x0A | .code => 0x0B | .str _ => 0x0C | .domain _ => 0x0D

/-- Length in bytes, or the maximum length of STR and DOMAIN (R262). -/
def Ty.bytes : Ty → Nat
  | .bool => 1 | .u8 => 1 | .u16 => 2 | .u32 => 4 | .u64 => 8 | .s16 => 2 | .s32 => 4
  | .gain => 4 | .time => 4 | .rate => 4 | .code => 4 | .str m => m | .domain m => m

/-- Whether a length is permitted for a type (R262). -/
def Ty.lengthOk (t : Ty) (n : Nat) : Bool :=
  match t with
  | .str m => decide (n ≤ m)
  | .domain m => decide (n ≤ m)
  | t => decide (n = t.bytes)

/-- The number big-endian bytes spell (R11). -/
def ofBytes (bs : List Byte) : Nat := bs.foldl (fun a b => a * 256 + b.toNat) 0

/-- The low `n` bytes of a number, most significant first (R11). -/
def toBytes (n v : Nat) : List Byte := (List.range n).map (fun i => BitVec.ofNat 8 (v / 256 ^ (n - 1 - i)))

/-- The characters of a string as bytes (R262). -/
def ascii (s : String) : List Byte := s.toList.map (fun c => BitVec.ofNat 8 c.toNat)

/-- Printable ASCII of STR (R262). -/
def printable (bs : List Byte) : Bool := bs.all (fun b => decide (0x20 ≤ b.toNat) && decide (b.toNat ≤ 0x7E))

/-- What the value of a setting may be (R264, check 9). -/
inductive Check where
  | any
  | le (hi : Nat)
  | range (lo hi : Nat)
  | zeroOr (lo hi : Nat)
  | signed (lo hi : Int)
  | gain (lo hi : Int)
  | level (lo hi : Int)
  | mask (allowed : Nat)
  | oneOf (vs : List Nat)
deriving DecidableEq, Repr

/-- Whether a raw value passes a check. `gain` admits minus infinity, `level` does not (R262). -/
def Check.ok (c : Check) (v : Nat) : Bool :=
  match c with
  | .any => true
  | .le hi => decide (v ≤ hi)
  | .range lo hi => decide (lo ≤ v) && decide (v ≤ hi)
  | .zeroOr lo hi => decide (v = 0) || (decide (lo ≤ v) && decide (v ≤ hi))
  | .signed lo hi => decide (lo ≤ toS32 v) && decide (toS32 v ≤ hi)
  | .gain lo hi => decide (v = 2147483648) || (decide (lo ≤ toS32 v) && decide (toS32 v ≤ hi))
  | .level lo hi => decide (lo ≤ toS32 v) && decide (toS32 v ≤ hi)
  | .mask a => decide (v &&& a = v)
  | .oneOf vs => vs.contains v

/-- Encodings every value of a type must have, whatever the object (R262): BOOL 0 or 1, CODE 20 bits. -/
def Ty.valueOk (t : Ty) (bs : List Byte) : Bool :=
  match t with
  | .bool => decide (ofBytes bs ≤ 1)
  | .code => decide (ofBytes bs < 1048576)
  | .str _ => printable bs
  | _ => true

/-- A negative GAIN or S32 as its raw word. -/
def neg32 (n : Nat) : Nat := 4294967296 - n

/-- The word of minus infinity (R262). -/
def minusInf : Nat := 2147483648

end Sys2Proof.Machine
end

