-- ==== Sys2Proof/Machine/Dict.lean ====
section
/-! DEFINITION. The object dictionary: which objects exist (R261, R274), and of each its type, access, role, timing class, owner, default
and the values it takes (the object tables of every chapter). -/

namespace Sys2Proof.Machine

/-- Access columns of R263. -/
inductive Acc where
  | ro
  /-- RO, host h. -/
  | roHost
  | rw (role : Nat)
  /-- RW, Installer (zero only). -/
  | zeroOnly
  /-- RW, owner or Installer. -/
  | rwOwner
  /-- RW, owner or Operator (R169, R198). -/
  | rwOwnerOp
  | rwHost
  | rwHostInst
  | wo (role : Nat)
  | woOwner
  | woOwnerOp
  | woHost
  | woHostInst
  | w1c (role : Nat)
  | w1cHost
deriving DecidableEq, Repr

/-- One row of an object table, for the subindices `lo` to `hi`. -/
structure Row where
  lo : Nat
  hi : Nat
  ty : Ty
  acc : Acc
  deflt : Nat := 0
  stored : Bool := false
  /-- Timing class of R267. -/
  cls : Nat := 2
  chk : Check := .any
deriving DecidableEq, Repr

/-- The tables an index can name (R274). -/
inductive Blk where
  | identity | family | name | revision | versions | serial
  | hostSlot (h : Nat) | store | fallback
  | inFront (n : Nat) | inTandem (n : Nat) | trims (src : Nat) | meters (src : Nat) | inCounters (n : Nat) | inRelief (n : Nat)
  | hmFront (m : Nat) | hmute
  | outCfg (n : Nat) | outAudio (n : Nat) | outCv (n : Nat) | outPatrol (n : Nat) | outRelief (n : Nat)
  | hpAudio (j : Nat) | hpJack (j : Nat) | speaker
  | port (p : Nat) | capture | asrc
  | bus (b : Nat) | bank | harness | selector (s : Nat) | generator (g : Nat) | shortPath
  | dsp | process (p : Nat) | clocks | power | events | update | health | tether | twoWire | vendor
deriving DecidableEq, Repr

/-- The table an index names, if any (R274). B60 lies at 0x5F20. -/
def blockOf (idx : Nat) : Option Blk :=
  if idx = 0x1000 then some .identity else if idx = 0x1001 then some .family else if idx = 0x1008 then some .name
  else if idx = 0x1009 then some .revision else if idx = 0x100A then some .versions else if idx = 0x1018 then some .serial
  else if 0x1100 ≤ idx ∧ idx < 0x1108 then some (.hostSlot (idx - 0x1100))
  else if idx = 0x1200 then some .store else if idx = 0x1210 then some .fallback
  else if 0x2000 ≤ idx ∧ idx < 0x2600 then
    let n := (idx - 0x2000) / 32 + 1
    match (idx - 0x2000) % 32 with
    | 0 => some (.inFront n) | 1 => some (.inTandem n) | 2 => some (.trims n) | 3 => some (.meters n)
    | 4 => some (.inCounters n) | 5 => some (.inRelief n) | _ => none
  else if 0x2600 ≤ idx ∧ idx < 0x2680 then
    let m := (idx - 0x2600) / 32 + 1
    match (idx - 0x2600) % 32 with
    | 0 => some (.hmFront m) | 2 => some (.trims (48 + m)) | 3 => some (.meters (48 + m)) | _ => none
  else if idx = 0x2700 then some .hmute
  else if 0x3000 ≤ idx ∧ idx < 0x3400 then
    let n := (idx - 0x3000) / 32 + 1
    match (idx - 0x3000) % 32 with
    | 0 => some (.outCfg n) | 1 => some (.outAudio n) | 2 => some (.outCv n) | 3 => some (.outPatrol n)
    | 5 => some (.outRelief n) | _ => none
  else if 0x3400 ≤ idx ∧ idx < 0x3480 then
    let j := (idx - 0x3400) / 32 + 1
    match (idx - 0x3400) % 32 with
    | 0 => some (.hpAudio j) | 1 => some (.hpJack j) | _ => none
  else if idx = 0x3500 then some .speaker
  else if 0x4000 ≤ idx ∧ idx < 0x4200 then if idx % 64 = 0 then some (.port ((idx - 0x4000) / 64)) else none
  else if idx = 0x4200 then some .capture else if idx = 0x4400 then some .asrc
  else if idx = 0x5F00 then some .bank else if idx = 0x5F20 then some (.bus 60)
  else if 0x5000 ≤ idx ∧ idx < 0x6000 then if idx % 64 = 0 then some (.bus ((idx - 0x5000) / 64)) else none
  else if idx = 0x6000 then some .harness
  else if 0x61C0 ≤ idx ∧ idx < 0x61C8 then some (.generator (idx - 0x61C0))
  else if 0x6000 < idx ∧ idx < 0x6200 then if isSink (idx - 0x6000) then some (.selector (idx - 0x6000)) else none
  else if idx = 0x6800 then some .shortPath else if idx = 0x7000 then some .dsp
  else if 0x7100 ≤ idx ∧ idx < 0x7140 then some (.process (idx - 0x7100))
  else if idx = 0x8000 then some .clocks else if idx = 0x9000 then some .power else if idx = 0xA000 then some .events
  else if idx = 0xB000 then some .update else if idx = 0xC000 then some .health else if idx = 0xD000 then some .tether
  else if idx = 0xE000 then some .twoWire else if idx = 0xF000 then some .vendor
  else none

/-! ## The rows -/

/-- A status field. -/
def ro (s : Nat) (ty : Ty) (d : Nat := 0) : Row := { lo := s, hi := s, ty := ty, acc := .ro, deflt := d, cls := 0 }
def ros (lo hi : Nat) (ty : Ty) (d : Nat := 0) : Row := { lo := lo, hi := hi, ty := ty, acc := .ro, deflt := d, cls := 0 }
/-- A stored setting of an owned object. -/
def own (s : Nat) (ty : Ty) (d : Nat) (c : Check) (cls : Nat := 2) : Row :=
  { lo := s, hi := s, ty := ty, acc := .rwOwner, deflt := d, stored := true, cls := cls, chk := c }
/-- A stored setting for a role. -/
def inst (s : Nat) (ty : Ty) (d : Nat) (c : Check) (cls : Nat := 2) : Row :=
  { lo := s, hi := s, ty := ty, acc := .rw 2, deflt := d, stored := true, cls := cls, chk := c }
def oper (s : Nat) (ty : Ty) (d : Nat) (c : Check) (cls : Nat := 2) : Row :=
  { lo := s, hi := s, ty := ty, acc := .rw 1, deflt := d, stored := true, cls := cls, chk := c }
/-- A counter an Installer may clear. -/
def ctr (s : Nat) (ty : Ty) : Row := { lo := s, hi := s, ty := ty, acc := .zeroOnly }
/-- Cause bits. -/
def cause (s : Nat) (ty : Ty) (mask : Nat) : Row := { lo := s, hi := s, ty := ty, acc := .w1c 1, cls := 0, chk := .mask mask }
/-- A command. -/
def cmd (s : Nat) (ty : Ty) (a : Acc) (c : Check) (cls : Nat := 2) : Row :=
  { lo := s, hi := s, ty := ty, acc := a, cls := cls, chk := c }

/-- Every BOOL command acts on 1; a written 0 does nothing (log 23). -/
def go (s : Nat) (a : Acc) (cls : Nat := 0) : Row := cmd s .bool a .any cls

def rampTime : Check := .le 2000000

/-- R282 and the identity tables of R281. -/
def identityRows : List Row := [ro 1 .u16 0x4832, ro 2 .u16 0x4D01, ro 3 (.str 8), ro 4 (.str 7), ro 5 .u8]
def familyRows : List Row :=
  [ro 1 .u8 1, ro 2 .u8 48, ro 3 .u8 3, ro 4 .u8 4, ro 5 .u8 32, ro 6 .u8 4, ro 7 .u8 2, ro 8 .u8 8, ro 9 .u8 32, ro 0x0A .u8 8,
   ro 0x0B .u8 1, ro 0x0C .u8 64, ro 0x0D .u8 64, ro 0x0E .u16 4096, ro 0x0F .u8 64, ro 0x10 .u8 8, ro 0x11 .u8 8, ro 0x12 .u8 6,
   ro 0x13 .u8 4, ro 0x14 .u8 128, ro 0x15 .u8 4, ro 0x16 .u32 6291456, ro 0x17 .u8 4, ro 0x18 .u8 4]

/-- R177. -/
def hostRows (h : Nat) : List Row :=
  [{ lo := 1, hi := 1, ty := .u32, acc := .rwHost, cls := 0 }, inst 2 .u8 (if h = 0 then 2 else 1) (.le 2) 0,
   ro 3 .u16, ro 4 .u8, ro 5 .u16,
   { lo := 6, hi := 6, ty := .u16, acc := .rwHostInst, stored := true, cls := 0, chk := .le 3600 }, inst 7 .u8 0 (.le 1) 0,
   { lo := 8, hi := 8, ty := .time, acc := .rwHostInst, deflt := 20000, stored := true, cls := 0, chk := rampTime },
   { lo := 9, hi := 9, ty := .u8, acc := .rwHostInst, stored := true, cls := 2, chk := .le 1 },
   cmd 0x0A .u32 .woHost .any 0, cmd 0x0B .u32 .woHostInst .any 0, cmd 0x0C .u32 (.wo 2) .any 0, go 0x0D (.wo 2),
   { lo := 0x0E, hi := 0x0E, ty := .u32, acc := .rwHost, cls := 0 }, { lo := 0x0F, hi := 0x0F, ty := .u8, acc := .roHost, cls := 0 },
   ro 0x10 .u16, { lo := 0x11, hi := 0x11, ty := .u16, acc := .rwHost, cls := 0 }, ro 0x12 (.domain 240), ro 0x13 .u8]

/-- R279. -/
def storeRows : List Row :=
  [go 1 (.wo 1), inst 2 .bool 1 .any 0, cmd 3 .u8 (.wo 2) (.oneOf [0xA5]) 0, ro 4 .u8, ro 5 .u8, ro 6 .u16, ro 7 .u8 64, ro 8 .u64,
   ro 9 .bool, ro 0x0A .u16]

/-- R391. -/
def fallbackRows : List Row :=
  [inst 1 .u8 0 .any 4, ro 2 .u8, cause 3 .u16 0x07FE, ro 4 .u8, ro 5 .u8, ro 6 .u64, ro 7 .u8,
   { lo := 0x10, hi := 0x8F, ty := .u32, acc := .rw 2, stored := true, cls := 4 }]

/-- R40, R42, R74, R175, R172, R359. -/
def frontRows : List Row :=
  [own 1 .bool 0 .any, own 2 .u8 0 (.le 1), own 3 .bool 0 .any, own 4 .u16 0 (.zeroOr 10 400), ro 5 .u8, ro 6 .u16, ro 7 .u8, ro 8 .bool,
   ro 9 .u8, ro 0x0A .u16]
def inCounterRows : List Row := [ctr 1 .u16, ctr 2 .u16, ctr 3 .u8, ro 4 .u8, cause 5 .u8 7]
/-- R74. PATH_RESTORE and RESET_MATCH have the immediate class (log 130). -/
def tandemRows : List Row :=
  [inst 1 .gain (neg32 600) (.level (-1200) (-300)), inst 2 .gain (neg32 600) (.level (-1200) 0), inst 3 .u16 900 (.range 500 999),
   ro 4 .u8 1, ro 5 .u8, { ros 6 0x0E .s32 with stored := true }, ros 0x0F 0x11 .u16, ro 0x12 .u32, ro 0x13 .u64, cmd 0x14 .u8 (.wo 2) (.mask 7) 0,
   go 0x15 (.wo 2)]
def trimRows : List Row :=
  [{ lo := 1, hi := 8, ty := .gain, acc := .rwHostInst, stored := true, cls := 1, chk := .level (-2000) 9000 }]
def meterRows : List Row := [ros 1 8 .s16 32768, ro 9 .s16 32768, ro 0x0A .u8]
def reliefRows : List Row :=
  [ro 1 .u8, cause 2 .u16 0x1FF, ros 3 5 .s16 32768, ro 6 .u16, ro 7 .time, go 8 (.wo 2), { ro 9 .bool with stored := true }, go 0x0A (.wo 2)]

/-- The relief object of an output holds no noise estimates (R359). -/
def outReliefRows : List Row :=
  [ro 1 .u8, cause 2 .u16 0x10F, ro 6 .u16, ro 7 .time, go 8 (.wo 2), { ro 9 .bool with stored := true }, go 0x0A (.wo 2)]

/-- R46, R52. -/
def hmRows : List Row :=
  [own 1 .bool 0 .any, own 2 .u8 22 (.range 20 28), own 3 .bool 0 .any, own 4 .u16 0 (.zeroOr 10 400), ro 5 .u8, ro 6 .u16, ro 8 .bool]
def hmuteRows : List Row :=
  [{ lo := 1, hi := 4, ty := .u64, acc := .rw 2, stored := true, cls := 4, chk := .mask (2 ^ 52 - 1) }, ros 5 8 .u64, ro 9 .u8]

/-- R103, R106, R107, R108. -/
def outCfgRows : List Row :=
  [own 1 .u8 0 (.le 3), own 2 .u8 0 (.le 3), own 3 .u8 0 (.le 1), inst 4 .code 0 .any, inst 5 .code 0 .any, ro 6 .u32, cause 7 .u8 0x7D]
def outAudioRows : List Row :=
  [own 1 .gain 0 (.gain (-12000) 1200), own 2 .bool 0 .any, own 3 .time 0 (.le 85000), own 4 .bool 0 .any, own 5 .gain 0 (.level (-2000) 0),
   own 6 .time 100000 (.range 10000 1000000), own 7 .u8 0xFF (.oneOf [0, 1, 2, 3, 4, 5, 6, 7, 255]), own 8 .time 20000 rampTime,
   own 9 .time 10000 rampTime, ro 0x0A .gain]
/-- R107. CV_FLUSH has the immediate class (log 128). -/
def outCvRows : List Row :=
  [cmd 1 .code .woOwner .any 2, cmd 2 (.domain 128) .woOwner .any 2, go 3 .woOwner, ro 4 .u8, own 5 .u8 1 (.range 1 6),
   own 6 .u32 1048576 (.range 1 1048576), own 7 .u16 1 (.range 1 1024), ro 8 .code, ro 9 .code]
def outPatrolRows : List Row :=
  [inst 1 .u32 2000 (.range 500 50000), inst 2 .gain 50 (.level 10 300), inst 3 .gain (neg32 8000) (.level (-9000) (-4000)), ro 4 .s32,
   ro 5 .s32, ro 6 .gain minusInf, ro 7 .u16]

/-- R128, R129, R130. -/
def hpRows : List Row :=
  [own 1 .gain 0 (.gain (-12000) 1200), own 2 .bool 0 .any, own 3 .time 20000 rampTime, own 4 .time 10000 rampTime,
   inst 5 .gain 0 (.level (-4000) 0), own 6 .u8 0xFF (.oneOf [0, 1, 2, 3, 4, 5, 6, 7, 255]),
   own 7 .u8 0xFF (.oneOf [0, 1, 2, 3, 4, 5, 6, 7, 255]), ro 8 .u32, cause 9 .u8 0x3E]
def jackRows : List Row :=
  [inst 1 .u8 1 (.le 2), inst 2 .u8 1 (.le 1), inst 3 .bool 1 .any, inst 4 .bool 1 .any, inst 5 .time 1000000 (.range 300000 3000000),
   inst 6 .bool 1 .any, go 7 (.wo 1), ro 8 .u8, ro 9 .u32 0xFFFFFFFF, ro 0x0A .u32 0xFFFFFFFF, ro 0x0B .u8, cause 0x0C .u8 0xFF]
def spkRows : List Row :=
  [own 1 .gain 0 (.gain (-12000) 1200), own 2 .gain 0 (.gain (-12000) 1200), own 3 .bool 0 .any, own 4 .time 20000 rampTime,
   own 5 .time 10000 rampTime, own 6 .bool 0 .any, inst 7 .u16 800 (.range 100 1000), inst 8 .bool 0 .any, go 9 (.wo 1), ro 0x0A .u32,
   cause 0x0B .u8 0x0F, ro 0x0C .u16, ro 0x0D .gain]

/-- R246, R247, R260. -/
def portRows : List Row :=
  [own 1 .u8 0 (.le 1) 3, own 2 .u8 2 (.le 3) 3, own 3 .u8 3 (.range 1 7) 3, own 4 .u8 8 (.range 2 32) 3, own 5 .u8 32 (.oneOf [16, 24, 32]) 3,
   own 6 .u8 24 (.oneOf [16, 20, 24, 32]) 3, own 7 .u8 1 (.le 1) 3, own 8 .u8 0 (.mask 3) 3, own 9 .u8 1 (.le 1) 3, own 0x0A .u8 0 (.le 1) 3,
   own 0x0B .u16 64 (.range 8 1024) 3, own 0x0C .u8 0 (.le 1) 3, own 0x0D .bool 1 .any 3, own 0x0E .u32 0 .any, own 0x0F .u32 0 .any,
   { lo := 0x10, hi := 0x10, ty := .u64, acc := .rwOwner }, go 0x11 .woOwner 2, go 0x12 .woOwner 2, own 0x13 .bool 0 .any 0, ro 0x14 .u8, ro 0x15 .u8,
   ro 0x16 .u32, cause 0x17 .u8 0x1F, ro 0x18 .rate, ro 0x19 .u8, ro 0x1A .u32, ro 0x1B .u32, ro 0x1C .u32, ro 0x1D .u8, ro 0x1E .u8,
   ro 0x1F .u16, ro 0x20 .u16, ctr 0x21 .u16, ctr 0x22 .u16, ro 0x23 .u8]
def captureRows : List Row :=
  [{ lo := 1, hi := 1, ty := .u8, acc := .rw 1, chk := .le 7 }, { lo := 2, hi := 2, ty := .u8, acc := .rw 1, chk := .le 1 },
   { lo := 3, hi := 3, ty := .u32, acc := .rw 1, deflt := 0xFFFFFFFF }, { lo := 4, hi := 4, ty := .u8, acc := .rw 1, chk := .le 1 },
   cmd 5 .u8 (.wo 1) (.oneOf [1, 2]), ro 6 .u8, ro 7 .u16, ro 8 .u32, ro 9 .u32, ro 0x0A .u64,
   { lo := 0x0B, hi := 0x0B, ty := .u32, acc := .rw 0, cls := 0 }, ro 0x0C (.domain 240)]
def asrcRows : List Row :=
  [ros 1 0x80 .u32, ro 0x81 .u8 128, ro 0x82 .u8, ro 0x83 .u8, ro 0x84 .u16, inst 0x85 .bool 1 .any 2, cause 0x86 .u8 0xFF, cause 0x87 .u8 0xFF]

/-- R143, R155, R160, R136, R137, R157. -/
def busRows : List Row :=
  [{ lo := 1, hi := 0x40, ty := .u64, acc := .rwOwner, stored := true, cls := 1 }, own 0x41 .gain 0 (.gain (-12000) 1200) 1,
   own 0x42 .bool 0 .any 1, own 0x43 .time 20000 rampTime 1, own 0x44 .time 10000 rampTime 1, own 0x45 .u8 0 (.le 2) 1, own 0x46 .u8 0 (.le 1) 1,
   ro 0x47 .u8, ro 0x48 .gain, ctr 0x49 .u16, ro 0x4A .u8, ro 0x4B .u32]
def bankRows : List Row :=
  [{ lo := 1, hi := 8, ty := .bool, acc := .rwHostInst, cls := 0 }, go 9 (.wo 1), go 0x0A (.wo 1), ro 0x0B .u8, ro 0x0C .u8, ro 0x0D .u64,
   ro 0x0E .u16]
def harnessRows : List Row := [inst 1 .u8 0 (.le 1) 4, ro 2 .u8]
def selectorRows : List Row := [own 1 .u16 0 .any 1, own 2 .time 5000 (.zeroOr 1000 100000) 1, ro 3 .u16, ro 4 .u8, ro 5 .u16]
def generatorRows : List Row :=
  [oper 1 .u8 0 (.le 3) 1, oper 2 .rate 1000000 (.range 10000 40000000) 1, oper 3 .gain (neg32 2000) (.gain (-12000) 0) 1]
def shortRows : List Row :=
  [{ lo := 1, hi := 0x80, ty := .u64, acc := .rw 1, stored := true, cls := 1 },
   { lo := 0x81, hi := 0x88, ty := .gain, acc := .rw 1, stored := true, cls := 1, chk := .gain (-12000) 1200 },
   oper 0x89 .time 20000 rampTime 1, oper 0x8A .time 10000 rampTime 1, ro 0x8B .u8]

/-- Default of PARAM[i] by TYPE (R199), as a raw word. -/
def paramDefault (ty i : Nat) : Nat :=
  match ty with
  | 1 => if 32 ≤ i then 0 else match i % 4 with | 0 => 0 | 1 => 1000000 | 2 => 0 | _ => 707
  | 2 => if i = 1 then 1000000 else 0
  | 3 => match i with | 1 => neg32 2000 | 2 => 400 | 3 => 5000 | 4 => 100000 | 8 => neg32 8000 | _ => 0
  | 4 => if i = 16 then 100000 else 0
  | 5 => match i with | 0 => 6000000 | 1 => neg32 3000 | 2 => neg32 1200 | _ => 0
  | 6 => match i with | 0 => 1 | 1 => 20000 | _ => 0
  | 7 => if i = 0 then neg32 1800 else 0
  | _ => 0

/-- R197, R198. -/
def dspRows : List Row :=
  [ros 1 8 .u8, ros 9 0x10 .u16, ro 0x11 .u8 0xFF, ro 0x12 .u8, ro 0x13 .u32, ro 0x14 .u16, ro 0x15 .u32 1839104]
def processRows : List Row :=
  [{ own 1 .u8 0 .any 0 with acc := .rwOwnerOp }, { own 2 .u8 1 .any 0 with acc := .rwOwnerOp },
   { own 3 .u8 0 (.le 63) 0 with acc := .rwOwnerOp }, { own 4 .u8 1 .any 0 with acc := .rwOwnerOp }, go 5 .woOwnerOp, go 6 .woOwner 2,
   ro 7 .u8, ro 8 .u8 0xFF, ro 9 .u16, ro 0x0A .u16, inst 0x0B .u8 0 (.le 1), own 0x0C .bool 1 .any, ro 0x0D .u8, { ro 0x0E .u32 with stored := true },
   { lo := 0x10, hi := 0x4F, ty := .s32, acc := .rwOwner, stored := true }, ros 0x50 0x5F .s32,
   { lo := 0x60, hi := 0x7F, ty := .s32, acc := .rwOwner, stored := true }, ros 0x80 0x9F .gain]

/-- R223. -/
def clockRows : List Row :=
  [inst 1 .u8 0 (.le 2) 4, ro 2 .u8, inst 3 .s32 0 (.signed (-100000) 100000), inst 4 .u8 0 (.le 3), inst 5 .u8 0 (.le 7),
   inst 6 .u16 100 (.range 5 2000), inst 7 .u16 100 (.range 1 1000), inst 8 .u16 200 (.range 20 2000), inst 9 .u16 200 (.range 50 500),
   inst 0x0A .bool 0 .any, ro 0x0B .u8, ro 0x0C .s32, ro 0x0D .s32, ro 0x0E .rate, ro 0x0F .u8, inst 0x10 .u8 0 (.le 3), inst 0x11 .u8 3 (.range 1 7),
   inst 0x12 .u32 0 (.mask 0x0FFFFFFF), inst 0x13 .u32 0 (.mask 0x0FFFFFFF), ro 0x14 .u32, ro 0x15 .u64, ro 0x16 .u64, ro 0x17 .s32]

/-- R383. -/
def powerRows : List Row :=
  [cmd 1 .u8 (.wo 1) (.range 1 3) 0, ro 2 .u8, ro 3 .u8, ro 4 .u8, ro 5 .u8, ro 6 .u16 800,
   { lo := 7, hi := 7, ty := .u32, acc := .rw 2, deflt := 0xF00FFF }, ro 8 .u32 0xF00FFF, cause 9 .u16 0x0FFF,
   { lo := 0x0A, hi := 0x0A, ty := .bool, acc := .rw 1, cls := 0 }, inst 0x0B .bool 1 .any 0, inst 0x0C .u32 0 (.le 86400) 0,
   inst 0x0D .time 5000 (.range 1000 100000) 0, inst 0x0E .time 50000 (.range 10000 2000000), cmd 0x10 .u16 (.wo 1) (.mask 0xFF) 0, ro 0x11 .u16,
   inst 0x12 .bool 1 .any 0,
   { inst 0x20 .u8 0 (.le 48) with hi := 0x23 }, { inst 0x24 .u16 0 (.mask 0xFF) with hi := 0x27 },
   { inst 0x28 .time 1000000 (.range 100000 2000000) with hi := 0x2B }, { inst 0x2C .gain (neg32 6000) (.level (-12000) 0) with hi := 0x2F },
   { inst 0x30 .gain (neg32 4000) (.level (-6000) (-1000)) 0 with hi := 0x33 }, { inst 0x34 .u8 0 (.le 8) with hi := 0x37 },
   { inst 0x38 .time 300000 (.le 2000000) with hi := 0x3B }, { inst 0x40 .u64 0 (.mask (2 ^ 52 - 1)) with hi := 0x5F },
   { lo := 0x60, hi := 0x63, ty := .u8, acc := .wo 1, cls := 0, chk := .oneOf [1, 2] }, ros 0x64 0x67 .u16, ros 0x68 0x6B .u64,
   ros 0x6C 0x6F .u8]

/-- R341. -/
def eventRows : List Row :=
  [{ lo := 1, hi := 1, ty := .domain 16, acc := .w1cHost, cls := 0 }, { lo := 2, hi := 2, ty := .domain 16, acc := .rwHost, stored := true, cls := 0 },
   ro 3 .u8, ro 4 (.domain 16), { lo := 5, hi := 5, ty := .domain 128, acc := .roHost, cls := 0 },
   cmd 6 .u8 (.wo 2) (.oneOf [0, 1, 2, 3, 4, 5, 6, 7, 255]) 0, ro 7 .u32, oper 8 .time 0 (.zeroOr 1000 4000000000),
   oper 9 .time 0 (.zeroOr 1000 4000000000), { lo := 0x80, hi := 0xFF, ty := .u8, acc := .roHost, cls := 0 }]

/-- R423. -/
def updateRows : List Row :=
  [cmd 1 .u8 (.wo 2) (.range 1 4) 0, cmd 2 (.domain 240) (.wo 2) .any 0, ro 3 .u8, ro 4 .u32, ro 5 .u32, ro 6 .u16, ro 7 .u8, ro 8 .u8 0xFF,
   { lo := 9, hi := 9, ty := .u64, acc := .rw 2, cls := 0 }, ro 0x0A .u8, ro 0x0B .u8, ros 0x0C 0x0F .u32, ctr 0x10 .u16, ro 0x11 .u32, ro 0x12 .u32,
   { cmd 0x13 (.domain 233) (.wo 2) .any 0 with stored := true }, ro 0x14 .u8, { ro 0x15 .bool with stored := true }]

/-- R361, R441. -/
def healthRows : List Row :=
  [inst 1 .u8 0 (.le 1) 0, inst 2 .gain 600 (.level 100 2000) 0, inst 3 .time 60000000 (.range 10000000 600000000) 0,
   inst 4 .u16 10 (.range 1 1000) 0, ros 5 0x0A .u16, ros 0x0B 0x0E .u16, { ctr 0x0F .u32 with hi := 0x14, stored := true },
   { ctr 0x15 .u32 with hi := 0x18, stored := true }, ro 0x19 .u8 2, { ro 0x1A .u16 with stored := true }, ros 0x1B 0x1E .s16, ro 0x1F .s16, ro 0x20 .u32, ro 0x21 .u32,
   ro 0x22 .u16, ro 0x23 .s16, ro 0x24 .u16, ro 0x25 .u16, ro 0x26 .u16, ro 0x27 .u16, ro 0x28 .u16, ro 0x29 .u16, ro 0x2A .u16, ro 0x2B .u64,
   ro 0x2C .u16 0xFFFF]

/-- R327, R303. -/
def tetherRows : List Row :=
  [ro 1 .u8 0xFF, { ro 2 .u8 0xFF with stored := true }, ro 3 .u8, ro 4 .u8, ro 5 .u64, ro 6 .u16, ro 7 .u32, ro 8 .u32, ctr 9 .u32, ctr 0x0A .u32,
   inst 0x0B .time 100000 (.zeroOr 10000 10000000) 0, inst 0x0C .bool 1 .any 0, go 0x0D (.wo 1), inst 0x0E .bool 1 .any 4, ro 0x0F .u8]
def twoWireRows : List Row :=
  [inst 1 .u8 30 (.le 98) 0, inst 2 .u8 0 (.le 98) 0, inst 3 .u8 1 (.le 2) 0, inst 4 .time 100000 (.zeroOr 10000 10000000) 0, inst 5 .bool 0 .any 0,
   inst 6 .bool 0 .any 0, ro 7 .u8, ro 8 .u8, ro 9 .u8, ctr 0x0A .u16, ctr 0x0B .u16, ro 0x0C .u8, ro 0x0D .u32]

/-- R281. -/
def nameRows : List Row := [{ lo := 1, hi := 1, ty := .str 32, acc := .rw 2, stored := true, cls := 0 }]
def revisionRows : List Row := [ro 1 .u16, ro 2 .u8]
def versionRows : List Row := [ros 1 6 .u32]
def serialRows : List Row := [ro 1 .u32 0x5745, ro 2 .u32 0x4832, ro 3 .u32, ro 4 .u32, ro 5 (.str 16)]

/-- The rows of a table. The vendor object's subindices are not given by the spec (R472). -/
def Blk.rows : Blk → List Row
  | .identity => identityRows | .family => familyRows | .name => nameRows | .revision => revisionRows | .versions => versionRows
  | .serial => serialRows | .hostSlot h => hostRows h | .store => storeRows | .fallback => fallbackRows
  | .inFront _ => frontRows | .inTandem _ => tandemRows | .trims _ => trimRows | .meters _ => meterRows | .inCounters _ => inCounterRows
  | .inRelief _ => reliefRows | .hmFront _ => hmRows | .hmute => hmuteRows
  | .outCfg _ => outCfgRows | .outAudio _ => outAudioRows | .outCv _ => outCvRows | .outPatrol _ => outPatrolRows | .outRelief _ => outReliefRows
  | .hpAudio _ => hpRows | .hpJack _ => jackRows | .speaker => spkRows
  | .port _ => portRows | .capture => captureRows | .asrc => asrcRows
  | .bus _ => busRows | .bank => bankRows | .harness => harnessRows | .selector _ => selectorRows | .generator _ => generatorRows
  | .shortPath => shortRows | .dsp => dspRows | .process _ => processRows | .clocks => clockRows | .power => powerRows | .events => eventRows
  | .update => updateRows | .health => healthRows | .tether => tetherRows | .twoWire => twoWireRows
  | .vendor => [{ lo := 1, hi := Config.vendorHighest, ty := .domain 240, acc := .rw 2, cls := 0 }]

/-- The row of a list that holds a subindex. -/
def rowIn : List Row → Nat → Option Row
  | [], _ => none
  | r :: rs, s => if r.lo ≤ s ∧ s ≤ r.hi then some r else rowIn rs s

/-- Subindex 0x00 of every object (R261). -/
def Blk.highest (b : Blk) : Nat := b.rows.foldl (fun m r => max m r.hi) 0

/-- The description of an object: the table its index names and the row its subindex names (R261). -/
def describe (idx sub : Nat) : Option (Blk × Row) :=
  match blockOf idx with
  | none => none
  | some b => if sub = 0 then some (b, ro 0 .u8 b.highest) else (rowIn b.rows sub).map (fun r => (b, r))

/-- Default of a setting (the Default column). -/
def defaultOf (idx sub : Nat) : Nat :=
  match describe idx sub with
  | some (_, r) => r.deflt
  | none => 0

/-- Value in force of a setting: the last that took effect, else its default. -/
def Hub.live? (h : Hub) (idx sub : Nat) : Nat := tgetD h.live (key idx sub) (defaultOf idx sub)

/-- Value last accepted for a setting (R266). -/
def Hub.accepted (h : Hub) (idx sub : Nat) : Nat := tgetD h.objs (key idx sub) (defaultOf idx sub)

/-! ## Where the instances' objects lie (R274) -/

def inFrontIdx (n : Nat) : Nat := 0x2000 + 0x20 * (n - 1)
def inTandemIdx (n : Nat) : Nat := inFrontIdx n + 1
def trimIdx (src : Nat) : Nat := if src ≤ 48 then 0x2000 + 0x20 * (src - 1) + 2 else 0x2600 + 0x20 * (src - 49) + 2
def inCounterIdx (n : Nat) : Nat := inFrontIdx n + 4
def inReliefIdx (n : Nat) : Nat := inFrontIdx n + 5
def hmIdx (m : Nat) : Nat := 0x2600 + 0x20 * (m - 1)
/-- Front-end object of source 1 to 52 (IN1 to IN48, HM1 to HM4). -/
def frontIdx (src : Nat) : Nat := if src ≤ 48 then inFrontIdx src else hmIdx (src - 48)
def outIdx (n : Nat) : Nat := 0x3000 + 0x20 * (n - 1)
def hpIdx (j : Nat) : Nat := 0x3400 + 0x20 * (j - 1)
def spkIdx : Nat := 0x3500
def portIdx (p : Nat) : Nat := 0x4000 + 0x40 * p
def busIdx (b : Nat) : Nat := if b = 60 then 0x5F20 else 0x5000 + 0x40 * b
def selIdx (s : Nat) : Nat := 0x6000 + s
def genIdx (g : Nat) : Nat := 0x61C0 + g
def procIdx (p : Nat) : Nat := 0x7100 + p
def hostIdx (k : Nat) : Nat := 0x1100 + k

end Sys2Proof.Machine
end

