-- ==== Sys2Proof/Machine/Flags.lean ====
section
/-! DEFINITION. Flags and events: which events exist, for whom each is raised, how pending bits and occurrence counts change (R328 to R333),
and how counters saturate (R338, R339). -/

namespace Sys2Proof.Machine

/-! ## Event numbers (R330) -/

def evResetFlags : Nat := 0
def evFullService : Nat := 1
def evReducedService : Nat := 2
def evSupplyWarn : Nat := 3
def evSupplyOk : Nat := 4
def evNvInhibit : Nat := 5
def evThermalWarn : Nat := 6
def evThermalCrit : Nat := 7
def evPowerDone : Nat := 8
def evPowerReplaced : Nat := 9
def evWakeDuringEntry : Nat := 10
def evPadHold : Nat := 11
def evSupRestarted : Nat := 12
def evLpRefused : Nat := 13
def evRateChange (p : Nat) : Nat := 16 + p
def evFifoSlip (p : Nat) : Nat := 24 + p
def evReinUnlock : Nat := 32
def evReinLock : Nat := 33
def evWckinLoss : Nat := 34
def evWckinGlitch : Nat := 35
def evContextsOut : Nat := 36
def evRelock : Nat := 37
def evAlignLost : Nat := 38
def evMaskApplied : Nat := 39
/-- Group event of the input group of input `n`: E(40 + k), IGk holding IN(4k + 1) to IN(4k + 4). -/
def evInputGroup (n : Nat) : Nat := 40 + (n - 1) / 4
def evHmute (k : Nat) : Nat := 52 + k
def evJack (j : Nat) : Nat := 56 + (j - 1)
def evButton (j : Nat) : Nat := 60 + (j - 1)
/-- Group event of the output group of output `n`: E(64 + k). -/
def evOutputGroup (n : Nat) : Nat := 64 + (n - 1) / 4
def evSpkFault : Nat := 72
def evCvEmpty : Nat := 73
def evCvOverflow : Nat := 74
def evCommitDone : Nat := 75
def evCommitDeferred : Nat := 76
def evBusClip : Nat := 77
def evDspOverload : Nat := 78
def evLaneRelieved : Nat := 79
def evReliefInput : Nat := 80
def evReliefOutput : Nat := 81
def evReliefExhausted : Nat := 82
def evHealth : Nat := 83
def evSramCorrected : Nat := 84
def evSramUncorrectable : Nat := 85
def evNvRemapped : Nat := 86
def evNvSparesLow : Nat := 87
def evMatchStale : Nat := 88
def evPathFault : Nat := 89
def evTwiProtocol : Nat := 96
def evTwiBusReset : Nat := 97
def evClaimConflict : Nat := 98
def evSessionLost : Nat := 99
def evTetherUp : Nat := 100
def evTetherDown : Nat := 101
def evRollCall : Nat := 102
def evRingBroken : Nat := 103
def evTimeLock : Nat := 104
def evTetherCrc : Nat := 105
def evMailboxDone : Nat := 106
def evUpdateHeader : Nat := 112
def evUpdateBlock : Nat := 113
def evUpdateArmed : Nat := 114
def evUpdateActivated : Nat := 115
def evUpdateFailed : Nat := 116
def evSignature : Nat := 117
def evLevel : Nat := 118
def evPrerollReady : Nat := 119
def evCounterSat : Nat := 120
def evTimer (i : Nat) : Nat := 121 + i

/-- Reserved events (R330): never raised, their bits read zero (R331). -/
def isReservedEvent (e : Nat) : Bool :=
  decide (e = 14) || decide (e = 15) || (decide (90 ≤ e) && decide (e ≤ 95)) || (decide (107 ≤ e) && decide (e ≤ 111)) ||
  decide (123 ≤ e)

/-- One where an event exists: bits 14, 15, 90 to 95, 107 to 111 and 123 to 127 are zero. -/
def eventBits : BitVec 128 := 0x07FF07FF03FFFFFFFFFFFFFFFFFF3FFF#128

/-- Events judged by the supervisor, held while it restarts (R336). -/
def supervisorJudged (e : Nat) : Bool :=
  [2, 5, 78, 80, 81, 82, 83, 86, 87, 88, 89, 98, 99, 112, 113, 114, 115, 116].contains e

/-! ## Roles and sessions -/

/-- Role of a host number (R161): 0 Observer, 1 Operator, 2 Installer. -/
def Hub.role (h : Hub) (k : Nat) : Nat := h.live? (hostIdx k) 2

/-- The claimed host numbers. -/
def Hub.claimed (h : Hub) (k : Nat) : Bool := (h.host k).claimed

/-- Whether a scope names a host number (R329). -/
def Hub.inScope (h : Hub) (sc : Scope) (k : Nat) : Bool :=
  match sc with
  | .all => true
  | .twoWire => (h.host k).claimed && (h.host k).onTwoWire
  | .hostAndInstallers j => decide (j = k) || (h.claimed k && decide (h.role k = 2))
  | .command j => decide (j = k)

/-! ## Pending bits, masks and occurrences (R332, R333) -/

def Hub.pending (h : Hub) (k : Nat) : BitVec 128 := tgetD h.pend k 0
def Hub.eventMask (h : Hub) (k : Nat) : BitVec 128 := tgetD h.mask k eventBits
def Hub.occurrences (h : Hub) (k e : Nat) : Nat := tgetD (tgetD h.occ k []) e 0

/-- A counter one higher, held at its largest value (R338). -/
def satInc (max n : Nat) : Nat := if n < max then n + 1 else max

/-- Raises event `e` for host `k` (R328): pending if unmasked, counted whatever the mask. -/
def Hub.raiseFor (h : Hub) (k e : Nat) : Hub :=
  { h with
    pend := if (h.eventMask k).getLsbD e then h.pend else tput h.pend k (h.pending k ||| BitVec.twoPow 128 e)
    occ := tput h.occ k (tput (tgetD h.occ k []) e (satInc 255 (h.occurrences k e))) }

/-- Whether a list of causes names event `e` for host `k`. -/
def Hub.named (h : Hub) (cs : List Cause) (k e : Nat) : Bool :=
  cs.any (fun c => decide (c.event = e) && h.inScope c.scope k)

/-- The events a list of causes names, each once, without reserved ones (R331). -/
def causeEvents (cs : List Cause) : List Nat :=
  cs.foldl (fun l c => if isReservedEvent c.event then l else withOne l c.event) []

/-- Raises a list of causes: several causes of one event for one host make one raising (R328). -/
def Hub.raiseAll (h : Hub) (cs : List Cause) : Hub :=
  h.forAll (List.range 8) (fun h k =>
    h.forAll (causeEvents cs) (fun h e => if h.named cs k e then h.raiseFor k e else h))

/-- The causes a boundary may raise now: none before event service begins (R336), and not the supervisor's while it restarts. -/
def Hub.raisable (h : Hub) (c : Cause) : Bool :=
  decide (1 ≤ h.boot.service) && !(h.sup.restarting && supervisorJudged c.event)

/-- The raising at a block boundary (R328, R336). -/
def Hub.raiseDue (h : Hub) : Hub :=
  let now := h.evDue.filter h.raisable
  let rest := h.evDue.filter (fun c => !h.raisable c)
  ({ h with evDue := rest ++ h.evNext, evNext := [] }).raiseAll now

/-- Whether host `k` has an unmasked pending event (R335). -/
def Hub.alerting (h : Hub) (k : Nat) : Bool := decide ((h.pending k &&& ~~~ h.eventMask k) ≠ 0)

/-- Writes of ones clear pending bits (R333). -/
def Hub.clearPending (h : Hub) (k : Nat) (bits : BitVec 128) : Hub :=
  { h with pend := tput h.pend k (h.pending k &&& ~~~ bits) }

/-- A host's event mask (R332); the bits of reserved events stay zero. -/
def Hub.writeMask (h : Hub) (k : Nat) (bits : BitVec 128) : Hub :=
  { h with mask := tput h.mask k (bits &&& eventBits) }

/-- Occurrence counts of one host cleared (R341). -/
def Hub.clearOccurrences (h : Hub) (k : Nat) : Hub := { h with occ := tput h.occ k [] }

/-! ## Requests for the non-volatile store (R276, R278) -/

def Hub.modStore (h : Hub) (f : Store → Store) : Hub := { h with store := f h.store }

/-- A request joins the queue; the first in a dip raises E5. -/
def Hub.request (h : Hub) (r : StoreReq) : Hub :=
  let h := h.when (h.supply.dip && !h.store.e5Done) (·.cause evNvInhibit)
  h.modStore (fun s => { s with queue := s.queue ++ [r], e5Done := h.supply.dip })

/-! ## Counters with a saturation flag (R339) -/

/-- Clip counter of an input (R42). -/
def Hub.countClip (h : Hub) (n : Nat) : Hub :=
  let c := (h.input n).clipCount
  let h := h.modInput n (fun x => { x with clipCount := satInc 65535 c, sat := if c + 1 = 65535 then x.sat ||| 1 else x.sat })
  h.when (decide (c + 1 = 65535)) (·.cause evCounterSat)

/-- Overload counter of an input (R42). -/
def Hub.countOverload (h : Hub) (n : Nat) : Hub :=
  let c := (h.input n).overloadCount
  let h := h.modInput n (fun x => { x with overloadCount := satInc 65535 c, sat := if c + 1 = 65535 then x.sat ||| 2 else x.sat })
  h.when (decide (c + 1 = 65535)) (·.cause evCounterSat)

/-- Phantom fault counter of an input (R34). -/
def Hub.countPhantomFault (h : Hub) (n : Nat) : Hub :=
  let c := (h.input n).phantomFaults
  let h := h.modInput n (fun x => { x with phantomFaults := satInc 255 c, sat := if c + 1 = 255 then x.sat ||| 4 else x.sat })
  h.when (decide (c + 1 = 255)) (·.cause evCounterSat)

/-- Clip counter of a bus (R141). -/
def Hub.countBusClip (h : Hub) (b : Nat) : Hub :=
  let c := (h.bus b).clipCount
  let h := h.modBus b (fun x => { x with clipCount := satInc 65535 c, sat := x.sat || decide (c + 1 = 65535) })
  h.when (decide (c + 1 = 65535)) (·.cause evCounterSat)

/-- Slip counter of a port in one direction (R242). -/
def Hub.countSlip (h : Hub) (p : Nat) (out : Bool) : Hub :=
  let c := if out then (h.port p).dout.slips else (h.port p).din.slips
  let flag := if out then 2 else 1
  let h := h.modPort p (fun x =>
    let x := if out then { x with dout := { x.dout with slips := satInc 65535 c } } else { x with din := { x.din with slips := satInc 65535 c } }
    { x with sat := if c + 1 = 65535 then x.sat ||| flag else x.sat })
  h.when (decide (c + 1 = 65535)) (·.cause evCounterSat)

/-- Saturation bits of all the counters of one kind (R341, SAT_SUMMARY). -/
def Hub.satSummary (h : Hub) : Nat :=
  b2n (h.ins.any (fun e => bit e.2.sat 0)) + 2 * b2n (h.ins.any (fun e => bit e.2.sat 1)) + 4 * b2n (h.ins.any (fun e => bit e.2.sat 2)) +
  8 * b2n (h.ports.any (fun e => bit e.2.sat 0)) + 16 * b2n (h.ports.any (fun e => bit e.2.sat 1)) + 32 * b2n (h.buses.any (fun e => e.2.sat))

/-! ## Episodes (R41, R86, R102, R141, R240) -/

/-- An occurrence of an episodic cause: the start of an episode acts, every occurrence restarts the quiet interval. -/
def Hub.episode (h : Hub) (e : Episode) (quiet : Nat) (atStart : Hub → Hub) : Hub :=
  if h.armed (.episode e) && !h.due (.episode e) then h.start (.episode e) quiet
  else (atStart h).start (.episode e) quiet

end Sys2Proof.Machine
end

