-- ==== Sys2Proof/Machine/Inputs.lean ====
section
/-! DEFINITION. Input slices and headset microphones (R29 to R52): phantom power, polarity, settling, clip and overload, electret bias. -/

namespace Sys2Proof.Machine

/-! ## Streams of the sources 1 to 52 -/

/-- Stream of IN1 to IN48 (1 to 48) or HM1 to HM4 (49 to 52). -/
def Hub.stream (h : Hub) (src : Nat) : Stream :=
  if src ≤ 48 then (h.input src).stream else (h.headMic (src - 48)).stream

def Hub.modStream (h : Hub) (src : Nat) (f : Stream → Stream) : Hub :=
  if src ≤ 48 then h.modInput src (fun x => { x with stream := f x.stream })
  else h.modHeadMic (src - 48) (fun x => { x with stream := f x.stream })

def Hub.fe (h : Hub) (src : Nat) : FeState := if src ≤ 48 then (h.input src).fe else (h.headMic (src - 48)).fe

def Hub.setFe (h : Hub) (src : Nat) (s : FeState) : Hub :=
  if src ≤ 48 then h.modInput src (fun x => { x with fe := s }) else h.modHeadMic (src - 48) (fun x => { x with fe := s })

/-- The stream carries digital zero from now on. -/
def Hub.zeroStream (h : Hub) (src : Nat) : Hub := h.modStream src (fun x => { x with gate := Fade.steady 0 })

/-- The stream fades in over 10 ms with a raised cosine (R43, R49). -/
def Hub.fadeInStream (h : Hub) (src : Nat) : Hub :=
  h.modStream src (fun x => { x with gate := x.gate.to unity h.now (ms 10) })

/-- Power domain of an input: bit of DOMAIN_STATE (R384). -/
def Hub.groupOn (h : Hub) (n : Nat) : Bool := bit h.pwr.domains ((n - 1) / 4)

/-- Whether the front end of a source has supply: group domain for inputs; HM1 to HM4 have no domain of their own (R364). -/
def Hub.sourceOn (h : Hub) (src : Nat) : Bool := if src ≤ 48 then h.groupOn src else true

/-! ## Hardware mute membership (R48, R52) -/

/-- Active mask of mute group `k`. -/
def Hub.muteMask (h : Hub) (k : Nat) : Nat := tgetD h.boot.muteMask k 0

/-- Source 1 to 52 is a member of mute group `k`: bits [47:0] are IN48 to IN1, bits [51:48] HM4 to HM1. -/
def Hub.member (h : Hub) (k src : Nat) : Bool := bit (h.muteMask k) (src - 1)

/-- HMUTEk is low. -/
def Hub.hmuteLow (h : Hub) (k : Nat) : Bool := bit h.ext.hmutePins k

/-- A hardware mute other than `k` still holds the source, or was released less than 20 ms ago (R49). -/
def Hub.heldByOther (h : Hub) (k src : Nat) : Bool :=
  (List.range 4).any (fun j => decide (j ≠ k) && h.member j src && (h.hmuteLow j || h.armed (.hmute j)))

/-- Some asserted mute group includes the source. -/
def Hub.hwMuted (h : Hub) (src : Nat) : Bool := (List.range 4).any (fun j => h.member j src && h.hmuteLow j)

/-! ## Phantom power (R33 to R37) -/

def Hub.modPhantom (h : Hub) (n : Nat) (f : Phantom → Phantom) : Hub :=
  h.modInput n (fun x => { x with phantom := f x.phantom })

/-- VPH in millivolts, as last measured (R36). -/
def Hub.vphMv (h : Hub) : Nat := h.ext.vph * 10

/-- Voltage of PFn now. -/
def Hub.pfMv (h : Hub) (n : Nat) : Nat := (h.input n).phantom.pf.at h.now

/-- Starts the turn-on ramp from the voltage reached, at VPH per 100 ms (R33, R35). -/
def Hub.phantomOn (h : Hub) (n : Nat) : Hub :=
  let v := h.pfMv n
  let len := if h.vphMv = 0 then 0 else (ms 100 * (h.vphMv - v) + h.vphMv - 1) / h.vphMv
  let h := h.modPhantom n (fun p =>
    { p with state := .rampOn, closed := true, armed := false, onAfter := false, offAfter := false, readsZero := false, want := true
             pf := { v0 := v, v1 := h.vphMv, t0 := h.now, len := len } })
  (h.start (.phantomRamp n) len).cancel (.phantomArm n)

/-- VPH changes during a turn-on ramp: the ramp keeps its end and aims at the new VPH (R33, log 46). -/
def Hub.phantomAim (h : Hub) (n : Nat) : Hub :=
  let v := h.pfMv n
  let left := match h.deadline (.phantomRamp n) with | some d => d - h.now | none => 0
  h.modPhantom n (fun p => { p with pf := { v0 := v, v1 := h.vphMv, t0 := h.now, len := left } })

/-- Starts the turn-off ramp from the voltage reached, at VPH per 200 ms, leaving the input in state `st` (R33, R34). -/
def Hub.phantomOff (h : Hub) (n : Nat) (st : PhantomState) : Hub :=
  let v := h.pfMv n
  let len := if h.vphMv = 0 then 0 else (ms 200 * v + h.vphMv - 1) / h.vphMv
  let h := h.modPhantom n (fun p =>
    { p with state := st, closed := false, armed := false, onAfter := false, offAfter := false, want := false
             pf := { v0 := v, v1 := 0, t0 := h.now, len := len } })
  (h.start (.phantomRamp n) len).cancel (.phantomArm n)

/-- Phantom requested with VPH below 10 V: NO_SUPPLY with the switch closed (R36). -/
def Hub.phantomNoSupply (h : Hub) (n : Nat) : Hub :=
  (h.modPhantom n (fun p => { p with state := .noSupply, closed := true, armed := false, want := true, onAfter := false, readsZero := false })
    |>.cancel (.phantomRamp n)).cancel (.phantomArm n)

/-- Turns phantom on, or waits for the supply (R36). -/
def Hub.phantomRequestOn (h : Hub) (n : Nat) : Hub := if h.ext.vphLow then h.phantomNoSupply n else h.phantomOn n

/-- A PHANTOM value takes effect: the table of R35. With the group domain off, or settling with a value held, it is held. -/
def Hub.phantomApply (h : Hub) (n : Nat) (v : Bool) : Hub :=
  if !h.groupOn n || (h.input n).phantom.held.isSome then
    h.modPhantom n (fun p => { p with held := some v })
  else
    let ramping := h.armed (.phantomRamp n) && !h.due (.phantomRamp n)
    match (h.input n).phantom.state, v with
    | .off, true => h.phantomRequestOn n
    | .off, false => h
    | .rampOn, true => h
    | .rampOn, false => h.phantomOff n .rampOff
    | .on, true => h
    | .on, false => h.phantomOff n .rampOff
    | .rampOff, false => h.modPhantom n (fun p => { p with onAfter := false, want := false })
    | .rampOff, true => h.modPhantom n (fun p => { p with onAfter := true, want := true })
    | .fault, true =>
      if ramping then h.modPhantom n (fun p => { p with onAfter := true, offAfter := false, readsZero := false, want := true })
      else h.phantomRequestOn n
    | .fault, false =>
      if ramping then h.modPhantom n (fun p => { p with offAfter := true, onAfter := false, readsZero := false })
      else h.modPhantom n (fun p => { p with state := .off, readsZero := false })
    | .noSupply, false =>
      h.modPhantom n (fun p => { p with state := .off, closed := false, want := false, pf := { v0 := 0, v1 := 0 } })
    | .noSupply, true => h

/-- R33: the turn-on ramp reaches VPH; the fault timer arms 50 ms later. -/
def Hub.phantomRampOnEnd (h : Hub) (n : Nat) : Hub :=
  if (h.input n).phantom.state = .rampOn then
    h.whenDue (.phantomRamp n) (fun h => (h.modPhantom n (fun p => { p with state := .on })).start (.phantomArm n) (ms 50))
  else h

/-- R33, R35: the turn-off ramp reaches 0 V; a held turn-on starts in the same frame. -/
def Hub.phantomRampOffEnd (h : Hub) (n : Nat) : Hub :=
  let p := (h.input n).phantom
  if p.state = .rampOff ∨ p.state = .fault then
    h.whenDue (.phantomRamp n) (fun h =>
      let h := h.modPhantom n (fun p => { p with pf := { v0 := 0, v1 := 0 } })
      if p.onAfter then h.phantomRequestOn n
      else if p.state = .rampOff then h.modPhantom n (fun p => { p with state := .off })
      else if p.offAfter then h.modPhantom n (fun p => { p with state := .off, offAfter := false, readsZero := false })
      else h)
  else h

/-- R33: the fault timer arms while the state is ON. -/
def Hub.phantomFaultTimerArm (h : Hub) (n : Nat) : Hub :=
  h.whenDue (.phantomArm n) (fun h =>
    if (h.input n).phantom.state = .on then h.modPhantom n (fun p => { p with armed := true }) else h)

/-- R34: the fault criterion is met with the timer armed. -/
def Hub.phantomFault (h : Hub) (n : Nat) : Hub :=
  if (h.input n).phantom.armed = true ∧ (h.input n).phantom.state = .on then
    let h := (h.phantomOff n .fault).modPhantom n (fun p => { p with readsZero := true })
    let h := (h.countPhantomFault n).modInput n (fun x => { x with cause := x.cause ||| 4 })
    h.episode (.inputPhantom n) (ms 100) (·.cause (evInputGroup n))
  else h

/-- R36: VPH below 10 V. -/
def Hub.vphLoss (h : Hub) : Hub :=
  let h := { h with ext := { h.ext with vphLow := true } }
  h.forAll (upTo 1 48) (fun h n =>
    let p := (h.input n).phantom
    if p.want && (decide (p.state = .rampOn) || decide (p.state = .on)) then h.phantomNoSupply n else h)

/-- R35: VPH above 10.5 V starts the limited turn-on ramp of each NO_SUPPLY input; the measures of VPH that follow set what it aims at (log 46). -/
def Hub.vphReturn (h : Hub) : Hub :=
  let h := { h with ext := { h.ext with vphLow := false, vph := max h.ext.vph 1050 } }
  h.forAll (upTo 1 48) (fun h n => if (h.input n).phantom.state = .noSupply then h.phantomOn n else h)

/-- R37: group `k` starts at 60 ms + 25 k ms from supplies valid (35 ms + 25 k ms from FRAME_COUNT 0, 20 ms less
where FRAME_COUNT starts at 45 ms, R204; log 31). -/
def Hub.phantomGroupRampStart (h : Hub) (k : Nat) : Hub :=
  let early := if h.clk.bootHold then 20 else 0
  if 1 ≤ h.boot.service ∧ ms (35 + 25 * k) ≤ h.now + ms early then
    h.forAll (upTo (4 * k + 1) 4) (fun h n =>
      let p := (h.input n).phantom
      if h.live? (inFrontIdx n) 1 = 1 ∧ (p.state = .off ∨ p.state = .rampOff) ∧ p.want = false ∧ p.readsZero = false ∧ h.groupOn n = true then
        h.phantomApply n true else h)
  else h

/-! ## Polarity (R38) and the high-pass filter (R39) -/

/-- A POLARITY value takes effect. -/
def Hub.polarityApply (h : Hub) (src : Nat) (v : Bool) : Hub :=
  let s := h.stream src
  let h := h.modStream src (fun x => { x with polTarget := v })
  match s.polPhase with
  | .fadingOut =>
    if v = s.inverted then
      (h.modStream src (fun x => { x with polPhase := .fadingIn, polFade := x.polFade.to unity h.now (ms 10) })).cancel (.polarity src)
    else h
  | _ =>
    if v = s.inverted then h
    else (h.modStream src (fun x => { x with polPhase := .fadingOut, polFade := x.polFade.to 0 h.now (ms 10) })).start (.polarity src) (ms 10)

/-- R38: the fade-out reaches zero, the sign inverts and the 10 ms fade-in starts. -/
def Hub.polarityInvert (h : Hub) (src : Nat) : Hub :=
  h.whenDue (.polarity src) (fun h =>
    h.modStream src (fun x =>
      { x with inverted := x.polTarget, polPhase := .fadingIn, polFade := { m0 := 0, m1 := unity, t0 := h.now, len := ms 10 } }))

/-- The square root of 2 in 2^-60. -/
def root2 : Nat := Nat.sqrt (2 * unity * unity)

/-- The tangent of pi fc / Fc for a corner in Hz, in 2^-60: what the bilinear transform makes of the corner (R39, log 15). -/
def hpfWarp (fc : Nat) : Nat :=
  let t : Int := ((fixPi * fc / 96000 : Nat) : Int)
  (fixSin t * (unity : Int) / fixSin ((fixPi / 2 : Nat) - t)).toNat

/-- One sample of the 2nd-order Butterworth high-pass filter: `y = (x - 2 x1 + x2 - 2 (k^2 - 1) y1 - (1 - root2 k + k^2) y2) / (1 + root2 k + k^2)`,
with its outputs in 2^-40 step (R39, log 15). -/
def hpfStep (fc : Nat) (x x1 x2 y1 y2 : Int) : Int :=
  let k := hpfWarp fc
  let k2 : Int := ((k * k / unity : Nat) : Int)
  let rk : Int := ((root2 * k / unity : Nat) : Int)
  let one : Int := (unity : Int)
  ((x - 2 * x1 + x2) * 1099511627776 * one - 2 * (k2 - one) * y1 - (one - rk + k2) * y2) / (one + rk + k2)

/-- A core-stream sample through the high-pass filter of a stream; off, it passes, and the memory follows (R39, log 15). -/
def Stream.highPass (s : Stream) (x : Int) : Stream × Int :=
  let y := if s.hpf = 0 then x * 1099511627776 else hpfStep s.hpf x (s.hpfX.getD 0 0) (s.hpfX.getD 1 0) (s.hpfY.getD 0 0) (s.hpfY.getD 1 0)
  ({ s with hpfX := [x, s.hpfX.getD 0 0], hpfY := [y, s.hpfY.getD 0 0] }, roundFree y 1099511627776)

/-- A new corner loads at its block boundary (R39). -/
def Hub.hpfApply (h : Hub) (src v : Nat) : Hub := h.modStream src (fun x => { x with hpf := v })

/-! ## Electret bias (R44 to R46) -/

/-- BIAS_ENABLE takes effect: a written 1 switches the bias on, also out of FAULT (R45). -/
def Hub.biasApply (h : Hub) (m : Nat) (v : Bool) : Hub :=
  h.modHeadMic m (fun x => { x with biasEnable := v, autoBias := false, bias := if v then .on else .off })

/-- R45: bias current above 3 mA for 50 ms; the timer is suspended while a button is accepted (R125). -/
def Hub.biasFault (h : Hub) (m : Nat) : Hub :=
  if (h.headMic m).bias = .on ∧ (h.headphone m).jack.buttons = 0 then
    let h := h.modHeadMic m (fun x => { x with bias := .fault })
    (h.modHeadphone m (fun x => { x with cause := x.cause ||| 4 })).cause (evJack m)
  else h

/-! ## Writes to the front-end object (R31, R40, R46, R50) -/

/-- A front-end setting of a source acts: phantom or bias, impedance or bias voltage, polarity, high-pass filter. -/
def Hub.frontSet (h : Hub) (src sub v : Nat) : Hub :=
  match sub with
  | 1 => if src ≤ 48 then h.phantomApply src (decide (v = 1)) else h.biasApply (src - 48) (decide (v = 1))
  | 2 => if src ≤ 48 then h.modInput src (fun x => { x with impedance := v }) else h.modHeadMic (src - 48) (fun x => { x with biasVoltage := v })
  | 3 => h.polarityApply src (decide (v = 1))
  | 4 => h.hpfApply src v
  | _ => h

/-- A front-end write comes into force; that of a source under a hardware mute waits until its front end is powered again (R50, log 117). -/
def Hub.frontApply (h : Hub) (src sub v : Nat) : Hub :=
  if h.fe src = .hwMuted then h.modStream src (fun x => { x with heldFront := x.heldFront ++ [(sub, v)] }) else h.frontSet src sub v

/-- The writes held through a hardware mute act, before settling (R50). -/
def Hub.frontHeld (h : Hub) (src : Nat) : Hub :=
  (h.stream src).heldFront.foldl (fun h e => h.frontSet src e.1 e.2) (h.modStream src (fun x => { x with heldFront := [] }))

/-! ## Settling and group domains (R43) -/

/-- Front end powered: 20 ms of settling begin (R43, R436); under a hardware mute it stays cut (R48), and only the PHANTOM value held waits
for the 20 ms. -/
def Hub.settle (h : Hub) (src : Nat) : Hub :=
  let h := (h.zeroStream src).start (.settle src) (ms 20)
  if h.hwMuted src then (h.setFe src .hwMuted).modStream src (fun x => { x with privacy := true })
  else (h.frontHeld src).setFe src .settling

/-- The source is to carry signal: its group domain is not switched off (Off 1 of R43). -/
def Hub.sourceWanted (h : Hub) (src : Nat) : Bool := if src ≤ 48 then bit h.pwr.enable ((src - 1) / 4) else true

/-- A rail mute of R436 or R437 is in force. -/
def Hub.inputsMuted (h : Hub) : Bool := h.supply.inputMute || h.supply.avddFault

/-- The state of a front end at work: on relief, or running (R40). -/
def Hub.atWork (h : Hub) (src : Nat) : FeState :=
  if src ≤ 48 ∧ (h.input src).slice.state = .relieved then .onRelief else .running

/-- R43: settling complete; held PHANTOM values apply and the 10 ms fade-in starts. A source muted, or released less than 20 ms ago, waits for its
release (R49), one whose rails are low for their recovery (R436). -/
def Hub.frontEndSettled (h : Hub) (src : Nat) : Hub :=
  h.whenDue (.settle src) (fun h =>
    let h :=
      if src ≤ 48 then
        match (h.input src).phantom.held with
        | some v => (h.modPhantom src (fun p => { p with held := none })).phantomApply src v
        | none => h
      else h
    if h.fe src = .settling ∧ (h.stream src).privacy = false ∧ h.inputsMuted = false ∧ h.sourceWanted src = true then
      (h.setFe src (h.atWork src)).fadeInStream src
    else h)

/-! ## Clip, overload and their episodes (R41, R42) -/

/-- A frame with a clipped sample on input `n`. -/
def Hub.inputClip (h : Hub) (n : Nat) : Hub :=
  let h := (h.countClip n).modInput n (fun x => { x with cause := x.cause ||| 1 })
  h.episode (.inputClip n) (ms 100) (·.cause (evInputGroup n))

/-- The L modulator out of its stable range: one count per episode. -/
def Hub.inputOverload (h : Hub) (n : Nat) : Hub :=
  let h := h.modInput n (fun x => { x with cause := x.cause ||| 2 })
  h.episode (.inputOverload n) (ms 100) (fun h => (h.countOverload n).cause (evInputGroup n))

/-- R41: an episode ends after its quiet interval. -/
def Hub.episodeEnd (h : Hub) (e : Episode) : Hub := h.whenDue (.episode e) id

/-! ## The meanings of the rows -/

/-- R33. -/
def execPhantomRampOnEnd (n : Nat) (s : State) : Out := run (isInput n) (·.phantomRampOnEnd n) s
/-- R33. -/
def execPhantomRampOffEnd (n : Nat) (s : State) : Out := run (isInput n) (·.phantomRampOffEnd n) s
/-- R33. -/
def execPhantomFaultTimerArm (n : Nat) (s : State) : Out := run (isInput n) (·.phantomFaultTimerArm n) s
/-- R34. -/
def execPhantomFault (n : Nat) (s : State) : Out := run (isInput n) (·.phantomFault n) s
/-- R36. -/
def execVphLoss (s : State) : Out := always Hub.vphLoss s
/-- R35, R36. -/
def execVphReturn (s : State) : Out := always Hub.vphReturn s
/-- R37. -/
def execPhantomGroupRampStart (k : Nat) (s : State) : Out := run (decide (k < 12)) (·.phantomGroupRampStart k) s
/-- R38. -/
def execPolarityInvert (src : Nat) (s : State) : Out := run (isTrimSource src) (·.polarityInvert src) s
/-- R43. -/
def execFrontEndSettled (src : Nat) (s : State) : Out := run (isTrimSource src) (·.frontEndSettled src) s
/-- R41. -/
def execEpisodeEnd (e : Episode) (s : State) : Out := run (isEpisode e) (·.episodeEnd e) s
/-- R45. -/
def execBiasFault (m : Nat) (s : State) : Out := run (isHeadMic m) (·.biasFault m) s

end Sys2Proof.Machine
end

