-- ==== Sys2Proof/Machine/Outputs.lean ====
section
/-! DEFINITION. Line outputs (R76 to R108): CV queue, tick and slew, power-up, the change sequence, fast-mute, panic, fault and patrol. -/

namespace Sys2Proof.Machine

/-! ## Modes, ranges and codes (R77, R84) -/

def isCv (mode : Nat) : Bool := decide (mode = 2) || decide (mode = 3)

/-- The ranges each mode defines, and WIRING 1 for AUDIO only (R77). -/
def cfgOk (c : OutCfg) : Bool :=
  (match c.mode with
    | 2 => decide (c.range ≤ 3)
    | 3 => decide (c.range ≤ 1)
    | _ => decide (c.range = 0)) && (decide (c.wiring = 0) || decide (c.mode = 1))

/-- Bipolar ranges carry two's complement codes (R84). -/
def bipolar (c : OutCfg) : Bool := (decide (c.mode = 2) && (decide (c.range = 0) || decide (c.range = 2))) || (decide (c.mode = 3) && decide (c.range = 1))

/-- The number a code stands for in a range. -/
def codeValue (c : OutCfg) (v : BitVec 20) : Int := if bipolar c then v.toInt else v.toNat

/-- The 10 mV step limit in codes (R84). -/
def stepLimit (c : OutCfg) : Nat :=
  match c.mode, c.range with
  | 2, 0 => 524 | 2, 1 => 1048 | 2, 2 => 1048 | 2, 3 => 2097
  | _, _ => 524

/-- Span of a range in microvolts or nanoamperes over 2^20 codes (R84). -/
def span (c : OutCfg) : Int :=
  match c.mode, c.range with
  | 2, 0 => 20000000 | 2, 1 => 10000000 | 2, 2 => 10000000 | 2, _ => 5000000
  | _, 0 => 2000000 | _, _ => 4000000

def Hub.modCv (h : Hub) (n : Nat) (f : CvPart → CvPart) : Hub := h.modOutput n (fun o => { o with cv := f o.cv })
def Hub.modAudio (h : Hub) (n : Nat) (f : AudioPart → AudioPart) : Hub := h.modOutput n (fun o => { o with audio := f o.audio })
def Hub.outCause (h : Hub) (n k : Nat) : Hub := h.modOutput n (fun o => { o with cause := o.cause ||| 2 ^ k })

/-- MUTE_TIME and RAMP_TIME of an output in frames (R80). -/
def Hub.outMuteTime (h : Hub) (n : Nat) : Nat := us (h.live? (outIdx n + 1) 9)
def Hub.outRampTime (h : Hub) (n : Nat) : Nat := us (h.live? (outIdx n + 1) 8)

/-- MODE, RANGE and WIRING as the settings in force give them (R98, R103). -/
def Hub.settledCfg (h : Hub) (n : Nat) : OutCfg :=
  { mode := h.live? (outIdx n) 1, range := h.live? (outIdx n) 2, wiring := h.live? (outIdx n) 3 }

/-- Slew settings in force (R89). -/
def Hub.tickDiv (h : Hub) (n : Nat) : Nat := h.live? (outIdx n + 2) 5
def Hub.slewStep (h : Hub) (n : Nat) : Nat := h.live? (outIdx n + 2) 6
def Hub.slewDiv (h : Hub) (n : Nat) : Nat := h.live? (outIdx n + 2) 7

/-! ## States (R104) -/

/-- Steps 1 to 4 of the change sequence. -/
def Output.changing (o : Output) : Bool := decide (1 ≤ o.step) && decide (o.step ≤ 4)

/-- STATE of R104. Where several conditions hold at once, FAULT prevails, then a change in steps 1 to 4, FAST_MUTED and PANIC (log 27). -/
def Output.state (o : Output) (panic : Bool) : OutState :=
  if o.fault then .fault
  else if o.changing then .changing
  else if o.fast && o.powered && decide (o.cfg.mode ≠ 0) then .fastMuted
  else if decide (o.powerup ≠ 0) then .powering
  else if !o.powered || decide (o.cfg.mode = 0) then .off
  else if panic then .panic
  else if decide (o.step = 5) then .changing
  else if o.cv.powerupHold && isCv o.cfg.mode then .powerupHold
  else .running

def OutState.code : OutState → Nat
  | .off => 0 | .powering => 1 | .running => 2 | .changing => 3 | .fastMuted => 4 | .panic => 5 | .fault => 6 | .powerupHold => 7

def Hub.outState (h : Hub) (n : Nat) : OutState := (h.output n).state h.twi.panic

/-! ## CV queue (R88) -/

/-- Flushes the queue (R88, R93 step 0). -/
def Hub.cvFlush (h : Hub) (n : Nat) : Hub := h.modCv n (fun c => { c with queue := [] })

/-- The mode an output is heading for: that of the last accepted batch. -/
def Hub.acceptedMode (h : Hub) (n : Nat) : Nat := h.accepted (outIdx n) 1

/-- The output is in a CV mode, or a change to one is accepted and under way: running, pending or waiting for its block boundary (R88). -/
def Hub.cvOpen (h : Hub) (n : Nat) : Bool :=
  let o := h.output n
  isCv o.cfg.mode || (o.goal.any (isCv ·.mode)) || (o.pendingCfg.any (isCv ·.mode)) || isCv (h.acceptedMode n)

/-- The abort code of a queue write of `k` codes, CV_FLUSH as one of none (R88, R99), 0 where it is accepted. -/
def Hub.cvAbort (h : Hub) (n k : Nat) : Nat :=
  if !h.cvOpen n then 0x06
  else if (h.output n).fault then 0x08
  else if 32 < (h.output n).cv.queue.length + k then 0x08 else 0

/-- Appends codes (R88). -/
def Hub.cvAppend (h : Hub) (n : Nat) (codes : List (BitVec 20)) : Hub :=
  h.modCv n (fun c => { c with queue := c.queue ++ codes, everQueued := true })

/-- A write that exceeds 32 codes: cause bit and E74 (R88). -/
def Hub.cvOverflow (h : Hub) (n : Nat) : Hub := (h.outCause n 4).cause evCvOverflow

/-! ## CV tick (R87, R89) -/

/-- A tick of divider `k` falls where FRAME_COUNT is a multiple of 2^k. -/
def Hub.tickNow (h : Hub) (n : Nat) : Bool := decide (h.now % 2 ^ h.tickDiv n = 0) && decide ((h.output n).cv.tickAt ≠ some h.now)

/-- Whether the queue drains (R89). -/
def Output.drains (o : Output) (panic : Bool) : Bool :=
  match o.state panic with
  | .running | .powerupHold | .fastMuted | .panic => true
  | .changing => decide (o.step = 5)
  | _ => false

/-- Whether the output slews toward code 0 (R89). PANIC_MUTE acts on every output, one in FAULT too (R97). -/
def Output.toZero (o : Output) (panic : Bool) : Bool := decide (o.state panic = .panic) || o.changing || (panic && o.fault)

/-- The pop of a tick: newest target, or the empty episode. -/
def Hub.cvPop (h : Hub) (n : Nat) : Hub :=
  let o := h.output n
  if o.drains h.twi.panic then
    match o.cv.queue with
    | c :: rest => h.modCv n (fun x => { x with target := c, queue := rest, emptyReported := false, powerupHold := false })
    | [] =>
      if o.cv.emptyReported = false ∧ o.cv.everQueued = true then
        ((h.modCv n (fun x => { x with emptyReported := true })).outCause n 5).cause evCvEmpty
      else h
  else h

/-- The slew of a tick. -/
def Hub.cvSlew (h : Hub) (n : Nat) : Hub :=
  let o := h.output n
  let c := o.cv
  if c.divCount + 1 < h.slewDiv n then h.modCv n (fun x => { x with divCount := x.divCount + 1 })
  else
    let zero := o.toZero h.twi.panic
    let goal : BitVec 20 := if zero || decide (o.powerup ≠ 0) then 0 else c.target
    let step := if zero || c.stepLimited then min (h.slewStep n) (stepLimit o.cfg) else h.slewStep n
    let delta := codeValue o.cfg goal - codeValue o.cfg c.present
    let next : BitVec 20 :=
      if delta.natAbs ≤ step then goal
      else BitVec.ofInt 20 (codeValue o.cfg c.present + (if delta < 0 then -(step : Int) else (step : Int)))
    h.modCv n (fun x =>
      { x with divCount := 0, present := next, previous := c.present
               updatedAt := if next = c.present then x.updatedAt else h.now
               stepLimited := if delta.natAbs ≤ step ∧ goal = c.target then false else x.stepLimited })

/-- R89: a CV tick of output `n`. -/
def Hub.cvTick (h : Hub) (n : Nat) : Hub :=
  if h.tickNow n ∧ (h.output n).powered = true ∧ isCv (h.output n).cfg.mode = true then
    ((h.modCv n (fun c => { c with tickAt := some h.now })).cvPop n).cvSlew n
  else h

/-! ## Compliance (R86) -/

/-- The condition is over: its episode ends after 100 ms without recurrence (R86). -/
def Hub.complianceOver (h : Hub) (n : Nat) : Hub :=
  if (h.output n).compliance then (h.modOutput n (fun o => { o with compliance := false })).start (.episode (.compliance n)) (ms 100) else h

/-- R86: the condition begins or ends. While it lasts its episode does not end. -/
def Hub.cvCompliance (h : Hub) (n : Nat) (present : Bool) : Hub :=
  let o := h.output n
  if o.cfg.mode ≠ 3 ∨ o.powered = false then h
  else if !present then h.complianceOver n
  else if o.compliance then h
  else ((h.modOutput n (fun o => { o with compliance := true })).episode (.compliance n) 0 (fun h => (h.outCause n 3).cause (evOutputGroup n)))
    |>.cancel (.episode (.compliance n))

/-! ## Mute multiplier (R79 stage 7) -/

/-- The stages fade out, or in, over MUTE_TIME. -/
def Hub.outFade (h : Hub) (n m : Nat) : Hub :=
  let t := h.outMuteTime n
  h.modAudio n (fun a => { a with protect := a.protect.to m h.now t })

/-- As `outFade`, from `delay` frames on. -/
def Hub.outFadeLater (h : Hub) (n m delay : Nat) : Hub :=
  let t := h.outMuteTime n
  h.modAudio n (fun a => { a with protect := a.protect.to m (h.now + delay) t })

/-! ## Power-up (R91, R98) -/

/-- A fast-mute of R435 or R437 is in force. -/
def Hub.railsLow (h : Hub) : Bool := h.supply.fastMute || h.supply.avddFault

/-- Step 2 of R91: the slice is powered with its configuration, CV outputs load code 0; the target starts at 0. OFF outputs stay clamped. -/
def Hub.outputPower (h : Hub) (n : Nat) (c : OutCfg) : Hub :=
  let h := h.modOutput n (fun o =>
    { o with powered := true, fast := h.railsLow && decide (c.mode ≠ 0), cfg := c, shownMode := c.mode, shownRange := c.range, goal := none, step := 0, goingDown := false, openAt := none
             powerup := if c.mode = 0 then 0 else 2, cv := { o.cv with present := 0, stepLimited := false }
             audio := { o.audio with protect := Fade.steady 0 } })
  if c.mode = 0 then h else h.start (.outputPowerup n) (ms 2)

/-- R91: a power-up step falls due. After a reset a CV output takes POWERUP_CODE; after a domain switch-on it keeps its target (R98). -/
def Hub.outputPowerupStep (h : Hub) (n : Nat) : Hub :=
  let o := h.output n
  if o.powerup = 2 then
    h.whenDue (.outputPowerup n) (fun h =>
      let len := if isCv o.cfg.mode then ms 1 else ms 20
      (h.modOutput n (fun o => { o with powerup := 3, openAt := if o.fast then none else some (h.now + len) })).start (.outputPowerup n) len)
  else if o.powerup = 3 then
    h.whenDue (.outputPowerup n) (fun h =>
      if isCv o.cfg.mode then
        if 1 ≤ h.boot.service ∨ o.fault = true then h.modOutput n (fun o => { o with powerup := 0 })
        else
          (h.modOutput n (fun o => { o with powerup := 0 })).modCv n (fun c =>
            { c with target := BitVec.ofNat 20 (h.live? (outIdx n) 4), powerupHold := true })
      else (h.modOutput n (fun o => { o with powerup := 4 })).start (.outputPowerup n) (ms 3))
  else if o.powerup = 4 ∧ 1 ≤ h.boot.service then
    h.whenDue (.outputPowerup n) (fun h =>
      let h := h.modOutput n (fun o => { o with powerup := 0 })
      if o.fast || o.fault then h else h.outFade n unity)
  else h

/-! ## The change sequence (R93 to R95) -/

/-- Step 1 begins: CV slews to 0 by its ticks, AUDIO fades out over MUTE_TIME, OFF has nothing to do. -/
def Hub.outputStep1 (h : Hub) (n : Nat) (goal : Option OutCfg) : Hub :=
  let mode := (h.output n).cfg.mode
  let h := h.modOutput n (fun o => { o with step := 1, goal := goal, pendingCfg := none })
  if mode = 1 then (h.outFade n 0).start (.outputChange n) (h.outMuteTime n) else h.start (.outputChange n) 0

/-- A change to a configuration begins at this block boundary; one equal to that in force starts no sequence (R77). -/
def Hub.outputBegin (h : Hub) (n : Nat) (c : OutCfg) : Hub :=
  if c = (h.output n).cfg then h.modOutput n (fun o => { o with pendingCfg := none }) else h.outputStep1 n (some c)

/-- The configuration an output is heading for, of the batches that have taken effect (R77). -/
def Output.heading (o : Output) : OutCfg := (o.pendingCfg.getD (o.goal.getD o.cfg))

/-- A change has to wait (R95): another runs up to its CHANGE_DONE, the power-up sequence runs up to the begin of step 5 of R91 (log 124), a relief
crossfade, or FAULT (log 122). -/
def Output.mustWait (o : Output) : Bool :=
  o.changing || o.doneDue || o.goal.isSome || decide (o.powerup ≠ 0) || o.reliefXfade || o.fault

/-- A slice without power takes its settings as its configuration (R98), and a target of the former range is dropped (log 107). -/
def Hub.outputSettle (h : Hub) (n : Nat) (c : OutCfg) : Hub :=
  (h.complianceOver n).modOutput n (fun o =>
    { o with cfg := c, pendingCfg := none, shownMode := if o.doneDue then o.shownMode else c.mode, shownRange := if o.doneDue then o.shownRange else c.range
             cv := if c = o.cfg then o.cv else { o.cv with target := 0 } })

/-- MODE, RANGE and WIRING of a batch take effect at its block boundary (R77, R95). -/
def Hub.outputCfgApply (h : Hub) (n : Nat) (c : OutCfg) : Hub :=
  let o := h.output n
  if !o.powered then h.outputSettle n c
  else if c = o.heading then h
  else if o.mustWait then h.modOutput n (fun o => { o with pendingCfg := some c })
  else h.outputBegin n c

/-- Step 0 of R93, at acceptance: the queue is flushed unless the batch equals what the output is heading for by the batches accepted
before it (R77). -/
def Hub.outputAccept (h : Hub) (n : Nat) (before c : OutCfg) : Hub :=
  if c = before then h else h.cvFlush n

/-- The output is unpowered; with the last of its group the group domain reads off (R98, R364). -/
def Hub.outputUnpower (h : Hub) (n : Nat) : Hub :=
  let h := ((h.modOutput n (fun o =>
    { o with powered := false, step := 0, goal := none, goingDown := false, openAt := none, powerup := 0 })).cancel (.outputChange n)).outputSettle n
    (h.settledCfg n)
  let k := (n - 1) / 4
  if bit h.pwr.enable (12 + k) && decide (h.pwr.state = 0) then h.outputPower n (h.settledCfg n)
  else if (upTo (4 * k + 1) 4).all (fun m => !(h.output m).powered) && !bit h.pwr.enable (12 + k) then
    { h with pwr := { h.pwr with domains := setBit h.pwr.domains (12 + k) false } }
  else h

/-- An output goes down with its domain (R98): steps 1 and 2 of R93, after a running change. -/
def Hub.outputDown (h : Hub) (n : Nat) : Hub :=
  let o := h.output n
  if !o.powered then h
  else if o.cfg.mode = 0 ∧ o.changing = false then h.outputUnpower n
  else if o.changing then h.modOutput n (fun o => { o with goingDown := true })
  else (h.modOutput n (fun o => { o with goingDown := true, powerup := 0 })).outputStep1 n none

/-- A change is over (end of step 4, or of step 3 for OFF): CHANGE_DONE and the group event follow at the next block boundary (R94). -/
def Hub.outputDone (h : Hub) (n : Nat) : Hub :=
  (h.modOutput n (fun o => { o with doneDue := true, goal := none })).cause (evOutputGroup n)

/-- R93: a step of the sequence finishes and the next begins. -/
def Hub.outputChangeStep (h : Hub) (n : Nat) : Hub :=
  let o := h.output n
  match o.step with
  | 1 =>
    if isCv o.cfg.mode && decide (o.cv.present ≠ 0) then h
    else h.whenDue (.outputChange n) (fun h => (h.modOutput n (fun o => { o with step := 2, openAt := none })).start (.outputChange n) (ms 1))
  | 2 =>
    h.whenDue (.outputChange n) (fun h =>
      match o.goal with
      | none => h.outputUnpower n
      | some _ => h.modOutput n (fun o => { o with step := 3 }))
  | 3 =>
    match o.goal with
    | none => h
    | some c =>
      let target := if o.fault && isCv c.mode then BitVec.ofNat 20 (h.live? (outIdx n) 5) else 0
      let h := (h.complianceOver n).modOutput n (fun o =>
        { o with cfg := c, fast := decide (c.mode ≠ 0) && (o.fast || h.railsLow), cv := { o.cv with present := 0, target := target, powerupHold := false, stepLimited := false } })
      if c.mode = 0 then
        let h := (h.modOutput n (fun o => { o with step := 0 })).outputDone n
        if o.goingDown then h.outputUnpower n else h
      else
        let h := h.modOutput n (fun o => { o with step := 4, openAt := if o.fast then none else some (h.now + ms 1) })
        if (h.output n).fast then h else h.start (.outputChange n) (ms 1)
  | 4 =>
    if o.fast then h
    else h.whenDue (.outputChange n) (fun h =>
      let h := (h.modOutput n (fun o => { o with step := 5, cv := { o.cv with stepLimited := true } })).outputDone n
      let h := if o.cfg.mode = 1 then (if o.fault then h else h.outFade n unity).start (.outputChange n) (h.outMuteTime n) else h.start (.outputChange n) 0
      if o.goingDown then h.outputStep1 n none else h)
  | 5 =>
    if isCv o.cfg.mode && (decide (o.cv.present ≠ o.cv.target) || o.cv.stepLimited) then h
    else h.whenDue (.outputChange n) (fun h => h.modOutput n (fun o => { o with step := 0 }))
  | _ => h

/-- The output's part of a block boundary: a pending change starts, CHANGE_DONE shows (R94, R95), counters of the block start anew. -/
def Hub.outputBoundary (h : Hub) (n : Nat) : Hub :=
  let o := h.output n
  let h :=
    match o.pendingCfg with
    | some c => if o.mustWait || !o.powered || o.goingDown then h else h.outputBegin n c
    | none => h
  let h :=
    if o.doneDue then
      (h.modOutput n (fun o => { o with doneDue := false, shownMode := o.cfg.mode, shownRange := o.cfg.range })).outCause n 0
    else h
  h

/-! ## Fast-mute, panic, fault (R96, R97, R99) -/

/-- R96: the mute switch of an output that is not OFF closes. -/
def Hub.outputFastMute (h : Hub) (n : Nat) : Hub :=
  let o := h.output n
  if o.powered ∧ o.cfg.mode ≠ 0 then
    h.modOutput n (fun o => { o with fast := true, openAt := none, audio := { o.audio with protect := Fade.steady 0 } })
  else h

/-- R96: recovery: the switch opens over 1 ms, AUDIO fades in over MUTE_TIME, CV slews from 0 V under the step limit. In FAULT the stage 7 mute
of R99 stands. -/
def Hub.outputFastRelease (h : Hub) (n : Nat) : Hub :=
  let o := h.output n
  if o.fast then
    let h := h.modOutput n (fun o => { o with fast := false })
    if o.step = 4 then (h.modOutput n (fun o => { o with openAt := some (h.now + ms 1) })).start (.outputChange n) (ms 1)
    else if o.changing then h
    else
      let h := h.modOutput n (fun o => { o with openAt := some (h.now + ms 1), cv := { o.cv with present := 0, stepLimited := true } })
      if o.cfg.mode = 1 ∧ o.powerup = 0 ∧ o.fault = false then h.outFadeLater n unity (ms 1) else h
  else h

/-- R97: an AUDIO output mutes over MUTE_TIME; CV outputs slew to 0 by their ticks. -/
def Hub.outputPanic (h : Hub) (n : Nat) : Hub :=
  let t := h.outMuteTime n
  h.modAudio n (fun a => { a with panicFade := a.panicFade.to 0 h.now t })

/-- R97: release. -/
def Hub.outputPanicRelease (h : Hub) (n : Nat) : Hub :=
  let t := h.outMuteTime n
  (h.modAudio n (fun a => { a with panicFade := a.panicFade.to unity h.now t })).modCv n (fun c => { c with stepLimited := true })

/-- R99: relief is exhausted; a CV output slews to FAULT_CODE under the step limit, an AUDIO output mutes. A change that runs completes and
leads to the same state (log 122). -/
def Hub.outputFault (h : Hub) (n : Nat) : Hub :=
  let h := h.modOutput n (fun o => { o with fault := true })
  let h :=
    if isCv (h.output n).cfg.mode then
      (h.cvFlush n).modCv n (fun c => { c with target := BitVec.ofNat 20 (h.live? (outIdx n) 5), stepLimited := true, powerupHold := false })
    else h.outFade n 0
  (h.outCause n 6).cause (evOutputGroup n)

/-- A relief unit takes the output over: it leaves FAULT (R99). -/
def Hub.outputUnfault (h : Hub) (n : Nat) : Hub :=
  if (h.output n).fault then
    let h := h.modOutput n (fun o => { o with fault := false })
    let o := h.output n
    if o.cfg.mode = 1 then if o.fast || o.changing || !o.powered || decide (o.powerup ≠ 0) then h else h.outFade n unity else h.modCv n (fun c => { c with stepLimited := true })
  else h

/-! ## Delay and short-path selection (R82, R83) -/

/-- A crossfade of 10 ms from the delay tap in force to a new one. -/
def Hub.delayStart (h : Hub) (n d : Nat) : Hub :=
  let old := (h.output n).audio.delay
  (h.modAudio n (fun a => { a with delayXfade := some { old := old, new := d, t0 := h.now, len := ms 10 }, delay := d, delayHeld := none }))
    |>.start (.delayXfade n) (ms 10)

/-- DELAY takes effect: a crossfade, or held while one runs (R82). -/
def Hub.delayApply (h : Hub) (n v : Nat) : Hub :=
  let d := us v
  if (h.output n).audio.delayXfade.isSome then h.modAudio n (fun a => { a with delayHeld := some d })
  else if d = (h.output n).audio.delay then h else h.delayStart n d

/-- R82: the crossfade ends and a held value starts its own. -/
def Hub.delayXfadeEnd (h : Hub) (n : Nat) : Hub :=
  h.whenDue (.delayXfade n) (fun h =>
    let held := (h.output n).audio.delayHeld
    let h := h.modAudio n (fun a => { a with delayXfade := none, delayHeld := none })
    match held with
    | some d => if d = (h.output n).audio.delay then h else h.delayStart n d
    | none => h)

/-- SHORT_SEL takes effect: 5 ms at 768 kHz from what plays (R83, log 56). -/
def Hub.shortSelApply (h : Hub) (n v : Nat) : Hub :=
  if v = (h.output n).audio.short then h
  else h.modAudio n (fun a => { a with shortXfade := some (SelFade.start a.shortXfade a.short (8 * h.now) (usFast 5000)), short := v })

/-- GAIN and MUTE take effect (R80). -/
def Hub.outGainApply (h : Hub) (n v : Nat) : Hub :=
  let t := h.outRampTime n
  h.modAudio n (fun a => { a with gain := a.gain.to (gainLevel v) h.now t })
def Hub.outMuteApply (h : Hub) (n v : Nat) : Hub :=
  let t := h.outMuteTime n
  h.modAudio n (fun a => { a with mute := a.mute.to (if v = 1 then 0 else unity) h.now t })

/-! ## Patrol (R100 to R102) -/

/-- The patrol is suspended (R101), and while the power-up sequence runs (log 126). -/
def Hub.patrolSuspended (h : Hub) (n : Nat) : Bool :=
  let o := h.output n
  !o.powered || decide (o.cfg.mode = 0) || (decide (2 ≤ o.step) && decide (o.step ≤ 4)) || o.fast || h.twi.panic || decide (o.powerup ≠ 0) ||
  (decide (o.cfg.mode = 1) && (decide (o.audio.mute.at h.now = 0) || decide (o.audio.protect.at h.now = 0)))

/-- Measured value beyond the limit about the value of a code (R100): `|m - e| > threshold + 0.0002 |e|`, in exact arithmetic. -/
def cvFlagged (c : OutCfg) (code : BitVec 20) (threshold : Nat) (m : Int) : Bool :=
  let e := codeValue c code * span c
  decide ((threshold : Int) * 1048576 * 10000 + 2 * (e.natAbs : Int) < ((m * 1048576 - e).natAbs : Int) * 10000)

/-- Result of a judgement (R102). Exactly 100 ms without a flag ends an episode (log 125). -/
def Hub.patrolJudge (h : Hub) (n : Nat) (flagged : Bool) : Hub :=
  let h := h.modOutput n (fun o =>
    { o with patrol := { o.patrol with flag := flagged, consec := if flagged then satInc 65535 o.patrol.consec else 0 } })
  if flagged then h.episode (.patrol n) (ms 100) (fun h => (h.outCause n 2).cause (evOutputGroup n)) else h

/-- One scan's reading of a CV output (R100). DEVIATION is in whole units; how the value of the code rounds to one is free (log 123). A sample within 20 µs of a code update passes within the limit of either code; during
COMPLIANCE a current reading is not flagged. -/
def Hub.patrolRead (h : Hub) (n : Nat) (m : Int) : Hub :=
  let o := h.output n
  if isCv o.cfg.mode && !h.patrolSuspended n then
    let th := h.live? (outIdx n + 3) 1
    let new := cvFlagged o.cfg o.cv.present th m
    let old := cvFlagged o.cfg o.cv.previous th m
    let recent := decide (h.now ≤ o.cv.updatedAt + 1)
    let flagged := new && (!recent || old) && !(o.compliance && decide (o.cfg.mode = 3))
    let dev := m - roundFree (codeValue o.cfg o.cv.present * span o.cfg) 1048576
    let lost := decide (span o.cfg < 10 * (dev.natAbs : Int))
    (h.modOutput n (fun o =>
      { o with patrol := { o.patrol with readback := m, deviation := dev, lossRun := if lost then o.patrol.lossRun + 1 else 0 } })).patrolJudge n flagged
  else h

/-- R100: a 1 ms scan completes. -/
def Hub.patrolScan (h : Hub) (readings : List (Nat × Int)) : Hub :=
  readings.foldl (fun h r => if isOutput r.1 then h.patrolRead r.1 r.2 else h) h

/-- R101: a 100 ms audio window ends. The pin level is the digital level with the fitted gain (log 28). -/
def Hub.patrolAudioWindow (h : Hub) (n : Nat) (rms deviation residual : Int) : Hub :=
  if (h.output n).cfg.mode = 1 ∧ h.patrolSuspended n = false ∧ -6000 ≤ rms then
    let flagged := decide (toS32 (h.live? (outIdx n + 3) 2) < (deviation.natAbs : Int)) || decide (toS32 (h.live? (outIdx n + 3) 3) < residual)
    (h.modOutput n (fun o =>
      { o with patrol := { o.patrol with readback := rms + deviation, deviation := deviation, residual := some residual } })).patrolJudge n flagged
  else h

/-! ## The meanings of the rows -/

/-- R93. -/
def execOutputChangeStep (n : Nat) (s : State) : Out := run (isOutput n) (·.outputChangeStep n) s
/-- R91. -/
def execOutputPowerupStep (n : Nat) (s : State) : Out := run (isOutput n) (·.outputPowerupStep n) s
/-- R82. -/
def execDelayXfadeEnd (n : Nat) (s : State) : Out := run (isOutput n) (·.delayXfadeEnd n) s
/-- R89. -/
def execCvTick (n : Nat) (s : State) : Out := run (isOutput n) (·.cvTick n) s
/-- R86. -/
def execCvCompliance (n : Nat) (present : Bool) (s : State) : Out := run (isOutput n) (·.cvCompliance n present) s
end Sys2Proof.Machine
end

