-- ==== Sys2Proof/Machine/Harness.lean ====
section
/-! DEFINITION. The routing harness (R131 to R160): owners and trims of selections (R20, R168, R171), sink selectors, generators,
crosspoints and banks, auto-scaling, and the short path. -/

namespace Sys2Proof.Machine

/-! ## Owner keys (R168, R170) -/

/-- Bits [31:24] class, [23:16] reserved, [15:0] instance. -/
def ownerKey (cls n : Nat) : Nat := cls * 16777216 + n

/-- Whether a key names an owned object (R168, R170). -/
def keyOk (k : Nat) : Bool :=
  let c := k / 16777216
  let n := k % 65536
  decide (k < 4294967296) && decide (k / 65536 % 256 = 0) &&
    (match c with
      | 1 => isTrimSource n
      | 2 => isOutput n
      | 3 => isHeadphone n
      | 4 => decide (n = 0)
      | 5 => isPort n
      | 6 => decide (n < 256)
      | 7 => isBus n
      | 8 => isProcess n
      | _ => false)

/-- Owner recorded for a key. -/
def Hub.owner (h : Hub) (k : Nat) : Option Nat := tget h.owners k

/-- The running process whose sends include send `i` (R136, R181). -/
def Hub.coverOf (h : Hub) (i : Nat) : Option Nat :=
  (h.procs.find? (fun e => decide (e.2.state ≠ 0) && decide (e.2.slot ≤ i) && decide (i < e.2.slot + e.2.channels))).map (·.1)

/-- Owner key of a sink's object; none for a send no process covers. -/
def Hub.sinkKey (h : Hub) (s : Nat) : Option Nat :=
  if 1 ≤ s ∧ s ≤ 0x20 then some (ownerKey 2 s)
  else if 0x21 ≤ s ∧ s ≤ 0x28 then some (ownerKey 3 ((s - 0x21) / 2 + 1))
  else if s = 0x29 ∨ s = 0x2A then some (ownerKey 4 0)
  else if 0x40 ≤ s ∧ s ≤ 0x13F then some (ownerKey 6 (s - 0x40))
  else if 0x180 ≤ s ∧ s ≤ 0x1BF then (h.coverOf (s - 0x180)).map (ownerKey 8)
  else none

/-- Owner in force of a key: a port channel without an owner of its own takes its port's (R168). -/
def Hub.ownerInForce (h : Hub) (k : Nat) : Option Nat :=
  match h.owner k with
  | some o => some o
  | none => if k / 16777216 = 6 then h.owner (ownerKey 5 (k % 65536 / 32)) else none

def Hub.sinkOwner (h : Hub) (s : Nat) : Option Nat := (h.sinkKey s).bind h.ownerInForce
def Hub.busOwner (h : Hub) (b : Nat) : Option Nat := h.owner (ownerKey 7 b)

/-! ## Trims (R20, R172 to R174) -/

/-- Sources that take trims. -/
def takesTrim (src : Nat) : Bool := isTrimSource src

def Hub.trim (h : Hub) (src host : Nat) : Ramp := tgetD h.trims (8 * src + host) {}

/-- Trim in decibels that a selection of an owner applies (R20): none without an owner. -/
def Hub.trimTarget (h : Hub) (src : Nat) (o : Option Nat) : Level :=
  match o with
  | some k => (h.trim src k).target
  | none => .db 0

/-- Amplitude of the trim of a selection at frame `f`: a running change of owner prevails (R171). -/
def Hub.trimAmp (h : Hub) (moves : Table Ramp) (src : Nat) (o : Option Nat) (f : Nat) : Nat :=
  if takesTrim src then
    match tget moves src with
    | some r => if r.running f then (r.at f).amp else match o with | some k => ((h.trim src k).at f).amp | none => unity
    | none => match o with | some k => ((h.trim src k).at f).amp | none => unity
  else unity

/-- TRIM_RAMP_TIME of a host in frames. -/
def Hub.trimRampTime (h : Hub) (k : Nat) : Nat := us (h.live? (hostIdx k) 8)

/-- A trim takes effect at a frame boundary, over the trim owner's TRIM_RAMP_TIME; a selection still moving to this owner's trim starts a new ramp
from what it has reached (R148, R173). -/
def Hub.trimApply (h : Hub) (src host v : Nat) : Hub :=
  let t := h.trimRampTime host
  let goal : Level := .db (toS32 v : Int)
  let again (moves : Table Ramp) (o : Option Nat) : Table Ramp :=
    match tget moves src with
    | some r => if o = some host ∧ r.running (h.now - 1) = true then tput moves src (r.to goal h.now t) else moves
    | none => moves
  { h with
    trims := tput h.trims (8 * src + host) ((h.trim src host).to goal h.now t)
    sinks := h.sinks.map (fun e => (e.1, { e.2 with trimMove := again e.2.trimMove (h.sinkOwner e.1) }))
    terms := h.terms.map (fun e => (e.1, { e.2 with trimMove := again e.2.trimMove (h.busOwner ((e.1 - 1) / 64)) })) }

/-! ## Sink selectors (R134, R135) -/

/-- Starts the change to a source: a crossfade over XFADE_TIME, or a cut with XFADE_TIME 0. -/
def Hub.sinkStart (h : Hub) (s v : Nat) : Hub :=
  let len := us (h.live? (selIdx s) 2)
  if len = 0 then h.modSink s (fun x => { x with source := v })
  else
    (h.modSink s (fun x => { x with xfade := some { old := x.source, new := v, t0 := h.now, len := len }, source := v })).start (.sinkXfade s) len

/-- A SOURCE value takes effect at a frame boundary. -/
def Hub.sinkApply (h : Hub) (s v : Nat) : Hub :=
  let x := h.sink s
  if x.xfade.isSome && !h.due (.sinkXfade s) then h.modSink s (fun x => { x with held := some v })
  else
    let h := (h.modSink s (fun x => { x with xfade := none, held := none, fbGain := none })).cancel (.sinkXfade s)
    if v = x.source then h else h.sinkStart s v

/-- R135: a crossfade ends; a held source starts its own unless it is the source in force. -/
def Hub.sinkXfadeEnd (h : Hub) (s : Nat) : Hub :=
  h.whenDue (.sinkXfade s) (fun h =>
    let held := (h.sink s).held
    let h := h.modSink s (fun x => { x with xfade := none, held := none, fbGain := none })
    match held with
    | some v => if v = (h.sink s).source then h else h.sinkStart s v
    | none => h)

/-- ACTIVE_SOURCE: the larger weight; at equal weights the incoming source (R136). -/
def Sink.activeSource (x : Sink) (f : Nat) : Nat :=
  match x.xfade with
  | some c => if f < c.t0 then c.old else if 2 * (f - c.t0 + 1) < c.len then c.old else c.new
  | none => x.source

/-- SEL_STATE of R136. -/
def Sink.selState (x : Sink) : Nat := if x.xfade.isSome then (if x.held.isSome then 2 else 1) else 0

/-! ## Generators (R137) -/

/-- A TYPE value takes effect: fade out over 10 ms, switch, fade in. -/
def Hub.generatorApply (h : Hub) (g v : Nat) : Hub :=
  let x := h.gen g
  let h := h.modGen g (fun x => { x with target := v })
  if v = x.target ∨ x.phase = .fadingOut then h
  else
    (h.modGen g (fun x => { x with phase := .fadingOut, fade := if x.type = 0 then Fade.steady 0 else x.fade.to 0 h.now (ms 10) })).start (.generator g) (ms 10)

/-- R137: the fade-out ends; the newest TYPE fades in. -/
def Hub.generatorSwitch (h : Hub) (g : Nat) : Hub :=
  h.whenDue (.generator g) (fun h =>
    h.modGen g (fun x => { x with type := x.target, phase := .fadingIn, fade := { m0 := 0, m1 := unity, t0 := h.now, len := ms 10 } }))

def Hub.generatorLevelApply (h : Hub) (g v : Nat) : Hub :=
  h.modGen g (fun x => { x with level := x.level.to (gainLevel v) h.now (ms 20) })
def Hub.generatorFreqApply (h : Hub) (g v : Nat) : Hub := h.modGen g (fun x => { x with freq := v })

/-! ## Crosspoint entries (R139) -/

def entrySource (e : Nat) : Nat := e / 2 ^ 48 % 1024
def entryInvert (e : Nat) : Bool := bit e 34
def entryMute (e : Nat) : Bool := bit e 33
def entryEnable (e : Nat) : Bool := bit e 32
def entryGain (e : Nat) : Nat := e % 2 ^ 32

/-- Bits of an entry that are not reserved. -/
def entryMask : Nat := 2 ^ 58 - 2 ^ 48 + 2 ^ 35 - 1

/-- Whether an entry is valid for bus `b` (R138, R139): no reserved bit, a gain in range, a source that exists and is no bus at or above `b`. -/
def entryOk (b e : Nat) : Bool :=
  decide (e &&& entryMask = e) && (Check.gain (-12000) 1200).ok (entryGain e) && isSource (entrySource e) &&
  !(decide (0x140 + b ≤ entrySource e) && decide (entrySource e ≤ 0x17F))

/-- Whether an entry is valid in a short-path slot (R157). -/
def slotOk (e : Nat) : Bool :=
  decide (e &&& entryMask = e) && (Check.gain (-12000) 6000).ok (entryGain e) && decide (entrySource e ≤ 0x30)

/-! ## Terms and their fades (R142) -/

/-- The fields of an entry taken at once. -/
def Term.take (t : Term) (e : Nat) : Term :=
  { t with source := entrySource e, invert := entryInvert e, enabled := entryEnable e, mute := Fade.steady (if entryMute e then 0 else unity)
           muted := entryMute e, atZero := none }

/-- Two entries differ in their gain at most. -/
def sameButGain (a b : Nat) : Bool := decide (a / 2 ^ 32 = b / 2 ^ 32)

/-- A change of an entry acts on its term from time `t0`, with its ramp time and mute time in ticks of the term's clock (R142). A field that
does not change starts nothing. -/
def Term.change (t : Term) (e t0 ramp mute : Nat) : Term :=
  if t.enabled then
    let t := if gainLevel (entryGain e) = t.gain.target then t else { t with gain := t.gain.to (gainLevel (entryGain e)) t0 ramp }
    if t.atZero.any (sameButGain e) then { t with atZero := some e }
    else if entrySource e ≠ t.source ∨ entryInvert e ≠ t.invert ∨ entryEnable e = false then
      if mute = 0 then
        { t.take e with fade := Fade.steady (if entryEnable e then unity else 0) }
      else { t with atZero := some e, fade := t.fade.to 0 t0 mute }
    else
      let t := if entryMute e = t.muted then t else { t with muted := entryMute e, mute := t.mute.to (if entryMute e then 0 else unity) t0 mute }
      if t.atZero.isSome then { t with atZero := none, fade := t.fade.to unity t0 mute } else t
  else
    let t := { t.take e with gain := { start := t.gain.at (t0 - 1), target := gainLevel (entryGain e), t0 := t0, len := 0 } }
    if entryEnable e then
      { t with fade := if mute = 0 then Fade.steady unity else { m0 := 0, m1 := unity, t0 := t0, len := mute }, lastPeak := none }
    else { t with fade := Fade.steady 0 }

/-- A fade-out has reached zero: the waiting fields are taken and the fade-in starts (R142). -/
def Term.zero (t : Term) (t0 mute : Nat) : Term :=
  match t.atZero with
  | some e =>
    let t := t.take e
    if entryEnable e then { t with fade := { m0 := 0, m1 := unity, t0 := t0, len := mute } } else { t with fade := Fade.steady 0 }
  | none => t

/-- Key of crosspoint `k` of bus `b`. -/
def termKey (b k : Nat) : Nat := 64 * b + k

def Hub.busRampTime (h : Hub) (b : Nat) : Nat := us (h.live? (busIdx b) 0x43)
def Hub.busMuteTime (h : Hub) (b : Nat) : Nat := us (h.live? (busIdx b) 0x44)

/-- A crosspoint entry takes effect from the present frame. -/
def Hub.xpApply (h : Hub) (b k e : Nat) : Hub :=
  let h := h.modTerm (termKey b k) (fun t => t.change e h.now (h.busRampTime b) (h.busMuteTime b))
  let t := h.term (termKey b k)
  if t.atZero.isSome then h.startAt (.xpFade (termKey b k)) (t.fade.t0 + t.fade.len) else h.cancel (.xpFade (termKey b k))

/-- R142: the fade-out of a crosspoint reaches zero. -/
def Hub.xpFadeZero (h : Hub) (b k : Nat) : Hub :=
  h.whenDue (.xpFade (termKey b k)) (fun h => h.modTerm (termKey b k) (fun t => t.zero h.now (h.busMuteTime b)))

/-! ## Bus settings (R143) -/

def Hub.busGainApply (h : Hub) (b v : Nat) : Hub :=
  let t := h.busRampTime b
  h.modBus b (fun x => { x with gain := x.gain.to (gainLevel v) h.now t })
def Hub.busMuteApply (h : Hub) (b v : Nat) : Hub :=
  let t := h.busMuteTime b
  h.modBus b (fun x => { x with mute := x.mute.to (if v = 1 then 0 else unity) h.now t })

/-! ## Auto-scaling (R144, R145) -/

/-- Entry in force of a crosspoint. -/
def Hub.entry (h : Hub) (b k : Nat) : Nat := h.live? (busIdx b) k

/-- The term has reached -80 dBFS within the last 50 ms. -/
def Hub.termHeard (h : Hub) (b k : Nat) : Bool :=
  match (h.term (termKey b k)).lastPeak with
  | some f => decide (h.now < f + 4800)
  | none => false

/-- A crosspoint that counts toward N. -/
def Hub.counts (h : Hub) (b k : Nat) : Bool :=
  let e := h.entry b k
  entryEnable e && !entryMute e && decide (entryGain e ≠ minusInf) && (decide (h.live? (busIdx b) 0x46 = 0) || h.termHeard b k)

/-- The crosspoints of a bus that the state lists. -/
def Hub.listed (h : Hub) (b : Nat) : List Nat := (h.terms.filter (fun e => decide (64 * b < e.1) && decide (e.1 ≤ 64 * b + 64))).map (fun e => e.1 - 64 * b)

/-- N of a bus. -/
def Hub.countN (h : Hub) (b : Nat) : Nat := ((h.listed b).filter (h.counts b)).length

/-- Scale of N terms: 0 dB with AUTOSCALE 0 and at N = 1; at N = 0 it is 0 dB, or held with signal sensing (R144). -/
def scaleLevel (mode sensing n : Nat) (inForce : Level) : Level :=
  if mode = 0 then .db 0 else if n = 0 then (if sensing = 1 then inForce else .db 0) else if n = 1 then .db 0 else .db (-(ratioDb n 1) / (mode : Rat))

/-- R145: N is recounted and a changed scale target starts its ramp in this frame. -/
def Hub.rescale (h : Hub) (b : Nat) : Hub :=
  let n := h.countN b
  let t := h.busRampTime b
  let mode := h.live? (busIdx b) 0x45
  let sensing := h.live? (busIdx b) 0x46
  h.modBus b (fun x =>
    let goal := scaleLevel mode sensing n x.scale.target
    { x with scaleN := n, scale := if goal = x.scale.target then x.scale else x.scale.to goal h.now t })

/-! ## Banks (R151 to R154) -/

/-- Pending edit of a crosspoint object: entry and host. -/
def Hub.pendingEdit (h : Hub) (k : Nat) : Option (Nat × Nat) := tget h.shadow k

/-- A host is in bank mode. -/
def Hub.bankMode (h : Hub) (k : Nat) : Bool := decide (h.live? 0x5F00 (k + 1) = 1)

/-- Entries carrying a host's pending edits. -/
def Hub.editsOf (h : Hub) (k : Nat) : Table (Nat × Nat) := h.shadow.filter (fun e => decide (e.2.2 = k))

/-- Bus of a crosspoint object key. -/
def busOfKey (k : Nat) : Nat := let idx := k / 256; if idx = 0x5F20 then 60 else (idx - 0x5000) / 64

/-- Abort code of a crosspoint write by a host (R151): 0 where it is accepted. -/
def Hub.xpAbort (h : Hub) (host k : Nat) : Nat :=
  if h.bankMode host then
    match h.pendingEdit k with
    | some (_, o) => if o ≠ host then 0x08 else if (h.host host).commitState ≠ 0 then 0x08 else 0
    | none => if (h.host host).commitState ≠ 0 then 0x08 else 0
  else 0

/-- A shadow write: the entry carries the host's pending edit; the bus's scale is recomputed (R145, R151). -/
def Hub.shadowWrite (h : Hub) (host k e : Nat) : Hub :=
  ({ h with shadow := tput h.shadow k (e, host) }).modBus (busOfKey k) (fun x => { x with recomputing := true })

/-- R145: the recomputation of a bus completes. -/
def Hub.scaleRecomputeDone (h : Hub) (b : Nat) : Hub := h.modBus b (fun x => { x with recomputing := false })

/-- R154: a host's pending edits are dropped. -/
def Hub.discardEdits (h : Hub) (host : Nat) : Hub := { h with shadow := h.shadow.filter (fun e => decide (e.2.2 ≠ host)) }

/-- One entry of a commit takes its shadow value into the active bank; a write accepted and not yet applied stays the value last accepted (R18). -/
def Hub.commitEntry (h : Hub) (k e : Nat) : Hub :=
  let queued := h.frameQ.any (fun w => decide (w.key = k)) || h.batches.any (fun b => b.any (fun w => decide (w.key = k)))
  let h := { h with objs := if queued then h.objs else tput h.objs k e, live := tput h.live k e, shadow := tdel h.shadow k }
  h.xpApply (busOfKey k) (k % 256) e

/-- R152 steps 2 to 4: the swap of one host's edits. -/
def Hub.swapEdits (h : Hub) (host : Nat) : Hub :=
  let es := h.editsOf host
  let h := es.foldl (fun h e => h.commitEntry e.1 e.2.1) h
  ({ h.modHost host (fun x => { x with commitState := 0 }) with lastCommit := h.frameCount }).cause evCommitDone

/-- Recomputations of every bus a host's edits touch are complete. -/
def Hub.commitReady (h : Hub) (host : Nat) : Bool := (h.editsOf host).all (fun e => !(h.bus (busOfKey e.1)).recomputing)

/-- Inserts a number into a list ordered by `f`. -/
def insertBy (f : Nat → Nat) (a : Nat) : List Nat → List Nat
  | [] => [a]
  | b :: r => if f a < f b then a :: b :: r else b :: insertBy f a r

/-- A list ordered by `f`, ascending. -/
def orderBy (f : Nat → Nat) (l : List Nat) : List Nat := l.foldl (fun r a => insertBy f a r) []

/-- Hosts with a commit pending or deferred, in the order of acceptance. -/
def Hub.committing (h : Hub) : List Nat :=
  orderBy (fun k => (h.host k).commitSeq) ((List.range 8).filter (fun k => decide ((h.host k).commitState ≠ 0)))

/-! ## Short path (R156, R157) -/

/-- Time of the short path's clock: 768 kHz samples (R8, R21). -/
def Hub.fast (h : Hub) : Nat := 8 * h.now + h.sub

def Hub.shortRampTime (h : Hub) : Nat := usFast (h.live? 0x6800 0x89)
def Hub.shortMuteTime (h : Hub) : Nat := usFast (h.live? 0x6800 0x8A)

/-- A slot entry takes effect at a frame boundary. -/
def Hub.slotApply (h : Hub) (i e : Nat) : Hub := h.modSlot i (fun t => t.change e h.fast h.shortRampTime h.shortMuteTime)

def Hub.shortGainApply (h : Hub) (b v : Nat) : Hub :=
  let t := h.shortRampTime
  h.modShort b (fun x => { x with gain := x.gain.to (gainLevel v) h.fast t })

/-- Slot fades that have reached zero. -/
def Hub.slotZeros (h : Hub) : Hub :=
  { h with slots := h.slots.map (fun e =>
      if e.2.atZero.isSome && decide (e.2.fade.t0 + e.2.fade.len ≤ h.fast) then (e.1, e.2.zero h.fast h.shortMuteTime) else e) }

/-! ## The sum of a bus (R140) -/

/-- A term in 1/32 step, saturated to ±2^35 steps; whether it saturated. -/
def satTerm (x : Int) : Int × Bool :=
  let m : Int := 1099511627776
  (clampInt (-m) m x, decide (m < x) || decide (x < -m))

/-- A term: the sample with its trim, gain, mute and fade (R140). -/
def Term.value (t : Term) (x : Int) (trim f : Nat) : Int × Bool :=
  let x := product (x * 32) [trim, (t.gain.at f).amp, t.mute.at f, t.fade.at f]
  satTerm (if t.invert then -x else x)

/-- A sum in 1/32 step with its multipliers, rounded to the nearest step, a half upward (log 12), and saturated to S32; whether it saturated. -/
def busOut (acc : Int) (ms : List Nat) : Int × Bool :=
  let y := nearest (ms.foldl (fun (p : Int) (m : Nat) => p * m) acc) (32 * unity ^ ms.length)
  (satS32 y, decide (y ≠ satS32 y))

/-! ## The meanings of the rows -/

/-- R135. -/
def execSinkXfadeEnd (k : Nat) (s : State) : Out := run (isSink k) (·.sinkXfadeEnd k) s
/-- R137. -/
def execGeneratorSwitch (g : Nat) (s : State) : Out := run (decide (g < 8)) (·.generatorSwitch g) s
/-- R142. -/
def execXpFadeZero (b k : Nat) (s : State) : Out := run (isBus b && decide (1 ≤ k) && decide (k ≤ 64)) (·.xpFadeZero b k) s
/-- R145. -/
def execScaleRecomputeDone (b : Nat) (s : State) : Out := run (isBus b) (·.scaleRecomputeDone b) s

end Sys2Proof.Machine
end

