-- ==== Sys2Proof/Machine/Hosts.lean ====
section
/-! DEFINITION. Hosts (R161 to R177): claims and sessions, roles, ownership and the trims that follow it. -/

namespace Sys2Proof.Machine

/-! ## Session timers (R166) -/

def Hub.sessionTimeout (h : Hub) (k : Nat) : Nat := h.live? (hostIdx k) 6

/-- Session timers are paused: in a supervisor restart, in Watch, and from the entry to Stable on (R24, R166). -/
def Hub.sessionsPaused (h : Hub) : Bool := h.sup.restarting || decide (h.pwr.state = 1) || decide (h.pwr.progress = 3) || h.pwr.stable

/-- The session timer of a claimed host starts again at its full value, or stops for 0. -/
def Hub.restartSession (h : Hub) (k : Nat) : Hub :=
  let n := secs (h.sessionTimeout k)
  if (h.host k).claimed = false ∨ n = 0 then (h.cancel (.session k)).modHost k (fun x => { x with pausedLeft := none })
  else if h.sessionsPaused then (h.cancel (.session k)).modHost k (fun x => { x with pausedLeft := some n })
  else h.start (.session k) n

/-- Every access carrying a host number restarts its timer. -/
def Hub.touch (h : Hub) (k : Nat) : Hub := if (h.host k).claimed then h.restartSession k else h

/-- The timers pause with the time they have left. -/
def Hub.pauseSessions (h : Hub) : Hub :=
  h.forAll (List.range 8) (fun h k =>
    match h.deadline (.session k) with
    | some d => (h.cancel (.session k)).modHost k (fun x => { x with pausedLeft := some (d - h.now) })
    | none => h)

/-- The timers run on. -/
def Hub.resumeSessions (h : Hub) : Hub :=
  if h.sessionsPaused then h
  else h.forAll (List.range 8) (fun h k =>
    match (h.host k).pausedLeft with
    | some n => (h.modHost k (fun x => { x with pausedLeft := none })).start (.session k) n
    | none => h)

/-- SESSION_LEFT in whole seconds, rounded up; 0xFFFF in a session with no timeout, 0 without a session (R166, R177, log 121). -/
def Hub.sessionLeft (h : Hub) (k : Nat) : Nat :=
  match h.deadline (.session k), (h.host k).pausedLeft with
  | some d, _ => (d - h.now + 95999) / 96000
  | none, some n => (n + 95999) / 96000
  | none, none => if (h.host k).claimed then 0xFFFF else 0

/-! ## Ownership (R168 to R171) -/

/-- Owner due to be recorded: the last write of this block, else the present owner. -/
def Hub.ownerComing (h : Hub) (key : Nat) : Option Nat :=
  match (h.ownerDue.filter (fun e => decide (e.1 = key))).getLast? with
  | some e => e.2
  | none => h.owner key

def Hub.ownerWill (h : Hub) (key : Nat) (o : Option Nat) : Hub :=
  if h.ownerComing key = o then h else { h with ownerDue := h.ownerDue ++ [(key, o)] }

/-- Abort codes of TAKE, RELEASE and ASSIGN (R170); 0 where the write succeeds. -/
def Hub.takeAbort (h : Hub) (k key : Nat) : Nat :=
  if !keyOk key then 0x06
  else if h.role k = 0 then 0x03
  else
    match h.ownerComing key with
    | none => 0
    | some o => if o = k ∨ h.role k = 2 then 0 else 0x04
def Hub.releaseAbort (h : Hub) (k key : Nat) : Nat := if !keyOk key then 0x06 else if h.ownerComing key = some k then 0 else 0x04
def Hub.assignAbort (h : Hub) (k key : Nat) : Nat := if !keyOk key then 0x06 else if h.role k = 0 then 0x06 else 0

/-- Keys a host owns, ascending. -/
def Hub.ownedKeys (h : Hub) (k : Nat) : List Nat := (h.owners.filter (fun e => decide (e.2 = k))).map (·.1)

/-- Every object of a host is released (R162, R166). -/
def Hub.releaseOwned (h : Hub) (k : Nat) : Hub :=
  (h.ownedKeys k ++ (h.ownerDue.filter (fun e => decide (e.2 = some k))).map (·.1)).foldl
    (fun h key => if h.ownerComing key = some k then h.ownerWill key none else h) h

/-- Trim of a source at a frame for an owner, in force. -/
def Hub.trimLevel (h : Hub) (moves : Table Ramp) (src : Nat) (o : Option Nat) (f : Nat) : Level :=
  match tget moves src with
  | some r => if r.running f then r.at f else match o with | some k => (h.trim src k).at f | none => .db 0
  | none => match o with | some k => (h.trim src k).at f | none => .db 0

/-- The ramp of a source from the old owner's trim to the new owner's (R171). -/
def Hub.trimMoveTo (h : Hub) (moves : Table Ramp) (src : Nat) (old new : Option Nat) : Table Ramp :=
  if takesTrim src then
    let t := match new, old with | some k, _ => h.trimRampTime k | none, some k => h.trimRampTime k | none, none => 0
    tput moves src { start := h.trimLevel moves src old (h.now - 1), target := h.trimTarget src new, t0 := h.now, len := t }
  else moves

/-- A sink whose owner changes: both sources of a crossfade ramp (R171). -/
def Hub.moveSink (h : Hub) (s : Nat) (old new : Option Nat) : Hub :=
  if old = new then h
  else
    h.modSink s (fun x =>
      let m := h.trimMoveTo x.trimMove x.source old new
      { x with trimMove := match x.xfade with | some c => if c.old = x.source then m else h.trimMoveTo m c.old old new | none => m })

/-- The crosspoints of a bus whose owner changes; pending edits on it are discarded for every host. -/
def Hub.moveBus (h : Hub) (b : Nat) (old new : Option Nat) : Hub :=
  let h := { h with
    terms := h.terms.map (fun e => if 64 * b < e.1 ∧ e.1 ≤ 64 * b + 64 then (e.1, { e.2 with trimMove := h.trimMoveTo e.2.trimMove e.2.source old new }) else e)
    shadow := h.shadow.filter (fun e => decide (busOfKey e.1 ≠ b)) }
  h

/-- Sinks whose owner an owner key decides. -/
def Hub.sinksOfKey (h : Hub) (key : Nat) : List Nat :=
  let n := key % 65536
  match key / 16777216 with
  | 2 => [n]
  | 3 => [0x1F + 2 * n, 0x20 + 2 * n]
  | 4 => [0x29, 0x2A]
  | 5 => (upTo (0x40 + 32 * n) 32)
  | 6 => [0x40 + n]
  | 8 => let p := h.proc n; if p.state = 0 then [] else upTo (0x180 + p.slot) p.channels
  | _ => []

/-- One record changes (R170, R171); the record is auto-stored. -/
def Hub.setOwner (h : Hub) (key : Nat) (o : Option Nat) : Hub :=
  let old := h.owner key
  if old = o then h
  else
    let sinks := (h.sinksOfKey key).map (fun s => (s, h.sinkOwner s))
    let h := { h with owners := match o with | some k => tput h.owners key k | none => tdel h.owners key }
    let h := sinks.foldl (fun h e => h.moveSink e.1 e.2 (h.sinkOwner e.1)) h
    let h := if key / 16777216 = 7 then h.moveBus (key % 65536) old o else h
    h.request (.owner key)

/-- The host whose placement of process `p` succeeds becomes its owner when it had none (R169, R183). -/
def Hub.adopt (h : Hub) (host p : Nat) : Hub := if (h.owner (ownerKey 8 p)).isNone then h.setOwner (ownerKey 8 p) (some host) else h

/-- The sends of a process gain the owner of the process, or lose it: their selections ramp from one trim to the other (R136, R171). -/
def Hub.moveSends (h : Hub) (slot channels : Nat) (old new : Option Nat) : Hub :=
  h.forAll (upTo (0x180 + slot) channels) (fun h s => h.moveSink s old new)

/-- The owner changes of a block boundary: only the last owner of a key takes effect. -/
def Hub.ownersBoundary (h : Hub) : Hub :=
  let due := h.ownerDue
  let h := { h with ownerDue := [] }
  due.foldl (fun h e => h.setOwner e.1 ((due.filter (fun d => decide (d.1 = e.1))).getLast?.bind (·.2))) h

/-- QUERY_OWNER of a host: the owner in force (R168, R177). -/
def Hub.queryOwner (h : Hub) (k : Nat) : Nat :=
  let key := (h.host k).queryKey
  if keyOk key then match h.ownerInForce key with | some o => o | none => 0xFF else 0xFE

/-- OWNED_LIST of a host: up to 60 keys from OWNED_START. -/
def Hub.ownedList (h : Hub) (k : Nat) : List Byte := ((((h.ownedKeys k).drop (h.host k).ownedStart).take 60).map (toBytes 4)).flatten

/-! ## Claims (R163, R164) -/

/-- A session ends; ownership is retained (R164), the held batch is discarded (R272). -/
def Hub.endSession (h : Hub) (k : Nat) : Hub :=
  (h.modHost k (fun x => { x with claimed := false, tag := 0, onTwoWire := false, onTether := false, pausedLeft := none, held := [] })).cancel (.session k)

def HostSlot.join (x : HostSlot) (v : Transport) : HostSlot :=
  match v with
  | .twoWire => { x with onTwoWire := true }
  | .tether => { x with onTether := true }

/-- The claim cases of R164. -/
def Hub.claimNow (h : Hub) (w : Who) (tag : Nat) : Hub :=
  let x := h.host w.host
  if tag = 0 then h.modHost w.host (fun x => { x with result := 5 })
  else if !x.claimed then
    (h.modHost w.host (fun x => ({ x with claimed := true, tag := tag, result := 1 } : HostSlot).join w.via)).restartSession w.host
  else if x.tag = tag then (h.modHost w.host (fun x => ({ x with result := 2 } : HostSlot).join w.via)).restartSession w.host
  else
    (h.modHost w.host (fun x => { x with result := 3, conflicts := satInc 255 x.conflicts })).cause evClaimConflict (.hostAndInstallers w.host)

/-- The release cases of R164. -/
def Hub.releaseNow (h : Hub) (k tag : Nat) : Hub :=
  let x := h.host k
  if tag = 0 then h.modHost k (fun x => { x with result := 5 })
  else if x.claimed && decide (x.tag = tag) then (h.endSession k).modHost k (fun x => { x with result := 6 })
  else h.modHost k (fun x => { x with result := 4 })

/-- A claim command: 1 claim, 2 release, others no action; held through a supervisor restart (R24). -/
def Hub.claimCommand (h : Hub) (w : Who) (cmd tag : Nat) : Hub :=
  if cmd ≠ 1 ∧ cmd ≠ 2 then h
  else if h.sup.restarting then { h with sup := { h.sup with heldClaims := h.sup.heldClaims ++ [(w, tag, cmd)] } }
  else if cmd = 1 then h.claimNow w tag else h.releaseNow w.host tag

/-- A claim word (R163). -/
def Hub.claimWrite (h : Hub) (w : Who) (v : Nat) : Hub := h.claimCommand w (v % 4) (v / 65536)

/-- CLAIM as read (R163). -/
def Hub.claimWord (h : Hub) (k : Nat) : Nat :=
  let x := h.host k
  x.tag * 65536 + x.result * 256 + 32 * b2n x.onTether + 16 * b2n x.onTwoWire

/-- The session ends as on expiry: TIMEOUT_POLICY, then E99 (R166, R167). -/
def Hub.loseSession (h : Hub) (k : Nat) : Hub :=
  let h := h.endSession k
  let h := if h.live? (hostIdx k) 7 = 1 then h.releaseOwned k else h
  h.cause evSessionLost (.hostAndInstallers k)

/-- R166: a session timer expires. -/
def Hub.sessionExpiry (h : Hub) (k : Nat) : Hub :=
  if (h.host k).claimed = true ∧ h.sessionsPaused = false then h.whenDue (.session k) (·.loseSession k) else h

/-- R167: FORCE_RELEASE; without a session it has no effect. -/
def Hub.forceRelease (h : Hub) (k : Nat) : Hub := if (h.host k).claimed then h.loseSession k else h

/-- A ROLE that leaves no Installer is refused (R162). -/
def Hub.roleAbort (h : Hub) (k v : Nat) : Nat :=
  if v = 2 ∨ (List.range 8).any (fun j => decide (j ≠ k) && decide (h.role j = 2)) then 0 else 0x06

/-- ROLE takes effect: an Observer's objects are released (R162). -/
def Hub.roleApply (h : Hub) (k v : Nat) : Hub := if v = 0 then h.releaseOwned k else h

end Sys2Proof.Machine
end

