-- ==== Sys2Proof/Machine/Tandem.lean ====
section
/-! DEFINITION. Tandem conversion (R53 to R75): the two combiners of an input, the match table and the faults of the paths. -/

namespace Sys2Proof.Machine

/-! ## Levels -/

/-- `|x|` is at or above `c` centi-decibels re full scale 2^31: `|x|^2000 * 10^(-c) >= 2^(31*2000)`, with the exponents reduced by their
common divisor, so that no rounding enters (R5, R58). -/
def reaches (x : Int) (c : Int) : Bool :=
  let g := Nat.gcd 2000 c.natAbs
  let a := 2000 / g
  let b := c.natAbs / g
  if c ≤ 0 then decide ((2 ^ 31) ^ a ≤ x.natAbs ^ a * 10 ^ b) else decide ((2 ^ 31) ^ a * 10 ^ b ≤ x.natAbs ^ a)

/-- `|x|` is above `c` centi-decibels re full scale, for `c` at most 0. -/
def exceeds (x : Int) (c : Int) : Bool :=
  let g := Nat.gcd 2000 c.natAbs
  decide ((2 ^ 31) ^ (2000 / g) < x.natAbs ^ (2000 / g) * 10 ^ (c.natAbs / g))

/-- Sum of squares of `n` samples at or above an RMS of `c` centi-decibels re full scale. -/
def rmsReaches (sum n : Nat) (c : Int) : Bool :=
  let g := Nat.gcd 1000 c.natAbs
  let a := 1000 / g
  let b := c.natAbs / g
  if c ≤ 0 then decide ((n * 2 ^ 62) ^ a ≤ sum ^ a * 10 ^ b) else decide ((n * 2 ^ 62) ^ a * 10 ^ b ≤ sum ^ a)

/-- Full scale of M and H in centi-decibels re L (R53). -/
def fullScale : Path → Int
  | .l => 0 | .m => -2400 | .h => -4800

/-- Handover ceiling of a path (R59) and short-path ceiling (R61). -/
def Hub.ceiling (h : Hub) (n : Nat) (p : Path) : Int := fullScale p + toS32 (h.live? (inTandemIdx n) 1)
def Hub.shortCeiling (h : Hub) (n : Nat) (p : Path) : Int := h.ceiling n p + toS32 (h.live? (inTandemIdx n) 2)

/-- The sample of one path. -/
def pathOf (p : Path) (x : PathSample) : Int :=
  match p with
  | .l => x.l | .m => x.m | .h => x.h

def Tandem.path (t : Tandem) : Path → PathState
  | .l => t.l | .m => t.m | .h => t.h

def Tandem.modPath (t : Tandem) (p : Path) (f : PathState → PathState) : Tandem :=
  match p with
  | .l => { t with l := f t.l }
  | .m => { t with m := f t.m }
  | .h => { t with h := f t.h }

def Hub.modTandem (h : Hub) (n : Nat) (f : Tandem → Tandem) : Hub := h.modInput n (fun x => { x with tandem := f x.tandem })

/-- A path may carry weight: stable (R55) and not excluded (R69, R71). -/
def Tandem.usable (t : Tandem) (p : Path) : Bool := (t.path p).usable && !(t.path p).excluded

/-! ## The banks of the match table (R66) -/

def Tandem.active (t : Tandem) : MatchSet := if t.activeB then t.bankB else t.bankA
def Tandem.inactive (t : Tandem) : MatchSet := if t.activeB then t.bankA else t.bankB
def Tandem.setInactive (t : Tandem) (m : MatchSet) : Tandem := if t.activeB then { t with bankA := m } else { t with bankB := m }

/-! ## Ahead of the combiners (R54) -/

/-- S32 steps per nanovolt at the pins, in 2^-60: 2^31 steps stand for +28 dBu, 10^1.4 times 0.7746 V (R5, log 119). -/
def nanovolt : Nat := 127248883431783908

/-- A coefficient of the active set; in the block after a swap it moves linearly over the 256 samples (R66 step 4). -/
def Tandem.coefficient (t : Tandem) (now sub : Nat) (f : MatchSet → Int) : Rat :=
  let new : Rat := (f t.active : Rat)
  match t.movingFrom with
  | some (f0, old) =>
    let k := 8 * (now - f0) + sub + 1
    if k < 256 then (f old : Rat) + (new - (f old : Rat)) * ((k : Nat) : Rat) / 256 else new
  | none => new

/-- The corrections of a path: they chain from the base path, so H carries both; with M excluded it is matched to L (R63, R69). -/
def corrections (c : (MatchSet → Int) → Rat) (mOut : Bool) : Path → Correction
  | .l => ⟨c (·.lOffset), 0, 0⟩
  | .m => ⟨c (·.mOffset), c (·.lmGain), c (·.lmDelay)⟩
  | .h => if mOut then ⟨c (·.hOffset), c (·.lhGain), c (·.lhDelay)⟩
          else ⟨c (·.hOffset), c (·.lmGain) + c (·.mhGain), c (·.lmDelay) + c (·.mhDelay)⟩

/-- A sample without its path's DC offset, scaled by the nominal gain and corrected in gain (R54). -/
def conditioned (p : Path) (k : Correction) (raw : Int) : Int :=
  let x := raw * (((Level.db (fullScale p : Rat)).amp : Nat) : Int) - (k.offset * ((nanovolt : Nat) : Rat)).floor
  satS32 (roundFree (x * (((Level.db (k.gain / 100)).amp : Nat) : Int)) (unity * unity))

/-- The bulk delay of 8 samples with the correction of up to 8 samples either way (R54); a whole number of samples is the line's own sample
(log 15). -/
def delayed (k : Correction) (line : List Int) : Int :=
  let d := max 0 (min 16 (8 + k.delay / 4096))
  let whole := d.floor.toNat
  let part := ((d - ((whole : Nat) : Rat)) * 1048576).floor.toNat
  if part = 0 then line.getD whole 0 else satS32 (Config.fraction part whole line)

/-- One sample of a path into its delay line, and what leaves the fractional-delay filter. -/
def matchPath (p : Path) (k : Correction) (line : List Int) (raw : Int) : List Int × Int :=
  let line := (conditioned p k raw :: line).take 33
  (line, delayed k line)

/-- The three matched paths of a slice's sample (R54). -/
def Tandem.matchPaths (t : Tandem) (c : (MatchSet → Int) → Rat) (raw : PathSample) : Tandem × PathSample :=
  let k := corrections c t.m.excluded
  let l := matchPath .l (k .l) t.l.line raw.l
  let m := matchPath .m (k .m) t.m.line raw.m
  let hh := matchPath .h (k .h) t.h.line raw.h
  ({ t with l := { t.l with line := l.1 }, m := { t.m with line := m.1 }, h := { t.h with line := hh.1 } }, ⟨l.2, m.2, hh.2⟩)

/-- The same for a relief slice ahead of its crossfade, with its own set (R349). -/
def Slice.matchPaths (s : Slice) (set : MatchSet) (raw : PathSample) : Slice × PathSample :=
  let k := corrections (fun f => ((f set : Int) : Rat)) false
  let l := matchPath .l (k .l) s.lineL raw.l
  let m := matchPath .m (k .m) s.lineM raw.m
  let hh := matchPath .h (k .h) s.lineH raw.h
  ({ s with lineL := l.1, lineM := m.1, lineH := hh.1 }, ⟨l.2, m.2, hh.2⟩)

/-! ## Weights and fades (R56, R57) -/

/-- Frames a fade has still to run. -/
def WFade.runs (f : WFade) (len : Nat) : Bool := decide (f.i < len)

def Weight.fading (w : Weight) (len : Nat) : Bool := match w.fade with | some f => f.runs len | none => false
def Weight.fadingIn (w : Weight) (len : Nat) : Bool := match w.fade with | some f => f.runs len && decide (f.g1 ≠ 0) | none => false
def Weight.fadingOut (w : Weight) (len : Nat) : Bool := match w.fade with | some f => f.runs len && decide (f.g1 = 0) | none => false

/-- Starts a fade from the weight reached. -/
def Weight.startFade (w : Weight) (target : Nat) : Weight := { w with fade := some { g0 := w.g, g1 := target, i := 0 } }

/-- One sample of a running fade of `len` samples (R57, R61). -/
def Weight.advance (w : Weight) (len : Nat) : Weight :=
  match w.fade with
  | some f => if f.i < len then { w with g := raisedCosine f.g0 f.g1 f.i len, fade := some { f with i := f.i + 1 } } else w
  | none => w

/-- The weight of a path that has become the base path (R56, R69): it stands at full weight, or fades there. -/
def Weight.base (w : Weight) (len : Nat) : Weight :=
  if w.g = unity then { w with fade := none } else if w.fadingIn len then w else w.startFade unity

/-- Base path by exclusion (R56): with L excluded M is the base path; with L and M excluded H is (log 25). -/
def Tandem.fixWeights (t : Tandem) (c : Combiner) (len : Nat) : Combiner :=
  if t.l.excluded then
    if t.m.excluded then { c with h := c.h.base len } else { c with m := c.m.base len }
  else c

/-- The next less sensitive usable path carries full weight (R58): for M it is L; for H it is M where usable, else L. -/
def Tandem.innerFull (t : Tandem) (c : Combiner) (p : Path) : Bool :=
  match p with
  | .h => if t.usable .m then decide (c.m.g = unity) else !t.l.excluded && decide (c.m.g = 0)
  | .m => !t.l.excluded
  | .l => true

/-- The weighted sum of R56: exact where it is a whole number of steps, else rounded one way or the other (log 12). -/
def weigh (gm gh : Nat) (x : PathSample) : Int :=
  let u : Int := unity
  let inner := (gm : Int) * x.m + (u - gm) * x.l
  let num := (gh : Int) * x.h * u + (u - gh) * inner
  let den := u * u
  if num % den = 0 then num / den else if Config.roundsUp num den then num / den + 1 else num / den

/-! ## The look-ahead combiner (R58) -/

/-- The window of 16 samples, the newest last; samples before the start are zero. -/
def Tandem.windowed (t : Tandem) (x : PathSample) : List PathSample :=
  let w := t.window ++ [x]
  let w := List.replicate (16 - w.length) ⟨0, 0, 0⟩ ++ w
  w.drop (w.length - 16)

/-- Fade-out rules of one path; a lowered ceiling also acts on what the window holds already (R59). -/
def Tandem.lookOut (t : Tandem) (ceil : Int) (p : Path) (win : List PathSample) (x : PathSample) (w : Weight) : Weight :=
  if (decide (0 < w.g) || w.fadingIn 16) && !w.fadingOut 16 &&
      (reaches (pathOf p x) ceil || !t.usable p || (t.lowered && win.any (fun y => exceeds (pathOf p y) ceil))) then w.startFade 0 else w

/-- Fade-in rule of one path. -/
def Tandem.lookIn (t : Tandem) (ceil : Int) (p : Path) (win : List PathSample) (c : Combiner) (w : Weight) : Weight :=
  if decide (w.g = 0) && !w.fading 16 && t.usable p && win.all (fun x => !reaches (pathOf p x) (ceil - 300)) && t.innerFull c p &&
      !c.m.fading 16 && !c.h.fading 16 then w.startFade unity else w

/-- One sample of the look-ahead combiner, in the order of its pseudocode. -/
def Tandem.lookAhead (t : Tandem) (cm ch : Int) (win : List PathSample) (x : PathSample) : Combiner :=
  let c := t.fixWeights t.look 16
  let out := win.headD x
  if c.fixedM then { c with m := { c.m with g := unity, fade := none }, h := { c.h with g := 0, fade := none }, y := out.m }
  else
    let baseM := t.l.excluded && !t.m.excluded
    let baseH := t.l.excluded && t.m.excluded
    let c := if baseH then c else { c with h := t.lookOut ch .h win x c.h }
    let c := if baseM then c else { c with m := t.lookOut cm .m win x c.m }
    let c := if baseM then c else { c with m := t.lookIn cm .m win c c.m }
    let c := if baseH then c else { c with h := t.lookIn ch .h win c c.h }
    let c := { c with m := c.m.advance 16, h := c.h.advance 16 }
    { c with y := weigh c.m.g c.h.g out }

/-! ## The predictive combiner (R61) -/

/-- Predicted level of a path. -/
def predicted (x prev : Int) : Int := (x.natAbs : Int) + 8 * ((x - prev).natAbs : Int)

/-- Cut, fade-out and quiet run of one path. -/
def Tandem.shortOut (t : Tandem) (ceil : Int) (p : Path) (x : PathSample) (w : Weight) : Weight :=
  let level := predicted (pathOf p x) (pathOf p t.prev)
  let w :=
    if reaches (pathOf p x) (fullScale p) && decide (0 < w.g) then { w with g := 0, fade := none }
    else if (decide (0 < w.g) || w.fadingIn 8) && !w.fadingOut 8 && (reaches level ceil || !t.usable p) then w.startFade 0 else w
  { w with quiet := if reaches level (ceil - 300) then 0 else w.quiet + 1 }

def Tandem.shortIn (t : Tandem) (p : Path) (c : Combiner) (w : Weight) : Weight :=
  if decide (w.g = 0) && !w.fading 8 && t.usable p && decide (16 ≤ w.quiet) && t.innerFull c p && !c.m.fading 8 && !c.h.fading 8 then
    w.startFade unity else w

/-- One sample of the predictive combiner, in the order of its pseudocode. -/
def Tandem.predict (t : Tandem) (cm ch : Int) (x : PathSample) : Combiner :=
  let c := t.fixWeights t.pred 8
  if c.fixedM then { c with m := { c.m with g := unity, fade := none }, h := { c.h with g := 0, fade := none }, y := x.m }
  else
    let baseM := t.l.excluded && !t.m.excluded
    let baseH := t.l.excluded && t.m.excluded
    let c := if baseH then c else { c with h := t.shortOut ch .h x c.h }
    let c := if baseM then c else { c with m := t.shortOut cm .m x c.m }
    let c := if baseM then c else { c with m := t.shortIn .m c c.m }
    let c := if baseH then c else { c with h := t.shortIn .h c c.h }
    let c := { c with m := c.m.advance 8, h := c.h.advance 8 }
    { c with y := weigh c.m.g c.h.g x }

/-! ## Corrections and limits (R63, R65, R68) -/

/-- Correction ranges of R63. -/
def gainRange (x : Int) : Int := clampInt (-5000) 5000 x
def delayRange (x : Int) : Int := clampInt (-32768) 32768 x
def offsetRange (x : Int) : Int := clampInt (-1000000) 1000000 x

/-- The estimates of a pair lie beyond the limits of R68: gain, delay, and the offsets of its two paths. -/
def beyond (gain delay o1 o2 : Int) : Bool :=
  decide (gainRange gain ≠ gain) || decide (delayRange delay ≠ delay) || decide (offsetRange o1 ≠ o1) || decide (offsetRange o2 ≠ o2)

/-- The set a commit writes (R65): pairs at or above the threshold take their new estimates, the others keep their committed values. The
offset of a pair's more sensitive path goes with the pair; the offset of L goes with L-M (log 24). -/
def commitSet (old est : MatchSet) (lm mh lh : Bool) : MatchSet :=
  let s := if lm then { old with lmGain := gainRange est.lmGain, lmDelay := delayRange est.lmDelay, lOffset := offsetRange est.lOffset
                                 mOffset := offsetRange est.mOffset } else old
  let s := if mh then { s with mhGain := gainRange est.mhGain, mhDelay := delayRange est.mhDelay, hOffset := offsetRange est.hOffset } else s
  if lh then { s with lhGain := gainRange est.lhGain, lhDelay := delayRange est.lhDelay, hOffset := offsetRange est.hOffset } else s

/-! ## The estimator (R62 to R64, R68) -/

/-- What 60 s of qualifying blocks leave of one, in 2^-60, over one block (R63). -/
def forget : Nat := expUnit (-((fixOne / 180000 : Nat) : Int))

/-- A block's value enters a forgetting mean. -/
def Mean.add (m : Mean) (x : Int) : Mean := { weight := m.weight * forget / unity + unity, sum := m.sum * (forget : Int) / unity + x * unity }

/-- The mean so far; zero where nothing entered it. -/
def Mean.value (m : Mean) : Int := nearest m.sum m.weight

def Estimator.pair (e : Estimator) : Pair → PairEst
  | .lm => e.lm | .mh => e.mh | .lh => e.lh | .ref .l => e.refL | .ref .m => e.refM | .ref .h => e.refH

def Estimator.modPair (e : Estimator) (p : Pair) (f : PairEst → PairEst) : Estimator :=
  match p with
  | .lm => { e with lm := f e.lm } | .mh => { e with mh := f e.mh } | .lh => { e with lh := f e.lh }
  | .ref .l => { e with refL := f e.refL } | .ref .m => { e with refM := f e.refM } | .ref .h => { e with refH := f e.refH }

/-- The less and the more sensitive path of a pair. -/
def Pair.inner : Pair → Path
  | .lm => .l | .mh => .m | .lh => .l | .ref p => p
def Pair.outer : Pair → Path
  | .lm => .m | .mh => .h | .lh => .h | .ref p => p

/-- What the two sides of a pair carry in one matched sample. -/
def Pair.innerOf (p : Pair) (x : Noted) : Int := match p with | .ref _ => x.y | p => pathOf p.inner x.matched
def Pair.outerOf (p : Pair) (x : Noted) : Int := pathOf p.outer x.matched

/-- Least RMS and largest peak of a qualifying block in centi-decibels (R62, R349). -/
def Pair.floor : Pair → Int
  | .lm => -10800 | .mh => -13100 | .lh => -10800 | .ref .l => -10800 | .ref .m => -13100 | .ref .h => -13750
def Pair.ceiling : Pair → Int
  | .lm => -2450 | .mh => -4850 | .lh => -4850 | .ref p => fullScale p - 50

def squares (f : Noted → Int) (block : List Noted) : Nat := block.foldl (fun (a : Nat) x => a + (f x).natAbs ^ 2) 0
def peakOf (f : Noted → Int) (block : List Noted) : Nat := block.foldl (fun (a : Nat) x => max a (f x).natAbs) 0

/-- One side of a pair is loud enough and unclipped in a block. -/
def Pair.sideOk (p : Pair) (f : Noted → Int) (block : List Noted) : Bool :=
  rmsReaches (squares f block) 256 p.floor && !exceeds (peakOf f block) p.ceiling

/-- Every sample of a block qualifies for a pair (R62); of a pair with the reference only the relief path is looked at (R349). -/
def Pair.qualifies (p : Pair) (spoiled : Path → Bool) (block : List Noted) : Bool :=
  decide (block.length = 256) && !spoiled p.inner && !spoiled p.outer && p.sideOk p.outerOf block &&
  (match p with | .ref _ => true | _ => p.sideOk p.innerOf block)

/-- The mean of a path over a block in 2^-20 nV at the pins. -/
def blockMean (p : Path) (block : List Noted) : Int :=
  let sum := block.foldl (fun (a : Int) x => a + pathOf p x.raw) 0
  nearest (sum * (((Level.db (fullScale p : Rat)).amp * 1048576 : Nat) : Int)) (256 * nanovolt)

def Estimator.dc (e : Estimator) : Path → Mean
  | .l => e.dcL | .m => e.dcM | .h => e.dcH

/-- Estimate of a path's DC offset in nV. -/
def Estimator.offset (e : Estimator) (p : Path) : Int := nearest (e.dc p).sum ((e.dc p).weight * 1048576)

/-- A pair out of the limits of R68 in a qualifying block: its estimates, the offset of either path, or the residual against the block RMS of its
more sensitive path (log 120). -/
def Estimator.outOfLimits (e : Estimator) (p : Pair) (block : List Noted) : Bool :=
  beyond (e.pair p).gain.value (e.pair p).delay.value (e.offset p.inner) (e.offset p.outer) ||
  decide (squares p.outerOf block < 1000000000 * squares (fun x => p.outerOf x - p.innerOf x) block)

/-- The pairs evaluated (R62): L-M and M-H, and L-H while M is excluded. -/
def Tandem.pairs (t : Tandem) : List Pair := if t.m.excluded then [.lm, .mh, .lh] else [.lm, .mh]

/-- A block enters the record of slice `n`: the means of the paths of every pair it qualifies for, then the estimates of the pairs. -/
def Estimator.add (e : Estimator) (n : Nat) (ps : List Pair) (block : List Noted) : Estimator :=
  let seen (p : Path) : Bool := ps.any (fun q => decide (q.inner = p) || decide (q.outer = p))
  let e := { e with dcL := if seen .l then e.dcL.add (blockMean .l block) else e.dcL
                    dcM := if seen .m then e.dcM.add (blockMean .m block) else e.dcM
                    dcH := if seen .h then e.dcH.add (blockMean .h block) else e.dcH }
  let raws := block.map (·.raw)
  ps.foldl (fun (e : Estimator) p =>
    let k := match p with | .lm => 0 | .mh => 1 | .lh => 2 | .ref .l => 3 | .ref .m => 4 | .ref .h => 5
    let e := e.modPair p (fun x => { x with gain := x.gain.add (Config.blockGain n k raws), delay := x.delay.add (Config.blockDelay n k raws) })
    let out := e.outOfLimits p block
    e.modPair p (fun x => { x with outRun := if out then x.outRun + 1 else 0 })) e

/-- The set the estimates spell (R63). -/
def Estimator.set (e : Estimator) : MatchSet :=
  { lmGain := e.lm.gain.value, lmDelay := e.lm.delay.value, mhGain := e.mh.gain.value, mhDelay := e.mh.delay.value
    lhGain := e.lh.gain.value, lhDelay := e.lh.delay.value, lOffset := e.offset .l, mOffset := e.offset .m, hOffset := e.offset .h }

/-- A mean that stands at a committed value, as one block's worth (R71). -/
def Mean.standing (x : Int) : Mean := { weight := unity, sum := x * unity }

/-- The estimator resumes a pair from its committed values (R71). -/
def Estimator.resume (e : Estimator) (p : Pair) (s : MatchSet) : Estimator :=
  let g := match p with | .lm => s.lmGain | .mh => s.mhGain | .lh => s.lhGain | .ref _ => 0
  let d := match p with | .lm => s.lmDelay | .mh => s.mhDelay | .lh => s.lhDelay | .ref _ => 0
  e.modPair p (fun x => { x with gain := Mean.standing g, delay := Mean.standing d, outRun := 0 })

/-! ## One sample of an input -/

/-- A stable sample of a path (R55). -/
def PathState.tick (p : PathState) : PathState := { p with stable := if p.stable < 64 then p.stable + 1 else 64 }

/-- What the estimator notes of one sample (R62). -/
def Tandem.note (t : Tandem) (raw matched : PathSample) (y : Int) : Tandem :=
  { t with
    block := (⟨raw, matched, y⟩ :: t.block).take 256
    spoilL := t.spoilL || decide (t.l.stable < 64), spoilM := t.spoilM || decide (t.m.stable < 64)
    spoilH := t.spoilH || decide (t.h.stable < 64)
    mFull := t.mFull || isClip raw.m }

/-- One sample through both combiners. -/
def Tandem.splice (t : Tandem) (cm ch sm sh : Int) (toM : Nat) (raw x : PathSample) : Tandem :=
  let win := t.windowed x
  let look := t.lookAhead cm ch win x
  let look := { look with y := weigh toM 0 ⟨look.y, (win.headD x).m, 0⟩ }
  let pred := t.predict sm sh x
  let t := t.note raw x look.y
  { t with look := look, pred := pred, window := win, prev := x, lowered := false, samples := t.samples ++ [look.y]
           l := t.l.tick, m := t.m.tick, h := t.h.tick }

/-- A slice whose relief has nothing in its delay lines and its estimator's record (R349). -/
def Slice.matchStart (s : Slice) : Slice := { s with lineL := [], lineM := [], lineH := [], block := [], est := {} }

/-- How far a relief crossfade has gone (R349 step 4). -/
def Hub.reliefWeight (h : Hub) (n : Nat) : Nat :=
  match h.deadline (.reliefXfade (.irs ((n - 1) / 8))) with
  | some d => raisedCosine 0 unity (8 * (h.now + ms 20 - d) + h.sub) 15360
  | none => unity

/-- The set the relief of an input starts from (R349 step 2). -/
def reliefFactory (n : Nat) : MatchSet := Config.factoryMatch (64 + (n - 1) / 8)

/-- The set of a relief slice in its match phase: its factory set with the estimates reached (R349). -/
def Estimator.reliefSet (e : Estimator) (n : Nat) : MatchSet :=
  commitSet (reliefFactory n) e.set (decide (e.lm.gain.weight ≠ 0)) (decide (e.mh.gain.weight ≠ 0)) false

/-- The matched paths under a relief crossfade: complementary weights on the paths of the same name. -/
def mixPaths (w : Nat) (old new : PathSample) : PathSample :=
  let mix (a b : Int) : Int := satS32 (roundFree (a * ((unity - w : Nat) : Int) + b * (w : Int)) unity)
  ⟨mix old.l new.l, mix old.m new.m, mix old.h new.h⟩

/-- The slice whose converters feed the input's own paths: the relief slice once relieved, and in the fade-in after a total loss (R349, R350). -/
def Slice.replaced (s : Slice) : Bool := decide (s.state = .relieved) || (decide (s.state = .crossfading) && s.failingSet.isNone)

/-- R54, R58, R61: one 768 kHz sample of input `n` from its slice, `x`, and from the relief slice of its group, `r`. -/
def Hub.combine (h : Hub) (n : Nat) (x r : PathSample) : Hub :=
  let cm := h.ceiling n .m
  let ch := h.ceiling n .h
  let sm := h.shortCeiling n .m
  let sh := h.shortCeiling n .h
  let settling := decide (h.fe n = .settling) || h.hwMuted n
  let w := h.reliefWeight n
  h.modInput n (fun i =>
    let raw := if i.slice.replaced then r else x
    let t := { i.tandem with spoiled := i.tandem.spoiled || settling }
    match i.slice.failingSet with
    | some set =>
      let old := t.matchPaths (fun f => ((f set : Int) : Rat)) raw
      let new := i.slice.matchPaths (i.slice.reliefSet.getD (reliefFactory n)) r
      { i with tandem := old.1.splice cm ch sm sh (t.toM.at h.now) raw (mixPaths w old.2 new.2), slice := new.1 }
    | none =>
      let own := t.matchPaths (t.coefficient h.now h.sub) raw
      let t := own.1.splice cm ch sm sh (t.toM.at h.now) raw own.2
      if i.slice.matchSince.isSome then
        let new := i.slice.matchPaths (i.slice.est.reliefSet n) r
        { i with tandem := t, slice := { new.1 with block := (⟨r, new.2, t.look.y⟩ :: new.1.block).take 256 } }
      else { i with tandem := t })

/-- The path samples in a list, zero where not listed: those of IN1 to IN48 under their number, those of IRSk under 64 + k. -/
def sampleOf : List (Nat × PathSample) → Nat → PathSample
  | [], _ => ⟨0, 0, 0⟩
  | (n, x) :: r, k => if n = k then x else sampleOf r k

/-- R57: a fade that has run its samples is closed; the weight stays at its target. -/
def Weight.closeFade (w : Weight) (len : Nat) : Weight :=
  match w.fade with
  | some f => if len ≤ f.i then { w with g := f.g1, fade := none } else w
  | none => w

def Combiner.closeFade (c : Combiner) (p : Path) (len : Nat) : Combiner :=
  match p with
  | .m => { c with m := c.m.closeFade len }
  | .h => { c with h := c.h.closeFade len }
  | .l => c

def Hub.combinerFadeEnd (h : Hub) (n : Nat) (p : Path) (short : Bool) : Hub :=
  h.modTandem n (fun t =>
    if short then { t with pred := t.pred.closeFade p 8 } else { t with look := t.look.closeFade p 16 })

/-! ## Starts of the combiners (R55, R73) -/

/-- A modulator starts: its path is not usable until 64 stable samples (R55). -/
def PathState.restart (p : PathState) : PathState := { p with usable := false, stable := 0 }

/-- Both combiners start on L, or on M where L is excluded (R55). -/
def Tandem.startOnL (t : Tandem) : Tandem :=
  let w : Nat := if t.l.excluded then unity else 0
  { t with look := { m := { g := w }, h := {}, fixedM := false, y := 0 }, pred := { m := { g := w }, h := {}, fixedM := false, y := 0 } }

/-- The modulators of an input start: at bring-up, by its group domain, on release of a hardware mute, on recovery from a rail mute; in full
service the combiners start on L (R55). -/
def Tandem.restart (t : Tandem) (full : Bool) : Tandem :=
  let t := { t with l := t.l.restart, m := t.m.restart, h := t.h.restart }
  if full then t.startOnL else t

/-- The hand-over to full service: the look-ahead combiner starts with gM = 1 and gH = 0 (R73). -/
def Tandem.startOnM (t : Tandem) : Tandem :=
  { t with look := { t.look with m := { g := unity }, h := {}, fixedM := false }
           pred := { t.pred with m := { g := if t.l.excluded then unity else 0 }, h := {}, fixedM := false } }

/-- The return of a watch channel: M runs on, the modulators of L and H start (R55, R368). -/
def Tandem.startFromWatch (t : Tandem) : Tandem := { t.startOnM with l := t.l.restart, h := t.h.restart }

/-- The next less sensitive usable path shows the input more than 6 dB below the full scale of `p` (R343, OVERLOAD). -/
def Tandem.innerQuiet (t : Tandem) (p : Path) : Bool :=
  match p with
  | .l => false
  | .m => t.usable .l && !reaches t.prev.l (fullScale .m - 600)
  | .h => if t.usable .m then !reaches t.prev.m (fullScale .h - 600) else t.usable .l && !reaches t.prev.l (fullScale .h - 600)

/-- R55: the modulator of a path leaves its stable range; on L it is an overload of the input (R41). Overloads of M and H that the signal does
not explain are kept for 10 s (R343). -/
def Hub.modulatorOverload (h : Hub) (n : Nat) (p : Path) : Hub :=
  let h := h.modTandem n (fun t =>
    let odd := t.innerQuiet p
    t.modPath p (fun x =>
      { x with usable := false, stable := 0
               overloads := if odd then x.overloads.filter (fun f => decide (h.now < f + secs 10)) ++ [h.now] else x.overloads }))
  let h := h.modTandem n (fun t =>
    match p with
    | .l => { t with spoilL := true } | .m => { t with spoilM := true } | .h => { t with spoilH := true })
  if p = .l then h.inputOverload n else h

/-- R55: stable for 64 consecutive samples. -/
def Hub.pathUsable (h : Hub) (n : Nat) (p : Path) : Hub :=
  h.modTandem n (fun t => t.modPath p (fun x => if 64 ≤ x.stable then { x with usable := true } else x))

/-! ## Match table (R62 to R67) -/

/-- Whether the estimator works (R62, R73): full service, Run, supervisor not restarting. -/
def Hub.estimating (h : Hub) : Bool := h.boot.full && !h.sup.restarting && decide (h.pwr.state = 0)

/-- The confidence C of a pair (R64); a pair that no block qualified for has none. -/
def confidence (e : PairEst) (x : PairErrors) : Nat := if e.gain.weight = 0 then 0 else 1000 - max x.gain (max x.delay x.offset)

/-- The match-phase pairs of a relief are judged (R349): the pairs of the relief slice, and each of its paths with the reference. -/
def Hub.reliefConfidence (h : Hub) (n : Nat) (lm mh : PairErrors) (refs : List PairErrors) : Hub :=
  h.modInput n (fun x =>
    let e := x.slice.est
    let c (p : PairEst) (k : Nat) : Nat := match refs[k]? with | some r => confidence p r | none => 0
    { x with slice := { x.slice with
        matchConf := min (min (confidence e.lm lm) (confidence e.mh mh)) (min (c e.refL 0) (min (c e.refM 1) (c e.refH 2))) } })

/-- The confidences are computed anew; that of L-H while M is excluded. -/
def Tandem.judge (t : Tandem) (lm mh lh : PairErrors) : Tandem :=
  let e := t.est
  { t with est := { e with lm := { e.lm with conf := confidence e.lm lm }, mh := { e.mh with conf := confidence e.mh mh }
                           lh := { e.lh with conf := if t.m.excluded then confidence e.lh lh else 0 } } }

/-- R64 to R66: the estimator ends writing a set into the inactive bank and requests the swap. One between RESET_MATCH and its swap takes the
place of the factory set (log 129). -/
def Hub.matchCommitRequest (h : Hub) (n : Nat) (lm mh lh : PairErrors) (refs : List PairErrors) : Hub :=
  if h.estimating then
    if (h.input n).slice.state = .matching then h.reliefConfidence n lm mh refs
    else
      let h := h.modTandem n (·.judge lm mh lh)
      let t := (h.input n).tandem
      let th := h.live? (inTandemIdx n) 3
      let met (e : PairEst) : Bool := decide (th ≤ e.conf) && decide (e.gain.weight ≠ 0)
      if (met t.est.lm || met t.est.mh || met t.est.lh) && (decide (t.lastCommit = 0) || decide (t.lastCommit + 64 * 32 ≤ h.now)) then
        h.modTandem n (fun t =>
          { t.setInactive (commitSet t.active t.est.set (met t.est.lm) (met t.est.mh) (met t.est.lh)) with swapReq := true, swapFactory := false })
      else h
  else h

/-- A probationary path is readmitted when every pair that includes it and is evaluated (R62) has its confidence and lies within its limits
(R68, R71). Log 106. -/
def Tandem.readmit (t : Tandem) (th : Nat) : Tandem :=
  let passes (e : PairEst) : Bool := decide (th ≤ e.conf) && decide (e.outRun = 0)
  let lm := passes t.est.lm
  let mh := passes t.est.mh
  let lh := !t.m.excluded || passes t.est.lh
  let ok : Path → Bool
    | .l => lm && lh | .m => lm && mh | .h => mh && lh
  let one (t : Tandem) (p : Path) : Tandem :=
    t.modPath p (fun x => if x.probation && ok p then { x with probation := false, excluded := false } else x)
  one (one (one t .l) .m) .h

/-- R66 steps 3 to 5: the banks swap at a block boundary. A swap of RESET_MATCH clears the exclusions (R72). -/
def Tandem.swap (t : Tandem) (now th : Nat) : Tandem :=
  let old := t.active
  let t := { t with activeB := !t.activeB, swapReq := false, movingFrom := some (now, old), lastCommit := now, stale := false, staleBlocks := 0
                    factory := t.swapFactory }
  if t.swapFactory then
    let clear : PathState → PathState := fun p => { p with excluded := false, probation := false }
    { t with swapFactory := false, est := {}, l := clear t.l, m := clear t.m, h := clear t.h }
  else t.readmit th

/-- R69 at its block boundary: the path is excluded; with M excluded the first L-H set is the sum of the two others, in both banks
(log 131). -/
def Tandem.exclude (t : Tandem) (p : Path) : Tandem :=
  if (t.path p).excludeDue then
    let t := t.modPath p (fun x => { x with excluded := true, excludeDue := false, probation := false })
    if p = .m then
      let sum (s : MatchSet) : MatchSet := { s with lhGain := s.lmGain + s.mhGain, lhDelay := s.lmDelay + s.mhDelay }
      { t with bankA := sum t.bankA, bankB := sum t.bankB }
    else t
  else t

/-- The exclusion bits of PATH_STATUS (R74): bit 2 H, bit 1 M, bit 0 L. -/
def Tandem.exclusions (t : Tandem) : Nat := b2n t.l.excluded + 2 * b2n t.m.excluded + 4 * b2n t.h.excluded

/-- What spoils a path in the present block (R62). -/
def Tandem.spoils (t : Tandem) (p : Path) : Bool :=
  t.spoiled || (match p with | .l => t.spoilL | .m => t.spoilM | .h => t.spoilH)

/-- The pairs the block that ends qualifies for (R62). -/
def Tandem.qualified (t : Tandem) : List Pair := t.pairs.filter (fun p => p.qualifies t.spoils t.block)

/-- The pairs of a relief slice in its match phase that its block qualifies for (R349). -/
def Slice.qualified (s : Slice) : List Pair :=
  if s.state = .matching then [Pair.lm, .mh, .ref .l, .ref .m, .ref .h].filter (fun p => p.qualifies (fun _ => false) s.block) else []

/-- The tandem's part of a block boundary: the estimator takes in the block (R63), stale timer (R67), exclusions (R69), bank swap (R66). -/
def Hub.tandemBoundary (h : Hub) (n : Nat) : Hub :=
  let i := h.input n
  let t := i.tandem
  let on := h.estimating && !h.hwMuted n
  let before := t.exclusions
  let ps := if on then t.qualified else []
  let rs := if on then i.slice.qualified else []
  let slice := { i.slice with est := i.slice.est.add (64 + (n - 1) / 8) rs i.slice.block, block := [] }
  let t := { t with est := t.est.add n ps t.block, staleBlocks := if ps.isEmpty then t.staleBlocks else min 5400000 (t.staleBlocks + 1)
                    block := [], spoilL := false, spoilM := false, spoilH := false, spoiled := false }
  let t := ((t.exclude .l).exclude .m).exclude .h
  let t := match t.movingFrom with
    | some (f, _) => if f + 32 ≤ h.now then { t with movingFrom := none } else t
    | none => t
  let t := if t.swapReq then t.swap h.now (h.live? (inTandemIdx n) 3) else t
  let h := h.modInput n (fun x => { x with tandem := t, slice := slice })
  if t.exclusions = before then h else h.request (.exclusion n)

/-- R67: 10 minutes of qualifying material without a commit. -/
def Hub.matchStale (h : Hub) (n : Nat) : Hub :=
  let t := (h.input n).tandem
  if t.stale = false ∧ 1800000 ≤ t.staleBlocks then (h.modTandem n (fun t => { t with stale := true })).cause evMatchStale else h

/-- A pair out of its limits for 3,000 consecutive qualifying blocks (R68). -/
def PairEst.failed (e : PairEst) : Bool := decide (3000 ≤ e.outRun)

/-- The path a fault is attributed to by the pairs L-M and M-H (R68). -/
def Estimator.attributed (e : Estimator) : Option Path :=
  match e.lm.failed, e.mh.failed with
  | true, true => some .m
  | true, false => some .l
  | false, true => some .h
  | false, false => none

/-- The path a fault is attributed to: with M already excluded, H by the pair L-H (R68). -/
def Tandem.attributed (t : Tandem) : Option Path :=
  if t.m.excluded && !t.m.probation then if t.est.lh.failed then some .h else none else t.est.attributed

/-- R68, R69: the path the fault is attributed to is excluded at the next block boundary, with E89. A path that is excluded already and not on
probation (R71) stays as it is. -/
def Hub.pathExclude (h : Hub) (n : Nat) (p : Path) : Hub :=
  let t := (h.input n).tandem
  if h.estimating && decide (t.attributed = some p) && (!(t.path p).excluded || (t.path p).probation) then
    (h.modTandem n (fun t => t.modPath p (fun x => { x with excludeDue := true }))).cause evPathFault
  else h

/-- The pairs that include a path (R71). -/
def pairsWith : Path → List Pair
  | .l => [.lm, .lh] | .m => [.lm, .mh] | .h => [.mh, .lh]

/-- R71: PATH_RESTORE puts excluded paths on probation; their pairs resume from the committed values. -/
def Hub.pathRestore (h : Hub) (n v : Nat) : Hub :=
  let one (t : Tandem) (k : Nat) (p : Path) : Tandem :=
    if bit v k && (t.path p).excluded then
      { t.modPath p (fun x => { x with probation := true }) with est := (pairsWith p).foldl (fun (e : Estimator) q => e.resume q t.active) t.est }
    else t
  h.modTandem n (fun t => one (one (one t 0 .l) 1 .m) 2 .h)

/-- R72: RESET_MATCH puts the factory set into the inactive bank and requests the swap; the clearing of the stored set joins the store's queue, which
waits in a dip (R22, R278). -/
def Hub.resetMatch (h : Hub) (n : Nat) : Hub :=
  (h.modTandem n (fun t => { t.setInactive (Config.factoryMatch n) with swapReq := true, swapFactory := true })).request (.matchSet n)

/-- R72: the committed set of an input is stored, at most once per 10 minutes. -/
def Hub.matchSetStore (h : Hub) (n : Nat) : Hub :=
  if h.armed (.matchStore n) && !h.due (.matchStore n) || (h.input n).tandem.factory then h
  else (h.request (.matchSet n)).start (.matchStore n) (secs 600)

/-! ## What the status fields show (R74) -/

/-- ACTIVE_PATH: the path of largest effective weight; of equal ones the more sensitive. -/
def Tandem.activePath (t : Tandem) : Nat :=
  let gh := t.look.h.g
  let gm := t.look.m.g
  let eh := gh * unity
  let em := (unity - gh) * gm
  let el := (unity - gh) * (unity - gm)
  if em ≤ eh ∧ el ≤ eh then 2 else if el ≤ em then 1 else 0

def Tandem.pathStatus (t : Tandem) : Nat := t.exclusions + 8 * b2n t.stale + 16 * b2n t.factory

/-! ## The meanings of the rows -/

/-- R58, R61: one 768 kHz sample of every powered input; the short-path clock advances (R21). -/
def Hub.combinerSample (h : Hub) (xs : List (Nat × PathSample)) : Hub :=
  if h.framesRun ∧ h.sub < 8 then
    let h := h.forAll (upTo 1 48) (fun h n => if h.fe n = .unpowered ∨ h.fe n = .hwMuted then h else h.combine n (sampleOf xs n) (sampleOf xs (64 + (n - 1) / 8)))
    { h with sub := h.sub + 1 }
  else h

/-- R57. -/
def execCombinerFadeEnd (n : Nat) (p : Path) (short : Bool) (s : State) : Out := run (isInput n) (·.combinerFadeEnd n p short) s
/-- R55. -/
def execPathUsable (n : Nat) (p : Path) (s : State) : Out := run (isInput n) (·.pathUsable n p) s
/-- R65, R66. -/
def execMatchCommitRequest (n : Nat) (lm mh lh : PairErrors) (refs : List PairErrors) (s : State) : Out :=
  run (isInput n) (·.matchCommitRequest n lm mh lh refs) s
/-- R67. -/
def execMatchStale (n : Nat) (s : State) : Out := run (isInput n) (·.matchStale n) s
/-- R72. -/
def execMatchSetStore (n : Nat) (s : State) : Out := run (isInput n) (·.matchSetStore n) s

end Sys2Proof.Machine
end

