-- ==== Sys2Proof/Machine/Relief.lean ====
section
/-! DEFINITION. Relief slices and health supervision (R342 to R362), without the relief lane: judgements, relief of inputs and outputs, idle
units, sample-memory banks and sensors. -/

namespace Sys2Proof.Machine

/-! ## Units (R342) -/

/-- The unit of a slice. -/
def unitOf : SliceId → ReliefUnit
  | .input n => .irs ((n - 1) / 8)
  | .output n => .ors ((n - 1) / 8)

/-- The slice a unit serves, by its instance number. -/
def sliceOf (u : ReliefUnit) (n : Nat) : SliceId :=
  match u with
  | .irs _ => .input n
  | .ors _ => .output n

/-- The slices of a unit, lowest instance first. -/
def slicesOf : ReliefUnit → List SliceId
  | .irs k => (upTo (8 * k + 1) 8).map SliceId.input
  | .ors k => (upTo (8 * k + 1) 8).map SliceId.output

def numberOf : SliceId → Nat
  | .input n => n
  | .output n => n

/-- The unit has power: a domain of its two groups is on. -/
def Hub.unitOn (h : Hub) : ReliefUnit → Bool
  | .irs k => bit h.pwr.domains (2 * k) || bit h.pwr.domains (2 * k + 1)
  | .ors k => bit h.pwr.domains (12 + 2 * k) || bit h.pwr.domains (12 + 2 * k + 1)

/-- The Installer policy "report only" (R347). -/
def Hub.reportOnly (h : Hub) : Bool := decide (h.live? 0xC000 1 = 1)

def allUnits : List ReliefUnit := (List.range 6).map ReliefUnit.irs ++ (List.range 4).map ReliefUnit.ors

/-- The low byte of IRS_STATE and ORS_STATE (R361). -/
def Hub.unitState (h : Hub) (u : ReliefUnit) : Nat := if h.unitOn u ∨ (h.relief u).state = 4 then (h.relief u).state else 5

/-- Power of the group of a slice. -/
def Hub.sliceOn (h : Hub) : SliceId → Bool
  | .input n => h.groupOn n
  | .output n => (h.output n).powered

/-! ## Declarations (R343 to R346) -/

/-- Cause bits of R360. -/
def causeManual : Nat := 0
def causeReference : Nat := 1
def causeExcluded : Nat := 2
def causePatrol : Nat := 2
def causeNoise : Nat := 3
def causeDc : Nat := 3
def causeOverload : Nat := 4
def causeTone : Nat := 5
def causeStale : Nat := 6
def causeLeak : Nat := 7
def causeTotal : Nat := 8

/-- A criterion is met: declared at the next block boundary (R346). -/
def Hub.declareSlice (h : Hub) (sl : SliceId) (k : Nat) : Hub := h.modSlice sl (fun x => { x with dueCause := x.dueCause ||| 2 ^ k })

/-- Judgement of the slice is not stopped (R346): full service, Run, and none of the conditions named there. -/
def Hub.judgeable (h : Hub) (sl : SliceId) : Bool :=
  h.boot.full && decide (h.pwr.state = 0) &&
  (match sl with
    | .input n => !h.hwMuted n && (decide (h.fe n = .running) || decide (h.fe n = .onRelief))
    | .output n => !h.patrolSuspended n)

/-- Supervision judges the slice now: no restart runs either (R24). -/
def Hub.judging (h : Hub) (sl : SliceId) : Bool := h.judgeable sl && !h.sup.restarting

/-- NOISE_MARGIN in 0.01 dB. -/
def Hub.noiseMargin (h : Hub) : Int := toS32 (h.live? 0xC000 2)

/-- R343, R344: a supervision window of a slice completes. A window that does not judge the noise of a path leaves its run as it stands
(log 140). -/
def Hub.healthJudgement (h : Hub) (sl : SliceId) (j : Judgement) : Hub :=
  if h.judging sl then
    match sl, j with
    | .input n, .noise l m hh =>
      let run (p : Nat) (w : Option Int) (r : Nat) : Nat :=
        match w with
        | none => r
        | some v => if Config.factoryNoise n p + h.noiseMargin < v then r + 1 else 0
      let h := h.modSlice sl (fun x =>
        { x with
          noiseL := l.getD x.noiseL, noiseM := m.getD x.noiseM, noiseH := hh.getD x.noiseH
          noiseRunL := run 0 l x.noiseRunL, noiseRunM := run 1 m x.noiseRunM, noiseRunH := run 2 hh x.noiseRunH })
      let x := h.slice sl
      if 10 ≤ x.noiseRunL ∨ 10 ≤ x.noiseRunM ∨ 10 ≤ x.noiseRunH then h.declareSlice sl causeNoise else h
    | .input _, .tone line =>
      let h := h.modSlice sl (fun x => { x with toneRun := if -14500 < line then x.toneRun + 1 else 0 })
      if 3 ≤ (h.slice sl).toneRun then h.declareSlice sl causeTone else h
    | .input n, .stale =>
      if (h.input n).tandem.stale ∧ 5400000 ≤ (h.input n).tandem.staleBlocks then h.declareSlice sl causeStale else h
    | .output n, .dc uv => if (h.output n).cfg.mode = 1 ∧ 5000 < uv.natAbs then h.declareSlice sl causeDc else h
    | _, _ => h
  else h

/-- R343, R344: a reference outside ±0.5 % for 100 ms; in a restart it is raised after it (R336). -/
def Hub.referenceFault (h : Hub) (sl : SliceId) : Hub := if h.judgeable sl then h.declareSlice sl causeReference else h

/-- The slice's third unexplained overload of a path within 10 s (R343). -/
def Hub.overloadJudge (h : Hub) (n : Nat) : Hub :=
  let t := (h.input n).tandem
  let recent (p : PathState) : Nat := (p.overloads.filter (fun f => decide (h.now < f + secs 10))).length
  if (3 ≤ recent t.m ∨ 3 ≤ recent t.h) ∧ h.judging (.input n) = true then h.declareSlice (.input n) causeOverload else h

/-- R350, R351: total loss. An input carries digital zero from the frame of detection. -/
def Hub.totalLoss (h : Hub) (sl : SliceId) : Hub :=
  let h := (h.declareSlice sl causeTotal).modSlice sl (fun x => { x with totalLoss := true })
  match sl with
  | .input n => (h.zeroStream n).modInput n (fun x => { x with lossZero := true })
  | .output _ => h

/-- R345: a phantom switch passes more than 50 µA while OFF: report only. -/
def Hub.phantomLeak (h : Hub) (n : Nat) : Hub :=
  if (h.input n).phantom.state = .off then
    (h.modInput n (fun x => { x with leak := true, slice := { x.slice with cause := x.slice.cause ||| 2 ^ causeLeak } })).cause evHealth
  else h

/-! ## The course of a relief (R348 to R351) -/

def Hub.clearMatchTimers (h : Hub) (u : ReliefUnit) : Hub :=
  (((h.cancel (.reliefSettle u)).cancel (.reliefMatch u)).cancel (.reliefTimeout u)).cancel (.reliefTest u)

/-- The crossfade of R349 step 4 and R351 step 3 begins at a block boundary. -/
def Hub.reliefStartXfade (h : Hub) (u : ReliefUnit) : Hub :=
  let sl := sliceOf u (h.relief u).serves
  let elapsed := match (h.slice sl).matchSince with | some f => h.now - f | none => 0
  let h := (h.clearMatchTimers u).modRelief u (fun r => { r with state := 2 })
  let h := h.modSlice sl (fun x => { x with state := .crossfading, matchElapsed := elapsed, matchSince := none })
  let h :=
    match sl with
    | .input n =>
      let set := (h.slice sl).est.reliefSet n
      let h := h.modSlice sl (fun x => { x with reliefSet := some set, failingSet := some (h.input n).tandem.active })
      h.modTandem n (fun t => { t.setInactive set with swapReq := true, swapFactory := false })
    | .output n => h.modOutput n (fun o => { o with reliefXfade := true })
  h.start (.reliefXfade u) (ms 20)

/-- T0: a unit is taken by a slice. -/
def Hub.takeUnit (h : Hub) (sl : SliceId) : Hub :=
  let u := unitOf sl
  let total := (h.slice sl).totalLoss
  let h := (h.clearMatchTimers u).modRelief u (fun r => { r with state := 1, serves := numberOf sl, settled := false, direct := total })
  let h := h.modSlice sl (fun x =>
    { x with state := .matching, waits := false, requested := false, matchConf := 0, matchSince := none, matchElapsed := 0, reliefSet := none, failingSet := none, passes := 0 }.matchStart)
  match sl with
  | .input _ => h.start (.reliefSettle u) (ms 21)
  | .output n => if total then (h.outputUnfault n).reliefStartXfade u else (h.outputUnfault n).start (.reliefSettle u) (ms 1)

/-- R350: the relief slice of an input that was lost fades in over 10 ms with its factory set. -/
def Hub.reliefDirect (h : Hub) (u : ReliefUnit) (n : Nat) : Hub :=
  let h := ((h.clearMatchTimers u).modRelief u (fun r => { r with state := 2 })).modSlice (.input n) (fun x => { x with state := .crossfading })
  let h := h.modTandem n (fun t => { t.setInactive (reliefFactory n) with swapReq := true, swapFactory := true })
  (((h.modInput n (fun x => { x with lossZero := false })).zeroStream n).fadeInStream n).start (.reliefXfade u) (ms 10)

/-- R349, R351: the relief front end has settled and its match begins; after a total loss it fades in over 10 ms (R350). -/
def Hub.reliefSettled (h : Hub) (u : ReliefUnit) : Hub :=
  if (h.relief u).state = 1 then
    h.whenDue (.reliefSettle u) (fun h =>
      let sl := sliceOf u (h.relief u).serves
      let h := h.modRelief u (fun r => { r with settled := true })
      match sl with
      | .input n =>
        if (h.relief u).direct then h.reliefDirect u n
        else
          ((h.modSlice sl (fun x => { x with matchSince := some h.now })).start (.reliefMatch u) (secs 2)).start (.reliefTimeout u)
            (us (h.live? 0xC000 3))
      | .output _ => (h.modSlice sl (fun x => { x with matchSince := some h.now })).start (.reliefMatch u) (secs 2))
  else h

/-- The match phase may end at this boundary. -/
def Hub.matchOver (h : Hub) (u : ReliefUnit) : Bool :=
  let sl := sliceOf u (h.relief u).serves
  h.due (.reliefMatch u) &&
  (match sl with
    | .input n => decide (h.live? (inTandemIdx n) 3 ≤ (h.slice sl).matchConf) || h.due (.reliefTimeout u)
    | .output _ => decide (100 ≤ (h.slice sl).passes))

/-- R349 step 5, R351 step 4: the crossfade ends. -/
def Hub.reliefXfadeEnd (h : Hub) (u : ReliefUnit) : Hub :=
  if (h.relief u).state = 2 then
    h.whenDue (.reliefXfade u) (fun h =>
      let sl := sliceOf u (h.relief u).serves
      let h := h.modRelief u (fun r => { r with state := 3, since := h.now, direct := false })
      let h := h.modSlice sl (fun x =>
        { x with state := .relieved, retired := true, totalLoss := false, matchConf := 0, cause := x.cause ||| x.dueCause, dueCause := 0 })
      match sl with
      | .input n =>
        let h := if (h.input n).lossZero then ((h.modInput n (fun x => { x with lossZero := false })).zeroStream n).fadeInStream n else h
        let clear : PathState → PathState := fun p => { p with excluded := false, probation := false, overloads := [] }
        let s := h.slice sl
        let before := (h.input n).tandem.exclusions
        let h := (h.setFe n .onRelief).modTandem n (fun t => { t with l := clear t.l, m := clear t.m, h := clear t.h })
        let h := if s.failingSet.isNone then h
          else h.modTandem n (fun t => { t with est := s.est, l := { t.l with line := s.lineL }, m := { t.m with line := s.lineM }, h := { t.h with line := s.lineH } })
        let h := if before = 0 then h else h.request (.exclusion n)
        let h := h.modSlice sl (fun x => { x with reliefSet := none, failingSet := none, lineL := [], lineM := [], lineH := [], block := [], est := {} })
        (h.cause evReliefInput).request (.retired false n)
      | .output n =>
        let h := h.modOutput n (fun o => { o with onRelief := true, reliefXfade := false })
        (h.cause evReliefOutput).request (.retired true n))
  else h

/-- A match is abandoned: the switches open, the unit is idle and the slice waits (R348, R355). -/
def Hub.abandonMatch (h : Hub) (u : ReliefUnit) : Hub :=
  if (h.relief u).state = 1 then
    let sl := sliceOf u (h.relief u).serves
    let h := (h.clearMatchTimers u).modRelief u (fun r => { r with state := 0, serves := 0, settled := false, direct := false })
    h.modSlice sl (fun x => { x with state := if x.declared then .degraded else .healthy, waits := true, matchConf := 0, matchSince := none, passes := 0 }.matchStart)
  else h

/-- What abandons a match (R355): a hardware mute, a restart, the group domain off, entry to Watch, a change of the output. -/
def Hub.matchBroken (h : Hub) (u : ReliefUnit) : Bool :=
  let sl := sliceOf u (h.relief u).serves
  h.sup.restarting || decide (h.pwr.state ≠ 0) || !h.sliceOn sl ||
  (match sl with | .input n => h.hwMuted n | .output n => decide ((h.output n).step ≠ 0) || (h.output n).goingDown)

/-- A slice is left without relief: E82 and the fallback of R28 and R99; LOST after a total loss (R348, R359). -/
def Hub.unrelieved (h : Hub) (sl : SliceId) (report : Bool) : Hub :=
  let st := (h.slice sl).state
  if st = .lost ∨ (st = .unrelieved ∧ (h.slice sl).totalLoss = false) then h
  else
    let h := h.modSlice sl (fun x => { x with state := if x.totalLoss then .lost else .unrelieved, waits := true })
    if report then
      let h := h.cause evReliefExhausted
      match sl with
      | .output n => h.outputFault n
      | .input _ => h
    else h

/-- A unit fails: FAULTY, E83; a match in progress is abandoned and a slice it serves is unrelieved (R352). -/
def Hub.unitFault (h : Hub) (u : ReliefUnit) : Hub :=
  let r := h.relief u
  if r.state = 4 then h
  else
    let h := (h.clearMatchTimers u).cancel (.reliefXfade u)
    let h := (h.modRelief u (fun x => { x with state := 4, serves := 0 })).cause evHealth
    if r.state = 1 ∨ r.state = 2 ∨ r.state = 3 then
      let sl := sliceOf u r.serves
      let back := (h.slice sl).failingSet
      let h := h.modSlice sl (fun x => { x with state := .degraded, matchConf := 0, matchSince := none, reliefSet := none, failingSet := none })
      let h := match sl, back with
        | .output n, _ => h.modOutput n (fun o => { o with reliefXfade := false, onRelief := false })
        | .input n, some set => h.modTandem n (fun t => { t.setInactive set with swapReq := true, swapFactory := false })
        | .input _, none => h
      h.unrelieved sl true
    else h

/-- A waiting slice is served at a block boundary where it can be (R347, R348). -/
def Hub.serveSlice (h : Hub) (sl : SliceId) : Hub :=
  let x := h.slice sl
  let u := unitOf sl
  let r := h.relief u
  let muted := match sl with | .input n => h.hwMuted n | .output n => (h.output n).changing || (h.output n).powerup ≠ 0
  if !x.waits || muted || h.sup.restarting || decide (h.pwr.state ≠ 0) || !h.boot.full || !h.sliceOn sl then h
  else if h.reportOnly && !x.requested then h.unrelieved sl false
  else if r.state = 0 ∨ r.state = 6 then h.takeUnit sl
  else if x.totalLoss && decide (r.state = 1) && !r.direct then
    let a := sliceOf u r.serves
    (((h.abandonMatch u).takeUnit sl)).unrelieved a true
  else h.unrelieved sl true

/-- A slice is lost during its own match (R350, R351): its relief comes in at once, as after a loss. -/
def Hub.lossInMatch (h : Hub) (sl : SliceId) : Hub :=
  let u := unitOf sl
  match sl with
  | .input n => if (h.relief u).settled then h.reliefDirect u n else h.modRelief u (fun r => { r with direct := true })
  | .output _ => h.reliefStartXfade u

/-- R347: a declaration at its block boundary; a criterion met on a relieved slice is a failure of its unit (R352). -/
def Hub.declareDue (h : Hub) (sl : SliceId) : Hub :=
  let x := h.slice sl
  if x.dueCause = 0 then h
  else
    let h := h.modSlice sl (fun x => { x with cause := x.cause ||| x.dueCause, dueCause := 0, requested := x.requested || bit x.dueCause 0 })
    if x.state = .relieved then if x.dueCause = 1 then h else h.unitFault (unitOf sl)
    else if x.declared then
      if bit x.dueCause 0 || bit x.dueCause 8 then
        if x.state = .matching then if bit x.dueCause 8 then h.lossInMatch sl else h
        else if x.state = .crossfading then h
        else h.modSlice sl (fun x => { x with waits := true })
      else h
    else (h.modSlice sl (fun x => { x with declared := true, state := .degraded, waits := true })).cause evHealth

/-- Excluded paths of an input (R343). -/
def Hub.excludedJudge (h : Hub) (n : Nat) : Hub :=
  let t := (h.input n).tandem
  let x := (h.input n).slice
  if t.exclusions = 0 ∨ h.boot.full = false ∨ bit (x.cause ||| x.dueCause) causeExcluded = true ∧ t.exclusions ≠ 7 then h
  else
    let h := if bit (x.cause ||| x.dueCause) causeExcluded then h else h.declareSlice (.input n) causeExcluded
    if t.exclusions = 7 ∧ x.totalLoss = false ∧ x.state ≠ .relieved then h.totalLoss (.input n) else h

/-- Judgement stopped: windows start again from empty (R346). -/
def Hub.judgeReset (h : Hub) (sl : SliceId) : Hub :=
  if h.judging sl then h
  else
    let h := h.modSlice sl (fun x => { x with noiseRunL := 0, noiseRunM := 0, noiseRunH := 0, toneRun := 0 })
    match sl with
    | .input n => h.modTandem n (fun t => { t with m := { t.m with overloads := [] }, h := { t.h with overloads := [] } })
    | .output _ => h

/-- The slices that the state lists. -/
def Hub.slices (h : Hub) : List SliceId := h.ins.map (fun e => SliceId.input e.1) ++ h.outs.map (fun e => SliceId.output e.1)

/-- Idle units test themselves every 10 min for 1 s (R352). -/
def Hub.unitIdle (h : Hub) (u : ReliefUnit) : Hub :=
  let st := (h.relief u).state
  if h.boot.full = false ∨ h.unitOn u = false then h
  else if st = 0 then
    if h.armed (.reliefTest u) then
      if h.due (.reliefTest u) then (h.modRelief u (fun r => { r with state := 6 })).start (.reliefTest u) (secs 1) else h
    else h.start (.reliefTest u) (secs 600)
  else h

/-- The part of relief in a block boundary: matches that end, slices that wait, declarations, idle units. A slice that was lost takes its unit at the
boundary that follows the loss (R350). -/
def Hub.reliefBoundary (h : Hub) : Hub :=
  let h := h.ins.foldl (fun h e => (h.excludedJudge e.1).judgeReset (.input e.1)) h
  let h := allUnits.foldl (fun h u => if (h.relief u).state = 1 ∧ h.matchBroken u = true then h.abandonMatch u else h) h
  let h := allUnits.foldl (fun h u => if (h.relief u).state = 1 ∧ h.matchOver u = true then h.reliefStartXfade u else h) h
  let sls := h.slices
  let h := sls.foldl Hub.serveSlice h
  let lost := sls.filter (fun sl => bit (h.slice sl).dueCause 8)
  let h := sls.foldl Hub.declareDue h
  let h := lost.foldl Hub.serveSlice h
  allUnits.foldl Hub.unitIdle h

/-- R352: the self-test of an idle unit ends. -/
def Hub.reliefSelfTest (h : Hub) (u : ReliefUnit) (pass : Bool) : Hub :=
  if (h.relief u).state = 6 then
    h.whenDue (.reliefTest u) (fun h => if pass then h.modRelief u (fun r => { r with state := 0 }) else h.unitFault u)
  else h

/-- R69; a path of the relief slice excluded during its match makes the relief faulty (R355). -/
def Hub.pathFault (h : Hub) (n : Nat) (p : Path) : Hub :=
  let u := unitOf (.input n)
  let x := (h.input n).slice
  if x.state = .matching ∧ (h.relief u).settled = true ∧ x.est.attributed = some p then h.unitFault u else h.pathExclude n p

/-- R347: RELIEF_REQUEST sets the MANUAL cause and is a declaration. -/
def Hub.reliefRequest (h : Hub) (sl : SliceId) : Hub := h.declareSlice sl causeManual

/-- R354: RETIRE_CLEAR: the record is cleared from the next reset. -/
def Hub.retireClear (h : Hub) (sl : SliceId) : Hub :=
  if (h.slice sl).retired then
    let req := match sl with | .input n => StoreReq.retired false n | .output n => StoreReq.retired true n
    (h.modSlice sl (fun x => { x with clearDue := true })).request req
  else h

/-! ## Patrol judgements that concern relief (R344, R351) -/

/-- A slice whose pin the patrol finds degraded or lost (R344). -/
def Hub.patrolDeclare (h : Hub) (n : Nat) : Hub :=
  let p := (h.output n).patrol
  let h := if h.live? 0xC000 4 ≤ p.consec ∧ h.boot.full = true then h.declareSlice (.output n) causePatrol else h
  if 3 ≤ p.lossRun ∧ (h.slice (.output n)).totalLoss = false ∧ h.boot.full = true then h.totalLoss (.output n) else h

/-- A judgement of a relief stage on its dummy load: 100 passing ones end the match, a failure makes the unit faulty (R351). -/
def Hub.reliefJudged (h : Hub) (u : ReliefUnit) (pass : Bool) : Hub :=
  if (h.relief u).state = 1 ∧ (h.relief u).settled = true then
    if pass then h.modSlice (sliceOf u (h.relief u).serves) (fun x => { x with passes := x.passes + 1 }) else h.unitFault u
  else h

/-- A reading of a scan: outputs 1 to 32, then the dummy loads of ORS0 to ORS3 at 33 to 36. -/
def Hub.scanReading (h : Hub) (n : Nat) (m : Int) : Hub :=
  if isOutput n then (h.patrolRead n m).patrolDeclare n
  else if 33 ≤ n ∧ n ≤ 36 then
    let u := ReliefUnit.ors (n - 33)
    let o := h.output (h.relief u).serves
    if isCv o.cfg.mode then h.reliefJudged u (!cvFlagged o.cfg o.cv.present (h.live? (outIdx (h.relief u).serves + 3) 1) m) else h
  else h

/-- R100: a 1 ms scan of the patrol completes. -/
def Hub.scan (h : Hub) (readings : List (Nat × Int)) : Hub := readings.foldl (fun h r => h.scanReading r.1 r.2) h

/-- R101: an audio window ends, on a pin or on a dummy load. -/
def Hub.audioWindow (h : Hub) (n : Nat) (rms deviation residual : Int) : Hub :=
  if isOutput n then (h.patrolAudioWindow n rms deviation residual).patrolDeclare n
  else
    let u := ReliefUnit.ors (n - 33)
    let k := (h.relief u).serves
    if (h.output k).cfg.mode = 1 ∧ -6000 ≤ rms then
      h.reliefJudged u (decide ((deviation.natAbs : Int) ≤ toS32 (h.live? (outIdx k + 3) 2)) && decide (residual ≤ toS32 (h.live? (outIdx k + 3) 3)))
    else h

/-! ## Sample memory (R356) -/

def Hub.modSram (h : Hub) (f : Sram → Sram) : Hub := { h with sram := f h.sram }

/-- A bank meets the criteria of retirement. -/
def Hub.retireBank (h : Hub) (b : Nat) : Hub :=
  if bit h.sram.retired b || h.sram.copying.contains b || h.sram.switchDue.contains b then h
  else if h.sram.spares = 0 then
    let h := h.when (!h.sram.sparesOut) (·.cause evReliefExhausted)
    h.modSram (fun x => { x with sparesOut := true })
  else ((h.modSram (fun x => { x with spares := x.spares - 1, copying := x.copying ++ [b] })).cause evSramCorrected)

/-- R356, R27, R28: an ECC error. A corrected one raises E84; an uncorrectable word reads as zero in the frame that reads it. -/
def Hub.sramError (h : Hub) (b : Nat) (e : EccError) : Hub :=
  match e with
  | .corrected =>
    let ts := (tgetD h.sram.corrected b []).filter (fun f => decide (h.now < f + secs 3600)) ++ [h.now]
    let h := (h.modSram (fun x => { x with corrected := tput x.corrected b ts })).cause evSramCorrected
    if 16 < ts.length then h.retireBank b else h
  | .uncorrectable word => ((h.modSram (fun x => { x with zeroed := withOne x.zeroed word })).cause evSramUncorrectable).retireBank b

/-- R356 step 3: the copy is complete. -/
def Hub.sramCopied (h : Hub) (b : Nat) : Hub :=
  if h.sram.copying.contains b then h.modSram (fun x => { x with copying := without x.copying b, switchDue := x.switchDue ++ [b] }) else h

/-- R356 step 4: reads switch at a block boundary; SRAM_RETIRED is stored. -/
def Hub.sramBoundary (h : Hub) : Hub :=
  if h.sram.switchDue.isEmpty then h
  else
    let r := h.sram.switchDue.foldl (fun r b => r ||| 2 ^ b) h.sram.retired
    let h := h.modSram (fun x => { x with retired := r, switchDue := [] })
    ({ h with objs := tput h.objs (key 0xC000 0x1A) r }).request (.auto (key 0xC000 0x1A))

/-! ## Sensors (R358) and the health summary (R362) -/

/-- R358. -/
def Hub.tsDisagree (h : Hub) : Hub :=
  if h.supply.tsDisagree then h else ({ h with supply := { h.supply with tsDisagree := true } }).cause evHealth

def Slice.bad (x : Slice) : Bool := decide (x.state = .unrelieved) || decide (x.state = .lost)
def Slice.working (x : Slice) : Bool := decide (x.state = .degraded) || decide (x.state = .matching) || decide (x.state = .crossfading)

/-- HEALTH_SUMMARY. -/
def Hub.healthSummary (h : Hub) : Nat :=
  let i (f : Input → Bool) : Nat := b2n (h.ins.any (fun e => f e.2))
  let o (f : Output → Bool) : Nat := b2n (h.outs.any (fun e => f e.2))
  i (·.slice.working) + 2 * o (·.slice.working) + 4 * i (fun x => decide (x.slice.state = .relieved)) + 8 * o (fun x => decide (x.slice.state = .relieved)) +
  16 * i (fun x => decide (x.tandem.exclusions ≠ 0)) + 64 * b2n (allUnits.any (fun u => decide ((h.relief u).state = 4))) +
  256 * i (·.leak) + 512 * i (·.slice.bad) + 1024 * o (·.slice.bad) + 2048 * b2n (h.lanes.any (fun e => e.2.retired)) +
  4096 * b2n (decide (h.dsp.relief = 0xFE)) + 8192 * b2n h.sram.sparesOut + 16384 * b2n (decide (h.store.spareRows ≤ 8)) + 32768 * b2n h.supply.tsDisagree

/-- HEALTH_DEGRADED of R295: bits 0 to 4 and 9 to 13. -/
def Hub.healthDegraded (h : Hub) : Bool := decide (h.healthSummary &&& 0x3E1F ≠ 0)

/-- IRS_SECONDS and ORS_SECONDS: seconds in state serving. -/
def Hub.unitSeconds (h : Hub) (u : ReliefUnit) : Nat :=
  let r := h.relief u
  min 4294967295 (r.seconds + (if r.state = 3 then (h.now - r.since) / 96000 else 0))

/-! ## The meanings of the rows -/

/-- R343, R344. -/
def execHealthJudgement (sl : SliceId) (j : Judgement) (s : State) : Out := run (isSlice sl) (·.healthJudgement sl j) s
/-- R343, R344. -/
def execSliceReferenceFault (sl : SliceId) (s : State) : Out := run (isSlice sl) (·.referenceFault sl) s
/-- R350, R351. -/
def execSliceTotalLoss (sl : SliceId) (s : State) : Out := run (isSlice sl) (·.totalLoss sl) s
/-- R349. -/
def execReliefSettled (u : ReliefUnit) (s : State) : Out := run (isUnit u) (·.reliefSettled u) s
/-- R349, R351. -/
def execReliefCrossfadeEnd (u : ReliefUnit) (s : State) : Out := run (isUnit u) (·.reliefXfadeEnd u) s
/-- R352. -/
def execReliefSelfTest (u : ReliefUnit) (pass : Bool) (s : State) : Out := run (isUnit u) (·.reliefSelfTest u pass) s
/-- R345. -/
def execPhantomLeak (n : Nat) (s : State) : Out := run (isInput n) (·.phantomLeak n) s
/-- R356. -/
def execSramError (b : Nat) (e : EccError) (s : State) : Out := run (decide (b < 12)) (·.sramError b e) s
/-- R356. -/
def execSramBankCopyDone (b : Nat) (s : State) : Out := run (decide (b < 12)) (·.sramCopied b) s
/-- R358. -/
def execTsDisagree (k : Nat) (s : State) : Out := run (decide (k < 4)) Hub.tsDisagree s
/-- R55, R343. -/
def execModulatorOverload (n : Nat) (p : Path) (s : State) : Out := run (isInput n) (fun h => (h.modulatorOverload n p).overloadJudge n) s
/-- R68, R69. -/
def execPathExclude (n : Nat) (p : Path) (s : State) : Out := run (isInput n) (·.pathFault n p) s
/-- R100. -/
def execPatrolScan (readings : List (Nat × Int)) (s : State) : Out := always (·.scan readings) s
/-- R101. -/
def execPatrolAudioWindow (n : Nat) (rms deviation residual : Int) (s : State) : Out :=
  run (decide (1 ≤ n) && decide (n ≤ 36)) (·.audioWindow n rms deviation residual) s

end Sys2Proof.Machine
end

