-- ==== Sys2Proof/Machine/Dsp.lean ====
section
/-! DEFINITION. DSP lanes and processes (R178 to R199): placement, removal, parameters, bypass, the relief lane and its patrol. -/

namespace Sys2Proof.Machine

/-! ## The library (R180, R199) -/

/-- Channels a type may have. -/
def channelsOk (ty c : Nat) : Bool :=
  if ty = 6 then decide (2 ≤ c) && decide (c ≤ 32) else decide (1 ≤ ty) && decide (ty ≤ 8) && decide (1 ≤ c) && decide (c ≤ 8)

/-- Whether a type has an OPTION. -/
def hasOption (ty : Nat) : Bool := decide (ty = 1) || decide (ty = 4)

/-- Cycles per channel. -/
def channelCost (ty opt : Nat) : Nat :=
  match ty with
  | 1 => 10 * opt | 2 => 20 | 3 => 60 | 4 => 6 * opt | 5 => 70 | 6 => 40 | 7 => 120 | _ => 30

/-- Cost of a process (R179). -/
def processCost (ty opt channels : Nat) : Nat := channelCost ty opt * channels + 16

/-- Range of PARAM[i] by TYPE (R199); a field no row names is reserved and takes 0 only (R12). -/
def paramCheck (ty i maxDelay : Nat) : Check :=
  match ty with
  | 1 => if 32 ≤ i then .le 0 else match i % 4 with | 0 => .le 6 | 1 => .range 20000 20000000 | 2 => .signed (-2400) 2400 | _ => .range 100 20000
  | 2 => match i with | 0 => .le 3 | 1 => .range 20000 20000000 | _ => .le 0
  | 3 => match i with
    | 0 => .le 3 | 1 => .signed (-6000) 0 | 2 => .range 100 10000 | 3 => .range 10 200000 | 4 => .range 5000 5000000 | 5 => .le 2400
    | 6 => .signed (-2400) 2400 | 7 => .le 2000 | 8 => .signed (-9000) 0 | _ => .le 0
  | 4 => if i < 16 then (if i % 2 = 0 then .le maxDelay else .gain (-12000) 0) else if i = 16 then .range 1000 2000000 else .le 0
  | 5 => match i with | 0 => .range 2000000 16000000 | 1 => .signed (-6000) 0 | 2 => .signed (-2400) 0 | _ => .le 0
  | 6 => match i with | 0 => .le 1 | 1 => .range 1000 500000 | _ => .le 0
  | 7 => match i with | 0 => .signed (-3000) (-300) | 1 => .le 1 | _ => .le 0
  | 8 => if i = 0 then .le 1 else .le 0
  | _ => .le 0

/-- Range of CH_PARAM by TYPE. -/
def chParamCheck (ty : Nat) : Check := match ty with | 6 => .signed (-1200) 1200 | 8 => .le 2 | _ => .le 0

/-- Parameters marked fixed. -/
def paramFixed (ty i : Nat) : Bool := (decide (ty = 3) && decide (i = 7)) || (decide (ty = 4) && decide (i = 16))

/-- TYPE accepted for a process: staged while absent, its own while present (R198). -/
def Hub.procType (h : Hub) (p : Nat) : Nat := h.accepted (procIdx p) 1

/-- PARAM[i] accepted or in force, with the default its TYPE gives. -/
def Hub.paramAccepted (h : Hub) (p i : Nat) : Nat := tgetD h.objs (key (procIdx p) (0x10 + i)) (paramDefault (h.procType p) i)
def Hub.paramLive (h : Hub) (p i : Nat) : Nat := tgetD h.live (key (procIdx p) (0x10 + i)) (paramDefault (h.procType p) i)

/-- Latency in frames (R180): LOOKAHEAD of DYN in whole frames. -/
def Hub.processLatency (h : Hub) (p : Nat) : Nat := if h.procType p = 3 then 2 + us (h.paramAccepted p 7) else 2

/-- Bytes of the rings a process takes in the pool (R196). -/
def Hub.processPool (h : Hub) (p channels : Nat) : Nat :=
  let frames := if h.procType p = 4 then us (h.paramAccepted p 16) + 66 else h.processLatency p + 64
  4 * channels * frames

/-! ## Positions and pool (R182, R196) -/

/-- A process is placed. -/
def Hub.placed (h : Hub) (p : Nat) : Bool := (h.proc p).position.isSome

/-- Cycles placed on position `k`. -/
def Hub.laneLoad (h : Hub) (k : Nat) : Nat :=
  h.procs.foldl (fun n e => if e.2.position = some k then n + e.2.cost else n) 0

/-- A position offers cycles unless its lane is retired and no relief serves it. -/
def Hub.offers (h : Hub) (k : Nat) : Bool := !(h.lane k).retired || decide (h.dsp.relief = k)

/-- First position with room. -/
def Hub.firstPosition (h : Hub) (cost : Nat) : Option Nat :=
  (List.range 8).find? (fun k => h.offers k && decide (h.laneLoad k + cost ≤ 1984))

def Hub.poolFree (h : Hub) : Nat := 1839104 - h.procs.foldl (fun n e => if e.2.position.isSome then n + e.2.poolBytes else n) 0

/-- Sends of two processes meet. -/
def overlaps (a n b m : Nat) : Bool := decide (a < b + m) && decide (b < a + n)

def Hub.sendsTaken (h : Hub) (p slot n : Nat) : Bool :=
  h.procs.any (fun e => decide (e.1 ≠ p) && e.2.position.isSome && overlaps slot n e.2.slot e.2.channels)

/-- The staged fields of a process. -/
structure Staged where
  type : Nat
  channels : Nat
  slot : Nat
  option : Nat
deriving DecidableEq, Repr

def Hub.staged (h : Hub) (p : Nat) : Staged :=
  { type := h.procType p, channels := h.accepted (procIdx p) 2, slot := h.accepted (procIdx p) 3, option := h.accepted (procIdx p) 4 }

/-- PLACE_RESULT an instantiation would have (R183), 0 where it succeeds. Ranges are judged first, then the causes in the order of the
table (log 30). -/
def Hub.placeResult (h : Hub) (p : Nat) : Nat :=
  let s := h.staged p
  if !channelsOk s.type s.channels || decide (64 < s.slot + s.channels) || (hasOption s.type && !(decide (1 ≤ s.option) && decide (s.option ≤ 8))) ||
      (decide (s.type = 3) && !(Check.le 2000).ok (h.paramAccepted p 7)) || (decide (s.type = 4) && !(Check.range 1000 2000000).ok (h.paramAccepted p 16)) then 4
  else if (h.firstPosition (processCost s.type s.option s.channels)).isNone then 1
  else if h.poolFree < h.processPool p s.channels then 2
  else if h.sendsTaken p s.slot s.channels then 3
  else 0

/-- A process as it starts: LOUD reports no loudness before its first gated block, FBS no notch, and every gain is 0 dB (R199). -/
def initialState (ty channels : Nat) : Config.ProcState :=
  { report := if ty = 8 then [minusInf, minusInf, minusInf] else [], gains := List.replicate channels 0 }

/-- A takeover runs, steps 1 to 4 of R192. -/
def Hub.takingOver (h : Hub) : Bool := h.dsp.takeover.isSome

/-- Places the staged process (R182, R183); it runs from the next block boundary. `seq` is a new number of SEQUENCE. -/
def Hub.place (h : Hub) (p : Nat) : Hub :=
  let r := h.placeResult p
  if r = 0 then
    let s := h.staged p
    let cost := processCost s.type s.option s.channels
    let opt := if hasOption s.type then s.option else 0
    let seq := h.dsp.sequence + 1
    let h := h.modProc p (fun x =>
      { x with type := s.type, channels := s.channels, slot := s.slot, option := opt, position := h.firstPosition cost, cost := cost
               latency := h.processLatency p, poolBytes := h.processPool p s.channels, placeResult := 0, runDue := true, removing := false
               state := 0, enabled := decide (h.live? (procIdx p) 0x0C = 1), out := Fade.steady unity, ramped := [], taps := [], tapHeld := []
               wet := Fade.steady (if h.live? (procIdx p) 0x0C = 1 then unity else 0), slotA := none, slotB := none, restore := none
               st := initialState s.type s.channels, waitingWr := [], ring := [], returns := [] })
    let k := key (procIdx p)
    { h with dsp := { h.dsp with sequence := seq }, objs := tput (tput h.objs (k 4) opt) (k 0x0E) seq, live := tput (tput h.live (k 4) opt) (k 0x0E) seq }
  else
    let h := h.modProc p (fun x => { x with placeResult := r })
    h.when (decide (r = 1) || decide (r = 2)) (·.cause evDspOverload)

/-- The lanes compute: PD_DSP on, and no activation of LANE (R188). -/
def Hub.dspRuns (h : Hub) : Bool := h.dsp.on && !h.dsp.activating

/-- The lane of a position computes: not stopped by a fault, or resumed on L8 (R192). -/
def Hub.laneComputes (h : Hub) (k : Nat) : Bool := !(h.lane k).faulty || (decide (h.dsp.takeover = some k) && h.dsp.resumed)

/-- The lane of a process computes it. -/
def Hub.computes (h : Hub) (x : Process) : Bool := h.dspRuns && x.position.all h.laneComputes

/-- Steps 1 to 3 of a takeover hold the position of a process (R192, R194). -/
def Hub.awaitsL8 (h : Hub) (x : Process) : Bool := x.position.isSome && decide (h.dsp.takeover = x.position) && !h.dsp.resumed

/-- STATE of R198. -/
def Hub.procState (h : Hub) (p : Nat) : Nat :=
  let x := h.proc p
  if x.state = 0 then 0 else if !h.dsp.on then 4
  else if x.wet.running (h.now - 1) then 3 else if x.wet.m1 = 0 then 2 else 1

/-- LANE of R198: position k is executed by lane k, by L8 from the resumption of a takeover on, and by none while the lane is stopped (log 134). -/
def Hub.procLane (h : Hub) (p : Nat) : Nat :=
  match (h.proc p).position with
  | some k => if h.dsp.relief = k ∨ (h.dsp.takeover = some k ∧ h.dsp.resumed = true) then 8 else if h.laneComputes k then k else 0xFF
  | none => 0xFF

/-- RELIEF_STATE of R197: paused while the lanes do not compute. -/
def Hub.reliefState (h : Hub) : Nat := if h.dsp.relief = 0xFF ∧ h.dspRuns = false then 0xFD else h.dsp.relief

/-- LANE_STATE of R197. -/
def Hub.laneState (h : Hub) (k : Nat) : Nat :=
  if h.dsp.relief = k then 3
  else if (h.lane k).retired then 4
  else if h.dsp.takeover = some k ∨ (h.lane k).faulty then 2
  else if h.laneLoad k = 0 then 0 else if !h.dspRuns then 2 else 1

/-! ## Enabling, removing, parameters (R184, R186, R188) -/

/-- ENABLE takes effect: a 5 ms equal-gain crossfade (R188). -/
def Hub.procEnableApply (h : Hub) (p v : Nat) : Hub :=
  let computes := h.computes (h.proc p)
  h.modProc p (fun x =>
    let x := { x with enabled := decide (v = 1) }
    if x.state = 1 ∧ computes = true then { x with wet := x.wet.to (if v = 1 then unity else 0) h.now (ms 5) } else x)

/-- REMOVE takes effect: the returns fade out over 5 ms (R184). -/
def Hub.removeApply (h : Hub) (p : Nat) : Hub :=
  if h.placed p ∧ (h.proc p).removing = false then
    (h.modProc p (fun x => { x with removing := true, out := x.out.to 0 h.now (ms 5) })).start (.process p) (ms 5)
  else h

/-- R184 at the first block boundary after the fade: cycles, sends and pool memory are free, TYPE reads 0. -/
def Hub.freeProcess (h : Hub) (p : Nat) : Hub :=
  let x := h.proc p
  let h := (h.moveSends x.slot x.channels (h.owner (ownerKey 8 p)) none).forAll (List.range 8) (fun h t => h.cancel (.tap p t))
  let h := { h with procs := tput h.procs p { placeResult := x.placeResult } }
  let k := key (procIdx p) 1
  { h with objs := tput h.objs k 0, live := tput h.live k 0 }

/-- Starts the crossfade of a delay tap to a new delay, or holds it as in R82 (R186); `before` is the delay in force, both in microseconds. -/
def Hub.tapApply (h : Hub) (p t v before : Nat) : Hub :=
  let x := h.proc p
  let d := us v
  let old := match tget x.taps t with | some c => c.new | none => us before
  if (tget x.taps t).isSome && h.armed (.tap p t) then h.modProc p (fun x => { x with tapHeld := tput x.tapHeld t d })
  else if old = d then h
  else
    (h.modProc p (fun x => { x with taps := tput x.taps t { old := old, new := d, t0 := h.now, len := ms 10 } })).start (.tap p t) (ms 10)

/-- R186: a tap crossfade ends; a held delay starts its own. -/
def Hub.tapXfadeEnd (h : Hub) (p t : Nat) : Hub :=
  h.whenDue (.tap p t) (fun h =>
    match tget (h.proc p).tapHeld t with
    | some d =>
      let old := match tget (h.proc p).taps t with | some c => c.new | none => d
      if old = d then h.modProc p (fun x => { x with tapHeld := tdel x.tapHeld t, taps := tdel x.taps t })
      else
        (h.modProc p (fun x =>
          { x with tapHeld := tdel x.tapHeld t, taps := tput x.taps t { old := old, new := d, t0 := h.now, len := ms 10 } })).start (.tap p t) (ms 10)
    | none => h.modProc p (fun x => { x with taps := tdel x.taps t }))

/-- Parameters that ramp inside the process (R186): DYN MAKEUP, DLY TAP_GAIN, AUTOMIX WEIGHT. -/
def isRamped (ty sub : Nat) : Bool :=
  (decide (ty = 3) && decide (sub = 0x16)) || (decide (ty = 4) && decide (0x10 ≤ sub) && decide (sub < 0x20) && decide (sub % 2 = 1)) ||
  (decide (ty = 6) && decide (0x60 ≤ sub))

/-- A restart of LOUD's integration, and the removal of FBS's notches (R199). -/
def Process.paramCommand (x : Process) (sub v : Nat) : Process :=
  if x.type = 8 ∧ sub = 0x10 ∧ v = 1 then { x with st := initialState 8 x.channels }
  else if x.type = 7 ∧ sub = 0x11 ∧ v = 1 then { x with st := { x.st with report := [] } }
  else x

/-- A parameter of a present process takes effect. The caller sets the value in force. -/
def Hub.paramTakes (h : Hub) (p sub v old : Nat) : Hub :=
  let x := h.proc p
  if x.state = 0 then h
  else if isRamped x.type sub then
    h.modProc p (fun x =>
      let r := (tget x.ramped sub).getD (Ramp.steady (gainLevel old))
      { x with ramped := tput x.ramped sub (r.to (gainLevel v) h.now (ms 20)) })
  else if x.type = 4 ∧ 0x10 ≤ sub ∧ sub < 0x20 then h.tapApply p ((sub - 0x10) / 2) v old
  else h.modProc p (·.paramCommand sub v)

/-- PARAM and CH_PARAM. -/
def isParam (sub : Nat) : Bool := (decide (0x10 ≤ sub) && decide (sub < 0x50)) || (decide (0x60 ≤ sub) && decide (sub < 0x80))

/-- A value of PARAM or CH_PARAM in force. -/
def Hub.paramValue (h : Hub) (p sub : Nat) : Nat := if sub < 0x50 then h.paramLive p (sub - 0x10) else h.live? (procIdx p) sub

/-- A parameter write comes into force. -/
def Hub.paramForce (h : Hub) (p sub v : Nat) : Hub :=
  let old := h.paramValue p sub
  ({ h with live := tput h.live (key (procIdx p) sub) v }).paramTakes p sub v old

/-- A parameter of a batch takes effect at its block boundary (R186); during steps 1 to 3 of a takeover it waits for the resumption (R194). -/
def Hub.paramApply (h : Hub) (p sub v : Nat) : Hub :=
  if h.awaitsL8 (h.proc p) then h.modProc p (fun x => { x with waitingWr := x.waitingWr ++ [(sub, v)] }) else h.paramForce p sub v

/-! ## Microcode and checkpoints (R178, R187, R195) -/

/-- The image of a position: the library in force with the processes placed there. -/
def Hub.imageOf (h : Hub) (k : Nat) : List Byte :=
  Config.microcode (h.boot.versions.getD 1 0) ((h.procs.filter (fun e => decide (e.2.position = some k))).map (fun e => (e.2.type, e.2.option, e.2.channels)))

/-- The lane that holds a position. -/
def Hub.laneOf (h : Hub) (k : Nat) : Nat := if h.dsp.relief = k ∨ h.dsp.takeover = some k then 8 else k

/-- A position's image is built, and loaded into its lane. -/
def Hub.buildImage (h : Hub) (k : Nat) : Hub :=
  let i := h.imageOf k
  ({ h with dsp := { h.dsp with images := tput h.dsp.images k i } }).modLane (h.laneOf k) (fun x => { x with microcode := i })

/-- L8 loads the image of a position (R189, R192). -/
def Hub.loadL8 (h : Hub) (k : Nat) : Hub := h.modLane 8 (fun x => { x with microcode := tgetD h.dsp.images k [] })

/-- The newest whole checkpoint of a process, and the one before it. -/
def Process.newest (x : Process) : Option Checkpoint := if x.newestB then x.slotB else x.slotA
def Process.previous (x : Process) : Option Checkpoint := if x.newestB then x.slotA else x.slotB

/-- A checkpoint is written into the other slot. -/
def Process.write (x : Process) (frame : Nat) : Process :=
  let c := some { frame := frame, st := x.st }
  if x.newestB then { x with slotA := c, newestB := false } else { x with slotB := c, newestB := true }

/-- The process resumes from its checkpoint, or from its initial state where it has none; it crossfades in over 5 ms unless disabled (R188). -/
def Process.resume (x : Process) (c : Option Checkpoint) (now : Nat) : Process :=
  { x with st := (c.map (·.st)).getD (initialState x.type x.channels), restore := none
           wet := if x.enabled then { m0 := 0, m1 := unity, t0 := now, len := ms 5 } else Fade.steady 0 }

/-! ## The relief lane (R189 to R194) -/

/-- Processes on a position. -/
def Hub.onPosition (h : Hub) (k : Nat) : List Nat := (h.procs.filter (fun e => decide (e.2.position = some k))).map (·.1)

/-- Every process of a position enters bypass in this frame; it will resume from checkpoint `c` (R188, R192). -/
def Hub.bypassLane (h : Hub) (k : Nat) (c : Nat → Process → Option Checkpoint) : Hub :=
  h.forAll (h.onPosition k) (fun h p => h.modProc p (fun x => { x with wet := Fade.steady 0, restore := c p x }))

/-- A fault of lane `k` is declared (R192 step 1, R193); `c` gives the last checkpoint before the first block in which it was observed. -/
def Hub.declareLaneFault (h : Hub) (k : Nat) (takeover : Bool) (c : Nat → Process → Option Checkpoint) : Hub :=
  let h := (h.bypassLane k c).modLane k (fun x => { x with faulty := true, faultDue := false })
  if takeover && !h.takingOver && decide (h.dsp.relief = 0xFF) then
    { h.cancel .l8Patrol with dsp := { h.dsp with takeover := some k, loaded := false, resumed := false, recheck := false } }
  else if takeover then (h.modLane k (fun x => { x with retired := true })).cause evReliefExhausted
  else h

/-- L8 has failed (R193): while it serves a position, or takes one over (log 111), the processes there stay in bypass, with E82. -/
def Hub.l8Fault (h : Hub) : Hub :=
  let pos := h.dsp.takeover.orElse (fun _ => if h.dsp.relief < 8 then some h.dsp.relief else none)
  let h := { (h.cancel .takeover).cancel .l8Patrol with
    dsp := { h.dsp with relief := 0xFE, takeover := none, loaded := false, resumed := false, recheck := false } }
  match pos with
  | some k => ((h.bypassLane k (fun _ _ => none)).modLane k (fun x => { x with retired := true, faulty := true })).cause evReliefExhausted
  | none => h.cause evHealth

/-- R190, R193: a lane fault by its cause. More than 16 corrected words raise E83 and are declared at the next block boundary, on L8 too. A mismatch
on L8 is R191's. -/
def Hub.laneFault (h : Hub) (k : Nat) (c : LaneFaultCause) : Hub :=
  if (h.lane k).retired ∨ (h.lane k).faulty ∨ (k = 8 ∧ h.dsp.relief = 0xFE) then h
  else
    match c with
    | .missedDeadline | .uncorrectableWord => if k = 8 then h.l8Fault else h.declareLaneFault k (!h.reportOnly) (fun _ x => x.newest)
    | .patrolMismatch =>
      if k = 8 then h
      else if h.reportOnly then h.cause evHealth
      else h.declareLaneFault k true (fun p x => ((h.dsp.mismatchAt.find? (fun e => decide (e.1 = p))).map (·.2)).getD x.newest)
    | .correctedWords => (if h.reportOnly then h else h.modLane k (fun x => { x with faultDue := true })).cause evHealth

/-- R192 step 2. -/
def Hub.reliefLaneLoaded (h : Hub) : Hub :=
  match h.dsp.takeover with
  | some k => if h.dsp.resumed then h else ({ h with dsp := { h.dsp with loaded := true } }).loadL8 k
  | none => h

/-- R192 steps 3 and 4: resumption on L8 at a block boundary, with E79; enabled processes crossfade over 5 ms. -/
def Hub.resumeLane (h : Hub) : Hub :=
  match h.dsp.takeover with
  | some k =>
    if h.dsp.loaded ∧ h.dsp.resumed = false ∧ h.dspRuns = true then
      let h := { h with dsp := { h.dsp with resumed := true } }
      let h := h.forAll (h.onPosition k) (fun h p =>
        let ws := (h.proc p).waitingWr
        let h := h.modProc p (fun x => { (if x.state = 0 then x else x.resume x.restore h.now) with waitingWr := [] })
        ws.foldl (fun h w => h.paramForce p w.1 w.2) h)
      (h.cause evLaneRelieved).start .takeover (ms 5)
    else h
  | none => h

/-- R192 step 5. -/
def Hub.takeoverComplete (h : Hub) : Hub :=
  h.whenDue .takeover (fun h =>
    match h.dsp.takeover with
    | some k =>
      (({ h with dsp := { h.dsp with relief := k, takeover := none, loaded := false, resumed := false } }).modLane k
        (fun x => { x with retired := true, faulty := false })).cancel .l8Patrol
    | none => h)

/-- Lanes the patrol shadows: with a process and not retired (R189). -/
def Hub.patrolled (h : Hub) (k : Nat) : Bool := !(h.lane k).retired && !(h.lane k).faulty && decide (h.laneLoad k ≠ 0)

/-- The next lane to shadow after `k`, in ascending order. -/
def Hub.nextPatrol (h : Hub) (k : Nat) : Option Nat := ((upTo (k + 1) (7 - k)) ++ List.range (k + 1)).find? h.patrolled

/-- The patrol may run. -/
def Hub.patrolling (h : Hub) : Bool := decide (h.dsp.relief = 0xFF) && !h.takingOver && h.dspRuns

/-- L8 begins to shadow lane `k` for 3,000 blocks (R189). -/
def Hub.shadow8 (h : Hub) (k : Nat) : Hub := (({ h with dsp := { h.dsp with patrolLane := k } }).loadL8 k).start .l8Patrol 96000

/-- R189: a shadow period ends. -/
def Hub.patrolPeriodEnd (h : Hub) : Hub :=
  if h.patrolling ∧ h.dsp.recheck = false then
    h.whenDue .l8Patrol (fun h =>
      let h := { h with dsp := { h.dsp with cycles := satInc 4294967295 h.dsp.cycles } }
      match h.nextPatrol h.dsp.patrolLane with
      | some k => h.shadow8 k
      | none => h)
  else h

/-- The patrol begins at a block boundary where a lane runs and none is shadowed. -/
def Hub.patrolKeep (h : Hub) : Hub :=
  if h.patrolling ∧ h.armed .l8Patrol = false then
    match (List.range 8).find? h.patrolled with
    | some k => h.shadow8 k
    | none => h
  else h

/-- R191: a return of L8 differs from the shadowed lane; the recheck starts from the checkpoints at the start of this block. -/
def Hub.patrolMismatch (h : Hub) : Hub :=
  if h.patrolling ∧ h.armed .l8Patrol ∧ h.dsp.recheck = false then
    { h with dsp := { h.dsp with recheck := true, mismatchAt := (h.onPosition h.dsp.patrolLane).map (fun p => (p, (h.proc p).newest)) } }
  else h

/-- R191: the recheck ends. -/
def Hub.recheckComplete (h : Hub) (r : Recheck) : Hub :=
  if h.dsp.recheck then
    let h := { h with dsp := { h.dsp with recheck := false } }
    match r with
    | .differsFromLane => h.laneFault h.dsp.patrolLane .patrolMismatch
    | .agreesWithLane => { h with dsp := { h.dsp with errors := satInc 65535 h.dsp.errors } }
    | .resultsDiffer => ({ h.cancel .l8Patrol with dsp := { h.dsp with relief := 0xFE } }).cause evHealth
  else h

/-! ## Block boundary (R183, R184, R187) -/

/-- Placed processes start to run; removed ones are freed. -/
def Hub.processStarts (h : Hub) : Hub :=
  h.forAll (h.procs.map (·.1)) (fun h p =>
    let x := h.proc p
    if x.runDue then
      let h := h.modProc p (fun x => { x with runDue := false, state := 1, wet := Fade.steady (if x.enabled && h.computes x then unity else 0) })
      (x.position.elim h h.buildImage).moveSends x.slot x.channels none (h.owner (ownerKey 8 p))
    else if x.removing && h.due (.process p) then
      let h := (h.cancel (.process p)).freeProcess p
      x.position.elim h h.buildImage
    else h)

/-- R187: the checkpoint of the state reached at the end of the previous block, in the other slot. A stopped lane writes none. -/
def Hub.checkpoints (h : Hub) : Hub :=
  { h with procs := h.procs.map (fun e => if e.2.state = 1 ∧ h.computes e.2 = true then (e.1, e.2.write h.now) else e) }

/-- Faults of corrected words are declared at the block boundary (R190). -/
def Hub.laneFaultsDue (h : Hub) : Hub :=
  h.forAll (List.range 9) (fun h k =>
    if !(h.lane k).faultDue then h
    else if k = 8 then (h.modLane 8 (fun x => { x with faultDue := false })).l8Fault
    else h.declareLaneFault k true (fun _ x => x.previous))

/-! ## PD_DSP, Watch and the activation of LANE (R188, R419) -/

/-- The lanes stop: processes enter bypass after a final checkpoint. -/
def Hub.dspStop (h : Hub) : Hub :=
  let h := (h.checkpoints).cancel .l8Patrol
  { h with dsp := { h.dsp with recheck := false }, procs := h.procs.map (fun e => if e.2.state = 1 then (e.1, { e.2 with wet := Fade.steady 0 }) else e) }

/-- The lanes run on: each process resumes from its checkpoint. -/
def Hub.dspGo (h : Hub) : Hub :=
  { h with procs := h.procs.map (fun e => if e.2.state = 1 ∧ h.computes e.2 = true then (e.1, e.2.resume e.2.newest h.now) else e) }

/-- PD_DSP goes off, or comes on. -/
def Hub.dspOff (h : Hub) : Hub :=
  let h := h.when h.dspRuns Hub.dspStop
  { h with dsp := { h.dsp with on := false } }
def Hub.dspOn (h : Hub) : Hub :=
  if h.dsp.on then h
  else let h := { h with dsp := { h.dsp with on := true } }; h.when h.dspRuns Hub.dspGo

/-- An activation of LANE begins at a boundary, and ends at the one that follows its step (R419). -/
def Hub.laneHold (h : Hub) : Hub :=
  let h := h.when h.dspRuns Hub.dspStop
  { h with dsp := { h.dsp with activating := true } }
def Hub.laneHoldEnd (h : Hub) : Hub :=
  if h.dsp.resumeDue then
    let h := { h with dsp := { h.dsp with activating := false, resumeDue := false } }
    h.when h.dspRuns Hub.dspGo
  else h

/-- The step of LANE has ended: images are rebuilt, and without `keep` the processes start from their initial state. -/
def Hub.laneRebuilt (h : Hub) (keep : Bool) : Hub :=
  let h := { h with
    dsp := { h.dsp with resumeDue := true }
    procs := if keep then h.procs else h.procs.map (fun (e : Nat × Process) => (e.1, { e.2 with slotA := none, slotB := none })) }
  h.forAll (List.range 8) Hub.buildImage

/-! ## Full service (R185) -/

/-- The stored processes in ascending SEQUENCE are placed; one refused stays absent and raises E78. SEQUENCE goes on from the highest stored. -/
def Hub.placeStored (h : Hub) : Hub :=
  let h := { h with dsp := { h.dsp with sequence := (List.range 64).foldl (fun n p => max n (h.accepted (procIdx p) 0x0E)) h.dsp.sequence } }
  let ps := (List.range 64).filter (fun p => decide (h.procType p ≠ 0) && !h.placed p)
  h.forAll (orderBy (fun p => h.accepted (procIdx p) 0x0E) ps) (fun h p =>
    let seq := h.accepted (procIdx p) 0x0E
    if h.placeResult p = 0 then
      let h := h.place p
      let k := key (procIdx p) 0x0E
      { h with dsp := { h.dsp with sequence := h.dsp.sequence - 1 }, objs := tput h.objs k seq, live := tput h.live k seq }
    else
      let h := (h.modProc p (fun x => { x with placeResult := h.placeResult p })).cause evDspOverload
      let k := key (procIdx p) 1
      { h with live := tput h.live k 0 })

/-! ## The meanings of the rows -/

/-- R190, R193. -/
def execDspLaneFault (k : Nat) (c : LaneFaultCause) (s : State) : Out := run (isLane k) (·.laneFault k c) s
/-- R192. -/
def execReliefLaneLoadComplete (s : State) : Out := always Hub.reliefLaneLoaded s
/-- R192. -/
def execDspTakeoverComplete (s : State) : Out := always Hub.takeoverComplete s
/-- R189. -/
def execL8PatrolPeriodEnd (s : State) : Out := always Hub.patrolPeriodEnd s
/-- R191. -/
def execL8PatrolMismatch (s : State) : Out := always Hub.patrolMismatch s
/-- R191. -/
def execL8RecheckComplete (r : Recheck) (s : State) : Out := always (·.recheckComplete r) s
/-- R186. -/
def execTapDelayXfadeEnd (p t : Nat) (s : State) : Out := run (isProcess p && decide (t < 8)) (·.tapXfadeEnd p t) s

end Sys2Proof.Machine
end

