-- ==== Sys2Proof/Machine/Clock.lean ====
section
/-! DEFINITION. The clock tree (R200 to R224): dividers, the Rein loop, WCKIN, WCKOUT, crystal failure and the stored hold value. -/

namespace Sys2Proof.Machine

def Hub.modClk (h : Hub) (f : Clock → Clock) : Hub := { h with clk := f h.clk }
def Hub.clockSetting (h : Hub) (sub : Nat) : Nat := h.live? 0x8000 sub

/-! ## Rates and dividers (R206, R217, R230) -/

/-- Nominal rate of a class code in millihertz (R217). -/
def classRate (c : Nat) : Nat :=
  match c with
  | 1 => 32000000 | 2 => 44100000 | 3 => 48000000 | 4 => 88200000 | 5 => 96000000 | 6 => 176400000 | 7 => 192000000 | _ => 0

/-- A rate in millihertz within ±1,000 ppm of a class. -/
def inClass (rate c : Nat) : Bool := decide (((rate : Int) - classRate c).natAbs * 1000 ≤ classRate c)

/-- Class of a rate found: 15 for any other rate (R217). -/
def classOf (rate : Nat) : Nat := ((upTo 1 7).find? (inClass rate)).getD 15

/-- 32, 48, 96 and 192 kHz (R210). -/
def isHouseClass (c : Nat) : Bool := decide (c = 1) || decide (c = 3) || decide (c = 5) || decide (c = 7)

/-- 48, 96 and 192 kHz (R228). -/
def isSyncClass (c : Nat) : Bool := decide (c = 3) || decide (c = 5) || decide (c = 7)

/-- N and F of a divider word (R207). -/
def dividerN (d : Nat) : Nat := d / 65536 % 4096
def dividerF (d : Nat) : Nat := d % 65536

/-- A value MCLKO0_DIV and MCLKO1_DIV take: 0, or N of 8 or more (R207). -/
def mclkOk (d : Nat) : Bool := decide (d = 0) || (decide (8 ≤ dividerN d) && decide (d < 2 ^ 28))

/-- The divider word of a master port, rounded to the nearest (R230; log 59). -/
def portDivider (slots bits rate : Nat) : Nat :=
  let bclk := slots * bits * (classRate rate / 1000)
  if bclk = 0 then 0 else (2 * 393216000 * 65536 + bclk) / (2 * bclk)

/-- WCKOUT_SRC and WCKOUT_RATE together (R221). -/
def wckoutOk (src rate : Nat) : Bool :=
  match src with
  | 0 => true
  | 1 => decide (1 ≤ rate) && decide (rate ≤ 7)
  | _ => isHouseClass rate

/-! ## Clocks (R200, R201, R205) -/

/-- The clocks of R200; MODCLK stands once for each power domain. -/
inductive ClockName where
  | root | dsp | fab | mod (domain : Nat) | watch | core | firc
deriving DecidableEq, Repr

/-- Nominal frequency in hertz. -/
def ClockName.nominal : ClockName → Nat
  | .root => 393216000 | .dsp => 196608000 | .fab => 98304000 | .mod _ => 6144000 | .watch => 768000 | .core => 96000 | .firc => 16000000

/-- Which clocks run (R205). FABCLK in Watch serves only sample-memory retention and the pre-roll writers. -/
def Hub.clockRuns (h : Hub) : ClockName → Bool
  | .firc => true
  | c =>
    let watch := decide (h.pwr.state = 1)
    h.framesRun && !h.pwr.stable &&
      (match c with
       | .dsp => !watch && bit h.pwr.domains 21 | .fab => !watch | .mod d => !watch && bit h.pwr.domains d | .watch => watch | _ => true)

/-- Frequency in hertz with a reference of exactly 24.576 MHz: the steering moves every clock but FIRC alike (R201, R208). -/
def Hub.clockHertz (h : Hub) (c : ClockName) : Rat :=
  if c = .firc then c.nominal else (c.nominal : Rat) * (1 + (h.clk.steer : Rat) / 268435456)

/-! ## Divider outputs (R206, R207) -/

/-- ROOTCLK periods in a core frame. -/
def rootFrame : Nat := 4096

/-- ROOTCLK period of rising edge `m`: the accumulator makes each period N or N + 1 long. -/
def Pulse.edge (p : Pulse) (m : Nat) : Nat := p.start + m * p.word / 65536

/-- The level in ROOTCLK period `t`: high for floor(period / 2) from each rising edge. -/
def Pulse.level (p : Pulse) (t : Nat) : Bool :=
  if p.word = 0 ∨ t < p.start then false
  else
    let m := ((t - p.start + 1) * 65536 - 1) / p.word
    decide (t - p.edge m < (p.edge (m + 1) - p.edge m) / 2)

/-- The first rising edge not before `t`. -/
def Pulse.next (p : Pulse) (t : Nat) : Nat :=
  if t ≤ p.start then p.start else p.edge (((t - p.start) * 65536 + p.word - 1) / p.word)

def ClockOut.level (o : ClockOut) (t : Nat) : Bool := if t < o.ends then o.old.level t else o.new.level t

/-- End of the period in progress at `t`. -/
def ClockOut.free (o : ClockOut) (t : Nat) : Nat := if o.new.word = 0 then t else o.new.next t

/-- A new pattern from `t` on: the period in progress completes first. `p` says where the pattern starts, given where it may. -/
def ClockOut.switch (o : ClockOut) (t : Nat) (p : Nat → Pulse) : ClockOut := { old := o.new, ends := o.free t, new := p (o.free t) }

/-- A divider word takes effect (R207). -/
def ClockOut.divide (o : ClockOut) (t word : Nat) : ClockOut :=
  if word = o.new.word then o else o.switch t (fun e => { word := word, start := e })

/-- The present frame boundary in ROOTCLK periods. -/
def Hub.rootNow (h : Hub) : Nat := rootFrame * h.now

/-! ## Tether time (R320) -/

/-- Tether time and local time that passed over the last 16 SYNC frames; 1 and 1 where there are no two. -/
def Hub.tetherRate (h : Hub) : Nat × Nat :=
  match h.tet.syncs.head?, h.tet.syncs.getLast? with
  | some (s1, t1), some (s0, t0) => if s0 < s1 ∧ t0 < t1 then (t1 - t0, s1 - s0) else (1, 1)
  | _, _ => (1, 1)

/-- The estimate of Tether time at a local time, both in 1/65536 frame: the last estimate, advanced on ROOTCLK and corrected by the rate. -/
def Hub.tetherAt (h : Hub) (t : Nat) : Nat :=
  ((h.tet.time : Int) + roundFree (((t : Int) - h.tet.timeAt) * h.tetherRate.1) h.tetherRate.2).toNat

/-- Tether time at the present frame boundary (log 35). -/
def Hub.tetherNow (h : Hub) : Nat := h.tetherAt (max (65536 * h.now) h.tet.timeAt)

/-! ## Word clock output (R221) -/

/-- The divider word of a word clock: its period in ROOTCLK periods, rounded to 1/65536. -/
def classWord (c : Nat) : Nat :=
  let r := classRate c
  if r = 0 then 0 else (2 * 393216000000 * 65536 + r) / (2 * r)

/-- What WCKOUT is to follow: source, class, and where its edges lie. Source 2 runs as 1 while Tether time is not locked; source 3 keeps its alignment
while the loop is not LOCKED. -/
def Hub.wckoutWanted (h : Hub) : Nat × Nat × Nat :=
  let cls := h.clockSetting 0x11
  match h.clockSetting 0x10 with
  | 0 => (0, 0, 0)
  | 1 => (1, cls, 0)
  | 2 => if h.tet.timeLocked then (2, cls, 0) else (1, cls, 0)
  | _ =>
    let c := h.clk.repeatClass
    let now := h.clk.wckoutFollows
    if c = 0 then (0, 0, 0)
    else if now.1 = 3 ∧ now.2.1 = c ∧ h.clk.rein ≠ 2 then now
    else (3, c, h.clk.wckNear % (classWord c / 65536))

/-- The first edge from ROOTCLK period `t` on at a Tether time that is a multiple of the period, and the divider word by the measured rate. -/
def Hub.tetherPulse (h : Hub) (cls t : Nat) : Pulse :=
  let period := classWord cls / 4096
  let (num, den) := h.tetherRate
  let left := (period - h.tetherAt (16 * t) % period) % period
  { word := period * 4096 * den / num, start := t + (left * den + 16 * num - 1) / (16 * num) }

/-- The pattern that follows `w`, from ROOTCLK period `t` on; `draw` is the phase of the 44.1 kHz family (log 138). -/
def Hub.wckoutPulse (h : Hub) (w : Nat × Nat × Nat) (draw t : Nat) : Pulse :=
  let word := classWord w.2.1
  let period := word / 65536
  match w.1 with
  | 0 => {}
  | 2 => h.tetherPulse w.2.1 t
  | _ =>
    if isHouseClass w.2.1 then { word := word, start := t + (w.2.2 + period - t % period) % period }
    else { word := word, start := t + Config.wordClockPhase draw % period }

/-- WCKOUT at a block boundary: a change completes the period and starts the new pattern on a rising edge. -/
def Hub.wckoutApply (h : Hub) : Hub :=
  let w := h.wckoutWanted
  if w = h.clk.wckoutFollows then h
  else
    let (d, h) := h.draw
    h.modClk (fun c => { c with wckoutFollows := w, wckout := c.wckout.switch h.rootNow (h.wckoutPulse w d) })

/-- A SYNC frame moves the edges of source 2 to the new estimate, no period shorter than its high phase. -/
def Hub.wckoutTether (h : Hub) : Hub :=
  let o := h.clk.wckout
  let t := h.rootNow
  if h.clk.wckoutFollows.1 = 2 ∧ o.ends ≤ t ∧ o.new.start ≤ t then
    let e := o.new.next t
    let p := h.tetherPulse h.clk.wckoutFollows.2.1 (max t (e - o.new.word / 131072))
    h.modClk (fun c => { c with wckout := { old := o.new, ends := min e p.start, new := p } })
  else h

/-! ## Steering (R208, R220) -/

/-- XTAL_TRIM in FRAC steps, rounded to the nearest (R208; log 59). -/
def fracTrim (trim : Int) : Int :=
  let r := trim.natAbs * 26844 * 2 + 100000
  let q : Int := r / 200000
  if trim < 0 then -q else q

def Hub.trimSteps (h : Hub) : Int := fracTrim (toS32 (h.clockSetting 3))

/-- The steering range about the centre, in steps: with a VCXO min(250, VCXO_PULL) ppm (R220). -/
def Hub.steerSpan (h : Hub) : Int :=
  if h.clk.activeSource = 2 then min 67108 ((h.clockSetting 9 : Int) * 268435456 / 1000000) else 67108

def Hub.steerLow (h : Hub) : Int :=
  if h.clk.activeSource = 2 then h.trimSteps - h.steerSpan else max (h.trimSteps - h.steerSpan) (-67108)
def Hub.steerHigh (h : Hub) : Int :=
  if h.clk.activeSource = 2 then h.trimSteps + h.steerSpan else min (h.trimSteps + h.steerSpan) 67108

/-- FREQ_OFFSET in 0.001 ppm (R208, R223; log 135). -/
def Hub.freqOffset (h : Hub) : Int := roundFree (h.clk.steer * 1000000000) 268435456

/-- PHASE_ERROR in nanoseconds (R223; log 135). -/
def Hub.phaseErrorNs (h : Hub) : Int := roundFree (h.clk.phaseError * 15625) 196608

/-- A phase error in 1/131072 core frame is at most `ns` nanoseconds. -/
def phaseWithin (e : Int) (ns : Nat) : Bool := decide (e.natAbs * 15625 ≤ ns * 196608)

/-- One FRAC step, 1 / 2^28, in the unit of the slew allowance: SLEW_LIMIT 0.1 ppm/s is 2^28 of these per frame (R208). -/
def slewUnit : Nat := 960000000000

/-- Frames of slew allowance that one movement can use: a little over the longest interval of phase samples, 1 ms (R208, R209; log 137). -/
def slewFrames : Nat := 128

/-- The steering moves toward `want` inside the range, at most at SLEW_LIMIT since it was last judged (R208). -/
def Hub.slewTo (h : Hub) (want : Int) : Hub :=
  let goal := clampInt h.steerLow h.steerHigh want
  let credit := min slewUnit h.clk.slewCredit + h.clockSetting 7 * 268435456 * min slewFrames (h.now - h.clk.slewAt)
  let n := min (goal - h.clk.steer).natAbs (credit / slewUnit)
  let d : Int := if goal < h.clk.steer then -(n : Int) else n
  h.modClk (fun c => { c with steer := c.steer + d, slewAt := h.now, slewCredit := credit - n * slewUnit })

/-- Mean duty of the bit stream on REIN_CTL in parts of 2 * VCXO_PULL * 10^6: 0.5 + polarity * (xtal_trim + s) / (2 * vcxo_pull), limited to 0 to 1 (R220). The
steering `s` is about XTAL_TRIM. -/
def Hub.reinDuty (h : Hub) : Rat :=
  let pull : Rat := h.clockSetting 9
  let off : Rat := (toS32 (h.clockSetting 3) : Rat) / 1000 + ((h.clk.steer - h.trimSteps : Int) : Rat) * 1000000 / 268435456
  let pol : Rat := if h.clockSetting 0x0A = 1 then -1 else 1
  let d := 1 / 2 + pol * off / (2 * pull)
  if d < 0 then 0 else if 1 < d then 1 else d

/-! ## The loop filter (R211) -/

def Hub.lockWindow (h : Hub) : Nat := h.clockSetting 8

/-- Bandwidth of the loop in 0.01 Hz (R211, R213): ACQUIRING, the larger of REIN_BW and 5 Hz until the error has stayed within 5 LOCK_WINDOW for
100 ms, then narrowing to REIN_BW over 2 s. -/
def Hub.reinBandwidth (h : Hub) : Nat :=
  let bw := h.clockSetting 6
  let wide := max bw 500
  if h.clk.rein = 1 then
    match h.clk.narrowAt with
    | none => wide
    | some f => if h.now < f + secs 2 then clampNat bw wide (Config.narrowing (h.now - f) wide bw) else bw
  else bw

/-- The loop filter starts from the present steering (R214). -/
def Hub.loopStart (h : Hub) : Hub := h.modClk (fun c => { c with loop := Config.loopStart c.steer, loopBw := h.reinBandwidth })

/-! ## The anchor (R209, R210) -/

/-- A configuration item of a port in force. -/
def Hub.portCfg (h : Hub) (p sub : Nat) : Nat := tgetD (h.port p).cfg sub (defaultOf (portIdx p) sub)

/-- The selected anchor meets R210: for the Tether time within 4 ms of the last SYNC frame. -/
def Hub.anchorUsable (h : Hub) : Bool :=
  match h.clk.anchor with
  | 1 => h.clk.wck.present && isHouseClass h.clk.wck.cls
  | 2 =>
    let p := h.port h.clk.anchorPort
    decide (p.state ≠ .stopped) && decide (h.portCfg h.clk.anchorPort 1 = 0) && isSyncClass (h.portCfg h.clk.anchorPort 3)
  | 3 => h.tet.timeLocked && (match h.tet.lastSync with | some f => decide (h.now ≤ f + ms 4) | none => false)
  | _ => false

/-- The port is the Rein anchor (R246, STATUS). -/
def Hub.isAnchorPort (h : Hub) (p : Nat) : Bool := decide (h.clk.anchor = 2) && decide (h.clk.anchorPort = p)

/-- REIN_STATE is LOCKED (R218, R228). -/
def Hub.reinLocked (h : Hub) : Bool := decide (h.clk.rein = 2)

/-- The loop leaves its present state; E32 if it was LOCKED (R212). -/
def Hub.reinLeave (h : Hub) (st : Nat) : Hub :=
  let h := h.when h.reinLocked (·.cause evReinUnlock)
  ((h.modClk (fun c => { c with rein := st, badSamples := 0, nearSince := none, narrowAt := none })).cancel .reinLock).cancel .reinLimit

/-- Loss of the anchor (R218, R222): HOLDOVER with frozen steering; in WATCH_HOLD once the hub is back in Run (R205). -/
def Hub.reinLoss (h : Hub) : Hub :=
  if h.clk.rein = 1 ∨ h.clk.rein = 2 ∨ h.clk.rein = 4 then h.reinLeave 3
  else if h.clk.rein = 5 ∧ h.pwr.state = 0 then (h.when (decide (h.clk.beforeWatch = 2)) (·.cause evReinUnlock)).reinLeave 3
  else h

/-- R218: the anchor is found unusable. -/
def Hub.anchorLoss (h : Hub) : Hub := if h.anchorUsable then h else h.reinLoss

/-- TIME_LOCKED changes; E104 (R321). -/
def Hub.timeLock (h : Hub) (on : Bool) : Hub :=
  if h.tet.timeLocked = on then h
  else
    let h := ({ h with tet := { h.tet with timeLocked := on, goodSyncs := 0 } } : Hub).cause evTimeLock
    if on then h else h.anchorLoss

/-- A SYNC frame has arrived within the last 4 ms (R321). -/
def Hub.syncRecent (h : Hub) : Bool := match h.tet.lastSync with | some l => decide (h.now < l + ms 4) | none => false

/-- R321: TIME_LOCKED changes once a condition for it holds. -/
def Hub.timeLockJudge (h : Hub) : Hub :=
  if h.tet.timeLocked then if h.tet.timeValid && h.syncRecent && decide (h.tet.badSyncs < 3) then h else h.timeLock false
  else if h.tet.timeValid && decide (8 ≤ h.tet.goodSyncs) then h.timeLock true else h

/-- The loop begins to follow its anchor: ACQUIRING from the present steering, or FREE (R213, R214). While the crystal has failed the loop
is held (R219). -/
def Hub.reinStart (h : Hub) : Hub :=
  if h.clk.xtalFail then h else if h.clk.anchor = 0 then h.reinLeave 0 else (h.reinLeave 1).loopStart

/-- ANCHOR and ANCHOR_PORT take effect at a block boundary (R214). -/
def Hub.anchorApply (h : Hub) : Hub :=
  let a := h.clockSetting 4
  let p := h.clockSetting 5
  let changed := decide (a ≠ h.clk.anchor) || (decide (a = 2) && decide (p ≠ h.clk.anchorPort))
  let h := h.modClk (fun c => { c with anchor := a, anchorPort := p, sample := if changed then none else c.sample })
  if changed = false ∨ h.clk.running = false then h
  else if h.clk.rein = 5 then
    (h.when (decide (h.clk.beforeWatch = 2)) (·.cause evReinUnlock)).modClk (fun c => { c with beforeWatch := if a = 0 then 0 else 1 })
  else h.reinStart

/-- A port that ANCHOR_PORT may name: no clock master, 48, 96 or 192 kHz (R210). -/
def Hub.anchorPortOk (h : Hub) (p : Nat) : Bool :=
  decide (h.accepted (portIdx p) 1 = 0) && isSyncClass (h.accepted (portIdx p) 3)

/-! ## Phase samples (R205, R211 to R213) -/

/-- One sample through the loop filter, rescaled where its bandwidth has changed; what it calls for (R211, R214). -/
def Hub.loopFilter (h : Hub) (e : Int) : Int × Hub :=
  let bw := h.reinBandwidth
  let st := if h.clk.loopBw = bw then h.clk.loop else Config.loopRescale h.clk.loopBw bw h.clk.loop
  let (st, want) := Config.loop bw st e
  (want, h.modClk (fun c => { c with loop := st, loopBw := bw }))

/-- The second of R212 runs, or stops, by one sample: within the window with the steering inside its range. -/
def Hub.reinJudge (h : Hub) (e : Int) : Hub :=
  let inside := decide (h.steerLow < h.clk.steer) && decide (h.clk.steer < h.steerHigh)
  let near := phaseWithin e (5 * h.lockWindow)
  let h := h.modClk (fun c =>
    let since := if near then some (c.nearSince.getD h.now) else none
    { c with nearSince := since
             narrowAt := match c.narrowAt, since with
               | none, some f => if f + ms 100 ≤ h.now then some h.now else none
               | n, _ => n })
  let h :=
    if h.clk.rein = 1 ∧ phaseWithin e h.lockWindow = true ∧ inside = true then if h.armed .reinLock then h else h.start .reinLock (secs 1)
    else h.cancel .reinLock
  let h := if inside then h.cancel .reinLimit else if h.armed .reinLimit then h else h.start .reinLimit (secs 10)
  if h.clk.rein = 2 then
    if near then h.modClk (fun c => { c with badSamples := 0 })
    else if 8 ≤ h.clk.badSamples + 1 then h.reinLeave 1
    else h.modClk (fun c => { c with badSamples := c.badSamples + 1 })
  else h

/-- A sample moves the steering and is judged. -/
def Hub.reinFollow (h : Hub) (e : Int) : Hub :=
  let (want, h) := h.loopFilter e
  (h.slewTo want).reinJudge e

/-- R211: the loop takes an accepted phase sample of the anchor. -/
def Hub.reinSample (h : Hub) (e : Int) : Hub :=
  if h.clk.running = false ∨ h.clk.xtalFail = true ∨ h.pwr.state ≠ 0 ∨ h.anchorUsable = false then h
  else
    let h := h.modClk (fun c => { c with phaseError := e })
    match h.clk.rein with
    | 0 => h
    | 3 => ((h.reinLeave 1).loopStart).reinFollow e
    | 4 =>
      let (want, h) := h.loopFilter e
      if h.steerLow < want ∧ want < h.steerHigh then (h.reinLeave 1).slewTo want else h
    | 5 =>
      if phaseWithin e (5 * h.lockWindow) then
        (h.modClk (fun c => { c with rein := 2, badSamples := 0, lockTime := h.frameCount })).reinFollow e
      else ((h.when (decide (h.clk.beforeWatch = 2)) (·.cause evReinUnlock)).reinLeave 1).reinFollow e
    | _ => h.reinFollow e

/-- Detector `anchor`, of port `port` for anchor 2, is the one the loop follows (R209). -/
def Hub.followed (h : Hub) (anchor port : Nat) : Bool := decide (h.clk.anchor = anchor) && (decide (anchor ≠ 2) || decide (h.clk.anchorPort = port))

/-- The sample a detector holds goes to the loop where ANCHOR selects that detector; without one there is none. -/
def Hub.reinPhaseSample (h : Hub) (anchor port : Nat) : Hub :=
  match h.clk.sample with
  | some e => if h.followed anchor port then (h.modClk (fun c => { c with sample := none })).reinSample e else h
  | none => h

/-- The phase detector of the selected anchor gives a sample (R209). -/
def Hub.detect (h : Hub) (anchor : Nat) (e : Int) : Hub := if h.clk.anchor = anchor then h.modClk (fun c => { c with sample := some e }) else h

/-- R212: a second within the window. -/
def Hub.reinLock (h : Hub) : Hub :=
  if h.clk.rein = 1 then
    h.whenDue .reinLock (fun h => (h.modClk (fun c => { c with rein := 2, badSamples := 0, lockTime := h.frameCount })).cause evReinLock)
  else h

/-- R213: ten seconds at a limit. -/
def Hub.reinLimit (h : Hub) : Hub :=
  if (h.clk.rein = 1 ∨ h.clk.rein = 2) ∧ h.anchorUsable = true then h.whenDue .reinLimit (·.reinLeave 4) else h

/-- Entry to Watch (R205, R222). -/
def Hub.reinEnterWatch (h : Hub) : Hub :=
  ((h.modClk (fun c => { c with beforeWatch := c.rein, rein := 5 })).cancel .reinLock).cancel .reinLimit

/-- Return to Run: ACQUIRING and FREE resume at once, an anchor that is not usable is a loss; otherwise the first phase sample decides
(R205, R210, R222). -/
def Hub.reinLeaveWatch (h : Hub) : Hub :=
  if h.clk.rein = 5 then
    if h.clk.xtalFail then h.modClk (fun c => { c with rein := 3 })
    else if h.clk.anchor = 0 then h.modClk (fun c => { c with rein := 0 })
    else if h.anchorUsable = false then (h.when (decide (h.clk.beforeWatch = 2)) (·.cause evReinUnlock)).reinLeave 3
    else if h.clk.beforeWatch = 1 then h.modClk (fun c => { c with rein := 1, badSamples := 0, nearSince := none, narrowAt := none })
    else h
  else h

/-! ## Trackers (R216, R217, R231) -/

/-- What an edge is to a tracker. -/
inductive EdgeKind where
  | gathered | accepted | spoiled | discarded
deriving DecidableEq, Repr

/-- Whether every period lies within ±0.5 % of their mean. -/
def consistent (ps : List Nat) : Bool :=
  let s := ps.sum
  let n := ps.length
  decide (n = 32) && ps.all (fun p => decide ((((p * n : Nat) : Int) - (s : Int)).natAbs * 200 ≤ s))

/-- R216: an edge `since` nanoseconds after the last accepted one. Without a rate the tracker gathers periods; any edge outside the windows spoils its
period, once. -/
def Tracker.edge (t : Tracker) (since : Nat) : Tracker × EdgeKind :=
  if t.present then
    let s := t.periods.sum
    let n := t.periods.length
    let k := max 1 ((2 * since * n + s) / (2 * s))
    if ((since * n : Nat) - (k * s : Nat) : Int).natAbs * 200 ≤ s then
      let t' := { t with periods := (since / k :: t.periods).take 16, run := t.run + 1, spoiled := false }
      if t.spoiled then (t', .spoiled) else ({ t' with missed := 0 }, .accepted)
    else if t.spoiled then (t, .spoiled) else (t, .discarded)
  else ({ t with periods := (since :: t.periods).take 32 }, .gathered)

/-- 32 consistent periods find a rate; 32 further ones update it (R217). -/
def Tracker.ready (t : Tracker) : Bool := if t.present then decide (32 ≤ t.run) else consistent t.periods

/-- The tracker with a rate found. -/
def Tracker.found (t : Tracker) (rate : Nat) : Tracker :=
  { t with periods := t.periods.take 16, run := 0, present := true, rate := rate, cls := classOf rate, missed := 0, spoiled := false }

/-! ## WCKIN (R216, R217) -/

/-- A discarded period (R216); the fourth in a row is a loss. -/
def Hub.wckDiscard (h : Hub) (spoiled : Bool) : Hub :=
  let n := h.clk.wck.missed + 1
  if 4 ≤ n then
    let h := (h.modClk (fun c => { c with wckFresh := false, wck := {} })).cause evWckinLoss
    if h.clk.anchor = 1 then h.reinLoss else h
  else h.modClk (fun c => { c with wckFresh := true, wck := { c.wck with missed := n, spoiled := spoiled } })

/-- WCKIN is looked at from step 5 of R203 on, and not in Stable (R453). -/
def Hub.wckinSeen (h : Hub) : Bool := h.clk.running && !h.pwr.stable

/-- Core frame boundary nearest an edge at FABCLK tick `tick` of the frame, or half-frame for 192 kHz, as a tick (R209). -/
def nearestTick (cls tick : Nat) : Nat := let g := if cls = 7 then 512 else 1024; (2 * tick + g - 1) / (2 * g) * g

/-- An accepted edge gives a phase sample: FABCLK ticks from the edge to the nearest boundary (R209). -/
def Hub.wckinDetect (h : Hub) (tick : Nat) : Hub :=
  let b := nearestTick h.clk.wck.cls tick
  (h.modClk (fun c => { c with wckNear := h.rootNow + 4 * b })).detect 1 (128 * ((b : Int) - tick))

/-- R216: a rising edge. Without a rate the tracker gathers periods (R217). -/
def Hub.wckinEdge (h : Hub) (e : WckEdge) : Hub :=
  if h.wckinSeen = false then h
  else
    let (t, k) := h.clk.wck.edge e.sinceNs
    let h := h.modClk (fun c => { c with wck := t })
    match k with
    | .discarded => h.wckDiscard true
    | .accepted => (h.modClk (fun c => { c with wckGlitched := c.wckGlitched || c.wckFresh, wckFresh := false })).wckinDetect e.tick
    | _ => h

/-- R216: the window of an expected edge passes without it. A period already discarded as a glitch counts once. -/
def Hub.wckinMissed (h : Hub) : Hub :=
  let t := h.clk.wck
  if t.present && h.wckinSeen then
    if t.spoiled then h.modClk (fun c => { c with wck := { t with spoiled := false } }) else h.wckDiscard false
  else h

/-- R217: a rate is found, or updated after 32 periods. -/
def Hub.wckinRate (h : Hub) (rate : Nat) : Hub :=
  let t := h.clk.wck
  if h.wckinSeen && t.ready then
    let c := classOf rate
    let h := h.modClk (fun x => { x with wck := t.found rate, repeatClass := if isHouseClass c then c else x.repeatClass })
    if h.clk.anchor = 1 ∧ h.clk.running = true then
      if isHouseClass c then if t.present || decide (h.clk.rein = 5) then h else h.reinStart
      else h.reinLoss
    else h
  else h

/-! ## Crystal failure (R204, R219) -/

/-- R219: XIN fails: the PLL and the loop are held, with E32 whatever the state. -/
def Hub.xtalFailure (h : Hub) : Hub :=
  let h := { h with ext := { h.ext with xinOk := false } }
  if h.clk.pllLocked then
    let h := ((h.modClk (fun c => { c with xtalFail := true, pllLocked := false })).cause evReinUnlock).cancel .storedHold
    if h.clk.rein = 1 ∨ h.clk.rein = 2 then h.reinLeave 3 else (h.cancel .reinLock).cancel .reinLimit
  else h

/-- The PLL is locked to XIN; after 60 s STORED_HOLD is stored, an hour after the last time at the earliest (R204). -/
def Hub.pllLock (h : Hub) : Hub :=
  let d := match h.clk.holdStoredAt with | some f => max (h.now + secs 60) (f + secs 3600) | none => h.now + secs 60
  (h.modClk (fun c => { c with pllLocked := true })).startAt .storedHold d

/-- R219: XIN valid for 100 ms: the PLL takes the reference again; the loop resumes. -/
def Hub.xinRecovered (h : Hub) : Hub :=
  let h := { h with ext := { h.ext with xinOk := true } }
  if h.clk.xtalFail then
    let h := (h.modClk (fun c => { c with xtalFail := false, bootHold := false, slewAt := h.now, slewCredit := 0, sample := none })).pllLock
    if h.clk.rein = 5 ∨ h.clk.running = false then h else h.reinStart
  else h

/-- R204: no valid XIN by 45 ms: the PLL runs on STORED_HOLD and the core frames begin (log 31). -/
def Hub.xinStartTimeout (h : Hub) : Hub :=
  if h.boot.step = 3 ∧ h.framesRun = false ∧ h.ext.xinOk = false then
    ((h.modClk (fun c => { c with bootHold := true, xtalFail := true, rein := 3 })).cause evReinUnlock)
  else h

/-- R204: STORED_HOLD is stored after 60 s of lock, and at most once an hour. -/
def Hub.storedHoldStore (h : Hub) (v : Int) : Hub :=
  if h.clk.pllLocked then
    h.whenDue .storedHold (fun h =>
      ((h.modClk (fun c => { c with storedHold := v, holdStoredAt := some h.now })).request .storedHold).start .storedHold (secs 3600))
  else h

/-! ## Block boundary and start -/

/-- R203 step 4: the PLL starts at the centre value, about which the steering is (R208, R220). -/
def Hub.centre (h : Hub) : Hub := h.modClk (fun c => { c with steer := h.trimSteps, slewAt := h.now, slewCredit := 0 })

/-- MCLKO0, MCLKO1 and WCKOUT take their settings (R207, R221). -/
def Hub.clockOutputs (h : Hub) : Hub :=
  if h.clk.running then
    (h.modClk (fun c =>
      { c with mclk0 := c.mclk0.divide h.rootNow (h.clockSetting 0x12), mclk1 := c.mclk1.divide h.rootNow (h.clockSetting 0x13) })).wckoutApply
  else h

/-- R203 step 5: the loop starts with the stored anchor from its centre value; WCKOUT and the MCLK outputs start. -/
def Hub.clockStart (h : Hub) : Hub :=
  let h := (h.modClk (fun c => { c with running := true, anchor := h.clockSetting 4, anchorPort := h.clockSetting 5 })).centre.clockOutputs
  if h.clk.xtalFail then h else if h.clk.anchor = 0 then h else (h.modClk (fun c => { c with rein := 1 })).loopStart

/-- The clock's part of a block boundary: FREE slews to the centre (R209); clock outputs (R207, R221); E35 for discarded periods (R216). -/
def Hub.clockBoundary (h : Hub) : Hub :=
  let h := h.clockOutputs
  let h := if h.clk.rein = 0 ∧ h.clk.running = true ∧ h.clk.xtalFail = false then h.slewTo h.trimSteps else h
  if h.clk.wckFresh ∨ h.clk.wckGlitched then (h.modClk (fun c => { c with wckFresh := false, wckGlitched := false })).cause evWckinGlitch else h

/-- CLOCK_STATUS (R224). -/
def Hub.clockStatus (h : Hub) : Nat :=
  b2n h.clk.bootHold + 2 * b2n h.clk.pllLocked + 4 * b2n h.tet.timeLocked + 8 * b2n h.clk.wck.present + 16 * b2n h.anchorUsable +
  32 * b2n (decide (h.clk.rein = 3) || decide (h.clk.rein = 5)) + 64 * b2n (decide (h.clk.rein = 4)) + 128 * b2n h.clk.xtalFail

/-! ## The meanings of the rows -/

/-- R204. -/
def execClkXinStartTimeout (s : State) : Out := always Hub.xinStartTimeout s
/-- R204. -/
def execStoredHoldStore (v : Int) (s : State) : Out := always (·.storedHoldStore v) s
/-- R211, R212. -/
def execReinPhaseSample (anchor port : Nat) (s : State) : Out := always (·.reinPhaseSample anchor port) s
/-- R212. -/
def execReinLock (s : State) : Out := always Hub.reinLock s
/-- R213. -/
def execReinLimitEntry (s : State) : Out := always Hub.reinLimit s
/-- R218. -/
def execAnchorLoss (s : State) : Out := always Hub.anchorLoss s
/-- R216. -/
def execWckinEdge (e : WckEdge) (s : State) : Out := always (·.wckinEdge e) s
/-- R216. -/
def execWckinPeriodMissed (s : State) : Out := always Hub.wckinMissed s
/-- R217. -/
def execWckinRateFound (rate : Nat) (s : State) : Out := always (·.wckinRate rate) s
/-- R219. -/
def execXtalFailure (s : State) : Out := always Hub.xtalFailure s
/-- R219. -/
def execXinRecovered (s : State) : Out := always Hub.xinRecovered s

end Sys2Proof.Machine
end

