-- ==== Sys2Proof/Machine/Asrc.lean ====
section
/-! DEFINITION. Rate conversion (R248 to R260): the pool of contexts, their claims, locks and relocks, and the channels of a port. -/

namespace Sys2Proof.Machine

/-! ## Slots and channels (R233) -/

/-- Enabled slots of a mask in ascending order. -/
def slotsOf (mask : Nat) : List Nat := (List.range 32).filter (bit mask)

/-- Channel index of each enabled slot. -/
def channelsOf (compact : Bool) (mask : Nat) : List (Nat × Nat) :=
  let ss := slotsOf mask
  if compact then ss.zip (List.range ss.length) else ss.map (fun k => (k, k))

/-- Channel indices in use. -/
def chansInUse (compact : Bool) (mask : Nat) : List Nat := (channelsOf compact mask).map (·.2)

/-- CHANNELS_IN and CHANNELS_OUT. -/
def channelCount (compact : Bool) (mask : Nat) : Nat :=
  if compact then (slotsOf mask).length else match (slotsOf mask).getLast? with | some k => k + 1 | none => 0

def Hub.compact (h : Hub) (p : Nat) : Bool := decide (h.portCfg p 0x0D = 1)
def Hub.dirOf (h : Hub) (p : Nat) (out : Bool) : PortDir := if out then (h.port p).dout else (h.port p).din
def Hub.useOf (h : Hub) (p : Nat) (out : Bool) : List Nat := chansInUse (h.compact p) (h.dirOf p out).mask
def Hub.modDir (h : Hub) (p : Nat) (out : Bool) (f : PortDir → PortDir) : Hub :=
  h.modPort p (fun x => if out then { x with dout := f x.dout } else { x with din := f x.din })

/-! ## The pool (R249 to R252) -/

def Hub.modAsrc (h : Hub) (f : Asrc → Asrc) : Hub := { h with asrc := f h.asrc }

def CtxState.code : CtxState → Nat
  | .free => 0 | .reserved => 1 | .acquiring => 2 | .locked => 3 | .relocking => 4 | .handover => 5

/-- Contexts a port holds. -/
def Hub.ctxsOf (h : Hub) (p : Nat) : List Nat :=
  (h.asrc.contexts.filter (fun e => decide (e.2.state ≠ .free) && decide (e.2.port = p) && !h.asrc.releasing.contains e.1)).map (·.1)

/-- The context of a channel of a port. -/
def Hub.ctxFor (h : Hub) (p : Nat) (out : Bool) (c : Nat) : Option Nat :=
  (h.ctxsOf p).find? (fun k => decide ((h.ctx k).out = out) && decide ((h.ctx k).chan = c))

/-- The free context of the lowest number. -/
def Hub.freeCtx (h : Hub) : Option Nat := (upTo 1 128).find? (fun k => decide ((h.ctx k).state = .free))

/-- Frames of 1.20 ms of history (R253). -/
def historyFrames : Nat := us 1200

/-- A claimed context starts to lock (R253): a master port's at the first block boundary after 1.20 ms of history; a slave's from the moment a class is found, its ratio
steady for 10 ms. -/
def Hub.startLock (h : Hub) (k p : Nat) : Hub :=
  if h.portCfg p 1 = 1 then h.startAt (.contextLock k) ((h.now + historyFrames + 31) / 32 * 32)
  else if (h.port p).measClass ≠ 0 then h.start (.contextLock k) (ms 10)
  else h.cancel (.contextLock k)

/-- Claims a context for a channel in a state; none where the pool is empty. -/
def Hub.take? (h : Hub) (p : Nat) (out : Bool) (c : Nat) (st : CtxState) (weight : Nat) : Option Hub :=
  match h.freeCtx with
  | some k =>
    let h := h.modCtx k (fun _ => { state := st, port := p, out := out, chan := c, fade := Fade.steady 0, weight := Fade.steady weight })
    some (if st = .acquiring then h.startLock k p else h)
  | none => none

/-- A channel that finds no context waits (R251). -/
def Hub.wait (h : Hub) (p : Nat) (out : Bool) (c : Nat) : Hub :=
  let h := h.modAsrc (fun a => { a with shortPorts := a.shortPorts ||| 2 ^ p })
  let h := h.when h.asrc.waiting.isEmpty (·.causeNext evContextsOut)
  h.modAsrc (fun a => { a with waiting := withOne a.waiting (p, out, c) })

/-- A channel claims a context, or waits (R250). -/
def Hub.claimChan (h : Hub) (p : Nat) (out : Bool) (c : Nat) (weight : Nat := unity) : Hub :=
  if (h.ctxFor p out c).isSome then h else (h.take? p out c .acquiring weight).getD (h.wait p out c)

/-- A channel reserves a context; a shortfall raises E36 (R257). -/
def Hub.reserveChan (h : Hub) (p : Nat) (out : Bool) (c : Nat) : Hub :=
  if (h.ctxFor p out c).isSome then h
  else
    match h.take? p out c .reserved 0 with
    | some h => h
    | none => (h.modAsrc (fun a => { a with shortPorts := a.shortPorts ||| 2 ^ p })).causeNext evContextsOut

/-- Claims for every channel in use, inputs first (R250). -/
def Hub.claimAll (h : Hub) (p : Nat) (weight : Nat := unity) : Hub :=
  let h := h.forAll (h.useOf p false) (fun h c => h.claimChan p false c weight)
  h.forAll (h.useOf p true) (fun h c => h.claimChan p true c weight)
def Hub.reserveAll (h : Hub) (p : Nat) : Hub :=
  let h := h.forAll (h.useOf p false) (fun h c => h.reserveChan p false c)
  h.forAll (h.useOf p true) (fun h c => h.reserveChan p true c)

/-- A context released in this block; it reads FREE from the next boundary (R252). -/
def Hub.releaseCtx (h : Hub) (k : Nat) : Hub := (h.modAsrc (fun a => { a with releasing := withOne a.releasing k })).cancel (.contextLock k)

/-- A port releases all its contexts, and its channels wait no longer (R252). -/
def Hub.releaseAll (h : Hub) (p : Nat) : Hub :=
  let h := h.forAll (h.ctxsOf p) Hub.releaseCtx
  h.modAsrc (fun a => { a with waiting := a.waiting.filter (fun w => decide (w.1 ≠ p)) })

/-- Contexts released in the last block become free at a boundary (R252). -/
def Hub.freeReleased (h : Hub) : Hub :=
  h.modAsrc (fun a => { a with contexts := a.releasing.foldl tdel a.contexts, releasing := [] })

/-- Waiting channels take the contexts that are free, in the order in which they began to wait (R251). -/
def Hub.serveWaiting (h : Hub) : Hub :=
  h.asrc.waiting.foldl (fun h w =>
    let weight := if (h.port w.1).synchronous then 0 else unity
    match h.take? w.1 w.2.1 w.2.2 .acquiring weight with
    | some h => h.modAsrc (fun a => { a with waiting := without a.waiting w })
    | none => h) h

/-- Channels that wait for a context fade out over 2 ms (R258). -/
def Hub.fadeSilent (h : Hub) (p : Nat) : Hub :=
  let silent := h.asrc.waiting.filter (fun w => decide (w.1 = p))
  h.modPort p (fun x =>
    { x with chanFade := silent.foldl (fun t w =>
        let i := 32 * b2n w.2.1 + w.2.2
        tput t i (((tget t i).getD (Fade.steady unity)).to 0 h.now (ms 2))) x.chanFade })

/-- The contexts of a port follow its channel indices after a mask change, or are claimed at last (R250). -/
def Hub.recount (h : Hub) (p : Nat) : Hub :=
  let h := h.modPort p (fun x => { x with recountDue := false })
  let gone := (h.ctxsOf p).filter (fun k => !(h.useOf p (h.ctx k).out).contains (h.ctx k).chan)
  let h := h.forAll gone Hub.releaseCtx
  let h := h.modAsrc (fun a => { a with waiting := a.waiting.filter (fun w => decide (w.1 ≠ p) || (h.useOf p w.2.1).contains w.2.2) })
  if (h.port p).onAsrc then
    if (h.port p).synchronous then (h.claimAll p 0).fadeSilent p else h.claimAll p
  else if (h.port p).reserve && (h.port p).synchronous && decide (h.portCfg p 1 = 0) then h.reserveAll p else h

/-! ## Lock and relock (R253, R254) -/

/-- A context is locked: the channel fades in over 2 ms unless the port's own start fade is still to come. -/
def Hub.lockCtx (h : Hub) (k : Nat) : Hub :=
  let own := decide ((h.port (h.ctx k).port).state = .waitClock) || decide ((h.port (h.ctx k).port).state = .preamble)
  (h.modCtx k (fun c =>
    { c with state := .locked
             fade := if own then Fade.steady unity else { m0 := c.fade.at (h.now - 1), m1 := unity, t0 := h.now, len := ms 2 } })).cancel (.contextLock k)

/-- A channel of a port that the hand-over found without a context has faded out (R258). -/
def Hub.fadedOut (h : Hub) (p i : Nat) : Bool := (tget (h.port p).chanFade i).any (fun r => decide (r.m1 = 0))

/-- A context may lock on its port's rate: a slave's needs a class (R253). -/
def Hub.lockable (h : Hub) (p : Nat) : Bool := decide (h.portCfg p 1 = 1) || decide ((h.port p).measClass ≠ 0)

/-- R253: a claimed or relocking context locks. -/
def Hub.contextLock (h : Hub) (k : Nat) : Hub :=
  let c := h.ctx k
  let p := c.port
  if h.lockable p = false then h
  else if c.state = .acquiring then
    h.whenDue (.contextLock k) (fun h =>
      let h := h.lockCtx k
      let i := 32 * b2n c.out + c.chan
      if h.fadedOut p i then
        (h.modPort p (fun x => { x with chanFade := tdel x.chanFade i })).modCtx k (fun c => { c with weight := Fade.steady unity })
      else if (h.port p).synchronous then
        (h.modCtx k (fun c => { c with state := .handover, weight := c.weight.to unity h.nextBlock (ms 10) })).startAt (.handover p) (h.nextBlock + ms 10)
          |>.modPort p (fun x => { x with handover := true })
      else h)
  else if c.state = .relocking then
    h.whenDue (.contextLock k) (fun h =>
      let h := h.lockCtx k
      if (h.ctxsOf p).all (fun j => decide ((h.ctx j).state ≠ .relocking)) then h.modPort p (fun x => { x with relocked := true }) else h)
  else h

/-- R254: a relock cause: the channel fades out over 1 ms and carries zero for at least 20 ms. During a hand-over the relock waits (R259). -/
def Hub.relock (h : Hub) (k : Nat) : Hub :=
  match (h.ctx k).state with
  | .locked =>
    (h.modCtx k (fun c => { c with state := .relocking, relockDue := false, fade := c.fade.to 0 h.now (ms 1) })).start (.contextLock k) (ms 21)
  | .handover => h.modCtx k (fun c => { c with relockDue := true })
  | _ => h

/-- Every context of a port relocks. -/
def Hub.relockAll (h : Hub) (p : Nat) : Hub := h.forAll (h.ctxsOf p) Hub.relock

/-- Every context of a port has locked (R236 step 4): one that cannot be claimed delays nothing. -/
def Hub.allLocked (h : Hub) (p : Nat) : Bool :=
  (h.ctxsOf p).all (fun k => decide ((h.ctx k).state = .locked) || decide ((h.ctx k).state = .reserved) || decide ((h.ctx k).state = .handover))

/-! ## Hand-over (R257 to R259) -/

/-- R228 allows a slave port synchronous operation. -/
def Hub.syncAllowed (h : Hub) (p : Nat) : Bool := h.reinLocked && decide ((h.port p).measClass = h.portCfg p 3)

/-- A synchronous slave port in full service: SYNC 1 at 48, 96 or 192 kHz. -/
def Hub.isSyncSlave (h : Hub) (p : Nat) : Bool :=
  decide (h.portCfg p 1 = 0) && decide (h.portCfg p 9 = 1) && isSyncClass (h.portCfg p 3) && h.boot.full

/-- Steps 1 and 2 of R258: reserved contexts lock at once and the channels crossfade over 10 ms; a channel without one claims it, or fades
out over 2 ms where there is none. Claims wait through a supervisor restart (R259). -/
def Hub.handOver (h : Hub) (p : Nat) : Hub :=
  let h := h.modPort p (fun x => { x with onAsrc := true, handover := true })
  let h := h.forAll (h.ctxsOf p) (fun h k =>
    match (h.ctx k).state with
    | .reserved => h.modCtx k (fun c => { c with state := .handover, fade := Fade.steady unity, weight := c.weight.to unity h.now (ms 10) })
    | .handover => h.modCtx k (fun c => { c with weight := c.weight.to unity h.now (ms 10) })
    | _ => h)
  let h := if h.sup.restarting then h.modPort p (fun x => { x with recountDue := true }) else (h.claimAll p 0).fadeSilent p
  h.start (.handover p) (ms 10)

/-- The crossfade back to the fixed-ratio path (R258): a channel that had faded out for want of a context fades in on it. -/
def Hub.handBack (h : Hub) (p : Nat) : Hub :=
  let h := h.modPort p (fun x =>
    { x with handover := true, synchronous := true, chanFade := x.chanFade.map (fun e => (e.1, e.2.to unity h.now (ms 10))) })
  let h := h.forAll (h.ctxsOf p) (fun h k =>
    match (h.ctx k).state with
    | .acquiring => (h.modCtx k (fun c => { c with state := .reserved, weight := Fade.steady 0 })).cancel (.contextLock k)
    | .locked | .handover | .relocking =>
      (h.modCtx k (fun c => { c with state := .handover, weight := c.weight.to 0 h.now (ms 10) })).cancel (.contextLock k)
    | _ => h)
  let h := h.modAsrc (fun a => { a with waiting := a.waiting.filter (fun w => decide (w.1 ≠ p)) })
  h.start (.handover p) (ms 10)

/-- The crossfade in progress leads toward the contexts. -/
def Hub.towardAsrc (h : Hub) (p : Nat) : Bool := (h.ctxsOf p).any (fun k => decide ((h.ctx k).weight.m1 = unity)) || (h.port p).chanFade.any (fun e => decide (e.2.m1 = 0))

/-- At a block boundary a synchronous slave port leaves or resumes synchronous operation (R258, R259). -/
def Hub.handoverBoundary (h : Hub) (p : Nat) : Hub :=
  let x := h.port p
  let past := decide (x.state = .preamble) || decide (x.state = .fadeIn) || decide (x.state = .running)
  if h.isSyncSlave p && past then
    if h.syncAllowed p then
      if x.onAsrc && !(x.handover && !h.towardAsrc p) then h.handBack p else h
    else if x.synchronous && (!x.onAsrc || (x.handover && !h.towardAsrc p)) then h.handOver p
    else h
  else h

/-- R258: a hand-over ends. -/
def Hub.handoverEnd (h : Hub) (p : Nat) : Hub :=
  h.whenDue (.handover p) (fun h =>
    let toAsrc := h.towardAsrc p
    let h := h.modPort p (fun x => { x with handover := false })
    if toAsrc then
      let h := h.forAll (h.ctxsOf p) (fun h k =>
        if (h.ctx k).state = .handover then
          let due := (h.ctx k).relockDue
          let h := h.modCtx k (fun c => { c with state := .locked, weight := Fade.steady unity })
          if due then h.relock k else h
        else h)
      if (h.ctxsOf p).all (fun k => decide ((h.ctx k).state ≠ .acquiring)) then h.modPort p (fun x => { x with synchronous := false }) else h
    else
      let h := h.modPort p (fun x => { x with onAsrc := false, chanFade := [] })
      if (h.port p).reserve then
        h.forAll (h.ctxsOf p) (fun h k => h.modCtx k (fun c => { c with state := .reserved, weight := Fade.steady 0, relockDue := false }))
      else h.releaseAll p)

/-! ## The object (R260) -/

def Hub.countCtx (h : Hub) (f : CtxState → Bool) : Nat := ((upTo 1 128).filter (fun k => f (h.ctx k).state)).length

/-- Port rate less its class rate in 0.1 ppm (log 135). -/
def ratioDev (rate cls : Nat) : Int :=
  let n : Int := classRate cls
  if n = 0 then 0 else roundFree (((rate : Int) - n) * 10000000) (classRate cls)

/-- CONTEXT[k]. -/
def Hub.ctxWord (h : Hub) (k : Nat) : Nat :=
  let c := h.ctx k
  if c.state = .free then 0
  else
    let x := h.port c.port
    let dev := if x.measClass = 0 ∨ x.measClass = 15 then 0 else ratioDev x.rateMeas x.measClass
    c.state.code * 2 ^ 28 + c.port * 2 ^ 25 + b2n c.out * 2 ^ 24 + c.chan * 2 ^ 19 + ofInt 16 dev

/-! ## The meanings of the rows -/

/-- R253. -/
def execAsrcContextLock (k : Nat) (s : State) : Out := run (isCtx k) (·.contextLock k) s
/-- R254. -/
def execAsrcRelock (k : Nat) (s : State) : Out := run (isCtx k) (·.relock k) s
/-- R258. -/
def execAsrcHandoverEnd (p : Nat) (s : State) : Out := run (isPort p) (·.handoverEnd p) s

end Sys2Proof.Machine
end

