-- ==== Sys2Proof/Machine/Slots.lean ====
section
/-! DEFINITION. A serial frame on the wire (R225 to R229, R233, R234): frame start, slot words of DI, and what a frame puts on FS and DO. -/

namespace Sys2Proof.Machine

/-- The layout of a port's frames: its configuration in force. -/
structure FrameFormat where
  format : Nat
  rate : Nat
  slots : Nat
  slotBits : Nat
  width : Nat
  /-- BCLK periods between the start of a frame and the MSB of slot 0 (R226). -/
  delay : Nat
  invertEdges : Bool
  invertFs : Bool
deriving DecidableEq, Repr

/-- BCLK periods of a frame (R225). -/
def FrameFormat.periods (m : FrameFormat) : Nat := m.slots * m.slotBits

/-- What the hub samples of a period: FS with its sense, and DI, on the rising edge of BCLK, or on the falling one (R226). -/
def FrameFormat.sampled (m : FrameFormat) (p : BclkPeriod) : Bool × Bool :=
  if m.invertEdges then (xor p.fsFall m.invertFs, p.diFall) else (xor p.fsRise m.invertFs, p.diRise)

/-- A frame starts where FS is first sampled at its starting level: low for I2S, high for the others (R226). -/
def FrameFormat.starts (m : FrameFormat) (before now : Bool) : Bool :=
  let level := decide (m.format ≠ 0)
  decide (now = level) && decide (before ≠ level)

/-- The periods from the first frame start on; `before` is FS in the period before. -/
def FrameFormat.fromStart (m : FrameFormat) : Bool → List (Bool × Bool) → List (Bool × Bool)
  | _, [] => []
  | before, p :: r => if m.starts before p.1 then p :: r else m.fromStart p.1 r

/-- The periods up to the next frame start. -/
def FrameFormat.untilStart (m : FrameFormat) : Bool → List (Bool × Bool) → List (Bool × Bool)
  | _, [] => []
  | before, p :: r => if m.starts before p.1 then [] else p :: m.untilStart p.1 r

/-- One frame as the slot aligner finds it: the periods from a frame start to the next. -/
def FrameFormat.aligned (m : FrameFormat) (before : Bool) (ps : List (Bool × Bool)) : List (Bool × Bool) :=
  match m.fromStart before ps with
  | [] => []
  | p :: r => p :: m.untilStart p.1 r

/-- The aligned frame is whole: as long as the configuration says, and the next one starts right after it. -/
def FrameFormat.whole (m : FrameFormat) (before : Bool) (frame : List (Bool × Bool)) (after : Bool) : Bool :=
  m.starts ((frame.getLast?.map (·.1)).getD before) after && decide (frame.length = m.periods)

/-- Bits, MSB first, as the top bits of an S32 (R227). -/
def leftAligned (width : Nat) (bits : List Bool) : Int :=
  toS32 (((List.range width).foldl (fun (a : Nat) i => 2 * a + b2n (bits.getD i false)) 0) * 2 ^ (32 - width))

/-- The sample of slot `k`: the first `width` periods of the slot, left-aligned (R226, R227). -/
def FrameFormat.word (m : FrameFormat) (di : List Bool) (k : Nat) : Int := leftAligned m.width (di.drop (m.delay + k * m.slotBits))

/-- What DO carries in one slot: the word MSB first and zeros after it, or what OUT_IDLE gives a disabled slot; `none` is high impedance
(R227, R234). -/
def FrameFormat.slotLine (m : FrameFormat) (idle : Nat) : Option Int → List (Option Bool)
  | none => List.replicate m.slotBits (if idle = 1 then none else some false)
  | some x => (List.range m.slotBits).map (fun i => some (decide (i < m.width) && bit (ofInt 32 x) (31 - i)))

/-- What DO carries from the MSB of slot 0 on. -/
def FrameFormat.line (m : FrameFormat) (idle : Nat) (word : Nat → Option Int) : List (Option Bool) :=
  ((List.range m.slots).map (fun k => m.slotLine idle (word k))).flatten

/-- FS of a master in each period of a frame (R226). -/
def FrameFormat.fsLine (m : FrameFormat) : List Bool :=
  let high (i : Nat) : Bool :=
    match m.format with
    | 0 => decide (m.slotBits ≤ i)
    | 1 => decide (i < m.slotBits)
    | 2 => decide (i = 0)
    | _ => decide (i < m.periods / 2)
  (List.range m.periods).map (fun i => xor (high i) m.invertFs)

/-- A synchronous master starts a frame in phase with the core (R229): at 48 kHz at even frames, at 96 kHz at every frame, at 192 kHz at every
frame and half-frame. `begun` frames have started in core frame `now`, of which `sub` eighths have passed. -/
def FrameFormat.inPhase (m : FrameFormat) (now begun sub : Nat) : Bool :=
  match m.rate with
  | 3 => decide (begun = 0) && decide (now % 2 = 0)
  | 5 => decide (begun = 0)
  | _ => decide (begun = 0) || (decide (begun = 1) && decide (4 ≤ sub))

/-! ## Narrower words (R227, R176) -/

/-- A sample as a word of `width` bits: rounded to the nearest (log 59), or with dither truncated, and saturated (R227, R176). -/
def quantize (width : Nat) (dither : Option Int) (x : Int) : Int :=
  if 32 ≤ width then satS32 x
  else
    let u : Nat := 2 ^ (32 - width)
    let q := match dither with
      | some d => (x + clampInt (-u) u d) / u
      | none => nearest x u
    clampInt (-(2 ^ (width - 1))) (2 ^ (width - 1) - 1) q * u

end Sys2Proof.Machine
end

