-- ==== Sys2Proof/Machine/Ports.lean ====
section
/-! DEFINITION. Serial audio ports (R225 to R246) and the capture ring (R244, R245, R247). -/

namespace Sys2Proof.Machine

def PortState.code : PortState → Nat
  | .stopped => 0 | .waitClock => 1 | .preamble => 2 | .fadeIn => 3 | .running => 4 | .fadeOut => 5 | .flush => 6

/-- Largest bit clock (R225). -/
def maxBclk : Nat := 49152000

/-- Pads of a port held after a wake from Stable: it sees no edges (R231, R381). -/
def Hub.padsHeld (h : Hub) (p : Nat) : Bool := bit h.pwr.padHeld p

/-- The port is a clock master: by its configuration in force, or while stopped by that accepted. -/
def Hub.isMaster (h : Hub) (p : Nat) : Bool :=
  if (h.port p).state = .stopped then decide (h.accepted (portIdx p) 1 = 1) else decide (h.portCfg p 1 = 1)

/-- START_RESULT of the accepted configuration (R238): the first cause that applies, 0 where none does. -/
def Hub.startCheck (h : Hub) (p : Nat) : Nat :=
  let a := h.accepted (portIdx p)
  let slots := a 4
  if !isSyncClass (a 3) && decide (a 9 = 1) then 1
  else if a 2 ≤ 1 ∧ slots ≠ 2 then 2
  else if a 5 < a 6 then 3
  else if maxBclk < slots * a 5 * (classRate (a 3) / 1000) then 4
  else if 2 ^ slots ≤ a 0x0E ∨ 2 ^ slots ≤ a 0x0F then 5
  else 0

/-- The target fill of a FIFO: 2.0 frames in 1/65536 (R239). -/
def targetFill : Nat := 131072

/-- The configuration items taken at a start (R236). -/
def configSubs : List Nat := upTo 1 13

/-- PENDING_CONFIG (R238): an accepted item differs from that in force on a port that is not STOPPED. -/
def Hub.pendingConfig (h : Hub) (p : Nat) : Bool :=
  decide ((h.port p).state ≠ .stopped) && configSubs.any (fun s => decide (h.accepted (portIdx p) s ≠ h.portCfg p s))

/-! ## Capture ends (R245) -/

/-- A port stop or clock loss ends a capture of that port. -/
def Hub.capPortGone (h : Hub) (p : Nat) : Hub :=
  if h.cap.state = 2 ∧ h.cap.port = p then { h with cap := { h.cap with state := 4 } } else h

/-! ## Start (R236) -/

/-- Step 1 of R236 at T0; a combination refused by R238 leaves the port stopped. -/
def Hub.portBegin (h : Hub) (p : Nat) : Hub :=
  let r := h.startCheck p
  if r ≠ 0 then h.modPort p (fun x => { x with startResult := r })
  else
    let a := h.accepted (portIdx p)
    let master := decide (a 1 = 1)
    let h := h.modPort p (fun x =>
      { x with state := if master then .preamble else .waitClock, fade := Fade.steady 0, cfg := configSubs.map (fun s => (s, a s))
               din := { x.din with mask := a 0x0E, frames := [], shift := 0, fill := targetFill }
               dout := { x.dout with mask := a 0x0F, frames := [], shift := 0, fill := targetFill }
               maskPending := false, maskFrames := 0, recountDue := false, startResult := 0, track := if master then {} else x.track, divider := if master then portDivider (a 4) (a 5) (a 3) else 0
               bclk := if master then { word := portDivider (a 4) (a 5) (a 3), start := h.rootNow } else {}
               exactFrames := 0, preambleLeft := a 0x0B, flushLeft := 0, onAsrc := false, synchronous := false, reserve := false
               handover := false, chanFade := [], rateFault := false, alignLost := false, relocked := false, restart := false, conv := [], pins := { x.pins with fs := [], dout := [], tail := none } })
    if !h.boot.full then h.modPort p (fun x => { x with synchronous := master })
    else if master then
      if isSyncClass (a 3) then h.modPort p (fun x => { x with synchronous := true })
      else (h.modPort p (fun x => { x with onAsrc := true })).claimAll p
    else if h.isSyncSlave p then
      if h.live? 0x4400 0x85 = 1 then (h.modPort p (fun x => { x with reserve := true })).reserveAll p else h
    else (h.modPort p (fun x => { x with onAsrc := true })).claimAll p

/-- A START takes effect at a block boundary (R238). -/
def Hub.portStart (h : Hub) (p : Nat) : Hub :=
  match (h.port p).state with
  | .stopped => h.portBegin p
  | .fadeOut | .flush => h.modPort p (fun x => { x with startHeld := true })
  | _ => h

/-- Two exact frames and a rate complete the lock of a slave (R236 step 2, R257). -/
def Hub.portClockLock (h : Hub) (p : Nat) : Hub :=
  let x := h.port p
  if x.state = .waitClock ∧ x.measClass ≠ 0 ∧ 2 ≤ x.exactFrames ∧ h.padsHeld p = false then
    let h := h.modPort p (fun x =>
      { x with state := .preamble, preambleLeft := h.portCfg p 0x0B, fade := Fade.steady 0, maskFrames := 0, pins := { x.pins with phase := 0 }, din := { x.din with fill := targetFill }
               dout := { x.dout with fill := targetFill } })
    if !h.boot.full then h.modPort p (fun x => { x with synchronous := true })
    else if h.isSyncSlave p then
      if h.syncAllowed p then
        let h := h.modPort p (fun x => { x with synchronous := true, onAsrc := false, handover := false, chanFade := [] })
        if x.reserve then
          h.forAll (h.ctxsOf p) (fun h k => (h.modCtx k (fun c => { c with state := .reserved, weight := Fade.steady 0 })).cancel (.contextLock k))
        else h.releaseAll p
      else
        let h := (h.modPort p (fun x => { x with synchronous := false, onAsrc := true, handover := false, chanFade := [] })).relockAll p
        let h := h.forAll (h.ctxsOf p) (fun h k =>
          h.modCtx k (fun c => if c.state = .reserved then { c with state := .locked, fade := Fade.steady unity, weight := Fade.steady unity } else c))
        if h.sup.restarting then h.modPort p (fun x => { x with recountDue := true }) else h.claimAll p
    else (h.forAll (h.ctxsOf p) (fun h k => if (h.ctx k).state = .acquiring then h.startLock k p else h)).relockAll p
  else h

/-- Step 4 of R236. -/
def Hub.portPreambleEnd (h : Hub) (p : Nat) : Hub :=
  if (h.port p).state = .preamble ∧ (h.port p).preambleLeft = 0 ∧ h.allLocked p = true then
    (h.modPort p (fun x =>
      { x with state := .fadeIn, fade := if x.rateFault then Fade.steady 0 else { m0 := 0, m1 := unity, t0 := h.now, len := ms 2 } })).start (.portFade p) (ms 2)
  else h

/-- Step 6 of R236. -/
def Hub.portFadeInEnd (h : Hub) (p : Nat) : Hub :=
  if (h.port p).state = .fadeIn then h.whenDue (.portFade p) (·.modPort p (fun x => { x with state := .running })) else h

/-! ## Stop (R237) -/

/-- Step 3 of R237: clocks stop and contexts are released; a held start begins at the next block boundary (R238). -/
def Hub.portStopped (h : Hub) (p : Nat) : Hub :=
  let master := h.isMaster p
  let h := (h.capPortGone p).releaseAll p
  let h := h.modPort p (fun x =>
    { x with state := .stopped, fade := Fade.steady 0, startDue := x.startDue || x.startHeld, startHeld := false, maskPending := false
             maskFrames := 0, onAsrc := false, synchronous := false, reserve := false, handover := false, chanFade := [], rateFault := false
             alignLost := false, relocked := false, divider := 0, bclk := {}, conv := []
             pins := { x.pins with fs := [], dout := [], tail := none, lowUntil := if master then h.now + (96000000 + classRate (h.portCfg p 3) - 1) / classRate (h.portCfg p 3) else h.now }
             track := if master then {} else x.track, recountDue := false, rateMeas := if master then 0 else x.rateMeas, measClass := if master then 0 else x.measClass })
  let h := (h.cancel (.portFade p)).cancel (.handover p)
  if h.isAnchorPort p then h.reinLoss else h

/-- A STOP takes effect at a block boundary (R237, R238). -/
def Hub.portStop (h : Hub) (p : Nat) : Hub :=
  match (h.port p).state with
  | .waitClock | .preamble =>
    if h.isMaster p then h.modPort p (fun x => { x with state := .flush, flushLeft := 16, fade := Fade.steady 0 }) else h.portStopped p
  | .fadeIn | .running =>
    (h.modPort p (fun x => { x with state := .fadeOut, fade := x.fade.to 0 h.now (ms 2) })).start (.portFade p) (ms 2)
  | _ => h

/-- Step 2 of R237 begins in the frame in which the fade-out has run. -/
def Hub.portFadeOut (h : Hub) (p : Nat) : Hub :=
  if (h.port p).state = .fadeOut then
    h.whenDue (.portFade p) (·.modPort p (fun x => { x with state := .flush, flushLeft := 16, fade := Fade.steady 0 }))
  else h

/-- R237: the 16th flush frame ends. -/
def Hub.portFlushEnd (h : Hub) (p : Nat) : Hub :=
  if (h.port p).state = .flush ∧ (h.port p).flushLeft = 0 then h.portStopped p else h

/-! ## Rates and clock loss (R232, R238) -/

/-- MEAS_CLASS of a slave port changes: E(16 + p) (R232). -/
def Hub.rateEvent (h : Hub) (p rate cls : Nat) : Hub :=
  let old := (h.port p).measClass
  let h := h.modPort p (fun x => { x with rateMeas := rate, measClass := cls, cause := if cls = old then x.cause else x.cause ||| 1 })
  h.when (decide (cls ≠ old)) (·.cause (evRateChange p))

/-- R238: a slave loses BCLK or FS: its inputs fade out over 1 ms on repeats of the last frame, the output FIFO is cleared, WAIT_CLOCK. -/
def Hub.portClockLoss (h : Hub) (p : Nat) : Hub :=
  if h.isMaster p then h
  else
    let h := (h.rateEvent p 0 0).modPort p (fun x => { x with track := {}, exactFrames := 0 })
    match (h.port p).state with
    | .stopped | .waitClock => h
    | .fadeOut | .flush => h.portStopped p
    | _ =>
      let h := (h.capPortGone p).modPort p (fun x =>
        { x with state := .waitClock, fade := x.fade.to 0 h.now (ms 1), exactFrames := 0, dout := { x.dout with frames := [] }, handover := false
                 pins := { x.pins with fs := [], dout := [], tail := none } })
      let h := (h.cancel (.portFade p)).cancel (.handover p)
      if h.isAnchorPort p then h.reinLoss else h

/-- A rate beyond the bit clock limit, or of no class (R232). -/
def Hub.rateFaulty (h : Hub) (p rate cls : Nat) : Bool :=
  decide (cls = 15) || decide (maxBclk * 1000 < h.portCfg p 4 * h.portCfg p 5 * rate)

/-- R231, R232: the tracker of a port reports a rate, found or updated after 32 periods; 0 where the rate is lost. -/
def Hub.portRateChange (h : Hub) (p rate : Nat) : Hub :=
  let x := h.port p
  if h.padsHeld p || (decide (rate ≠ 0) && !x.track.ready) then h
  else if h.isMaster p then
    if x.state = .stopped then h
    else h.modPort p (fun x => { x with track := if rate = 0 then {} else x.track.found rate, rateMeas := rate, measClass := if rate = 0 then 0 else classOf rate })
  else if rate = 0 then h.portClockLoss p
  else
    let h := h.modPort p (fun x => { x with track := x.track.found rate })
    let old := (h.port p).measClass
    let cls := classOf rate
    let h := h.rateEvent p rate cls
    if (h.port p).state = .stopped then h
    else
      let fault := h.rateFaulty p rate cls
      let live := decide ((h.port p).state = .fadeIn) || decide ((h.port p).state = .running)
      let h := h.modPort p (fun x =>
        { x with rateFault := fault
                 fade := if fault then Fade.steady 0
                         else if x.rateFault && live then { m0 := 0, m1 := unity, t0 := h.now, len := ms 2 } else x.fade })
      if cls = old then h
      else
        (h.forAll (h.ctxsOf p) (fun h k =>
          if (h.ctx k).state = .acquiring then h.startLock k p
          else if (h.ctx k).state = .relocking then h.start (.contextLock k) (ms 21)
          else h)).relockAll p

/-! ## Masks (R235) -/

/-- A mask value with every bit below the SLOTS last accepted (R233). -/
def Hub.maskOk (h : Hub) (p m : Nat) : Bool := decide (m < 2 ^ h.accepted (portIdx p) 4)

/-- A mask write to a port that is not stopped is staged and restarts the count. -/
def Hub.maskStage (h : Hub) (p : Nat) : Hub :=
  if (h.port p).state = .stopped then h else h.modPort p (fun x => { x with maskPending := true, maskFrames := 0 })

/-- R235: the second port frame boundary: both masks apply and the channels renumber. One boundary has passed since the last mask write. -/
def Hub.maskApply (h : Hub) (p : Nat) : Hub :=
  if (h.port p).maskPending = true ∧ 1 ≤ (h.port p).maskFrames then
    let i := h.accepted (portIdx p) 0x0E
    let o := h.accepted (portIdx p) 0x0F
    h.modPort p (fun x =>
      { x with maskPending := false, maskFrames := 0, maskEventDue := true, recountDue := true, din := { x.din with mask := i }, dout := { x.dout with mask := o } })
  else h

/-! ## Words (R227, R176) -/

/-- Whether a port output channel is dithered: DITHER of its owner, at 16, 20 or 24 bits (R176). -/
def Hub.dithered (h : Hub) (p c : Nat) : Bool :=
  match h.sinkOwner (0x40 + 32 * p + c) with
  | some k => decide (h.live? (hostIdx k) 9 = 1) && decide (h.portCfg p 6 < 32)
  | none => false

/-- The layout of a port's frames. -/
def Hub.format (h : Hub) (p : Nat) : FrameFormat :=
  let c := h.portCfg p
  { format := c 2, rate := c 3, slots := c 4, slotBits := c 5, width := c 6, delay := if c 2 = 0 then 1 else if c 2 = 1 then 0 else c 7
    invertEdges := bit (c 8) 0, invertFs := bit (c 8) 1 }

/-- Key of a channel in a direction. -/
def convKey (out : Bool) (c : Nat) : Nat := 32 * b2n out + c
def Port.channel (x : Port) (out : Bool) (c : Nat) : Conv := tgetD x.conv (convKey out c) {}

/-- A channel's filters take the samples it holds: the fixed-ratio filter while the port runs on it (R248, R160), the channel's context always, so
that a reserved one keeps its history (R257; log 17). -/
def Hub.convert (h : Hub) (p : Nat) (out : Bool) (c : Nat) : Hub :=
  let x := h.port p
  let v := x.channel out c
  let fixed := if x.synchronous then v.fixed.run (if out then .fixedOut else .fixedIn) (2 * h.portCfg p 3 + h.boot.filterPhase) v.taken else v.fixed
  let h := h.modPort p (fun x => { x with conv := tput x.conv (convKey out c) { taken := [], fixed := fixed } })
  match h.ctxFor p out c with
  | some k => h.modCtx k (fun y => { y with filter := y.filter.run (if out then .asrcOut else .asrcIn) x.rateMeas v.taken })
  | none => h

/-- Samples join a channel's. -/
def Hub.feed (h : Hub) (p : Nat) (out : Bool) (c : Nat) (xs : List Int) : Hub :=
  h.modPort p (fun x => { x with conv := tput x.conv (convKey out c) { x.channel out c with taken := (x.channel out c).taken ++ xs } })

/-- What a channel's filters last gave: the fixed-ratio filter and the context by its weight (R248, R258); silence without a path. -/
def Hub.portPath (h : Hub) (p : Nat) (out : Bool) (c f : Nat) : Int :=
  let fixed := if (h.port p).synchronous then ((h.port p).channel out c).fixed.value 0 else 0
  let y :=
    match h.ctxFor p out c with
    | some k =>
      let x := h.ctx k
      let w := x.weight.at f
      if (h.port p).onAsrc then scaleBy fixed (if (h.port p).synchronous then unity - w else 0) + product (x.filter.value 0) [x.fade.at f, w] else fixed
    | none => fixed
  match tget (h.port p).chanFade (convKey out c) with
  | some r => scaleBy y (r.at f)
  | none => y

/-- Looks a number up in a list of pairs; 0 where it is not listed. -/
def wordOf : List (Nat × Int) → Nat → Int
  | [], _ => 0
  | (k, x) :: r, i => if k = i then x else wordOf r i

/-- The frame a FIFO gives next: the one that lies its fill back (R239). -/
def PortDir.next (d : PortDir) : List (Nat × Int) := d.frames.getD (d.fill / 65536) []

/-- Port frames that fall in core frame `f` at a port rate in mHz. -/
def framesIn (rate f : Nat) : Nat := (f + 1) * rate / 96000000 - f * rate / 96000000

/-- The input channels of a port in this core frame. After a clock loss the last received frame repeats (R238). -/
def Hub.portInputs (h : Hub) (p : Nat) : Hub :=
  let x := h.port p
  if x.state = .stopped then h
  else
    let again := if x.state = .waitClock then framesIn (classRate (h.portCfg p 3)) h.now else 0
    h.forAll (h.useOf p false) (fun h c => (h.feed p false c (List.replicate again (wordOf (x.din.frames.headD []) c))).convert p false c)

/-- The output channels of a port take the sinks' samples of this core frame, with the port's fade (R236, R237). -/
def Hub.portOutputs (h : Hub) (p : Nat) : Hub :=
  if (h.port p).state = .stopped then h
  else h.forAll (h.useOf p true) (fun h c => h.feed p true c [scaleBy (h.sink (0x40 + 32 * p + c)).sample ((h.port p).fade.at h.now)])

/-- What source 0x040 + 32 p + c carries in this frame (R131, R133). -/
def Hub.portSource (h : Hub) (p c f : Nat) : Int :=
  let x := h.port p
  if x.state = .stopped ∨ x.rateFault = true ∨ (h.useOf p false).contains c = false then 0
  else satS32 (scaleBy (h.portPath p false c f) (x.fade.at f))

/-! ## Slips (R240 to R242) -/

/-- A slip of one direction: the counter, the flags of the block, and an episode of the port. -/
def Hub.slip (h : Hub) (p : Nat) (out aligned : Bool) : Hub :=
  if (h.dirOf p out).mask = 0 then h
  else
    let h := (h.countSlip p out).modDir p out (fun d => { d with slippedNow := true })
    let h := if h.cap.port = p ∧ h.cap.dir = b2n out then { h with cap := { h.cap with slipSince := true } } else h
    if aligned then
      h.episode (.slip p) (ms 100) (fun h =>
        (h.modPort p (fun x => { x with cause := x.cause ||| (if out then 4 else 2) })).cause (evFifoSlip p))
    else h

/-- Keeps the newest 4 frames of a FIFO (R239). -/
def pushFrame (fr : List (Nat × Int)) (fs : List (List (Nat × Int))) : List (List (Nat × Int)) := (fr :: fs).take 4

/-- The fill limits of R240: 3.5 and 0.5 frames. -/
def PortDir.full (d : PortDir) : Bool := decide (229376 ≤ d.fill)
def PortDir.low (d : PortDir) : Bool := decide (d.fill ≤ 32768)

/-- R241: in raw mode a word is dropped or repeated at a fill limit: channels rotate, and E38 once per start. -/
def Hub.rawSlip (h : Hub) (p : Nat) (out dropped : Bool) : Hub :=
  let x := h.port p
  let d := h.dirOf p out
  let word := 65536 / h.portCfg p 4
  if h.portCfg p 0x0A = 1 ∧ x.state ≠ .stopped ∧ x.state ≠ .waitClock ∧ d.mask ≠ 0 ∧ (if dropped then d.full else d.low) = true then
    let h := (h.slip p out false).modDir p out (fun d =>
      { d with shift := if dropped then d.shift + 1 else d.shift - 1, fill := if dropped then d.fill - word else d.fill + word })
    if x.alignLost then h
    else (h.modPort p (fun x => { x with alignLost := true, cause := x.cause ||| 8 })).cause evAlignLost
  else h

/-! ## Capture (R244) -/

/-- Bytes of the region of R195. -/
def captureBytes : Nat := 1048576

/-- Bytes of the ring of whole records. -/
def Capture.ringBytes (c : Capture) : Nat := c.records * c.recordBytes

/-- A slot of an output record carries a source under hardware mute (R50, R244). -/
def Hub.slotPrivate (h : Hub) (p k : Nat) : Bool :=
  (channelsOf (h.compact p) (h.port p).dout.mask).any (fun e => decide (e.1 = k) && (h.sink (0x40 + 32 * p + e.2)).privacy)

/-- One record: the words of the captured slots by `word`. -/
def Hub.capRecord (h : Hub) (p : Nat) (word : Nat → Int) : Hub :=
  let c := h.cap
  let st := (h.port p).state
  let fading := decide (st = .preamble) || decide (st = .fadeIn) || decide (st = .fadeOut) || decide (st = .flush)
  let mask := (h.dirOf p (decide (c.dir = 1))).mask
  let priv := decide (c.dir = 1) && (slotsOf c.mask).any (h.slotPrivate p)
  let w0 := c.head % 65536 * 65536 + 4 * b2n priv + 2 * b2n c.slipSince + b2n fading
  let bytes := toBytes 4 w0 ++ ((slotsOf c.mask).map (fun k => toBytes 4 (ofInt 32 (if bit mask k then word k else 0)))).flatten
  let mem := Memory.writeRing captureBytes c.mem (c.head % c.records * c.recordBytes) bytes
  let head := (c.head + 1) % 4294967296
  { h with cap :=
    { c with mem := mem, head := head, slipSince := false, state := if c.mode = 0 ∧ c.records ≤ head then 3 else 2
             start := if c.state = 1 then h.frameCount else c.start } }

/-- Captures a frame of a port in one direction while the ring is armed or capturing. -/
def Hub.capFrame (h : Hub) (p : Nat) (out : Bool) (word : Nat → Int) : Hub :=
  if (h.cap.state = 1 ∨ h.cap.state = 2) ∧ h.cap.port = p ∧ h.cap.dir = b2n out then h.capRecord p word else h

/-- R245: arming at a block boundary. -/
def Hub.capArm (h : Hub) : Hub :=
  let p := h.live? 0x4200 1
  let dir := h.live? 0x4200 2
  let mask := h.live? 0x4200 3 &&& (h.dirOf p (decide (dir = 1))).mask
  let bytes := 4 * ((slotsOf mask).length + 1)
  { h with cap :=
    { h.cap with state := 1, port := p, dir := dir, mode := h.live? 0x4200 4, mask := mask, recordBytes := bytes, records := captureBytes / bytes
                 head := 0, slipSince := false, mem := [] } }

/-- R245: a write of 2. -/
def Hub.capStop (h : Hub) : Hub := if h.cap.state = 1 ∨ h.cap.state = 2 then { h with cap := { h.cap with state := 4 } } else h

/-- A byte of the capture ring as it reads in this frame: a word found uncorrectable reads as zero (R28). -/
def Hub.capByte (h : Hub) (a : Nat) (b : Byte) : Byte := if h.sram.zeroed.contains (.capture (a / 4 * 4)) then 0 else b

/-- R245: up to 240 bytes from CAP_READ_POS, which advances by them. -/
def Hub.capData (h : Hub) : List Byte × Hub :=
  let ring := h.cap.ringBytes
  if ring = 0 then ([], h)
  else
    let n := min 240 ring
    let bytes := (Memory.readRing ring h.cap.mem h.cap.readPos n).zipIdx.map (fun e => h.capByte ((h.cap.readPos + e.2) % ring) e.1)
    (bytes, { h with cap := { h.cap with readPos := (h.cap.readPos + n) % ring } })

/-- A CAP_READ_POS a host may write. -/
def Hub.capPosOk (h : Hub) (v : Nat) : Bool := decide (v % 4 = 0) && (decide (v = 0) || decide (v < h.cap.ringBytes))

/-! ## A port frame (R226, R235, R239, R240) -/

/-- Slot of the frame whose word slot `k` takes at a net shift. -/
def shifted (slots : Nat) (k : Nat) (d : Int) : Nat := (((k : Int) + d) % (slots : Int)).toNat

/-- A slip of a whole frame moves the fill by one frame toward the target (R240). -/
def Hub.frameSlip (h : Hub) (p : Nat) (out : Bool) : Hub :=
  let d := h.dirOf p out
  if d.mask = 0 then h
  else if d.full then (h.slip p out true).modDir p out (fun d => { d with fill := d.fill - 65536 })
  else if d.low then (h.slip p out true).modDir p out (fun d => { d with fill := d.fill + 65536 })
  else h

/-- A frame enters a FIFO; its fill moves by the drift of a synchronous slave, while any other port holds it at the target (R229, R239). -/
def Hub.push (h : Hub) (p : Nat) (out : Bool) (frame : List (Nat × Int)) (drift : Int) : Hub :=
  let drifts := (h.port p).synchronous && !h.isMaster p
  let h := h.modDir p out (fun d => { d with frames := pushFrame frame d.frames, fill := if drifts then ((d.fill : Int) + drift).toNat else d.fill })
  if h.portCfg p 0x0A = 1 then h else h.frameSlip p out

/-- The input side of a frame: aligner, capture, FIFO. -/
def Hub.frameIn (h : Hub) (p : Nat) (exact : Bool) (di : List Bool) (drift : Int) : Hub :=
  let m := h.format p
  let d := (h.port p).din
  let chans := channelsOf (h.compact p) d.mask
  let fresh := chans.map (fun e => (e.2, m.word di (shifted m.slots e.1 d.shift)))
  let frame := if exact then fresh else d.frames.headD (chans.map (fun e => (e.2, 0)))
  let h := if exact then h else h.slip p false true
  let h := h.capFrame p false (fun k => match chans.find? (fun e => decide (e.1 = k)) with | some e => wordOf frame e.2 | none => 0)
  let h := h.push p false frame drift
  h.forAll (chans.map (·.2)) (fun h c => h.feed p false c [wordOf (h.port p).din.next c])

/-- The words a port sends in a frame, by slot: converted from the sinks' samples, and narrowed. -/
def Hub.outWords (h : Hub) (p : Nat) (draw : Nat) : List (Nat × Int) :=
  let x := h.port p
  let silent := decide (x.state = .preamble) || decide (x.state = .flush) || x.rateFault
  let width := h.portCfg p 6
  (channelsOf (h.compact p) x.dout.mask).map (fun e =>
    (e.1, if silent then 0 else quantize width (if h.dithered p e.2 then some (Config.dither (32 * draw + e.2) width) else none) (h.portPath p true e.2 h.now)))

/-- The frame on the pins: FS of a master, DO by OUT_IDLE, `n` periods long (R226, R234). Past its last slot a frame carries what a disabled slot does
(log 133). -/
def Hub.drivePins (h : Hub) (p n : Nat) (frame : List (Nat × Int)) : Hub :=
  let m := h.format p
  let d := (h.port p).dout
  let idle := h.portCfg p 0x0C
  let word (j : Nat) : Option Int := let k := shifted m.slots j d.shift; if bit d.mask k then some (wordOf frame k) else none
  let line := m.line idle word
  h.modPort p (fun x =>
    let all := (if m.delay = 1 then [x.pins.tail] else []) ++ line
    let rest := if idle = 1 then none else some false
    { x with pins := { x.pins with fs := if h.isMaster p then m.fsLine else [], dout := (all ++ List.replicate (n - all.length) rest).take n, tail := all.getD n rest } })

/-- The output side: conversion, FIFO, capture of the words as sent, pins. -/
def Hub.frameOut (h : Hub) (p n : Nat) (early : Bool) (drift : Int) : Hub :=
  let x := h.port p
  let (draw, h) := h.draw
  let h := h.forAll (h.useOf p true) (fun h c => h.convert p true c)
  let h := h.push p true (h.outWords p draw) drift
  let sent := (h.port p).dout.next
  let h := h.capFrame p true (fun k => wordOf sent (shifted (h.portCfg p 4) k x.dout.shift))
  (h.when early (fun h => h.slip p true true)).drivePins p n sent

/-- A frame start as an edge to the port's tracker; the fourth discarded period in a row is a loss of the clock (R231, R216). -/
def Hub.portEdge (h : Hub) (p since : Nat) : Hub :=
  let (t, k) := (h.port p).track.edge since
  let h := h.modPort p (fun x => { x with track := t })
  match k with
  | .discarded =>
    if 4 ≤ t.missed + 1 then h.portClockLoss p
    else h.modPort p (fun x => { x with track := { t with missed := t.missed + 1, spoiled := true } })
  | _ => h

/-- The phase detector of a slave port: its fill about the target, moved by a frame at the limits of R240; each FS gives the anchor a sample (R209). -/
def Hub.portDetect (h : Hub) (p : Nat) (drift : Int) : Hub :=
  let f := (h.port p).pins.phase + drift
  let f := if 98304 ≤ f then f - 65536 else if f ≤ -98304 then f + 65536 else f
  let h := h.modPort p (fun x => { x with pins := { x.pins with phase := f } })
  if h.isAnchorPort p && !h.isMaster p then h.detect 2 (f * (192000000 / classRate (h.portCfg p 3) / 1000)) else h

/-- One port frame at the pins, from its frame start on (R226). A master's frame starts in phase with the core where it is synchronous (R229). In
raw mode the periods are counted without FS (R241). In WAIT_CLOCK only exact frames are counted, once a rate is found (R236). -/
def Hub.portFrame (h : Hub) (p : Nat) (f : PortFrame) : Hub :=
  let m := h.format p
  let master := h.isMaster p
  let raw := decide (h.portCfg p 0x0A = 1)
  let pins := (h.port p).pins
  let begun := if pins.coreFrame = h.now then pins.begun else 0
  let all := f.periods.map m.sampled
  let last := m.sampled f.after
  let free := master || (raw && decide ((h.port p).state ≠ .waitClock))
  let frame := if free then all.take m.periods else m.aligned pins.fsBefore all
  let exact := free || m.whole pins.fsBefore frame last.1
  let h := h.modPort p (fun x => { x with pins := { x.pins with fsBefore := ((all.getLast?).map (·.1)).getD x.pins.fsBefore } })
  let edge := !h.padsHeld p && (if master then decide ((h.port p).state ≠ .stopped) else !(m.aligned pins.fsBefore all).isEmpty)
  let h := if edge then h.portEdge p f.sinceNs else h
  if h.padsHeld p || (frame.isEmpty && !master) || ((h.port p).synchronous && master && !m.inPhase h.now begun h.sub) then h
  else
    match (h.port p).state with
    | .stopped => h
    | .waitClock => h.modPort p (fun x => { x with exactFrames := if exact && decide (x.measClass ≠ 0) then x.exactFrames + 1 else 0 })
    | _ =>
      let h := (h.maskApply p).modPort p (fun x =>
        { x with maskFrames := if x.maskPending then x.maskFrames + 1 else 0
                 preambleLeft := if x.state = .preamble then x.preambleLeft - 1 else x.preambleLeft
                 flushLeft := if x.state = .flush then x.flushLeft - 1 else x.flushLeft
                 pins := { x.pins with coreFrame := h.now, begun := begun + 1 } })
      let h := h.portDetect p f.driftIn
      (h.frameIn p exact ((frame ++ [last]).map (·.2)) f.driftIn).frameOut p (if free then m.periods else frame.length)
        (!free && decide (frame.length < m.periods)) f.driftOut

/-! ## Block boundary (R250) -/

/-- E39 for masks applied in the last block; slip flags of the block; E37 after the relocks. -/
def Hub.portReports (h : Hub) (p : Nat) : Hub :=
  let x := h.port p
  let h := h.modPort p (fun x =>
    { x with din := { x.din with slipped := x.din.slippedNow, slippedNow := false }
             dout := { x.dout with slipped := x.dout.slippedNow, slippedNow := false } })
  let h := if x.maskEventDue then
      ((h.modPort p (fun x => { x with maskEventDue := false, cause := x.cause ||| 16 })).cause evMaskApplied) else h
  if x.relocked then
    ((h.modPort p (fun x => { x with relocked := false })).modAsrc (fun a => { a with relockPorts := a.relockPorts ||| 2 ^ p })).cause evRelock
  else h

/-- The order of R250 at one boundary: freed contexts, mask changes, waiting channels, starts; then stops and hand-overs. Claims wait through
a supervisor restart (R250). -/
def Hub.portsBoundary (h : Hub) : Hub :=
  let masks := (List.range 8).filter (fun p => (h.port p).recountDue)
  let h :=
    if h.sup.restarting then h
    else
      let h := h.freeReleased
      let h := (h.forAll masks Hub.recount).serveWaiting
      h.forAll (List.range 8) (fun h p =>
        if (h.port p).startDue then (h.modPort p (fun x => { x with startDue := false })).portStart p else h)
  let h := h.forAll (List.range 8) (fun h p =>
    if (h.port p).stopDue then (h.modPort p (fun x => { x with stopDue := false })).portStop p else h)
  let h := h.forAll (List.range 8) Hub.handoverBoundary
  h.forAll (List.range 8) Hub.portReports

/-- Entry to Watch stops every port; those that ran start again on return (R238). -/
def Hub.portsSuspend (h : Hub) : Hub :=
  h.forAll (List.range 8) (fun h p =>
    let st := (h.port p).state
    if st = .stopped ∨ st = .fadeOut ∨ st = .flush then h else (h.modPort p (fun x => { x with restart := true })).portStop p)
def Hub.portsResume (h : Hub) : Hub :=
  h.forAll (List.range 8) (fun h p => if (h.port p).restart then h.modPort p (fun x => { x with restart := false, startDue := true }) else h)

/-- What drives BCLK and FS of a port. -/
inductive ClockDrive where
  | highImpedance | heldLow | clocking
deriving DecidableEq, Repr

/-- BCLK and FS: inputs of a slave and of a stopped port; a stopped master holds them low for one frame first (R236, R237). -/
def Hub.portClocks (h : Hub) (p : Nat) : ClockDrive :=
  let x := h.port p
  if x.state = .stopped then if h.now < x.pins.lowUntil then .heldLow else .highImpedance
  else if h.isMaster p then .clocking else .highImpedance

/-- STATUS of R246. -/
def Hub.portStatus (h : Hub) (p : Nat) : Nat :=
  let x := h.port p
  let clock := if h.isMaster p then decide (x.state ≠ .stopped) else decide (x.measClass ≠ 0)
  b2n (decide (x.state = .running)) + 2 * b2n x.synchronous + 4 * b2n clock + 8 * b2n (h.isAnchorPort p) + 16 * b2n x.din.slipped +
  32 * b2n x.dout.slipped + 64 * b2n x.alignLost + 128 * b2n x.rateFault + 256 * b2n (h.asrc.waiting.any (fun w => decide (w.1 = p))) +
  512 * b2n x.onAsrc + 1024 * b2n x.maskPending + 2048 * b2n (h.pendingConfig p)

/-! ## The meanings of the rows -/

/-- R236. -/
def execPortClockLock (p : Nat) (s : State) : Out := run (isPort p) (·.portClockLock p) s
/-- R236. -/
def execPortPreambleEnd (p : Nat) (s : State) : Out := run (isPort p) (·.portPreambleEnd p) s
/-- R236. -/
def execPortFadeInEnd (p : Nat) (s : State) : Out := run (isPort p) (·.portFadeInEnd p) s
/-- R237. -/
def execPortFlushEnd (p : Nat) (s : State) : Out := run (isPort p) (·.portFlushEnd p) s
/-- R238. -/
def execPortClockLoss (p : Nat) (s : State) : Out := run (isPort p) (·.portClockLoss p) s
/-- R232. -/
def execPortRateChange (p rate : Nat) (s : State) : Out := run (isPort p) (·.portRateChange p rate) s
/-- R226, R240, R244. -/
def execPortFrame (p : Nat) (f : PortFrame) (s : State) : Out := run (isPort p) (·.portFrame p f) s
/-- R241. -/
def execRawWordSlip (p : Nat) (out dropped : Bool) (s : State) : Out := run (isPort p) (·.rawSlip p out dropped) s
/-- R235. -/
def execMaskApply (p : Nat) (s : State) : Out := run (isPort p) (·.maskApply p) s

end Sys2Proof.Machine
end

