-- ==== Sys2Proof/Machine/Link.lean ====
section
/-! DEFINITION. What the hub sends on its own account: Tether frames and their transmit queues (R306 to R310), NOTIFY frames (R324), the alert
line (R300), and the raising of events at a block boundary with both. -/

namespace Sys2Proof.Machine

def Hub.modTet (h : Hub) (f : Tether → Tether) : Hub := { h with tet := f h.tet }
def Hub.modTwi (h : Hub) (f : Twi → Twi) : Hub := { h with twi := f h.twi }

/-! ## Frames (R310, R313) -/

/-- Bytes between SOF and EOF: header, command header where the type has one, payload, CRC. -/
def frameBytes (dest src host ty seq : Nat) (hdr payload : List Byte) : List Byte :=
  let bs := [BitVec.ofNat 8 dest, BitVec.ofNat 8 src, BitVec.ofNat 8 host, BitVec.ofNat 8 ty, BitVec.ofNat 8 seq, BitVec.ofNat 8 payload.length] ++
    hdr ++ payload
  bs ++ toBytes 4 (crc32c bs)

/-- The command header (R313). -/
def commandHeader (idx sub ty cmd abort : Nat) : List Byte := toBytes 2 idx ++ [BitVec.ofNat 8 sub, BitVec.ofNat 8 ty, BitVec.ofNat 8 cmd, BitVec.ofNat 8 abort]

/-! ## Transmit ports (R308) -/

def TxKind.rank : TxKind → Nat
  | .echoReq => 0 | .echoRsp => 0 | .sync => 0 | .forwarded => 1 | .own => 2

/-- The other port of the hub. -/
def otherPort : TetherPort → TetherPort
  | .up => .down
  | .down => .up

def Hub.linkUp (h : Hub) : TetherPort → Bool
  | .up => h.tet.upLink
  | .down => h.tet.downLink

/-- The transmitters are at work (R306). -/
def Hub.transmits (h : Hub) : Bool := h.tet.on && h.tet.enabled && !h.pwr.stable && decide (6 ≤ h.boot.step)

/-- A frame takes its place: after the one being sent, SYNC before forwarded before own frames. -/
def txInsert : List TxFrame → TxFrame → List TxFrame
  | [], f => [f]
  | g :: r, f =>
    if g.port = f.port ∧ g.started = false ∧ f.kind.rank < g.kind.rank then f :: g :: r else g :: txInsert r f

/-- The wake burst holds the down port at electrical idle (R326). -/
def Hub.bursting (h : Hub) : Bool := match h.deadline .wakeBurst with | some d => decide (h.now < d) | none => false

/-- WAKE_DOWN: 20 ms of electrical idle on the down port (R326). -/
def Hub.wakeDown (h : Hub) : Hub := h.start .wakeBurst (ms 20)

/-- 24 units to a symbol, for SOF, the bytes and EOF. -/
def txLength (bs : List Byte) : Nat := 24 * (bs.length + 2)

/-- A frame joins the queue of its port; on an idle port it starts at once. Without a link it is not sent (R307). -/
def Hub.transmit (h : Hub) (p : TetherPort) (k : TxKind) (bs : List Byte) (abortEnd : Bool := false) : Hub :=
  if h.linkUp p && h.transmits then
    let idle := h.tet.tx.all (fun g => decide (g.port ≠ p)) && !(decide (p = .down) && h.bursting)
    h.modTet (fun t => { t with tx := txInsert t.tx { port := p, kind := k, bytes := bs, abortEnd := abortEnd, left := txLength bs, started := idle } })
  else h

/-- A forwarded frame: dropped and counted where two wait already (R308); nothing where the port has no link (R307). -/
def Hub.forward (h : Hub) (p : TetherPort) (k : TxKind) (bs : List Byte) (abortEnd : Bool) : Hub :=
  if h.linkUp p && h.transmits then
    let waiting := h.tet.tx.filter (fun g => decide (g.port = p) && !g.started && decide (g.kind ≠ .own))
    if 2 ≤ waiting.length then h.modTet (fun t => { t with fwdDrops := satInc 4294967295 t.fwdDrops }) else h.transmit p k bs abortEnd
  else h

/-- An ordered set of two symbols goes out ahead of everything else on its port (R318). -/
def Hub.transmitEcho (h : Hub) (p : TetherPort) (k : TxKind) : Hub :=
  if h.linkUp p && h.transmits then h.modTet (fun t => { t with tx := { port := p, kind := k, bytes := [], left := 48, started := true } :: t.tx }) else h

/-- One core frame of sending: 3,125 units on each port. -/
def txDrain : Nat → Nat → List TxFrame → List TxFrame
  | _, _, [] => []
  | u, d, f :: r =>
    let b := match f.port with | .up => u | .down => d
    let u' := match f.port with | .up => u - f.left | .down => u
    let d' := match f.port with | .up => d | .down => d - f.left
    if f.left ≤ b then txDrain u' d' r
    else { f with left := f.left - b, started := f.started || decide (0 < b) } :: txDrain u' d' r

def Hub.txFrame (h : Hub) : Hub := if h.tet.tx.isEmpty then h else h.modTet (fun t => { t with tx := txDrain 3125 (if h.bursting then 0 else 3125) t.tx })

/-! ## NOTIFY (R309, R324) and link state (R306) -/

/-- The port the hub's own NOTIFY frames leave on. -/
def Hub.notifyPort (h : Hub) : TetherPort := if h.tet.upLink then .up else .down

/-- A NOTIFY frame; an unassigned hub sends none. Its SEQ is 0 (log 33). -/
def Hub.notify (h : Hub) (host : Nat) (payload : List Byte) : Hub :=
  if h.tet.address = 0xFF then h else h.transmit h.notifyPort .own (frameBytes 0 h.tet.address host 4 0 [] payload)

/-- LINK_STATUS (R327). -/
def Hub.linkStatus (h : Hub) : Nat :=
  b2n h.tet.upLink + 2 * b2n h.tet.downLink + 4 * b2n h.tet.provisional.isSome + 8 * b2n h.tet.ring + 16 * b2n h.tet.ringBroken +
  32 * b2n h.tet.timeLocked

/-- The pending bits of a host, laid out as R297. -/
def Hub.pendingBytes (h : Hub) (k : Nat) : List Byte := toBytes 16 (h.pending k).toNat

/-- An events NOTIFY for host `k`; the repeat starts (R324). -/
def Hub.notifyEvents (h : Hub) (k : Nat) : Hub :=
  let h := h.notify k (0 :: h.pendingBytes k)
  let r := h.live? 0xD000 0x0B
  if r = 0 then h.cancel (.notifyRepeat k) else h.start (.notifyRepeat k) (us r)

/-- A receiver reports its link up or down: E100 or E101 and the link NOTIFY; frames in flight on a lost link are lost (R306, R325). -/
def Hub.linkChange (h : Hub) (p : TetherPort) (up : Bool) : Hub :=
  if h.linkUp p = up then h
  else
    let h := h.modTet (fun t => match p with | .up => { t with upLink := up } | .down => { t with downLink := up })
    let h := if up then h else h.modTet (fun t => { t with tx := t.tx.filter (fun f => decide (f.port ≠ p)) })
    let h := h.cause (match p with | .up => evTetherUp | .down => evTetherDown)
    h.notify 0 [1, BitVec.ofNat 8 h.linkStatus]

/-- PD_TETHER switched: off, both transmitters hold electrical idle and the links drop (R326, R364). -/
def Hub.tetherPower (h : Hub) (on : Bool) : Hub :=
  if on then h.modTet (fun t => { t with on := true })
  else ((h.linkChange .up false).linkChange .down false).modTet (fun t => { t with on := false, tx := [] })

/-! ## The alert line (R300) -/

/-- Some host number whose session includes the two-wire port has an unmasked pending event. -/
def Hub.twoWireAlerting (h : Hub) : Bool := (List.range 8).any (fun k => (h.host k).claimed && (h.host k).onTwoWire && h.alerting k)

/-- ALERT_N follows the pending bits: released at once where none is left, asserted from rest where one is. -/
def Hub.alertSettle (h : Hub) : Hub :=
  if h.twoWireAlerting then h.modTwi (fun t => { t with alertState := if t.alertState = 0 then 1 else t.alertState })
  else (h.modTwi (fun t => { t with alertState := 0 })).cancel .alertRepeat

/-- A new pending bit of a two-wire host asserts ALERT_N again after a win. -/
def Hub.alertAssert (h : Hub) : Hub := (h.modTwi (fun t => { t with alertState := 1 })).cancel .alertRepeat

/-! ## Raising at a block boundary (R328, R300, R324) -/

/-- Host `k` has a pending bit it had not in `old`. -/
def Hub.newlyPending (h old : Hub) (k : Nat) : Bool := decide (h.pending k &&& ~~~ (old.pending k) ≠ 0)

def Hub.raiseBoundary (h : Hub) : Hub :=
  let h1 := h.raiseDue
  let new := (List.range 8).filter (fun k => h1.newlyPending h k && (h1.host k).claimed)
  let h2 := h1.alertSettle
  let h3 := if new.any (fun k => (h1.host k).onTwoWire) then h2.alertAssert else h2
  h3.forAll (new.filter (fun k => (h1.host k).onTether)) Hub.notifyEvents

/-! ## RESP frames (R309, R313) -/

def portFrom (fromDown : Bool) : TetherPort := if fromDown then .down else .up

/-- Type code of a read's reply. -/
def typeOf (idx sub : Nat) : Nat :=
  match describe idx sub with
  | some (.vendor, r) => if sub = 0 then r.ty.number else Config.vendorType sub
  | some (_, r) => r.ty.number
  | none => 0

/-- The bytes of a RESP: TYPE_CODE is that of the object named. -/
def Hub.respBytes (h : Hub) (host seq cmd idx sub abort : Nat) (data : List Byte) : List Byte :=
  frameBytes 0 h.tet.address host 3 seq (commandHeader idx sub (typeOf idx sub) cmd abort) data

/-- A RESP leaves on the port its request came in on; an unassigned hub sends none (R317). -/
def Hub.sendResp (h : Hub) (fromDown : Bool) (bs : List Byte) : Hub := if h.tet.address = 0xFF then h else h.transmit (portFrom fromDown) .own bs

/-! ## The meaning of SESSION_TIMER_EXPIRY -/

/-- R166; a session that ends takes its host number off the alert line (R300). -/
def execSessionTimerExpiry (k : Nat) (s : State) : Out := run (isHost k) (fun h => (h.sessionExpiry k).alertSettle) s

end Sys2Proof.Machine
end

