-- ==== Sys2Proof/Machine/Privacy.lean ====
section
/-! DEFINITION. The hardware mute (R47 to R52): the path no firmware can override, its release, and the lamps. -/

namespace Sys2Proof.Machine

/-- Sources of mute group `k` (R48). -/
def Hub.members (h : Hub) (k : Nat) : List Nat := (upTo 1 52).filter (h.member k)

/-- Front end cut, streams at zero with the privacy flag (R48); one that has no power stays UNPOWERED (log 116); a match of the input's relief is abandoned (R50). -/
def Hub.hwMute (h : Hub) (src : Nat) : Hub :=
  let h := (h.zeroStream src).modStream src (fun x => { x with privacy := true })
  let h := h.cancel (.fullLevel src)
  let h := if h.fe src = .unpowered then h else h.setFe src .hwMuted
  if src ≤ 48 ∧ (h.input src).slice.state = .matching then h.abandonMatch (unitOf (.input src)) else h

/-- R48: HMUTEk falls. -/
def Hub.hmuteAssert (h : Hub) (k : Nat) : Hub :=
  if h.hmuteLow k then h
  else
    let h := { h.cancel (.hmute k) with ext := { h.ext with hmutePins := setBit h.ext.hmutePins k true } }
    (h.forAll (h.members k) Hub.hwMute).cause (evHmute k)

/-- R49 step 2: the front end of a source that no group holds any longer is powered again. -/
def Hub.hwUnmute (h : Hub) (src : Nat) : Hub :=
  if h.hwMuted src ∨ h.fe src ≠ .hwMuted then h
  else
    let h := (h.frontHeld src).setFe src .settling
    if src ≤ 48 then h.modTandem src (·.restart h.boot.full) else h

/-- R49: HMUTEk rises. -/
def Hub.hmuteRelease (h : Hub) (k : Nat) : Hub :=
  if h.hmuteLow k then
    let h := { h with ext := { h.ext with hmutePins := setBit h.ext.hmutePins k false } }
    ((h.forAll (h.members k) Hub.hwUnmute).start (.hmute k) (ms 20)).cause (evHmute k)
  else h

/-- R49 step 3: the privacy flag clears and the 10 ms fade-in starts, for sources no other group holds. -/
def Hub.hmuteSettled (h : Hub) (k : Nat) : Hub :=
  h.whenDue (.hmute k) (fun h =>
    h.forAll (h.members k) (fun h src =>
      if h.heldByOther k src || h.hwMuted src then h
      else
        let h := h.modStream src (fun x => { x with privacy := false })
        if h.fe src = .settling ∧ h.armed (.settle src) = false ∧ h.inputsMuted = false ∧ h.sourceWanted src = true then
          (h.fadeInStream src).start (.fullLevel src) (ms 10)
        else h))

/-- R49 step 4: full level. -/
def Hub.fullLevels (h : Hub) : Hub :=
  h.forAll (upTo 1 52) (fun h src => h.whenDue (.fullLevel src) (fun h => if h.fe src = .settling then h.setFe src (h.atWork src) else h))

/-- LAMPk sinks (R51, R456): for a mute, from its assertion to 20 ms after release; for LAMP_TEST; and while the assignment is unknown. -/
def Hub.lamp (h : Hub) (k : Nat) : Bool :=
  (h.hmuteLow k && decide (1 ≤ h.boot.step) && decide (h.boot.step < 3)) ||
  (decide (3 ≤ h.boot.step) && !(h.members k).isEmpty && (h.hmuteLow k || h.armed (.hmute k))) || bit h.twi.lampTest k

/-- R48. -/
def execHmuteAssert (k : Nat) (s : State) : Out := run (isMuteGroup k) (·.hmuteAssert k) s
/-- R49. -/
def execHmuteRelease (k : Nat) (s : State) : Out := run (isMuteGroup k) (·.hmuteRelease k) s
/-- R49. -/
def execHmuteSettled (k : Nat) (s : State) : Out := run (isMuteGroup k) (·.hmuteSettled k) s

end Sys2Proof.Machine
end

