-- ==== Sys2Proof/Machine/Headphones.lean ====
section
/-! DEFINITION. Headphones and jacks (R109 to R111, R116 to R129): power-up, mutes, jack gate, classification and buttons. -/

namespace Sys2Proof.Machine

def Hub.hpMuteTime (h : Hub) (j : Nat) : Nat := us (h.live? (hpIdx j) 4)
def Hub.hpRampTime (h : Hub) (j : Nat) : Nat := us (h.live? (hpIdx j) 3)
def Hub.jackSetting (h : Hub) (j sub : Nat) : Nat := h.live? (hpIdx j + 1) sub
def Hub.hpCause (h : Hub) (j k : Nat) : Hub := h.modHeadphone j (fun x => { x with cause := x.cause ||| 2 ^ k })

/-- STATE of R128. Where several conditions hold, PROTECT prevails, then FAST_MUTED, POWERING, PANIC and GATED (log 27). -/
def Hub.hpState (h : Hub) (j : Nat) : Nat :=
  let x := h.headphone j
  if !x.powered then 0
  else if x.protect then 6
  else if x.fast then 4
  else if decide (h.spk.powerup < 5) then 1
  else if h.twi.panic then 5
  else if decide (x.gate.m1 = 0) then 3
  else 2

/-! ## Jack gate (R123) -/

/-- Whether the gate is to be open: with JACK_GATE 0 only CLASSIFYING and FAULT gate the headphone; with 1 a jack that shows removal as well. -/
def Hub.gateOpen (h : Hub) (j : Nat) : Bool :=
  let x := (h.headphone j).jack
  if x.accessory = 1 ∨ x.accessory = 6 then false
  else if x.accessory = 0 ∨ x.removing = true then decide (h.jackSetting j 3 = 0) else true

/-- Moves the gate where it belongs: closing takes 1 ms, opening MUTE_TIME (R116). -/
def Hub.setGate (h : Hub) (j : Nat) : Hub :=
  let t := h.hpMuteTime j
  if h.gateOpen j then h.modHeadphone j (fun x => { x with gate := x.gate.to unity h.now t })
  else h.modHeadphone j (fun x => { x with gate := x.gate.to 0 h.now (ms 1) })

/-! ## Accessories (R121, R124) -/

def isHeadset (a : Nat) : Bool := decide (a = 3) || decide (a = 4)

/-- A microphone reading of the test of R124. -/
def micReads (mv : Nat) : Bool := decide (800 ≤ mv) && decide (mv ≤ 1900)

/-- A load below `n` ohms; above 10 kΩ. -/
def below (r : Option Nat) (n : Nat) : Bool := match r with | some x => decide (x < n) | none => false
def above10k (r : Option Nat) : Bool := match r with | some x => decide (10000 < x) | none => true

/-- The class of an accessory: the first rule of R124 that matches. With ACCESSORY_MODE 0 the sleeve is not wired to the hub, so that the
rules on ring 2 and sleeve do not apply (log 29). -/
def classify (mode : Nat) (m : JackMeasure) : Nat :=
  let sleeve := micReads m.sleeveMv
  let ring2 := micReads m.ring2Mv
  if mode = 0 then
    if below m.tip 2 || below m.ring 2 then 6 else if above10k m.tip && above10k m.ring then 5 else 2
  else if below m.tip 2 || below m.ring 2 || (decide (m.ring2ToSleeve < 2) && (sleeve || ring2)) then 6
  else if above10k m.tip && above10k m.ring then 5
  else if m.ring2ToSleeve < 10 then 2
  else if sleeve && !ring2 then 3
  else if ring2 && !sleeve then 4
  else 6

/-- A load as TIP_LOAD reports it (R129). -/
def loadWord (r : Option Nat) : Nat := match r with | some x => if x ≤ 100000 then x else 0xFFFFFFFF | none => 0xFFFFFFFF

/-- The HM stream follows the microphone contact: connected in a headset class, or always with ACCESSORY_MODE 0 (R121). -/
def Hub.connectMic (h : Hub) (j : Nat) : Hub :=
  let c := decide (h.jackSetting j 2 = 0) || isHeadset (h.headphone j).jack.accessory
  h.modHeadMic j (fun x => { x with connected := c })

/-- What the hub's own writes of BIAS_ENABLE make of the bias: a fault stays until a host writes (R45). -/
def BiasState.byHub (b : BiasState) (v : Bool) : BiasState := if b = .fault then .fault else if v then .on else .off

/-- The bias returns to its stored value (R124). -/
def Hub.unbias (h : Hub) (j : Nat) : Hub :=
  if (h.headMic j).autoBias then
    let v := decide (h.accepted (hmIdx j) 1 = 1)
    h.modHeadMic j (fun x => { x with autoBias := false, biasEnable := v, bias := x.bias.byHub v })
  else h

/-- The microphone contact is released: no button's mute, no settling bias (R121, R125). -/
def Hub.releaseMic (h : Hub) (j : Nat) : Hub :=
  let h := (h.connectMic j).modHeadMic j (fun x => { x with key := Fade.steady unity })
  (h.cancel (.hmBias j)).cancel (.longPress j)

/-- The mute switches that R111 closed open again over 1 ms; a holding fast-mute keeps them closed (R127). -/
def Hub.unprotect (h : Hub) (j : Nat) : Hub :=
  h.modHeadphone j (fun x => { x with protect := false, openAt := if x.protect && !x.fast then some (h.now + ms 1) else x.openAt })

/-- A classification begins: CLASSIFYING, gated, 40 ms (R122). -/
def Hub.startClassify (h : Hub) (j : Nat) : Hub :=
  let h := h.modJack j (fun x => { x with before := x.accessory, accessory := 1, classifying := true, buttons := 0, micSwapped := false })
  ((h.releaseMic j).setGate j).start (.classify j) (ms 40)

/-- The jack pin reads as inserted in the mode in force (R122). -/
def Hub.rawInserted (h : Hub) (j : Nat) (high : Bool) : Bool :=
  match h.jackSetting j 1 with
  | 0 => true
  | 1 => !high
  | _ => high

/-- Jack sensing runs (R117, R118). -/
def Hub.jackSensing (h : Hub) : Bool := decide (3 ≤ h.spk.powerup)

/-- Debounce starts from the raw state (R122, R123, R127). -/
def Hub.jackSense (h : Hub) (j : Nat) : Hub :=
  let x := (h.headphone j).jack
  if h.jackSensing = false ∨ h.jackSetting j 1 = 0 then h
  else if h.rawInserted j x.pin then
    if x.removing then
      ((h.modJack j (fun x => { x with removing := false })).cancel (.jackRemove j)).setGate j
    else if x.inserted || h.armed (.jdDebounce j) then h
    else h.start (.jdDebounce j) (ms 50)
  else
    let h := h.cancel (.jdDebounce j)
    if x.inserted && !x.removing then
      let h := (h.modJack j (fun x => { x with removing := true })).start (.jackRemove j) (ms 5)
      if h.jackSetting j 3 = 1 then h.modHeadphone j (fun x => { x with gate := x.gate.to 0 h.now (ms 1) }) else h
    else h

/-- R122, R123: a raw edge of JDj. -/
def Hub.jdEdge (h : Hub) (j : Nat) (level : Bool) : Hub :=
  if (h.headphone j).jack.pin = level then h
  else
    let h := h.modJack j (fun x => { x with pin := level })
    let h := if (h.headphone j).jack.inserted then h else h.cancel (.jdDebounce j)
    h.jackSense j

/-- R122: an insertion stable for 50 ms. -/
def Hub.jackInsertAccept (h : Hub) (j : Nat) : Hub :=
  h.whenDue (.jdDebounce j) (fun h =>
    (((h.modJack j (fun x => { x with inserted := true })).hpCause j 3).startClassify j).cause (evJack j))

/-- R123, R127: a removal stable for 5 ms. -/
def Hub.jackRemoveAccept (h : Hub) (j : Nat) : Hub :=
  h.whenDue (.jackRemove j) (fun h =>
    let h := h.modJack j (fun x =>
      { x with inserted := false, removing := false, classifying := false, accessory := 0, buttons := 0, micSwapped := false
               tip := 0xFFFFFFFF, ring := 0xFFFFFFFF })
    let h := (((h.unprotect j).cancel (.classify j)).unbias j).releaseMic j
    ((h.setGate j).hpCause j 4).cause (evJack j))

/-- R124: the classification ends. -/
def Hub.classifyComplete (h : Hub) (j : Nat) (m : JackMeasure) : Hub :=
  h.whenDue (.classify j) (fun h =>
    let a := classify (h.jackSetting j 2) m
    let h := if a = (h.headphone j).jack.before then h else h.unbias j
    let h := h.modJack j (fun x =>
      { x with accessory := a, classifying := false, tip := loadWord m.tip, ring := loadWord m.ring, micSwapped := decide (a = 4) })
    let h := (h.connectMic j).hpCause j 5
    let h := if a = 6 then h else h.unprotect j
    let h := (h.setGate j).cause (evJack j)
    if isHeadset a && decide (h.jackSetting j 4 = 1) then
      (h.modHeadMic j (fun x => { x with autoBias := true, biasEnable := true, bias := x.bias.byHub true, key := Fade.steady 0 })).start (.hmBias j) (ms 20)
    else h)

/-- A button holds the microphone mute (R125). -/
def Hub.buttonMutes (h : Hub) (m : Nat) : Bool := decide ((h.headphone m).jack.buttons ≠ 0) && decide (h.jackSetting m 6 = 1)

/-- R124: 20 ms after the auto-bias the HM stream fades in over 10 ms, unless a button holds its mute (R125). -/
def Hub.hmBiasSettled (h : Hub) (m : Nat) : Hub :=
  h.whenDue (.hmBias m) (fun h => if h.buttonMutes m then h else h.modHeadMic m (fun x => { x with key := x.key.to unity h.now (ms 10) }))

/-- RECLASSIFY (R122): ignored during a classification (R127), and with no jack to classify, with JD_MODE 0 too (log 29). -/
def Hub.reclassify (h : Hub) (j : Nat) : Hub :=
  let x := (h.headphone j).jack
  if x.classifying || !x.inserted || decide (h.jackSetting j 1 = 0) || !h.jackSensing then h else h.startClassify j

/-- R111: a channel at its current limit for 200 ms. -/
def Hub.hpOvercurrent (h : Hub) (j : Nat) : Hub :=
  if (h.headphone j).powered then
    let h := (h.modHeadphone j (fun x => { x with openAt := none, protect := true })).hpCause j 1
    if (h.headphone j).jack.classifying then h else h.startClassify j
  else h

/-- A changed JD_MODE takes effect: the jack state is debounced again from this boundary (R127): a jack that shows inserted by the new mode is
accepted anew after 50 ms, one that shows removed is removed after 5 ms (log 108). With mode 0 a jack is always inserted and reports HEADPHONE
(R122). -/
def Hub.jdModeApply (h : Hub) (j v : Nat) : Hub :=
  let h := (((h.cancel (.jdDebounce j)).cancel (.jackRemove j)).cancel (.classify j)).modJack j (fun x => { x with removing := false, classifying := false })
  if v = 0 then
    let h := h.unprotect j
    if h.spk.powerup < 5 then h
    else (((h.modJack j (fun x => { x with inserted := true, accessory := 2, buttons := 0, micSwapped := false })).unbias j).releaseMic j).setGate j
  else
    let again := h.rawInserted j (h.headphone j).jack.pin
    let h := h.modJack j (fun x =>
      if again then { x with inserted := false, accessory := 0, buttons := 0, micSwapped := false }
      else { x with accessory := if x.accessory = 1 then 0 else x.accessory })
    let h := if again then ((h.unbias j).releaseMic j).setGate j else if (h.headphone j).jack.inserted then h else (h.unprotect j).setGate j
    h.jackSense j

/-- ACCESSORY_MODE takes effect (R121, log 29): with 0 ring 2 is the ground, HMj is an input of its own, and a headset shows as HEADPHONE. -/
def Hub.accessoryModeApply (h : Hub) (j v : Nat) : Hub :=
  if v = 0 ∧ isHeadset (h.headphone j).jack.accessory = true then
    ((h.modJack j (fun x => { x with accessory := 2, micSwapped := false, buttons := 0 })).unbias j).releaseMic j
  else h.connectMic j

/-! ## Buttons (R125) -/

/-- The button of a resistance, 0 to 3 for A to D. -/
def buttonOf (ohms : Nat) : Option Nat :=
  if ohms ≤ 70 then some 0 else if 110 ≤ ohms ∧ ohms ≤ 180 then some 1 else if 210 ≤ ohms ∧ ohms ≤ 330 then some 2
  else if 360 ≤ ohms ∧ ohms ≤ 680 then some 3 else none

/-- A press held 20 ms within one window. -/
def Hub.buttonPress (h : Hub) (j ohms : Nat) : Hub :=
  let x := (h.headphone j).jack
  match buttonOf ohms with
  | none => h
  | some k =>
    if isHeadset x.accessory && decide ((h.headMic j).bias = .on) && decide (x.buttons = 0) then
      let h := h.modJack j (fun x => { x with buttons := 2 ^ k, buttonCause := x.buttonCause ||| 2 ^ k })
      let h := (h.start (.longPress j) (us (h.jackSetting j 5))).cause (evButton j)
      if h.jackSetting j 6 = 1 then h.modHeadMic j (fun m => { m with key := m.key.to 0 h.now (ms 2) }) else h
    else h

/-- A press that has lasted LONG_PRESS from its acceptance. -/
def Hub.buttonLongPress (h : Hub) (j : Nat) : Hub :=
  h.whenDue (.longPress j) (fun h =>
    let b := (h.headphone j).jack.buttons &&& 15
    (h.modJack j (fun x => { x with buttons := x.buttons ||| 16 * b, buttonCause := x.buttonCause ||| 16 * b })).cause (evButton j))

/-- A release above 1,000 Ω for 20 ms. -/
def Hub.buttonRelease (h : Hub) (j : Nat) : Hub :=
  if (h.headphone j).jack.buttons = 0 then h
  else
    let h := ((h.modJack j (fun x => { x with buttons := 0 })).cancel (.longPress j)).cause (evButton j)
    if (h.headMic j).key.m1 = 0 ∧ h.armed (.hmBias j) = false then
      h.modHeadMic j (fun m => { m with key := m.key.to unity h.now (ms 10) }) else h

/-! ## Mutes (R116) -/

/-- Mute switches close within 10 µs. -/
def Hub.hpFastMute (h : Hub) (j : Nat) : Hub :=
  if (h.headphone j).powered then h.modHeadphone j (fun x => { x with fast := true, openAt := none, closeAt := none, fade := Fade.steady 0 }) else h

/-- Recovery: switches open over 1 ms, then the fade-in over MUTE_TIME. -/
def Hub.hpFastRelease (h : Hub) (j : Nat) : Hub :=
  if (h.headphone j).fast then
    let t := h.hpMuteTime j
    h.modHeadphone j (fun x =>
      { x with fast := false, openAt := if x.protect then none else some (h.now + ms 1)
               fade := if h.spk.powerup < 5 then x.fade else x.fade.to unity (h.now + ms 1) t })
  else h

/-- PANIC_MUTE at stage 6. -/
def Hub.hpPanic (h : Hub) (j m : Nat) : Hub :=
  let t := h.hpMuteTime j
  h.modHeadphone j (fun x => { x with panicFade := x.panicFade.to m h.now t })

/-! ## Settings -/

def Hub.hpGainApply (h : Hub) (j v : Nat) : Hub :=
  let t := h.hpRampTime j
  h.modHeadphone j (fun x => { x with gain := x.gain.to (gainLevel v) h.now t })
def Hub.hpMuteApply (h : Hub) (j v : Nat) : Hub :=
  let t := h.hpMuteTime j
  h.modHeadphone j (fun x => { x with mute := x.mute.to (if v = 1 then 0 else unity) h.now t })
def Hub.hpShortApply (h : Hub) (j v : Nat) (right : Bool) : Hub :=
  h.modHeadphone j (fun x =>
    if right then
      if v = x.shortR then x
      else { x with shortXR := some (SelFade.start x.shortXR x.shortR (8 * h.now) (usFast 5000)), shortR := v }
    else if v = x.shortL then x
    else { x with shortXL := some (SelFade.start x.shortXL x.shortL (8 * h.now) (usFast 5000)), shortL := v })

/-! ## The meanings of the rows -/

/-- R111. -/
def execHpOvercurrent (j : Nat) (s : State) : Out := run (isHeadphone j) (·.hpOvercurrent j) s
/-- R122, R123. -/
def execJdEdge (j : Nat) (level : Bool) (s : State) : Out := run (isHeadphone j) (·.jdEdge j level) s
/-- R122. -/
def execJackInsertAccept (j : Nat) (s : State) : Out := run (isHeadphone j) (·.jackInsertAccept j) s
/-- R123. -/
def execJackRemoveAccept (j : Nat) (s : State) : Out := run (isHeadphone j) (·.jackRemoveAccept j) s
/-- R124. -/
def execClassifyComplete (j : Nat) (m : JackMeasure) (s : State) : Out := run (isHeadphone j) (·.classifyComplete j m) s
/-- R124. -/
def execHmBiasSettled (m : Nat) (s : State) : Out := run (isHeadMic m) (·.hmBiasSettled m) s
/-- R125. -/
def execButtonPress (j ohms : Nat) (s : State) : Out := run (isHeadphone j) (·.buttonPress j ohms) s
/-- R125. -/
def execButtonLongPress (j : Nat) (s : State) : Out := run (isHeadphone j) (·.buttonLongPress j) s
/-- R125. -/
def execButtonRelease (j : Nat) (s : State) : Out := run (isHeadphone j) (·.buttonRelease j) s

end Sys2Proof.Machine
end

