-- ==== Sys2Proof/Machine/Speaker.lean ====
section
/-! DEFINITION. The speaker (R112 to R119, R130): protections, the ENABLE sequences, and the common power-up of headphones and speaker. -/

namespace Sys2Proof.Machine

def Hub.modSpk (h : Hub) (f : Speaker → Speaker) : Hub := { h with spk := f h.spk }
def Hub.spkMuteTime (h : Hub) : Nat := us (h.live? spkIdx 5)
def Hub.spkRampTime (h : Hub) : Nat := us (h.live? spkIdx 4)
def Hub.spkCause (h : Hub) (k : Nat) : Hub := h.modSpk (fun x => { x with cause := x.cause ||| 2 ^ k })

/-- VSPK within the limits of R115 at a check. -/
def Hub.vspkOk (h : Hub) : Bool := !h.spk.vspkHigh && !h.spk.vspkLow

/-- STATE of R130: fast-mute and panic show over RUNNING. -/
def Hub.spkState (h : Hub) : SpkState :=
  if h.spk.state = .running then if h.spk.fast then .fastMuted else if h.twi.panic then .panic else .running else h.spk.state

def SpkState.code : SpkState → Nat
  | .off => 0 | .powering => 1 | .running => 2 | .fastMuted => 3 | .panic => 4 | .restarting => 5 | .latched => 6 | .thermal => 7 | .vspkOut => 8

/-- The bridge turns off: each leg 10 kΩ to ground; a running sequence ends. -/
def Hub.bridgeOff (h : Hub) (st : SpkState) : Hub :=
  (h.modSpk (fun x => { x with bridgeOn := false, seq := 0, state := st, fade := Fade.steady 0 })).cancel (.spkSequence)

/-- The power-up of the speaker (R117): the protections of R115 checked, then the common mode ramps; `lead` is the time before that ramp. With ENABLE 0 the
bridge stays off. -/
def Hub.spkStart (h : Hub) (lead : Nat) : Hub :=
  if h.spk.enable then
    if h.supply.thermalCrit then h.modSpk (fun x => { x with state := .thermal })
    else if h.vspkOk then (h.modSpk (fun x => { x with state := .powering, seq := 2, fade := Fade.steady 0 })).start .spkSequence (lead + ms 50)
    else h.modSpk (fun x => { x with state := .vspkOut })
  else h.modSpk (fun x => { x with state := .off })

/-- R119: a sequence ends: PWM starts and the signal fades in over MUTE_TIME, or the bridge is off; so is it after the fade-out of R115. -/
def Hub.spkSequenceEnd (h : Hub) : Hub :=
  h.whenDue .spkSequence (fun h =>
    let t := h.spkMuteTime
    match h.spk.seq with
    | 1 => h.modSpk (fun x => { x with seq := 0, bridgeOn := false, state := .off })
    | 3 => h.bridgeOff .thermal
    | 2 => h.modSpk (fun x => { x with seq := 0, bridgeOn := true, state := .running, fade := if x.fast then x.fade else x.fade.to unity h.now t })
    | _ => h)

/-- The turn-off sequence of R119 and R118: fade-out over MUTE_TIME, then 50 ms of common-mode ramp. One that runs goes on, and in a turn-on ramp
the common mode returns over 50 ms. -/
def Hub.spkTurnOff (h : Hub) : Hub :=
  let t := h.spkMuteTime
  match h.spk.seq with
  | 1 | 3 => h
  | 2 => (h.modSpk (fun x => { x with seq := 1, fade := Fade.steady 0 })).start .spkSequence (ms 50)
  | _ =>
    if h.spk.bridgeOn then
      (h.modSpk (fun x => { x with seq := 1, fade := x.fade.to 0 h.now t })).start .spkSequence (t + ms 50)
    else h.bridgeOff .off

/-- Protections in which ENABLE is held (R119). -/
def SpkState.protecting : SpkState → Bool
  | .latched | .thermal | .vspkOut | .restarting => true
  | _ => false

/-- ENABLE takes effect at its block boundary (R119); a later write prevails over a held one that would start there. -/
def Hub.spkEnableApply (h : Hub) (v : Bool) : Hub :=
  if h.spk.powerup < 2 || h.spk.state.protecting then h.modSpk (fun x => { x with enable := v, heldEnable := none })
  else if h.spk.seq ≠ 0 then h.modSpk (fun x => { x with heldEnable := some v })
  else
    let h := h.modSpk (fun x => { x with heldEnable := none })
    if v = h.spk.enable then h
    else if v then (h.modSpk (fun x => { x with enable := true })).spkStart 0
    else (h.modSpk (fun x => { x with enable := false })).spkTurnOff

/-- The speaker's part of a block boundary: a held ENABLE starts once the sequence has ended (R119). -/
def Hub.spkBoundary (h : Hub) : Hub :=
  match h.spk.heldEnable with
  | some v => if h.spk.seq = 0 then (h.modSpk (fun x => { x with heldEnable := none })).spkEnableApply v else h
  | none => h

/-- R115: over-current on any leg: bridge off; restart after 500 ms, or LATCHED after 4 restarts within 10 s. -/
def Hub.spkOvercurrent (h : Hub) : Hub :=
  if h.spk.bridgeOn || decide (h.spk.seq = 2) then
    let recent := h.spk.restarts.filter (fun t => decide (h.now < t + secs 10))
    let h := ((h.modSpk (fun x => { x with restarts := recent })).spkCause 0).cause evSpkFault
    if 4 ≤ recent.length then h.bridgeOff .latched
    else (h.bridgeOff .restarting).start .spkRestart (ms 500)
  else h

/-- R115: the automatic restart, through step 2 of R117. -/
def Hub.spkRestart (h : Hub) : Hub :=
  h.whenDue .spkRestart (fun h =>
    if h.spk.state = .restarting then (h.modSpk (fun x => { x with restarts := x.restarts ++ [h.now] })).spkStart (ms 2) else h)

/-- R115: DC for 200 ms: LATCHED. -/
def Hub.spkDcFault (h : Hub) : Hub :=
  if h.spk.bridgeOn then (((h.bridgeOff .latched).cancel .spkRestart).spkCause 1).cause evSpkFault else h

/-- R115: VSPK below 7.0 V zeroes the output, above 17.5 V turns the bridge off. -/
def Hub.vspkOutOfRange (h : Hub) (high : Bool) : Hub :=
  let begun := if high then h.spk.vspkHigh else h.spk.vspkLow
  let h := h.modSpk (fun x => if high then { x with vspkHigh := true } else { x with vspkLow := true })
  let h := if begun then h else (h.spkCause 3).cause evSpkFault
  match h.spk.state with
  | .latched | .thermal => if high then h.modSpk (fun x => { x with bridgeOn := false }) else h
  | .off => h
  | _ =>
    if high then (h.bridgeOff .vspkOut).cancel .spkRestart
    else if h.spk.bridgeOn then h.modSpk (fun x => { x with state := .vspkOut, fade := Fade.steady 0 })
    else (h.bridgeOff .vspkOut).cancel .spkRestart

/-- R115: VSPK back in range for 100 ms: fade in with the bridge on, else the power-up steps. -/
def Hub.vspkRecover (h : Hub) : Hub :=
  let h := h.modSpk (fun x => { x with vspkHigh := false, vspkLow := false })
  if h.spk.state = .vspkOut then
    if h.spk.bridgeOn then
      if h.spk.enable then
        let t := h.spkMuteTime
        h.modSpk (fun x => { x with state := .running, fade := if x.fast then x.fade else x.fade.to unity h.now t })
      else (h.modSpk (fun x => { x with state := .running })).spkTurnOff
    else h.spkStart (ms 2)
  else h

/-- R115: FAULT_CLEAR leaves LATCHED, resets the restart count and starts R117 at step 2. -/
def Hub.faultClear (h : Hub) : Hub :=
  if h.spk.state = .latched then (h.modSpk (fun x => { x with restarts := [] })).spkStart (ms 2) else h

/-- R115, R438: a junction at 130 °C: fade out over 1 ms, bridge off. -/
def Hub.spkThermal (h : Hub) : Hub :=
  let h := (h.spkCause 2).cause evSpkFault
  if h.spk.state = .off ∨ h.spk.state = .latched then h
  else if h.spk.bridgeOn then
    ((h.cancel .spkRestart).modSpk (fun x => { x with state := .thermal, seq := 3, fade := x.fade.to 0 h.now (ms 1) })).start .spkSequence (ms 1)
  else (h.bridgeOff .thermal).cancel .spkRestart

/-- R115: below 120 °C the speaker restarts through R117. -/
def Hub.spkCool (h : Hub) : Hub := if h.spk.state = .thermal then (h.bridgeOff .thermal).spkStart (ms 2) else h

/-- R116: zero differential output; recovery fades in over MUTE_TIME. -/
def Hub.spkFastMute (h : Hub) : Hub := h.modSpk (fun x => { x with fast := true, fade := Fade.steady 0 })
def Hub.spkFastRelease (h : Hub) : Hub :=
  if h.spk.fast then
    let t := h.spkMuteTime
    h.modSpk (fun x => { x with fast := false, fade := if x.state = .running ∧ x.seq = 0 then x.fade.to unity h.now t else x.fade })
  else h

def Hub.spkPanic (h : Hub) (m : Nat) : Hub :=
  let t := h.spkMuteTime
  h.modSpk (fun x => { x with panicFade := x.panicFade.to m h.now t })

/-- Settings of R130. -/
def Hub.spkGainApply (h : Hub) (v : Nat) (right : Bool) : Hub :=
  let t := h.spkRampTime
  h.modSpk (fun x =>
    if right then { x with gainR := x.gainR.to (gainLevel v) h.now t } else { x with gainL := x.gainL.to (gainLevel v) h.now t })
def Hub.spkMuteApply (h : Hub) (v : Nat) : Hub :=
  let t := h.spkMuteTime
  h.modSpk (fun x => { x with mute := x.mute.to (if v = 1 then 0 else unity) h.now t })
def Hub.spreadApply (h : Hub) (v : Nat) : Hub := h.modSpk (fun x => { x with spread := decide (v = 1) })

/-! ## Power-up and power-down of PD_HPS (R117, R118) -/

/-- Step 2 of R117: the charge pump starts; with ENABLE 1 the speaker's checks, and its common mode ramps from 2 ms later. -/
def Hub.hpsPower (h : Hub) : Hub :=
  let h := h.forAll (upTo 1 4) (fun h j => h.modHeadphone j (fun x => { x with powered := true, openAt := none, closeAt := none, fast := h.supply.fastMute || h.supply.avddFault, fade := Fade.steady 0 }))
  ((h.modSpk (fun x => { x with powerup := 2, enable := decide (h.live? spkIdx 6 = 1), fast := h.supply.fastMute })).start .hpPowerup (ms 2)).spkStart (ms 2)

/-- Step 4 of R117 for one headphone: JD_MODE 0 reports HEADPHONE, and the fade-in begins. -/
def Hub.hpStep4 (h : Hub) (j : Nat) : Hub :=
  let t := h.hpMuteTime j
  let h := if h.jackSetting j 1 = 0 then ((h.modJack j (fun x => { x with inserted := true, accessory := 2 })).connectMic j).setGate j
           else (h.connectMic j).setGate j
  h.modHeadphone j (fun x => { x with fade := if x.fast then x.fade else x.fade.to unity h.now t })

/-- R117: a power-up step of headphones and speaker falls due. -/
def Hub.hpPowerupStep (h : Hub) : Hub :=
  match h.spk.powerup with
  | 2 =>
    h.whenDue .hpPowerup (fun h =>
      let h := h.forAll (upTo 1 4) (fun h j =>
        (h.modHeadphone j (fun x => { x with openAt := if x.fast then none else some (h.now + ms 20) })))
      let h := (h.modSpk (fun x => { x with powerup := 3 })).start .hpPowerup (ms 20)
      h.forAll (upTo 1 4) Hub.jackSense)
  | 3 => h.whenDue .hpPowerup (fun h => (h.modSpk (fun x => { x with powerup := 4 })).start .hpPowerup (ms 3))
  | 4 =>
    if 1 ≤ h.boot.service then
      h.whenDue .hpPowerup (fun h =>
        ((h.modSpk (fun x => { x with powerup := 5 })).forAll (upTo 1 4) Hub.hpStep4).start .hpPowerup (ms 27))
    else h
  | 5 => h.whenDue .hpPowerup (fun h => h.spkSequenceEnd.modSpk (fun x => { x with powerup := 6 }))
  | _ => h

/-- R118: the domain goes off; headphones fade out, the speaker runs its turn-off; jack sensing stops. The slowest part decides when the
domain is off. -/
def Hub.hpsDown (h : Hub) : Hub :=
  let slow := (upTo 1 4).foldl (fun m j => max m (h.hpMuteTime j + ms 1)) (h.spkMuteTime + ms 50)
  let h := h.forAll (upTo 1 4) (fun h j =>
    let t := h.hpMuteTime j
    let h := ((h.cancel (.jdDebounce j)).cancel (.jackRemove j)).cancel (.classify j)
    let h := h.modHeadphone j (fun x => { x with fade := x.fade.to 0 h.now t, closeAt := some (h.now + t + ms 1) })
    ((h.modJack j (fun x =>
      { x with accessory := 0, inserted := false, removing := false, classifying := false, buttons := 0, micSwapped := false })).unbias j).releaseMic j)
  ((((h.cancel .hpPowerup).cancel .spkRestart).spkTurnOff).modSpk (fun x => { x with powerup := 1 })).start .hpsOff slow

/-- The off-sequence of PD_HPS is complete. -/
def Hub.hpsOff (h : Hub) : Hub :=
  let h := h.forAll (upTo 1 4) (fun h j => h.modHeadphone j (fun x => { x with powered := false, openAt := none, closeAt := none, fast := false, gate := Fade.steady 0, protect := false }))
  { (h.bridgeOff .off).modSpk (fun x => { x with powerup := 0, heldEnable := none }) with pwr := { h.pwr with domains := setBit h.pwr.domains 20 false } }

/-! ## The meanings of the rows -/

/-- R115. -/
def execSpkOvercurrent (s : State) : Out := always Hub.spkOvercurrent s
/-- R115. -/
def execSpkRestart (s : State) : Out := always Hub.spkRestart s
/-- R115. -/
def execSpkDcFault (s : State) : Out := always Hub.spkDcFault s
/-- R115. -/
def execVspkOutOfRange (high : Bool) (s : State) : Out := always (·.vspkOutOfRange high) s
/-- R115. -/
def execVspkRecover (s : State) : Out := always Hub.vspkRecover s
/-- R119. -/
def execSpkSequenceEnd (s : State) : Out := always Hub.spkSequenceEnd s
/-- R117. -/
def execHpPowerupStep (s : State) : Out := always Hub.hpPowerupStep s

end Sys2Proof.Machine
end

