-- ==== Sys2Proof/Machine/Supply.lean ====
section
/-! DEFINITION. Supply supervision (R425 to R442): rail mutes, dips, VIO, heat, and the levels measured once per block. -/

namespace Sys2Proof.Machine

def Hub.modSupply (h : Hub) (f : Supply → Supply) : Hub := { h with supply := f h.supply }

/-! ## Analogue rails (R435 to R437) -/

/-- Every line output and headphone that is not OFF is fast-muted. -/
def Hub.muteAnalog (h : Hub) : Hub := (h.forAll (upTo 1 32) Hub.outputFastMute).forAll (upTo 1 4) Hub.hpFastMute

/-- Their release, where no other rail still mutes. -/
def Hub.unmuteAnalog (h : Hub) : Hub :=
  if h.railsLow then h else (h.forAll (upTo 1 32) Hub.outputFastRelease).forAll (upTo 1 4) Hub.hpFastRelease

/-- R436: powered front ends fade to zero over 1 ms and count as settling. -/
def Hub.muteInputs (h : Hub) : Hub :=
  h.forAll (upTo 1 48) (fun h n =>
    match h.fe n with
    | .running | .onRelief | .settling =>
      ((((h.modStream n (fun x => { x with gate := x.gate.to 0 (h.now + 1) (ms 1) })).setFe n .settling).cancel (.settle n)).cancel (.fullLevel n))
    | _ => h)

/-- R436, R55: recovery through 20 ms of settling and a 10 ms fade-in; the combiners start on L. -/
def Hub.unmuteInputs (h : Hub) : Hub :=
  if h.inputsMuted then h
  else h.forAll (upTo 1 48) (fun h n =>
    if h.fe n = .settling ∧ h.sourceWanted n = true then
      let h := h.modTandem n (·.restart h.boot.full)
      if (h.stream n).privacy then h else h.start (.settle n) (ms 20)
    else h)

/-- R435: VPOS or VNEG within ±13.50 V. -/
def Hub.analogLow (h : Hub) : Hub :=
  if h.supply.fastMute then h
  else ((h.modSupply (fun x => { x with fastMute := true })).muteAnalog).spkFastMute

/-- R435, R436: both rails beyond ±14.00 V for 20 ms. -/
def Hub.analogRecover (h : Hub) : Hub :=
  let wasMuted := h.supply.inputMute
  let h := h.modSupply (fun x => { x with fastMute := false, inputMute := false })
  let h := h.unmuteAnalog.spkFastRelease
  if wasMuted then h.unmuteInputs else h

/-- R436: VPOS or VNEG within ±12.00 V. -/
def Hub.inputRailLow (h : Hub) : Hub := if h.supply.inputMute then h else (h.modSupply (fun x => { x with inputMute := true })).muteInputs

/-- R437: AVDD below 4.50 V. The speaker is unaffected. -/
def Hub.avddLow (h : Hub) : Hub :=
  if h.supply.avddFault then h else ((h.modSupply (fun x => { x with avddFault := true })).muteAnalog).muteInputs

/-- R437: AVDD above 4.75 V for 20 ms. -/
def Hub.avddRecover (h : Hub) : Hub :=
  if h.supply.avddFault then ((h.modSupply (fun x => { x with avddFault := false })).unmuteAnalog).unmuteInputs else h

/-! ## Dips (R432) and VIO (R434) -/

/-- A rail falls below its warning: a dip begins, or its 5 ms of recovery start again. A row write in progress may still complete. -/
def Hub.dipStart (h : Hub) (r : DipRail) : Hub :=
  let h := h.modSupply (fun x =>
    match r with
    | .vcoreIn => { x with vcoreWarn := true }
    | .vaon => { x with vaonWarn := true })
  let h := h.start .dip (ms 5)
  if h.supply.dip then h
  else
    { h.modSupply (fun x => { x with dip := true, e3Due := true }) with
      store := { h.store with e5Done := false, started := !h.store.queue.isEmpty && !h.sup.restarting } }

/-- R432: both rails above warning for 5 ms. -/
def Hub.dipEnd (h : Hub) : Hub :=
  if h.supply.dip then
    h.whenDue .dip (fun h => (h.modSupply (fun x => { x with dip := false, recovering := false, vcoreWarn := false, vaonWarn := false })).cause evSupplyOk)
  else h

/-- R434: VIO below 3.00 V, or below 2.70 V: flash programming pauses, without E3. -/
def Hub.vioLow (h : Hub) (fault : Bool) : Hub :=
  (h.modSupply (fun x => { x with vioWarn := true, vioFault := x.vioFault || fault })).start .vio (ms 5)

/-- R430: VIO above 3.00 V for 5 ms. -/
def Hub.vioRecover (h : Hub) : Hub := h.whenDue .vio (·.modSupply (fun x => { x with vioWarn := false, vioFault := false }))

/-! ## Heat (R438) -/

/-- The highest sensor reaches 110 °C. -/
def Hub.thermalWarn (h : Hub) : Hub := if h.supply.thermalWarn then h else (h.modSupply (fun x => { x with thermalWarn := true })).cause evThermalWarn

/-- A junction at 130 °C. -/
def Hub.thermalCrit (h : Hub) : Hub :=
  if h.supply.thermalCrit then h else ((h.modSupply (fun x => { x with thermalCrit := true })).cause evThermalCrit).spkThermal

/-- Below 105 °C the warning clears; below 120 °C the speaker restarts. -/
def Hub.thermalRecover (h : Hub) (below105 : Bool) : Hub :=
  let h := if below105 then h.modSupply (fun x => { x with thermalWarn := false }) else h
  if h.supply.thermalCrit then (h.modSupply (fun x => { x with thermalCrit := false })).spkCool else h

/-! ## Levels (R441) -/

/-- The level of a health object, 0 until measured. -/
def Hub.level (h : Hub) (sub : Nat) : Int := tgetD h.supply.levels sub 0

/-- What a list of pairs of numbers gives for a number, 0 where it is not listed. -/
def amountOf : List (Nat × Nat) → Nat → Nat
  | [], _ => 0
  | (k, x) :: r, i => if k = i then x else amountOf r i

/-- VPH measured anew: PFn follows it through a closed switch, and a turn-on ramp goes on towards it (R33, R35, R36). -/
def Hub.vphMeasured (h : Hub) (v : Nat) : Hub :=
  if h.ext.vph = v then h
  else
    let h := { h with ext := { h.ext with vph := v } }
    h.forAll (upTo 1 48) (fun h n =>
      let p := (h.input n).phantom
      match p.state with
      | .on => h.modPhantom n (fun p => { p with pf := { v0 := v * 10, v1 := v * 10 } })
      | .noSupply => h.modPhantom n (fun p => { p with pf := { v0 := min v 1050 * 10, v1 := min v 1050 * 10 } })
      | .rampOn => h.phantomAim n
      | .off | .rampOff | .fault => h)

/-- The measures of a block (R266, R36, R114). VPH_HIGH is left 0.5 V below its threshold (R430). -/
def Hub.measure (h : Hub) (m : Measures) : Hub :=
  let put (t : Table Int) (e : Nat × Int) : Table Int := tput t e.1 e.2
  let list : List (Nat × Int) :=
    [(0x22, (m.vpos : Int)), (0x23, m.vneg), (0x24, (m.avdd : Int)), (0x25, (m.vcoreIn : Int)), (0x26, (m.vaon : Int)), (0x27, (m.vio : Int)), (0x28, (m.vph : Int)), (0x29, (m.vspk : Int)), (0x2A, (m.coreMa : Int))] ++
    (upTo 0x1B 4).zip m.temps
  let hot (t : Option Int) (c : Int) : Option Int := some (match t with | some a => max a c | none => c)
  let h := h.modSupply (fun x =>
    { x with levels := list.foldl put x.levels, minVcore := min x.minVcore m.vcoreMin, tempMax := m.temps.foldl hot x.tempMax
             vphHigh := decide ((if x.vphHigh then 5250 else 5300) < m.vph), vioFault := x.vioFault && decide (m.vio < 2700)
             vcoreWarn := x.vcoreWarn && decide (m.vcoreIn < 1120), vaonWarn := x.vaonWarn && decide (m.vaon < 3050) })
  let h := h.modSupply (fun x => { x with recovering := x.dip && !x.vcoreWarn && !x.vaonWarn })
  let h := h.vphMeasured m.vph
  let h := m.phantomUa.foldl (fun h e => if isInput e.1 then h.modPhantom e.1 (fun p => { p with currentUa := min 14000 e.2 }) else h) h
  m.biasUa.foldl (fun h e => if isHeadMic e.1 then h.modHeadMic e.1 (fun x => { x with currentUa := e.2 }) else h) h

/-- A level that was measured and whose magnitude is below a limit. -/
def Hub.levelBelow (h : Hub) (sub limit : Nat) : Bool := match tget h.supply.levels sub with | some v => decide (v.natAbs < limit) | none => false

/-- SUPPLY_STATUS (R442). -/
def Hub.supplyStatus (h : Hub) : Nat :=
  let x := h.supply
  let analog := h.levelBelow 0x22 1400 || h.levelBelow 0x23 1400
  2 * b2n x.vcoreWarn + 4 * b2n x.vaonWarn + 8 * b2n x.recovering + 16 * b2n x.dip + 32 * b2n (decide (h.pwr.state = 1) && !h.pwr.hostGate) + 64 * b2n analog + 128 * b2n x.fastMute +
  256 * b2n x.inputMute + 512 * b2n (h.levelBelow 0x24 4750) + 1024 * b2n x.avddFault + 2048 * b2n h.ext.vphLow +
  4096 * b2n x.vphHigh + 8192 * b2n (!h.vspkOk) + 16384 * b2n x.vioWarn + 32768 * b2n x.vioFault

/-- E3 of a dip at the block boundary after it began; LAST_DIP is that boundary (R441). -/
def Hub.supplyBoundary (h : Hub) : Hub :=
  if h.supply.e3Due then (h.modSupply (fun x => { x with e3Due := false, lastDip := h.frameCount })).cause evSupplyWarn else h

/-! ## The meanings of the rows -/

/-- R435. -/
def execAnalogRailLow (s : State) : Out := always Hub.analogLow s
/-- R435, R436. -/
def execAnalogRailRecover (s : State) : Out := always Hub.analogRecover s
/-- R436. -/
def execInputRailMute (s : State) : Out := always Hub.inputRailLow s
/-- R437. -/
def execAvddLow (s : State) : Out := always Hub.avddLow s
/-- R437. -/
def execAvddRecover (s : State) : Out := always Hub.avddRecover s
/-- R432. -/
def execSupplyDipStart (r : DipRail) (s : State) : Out := always (·.dipStart r) s
/-- R432. -/
def execSupplyDipEnd (s : State) : Out := always Hub.dipEnd s
/-- R434. -/
def execVioWarn (fault : Bool) (s : State) : Out := always (·.vioLow fault) s
/-- R430. -/
def execVioRecover (s : State) : Out := always Hub.vioRecover s
/-- R438. -/
def execThermalWarn (s : State) : Out := always Hub.thermalWarn s
/-- R115, R438. -/
def execThermalCrit (s : State) : Out := always Hub.thermalCrit s
/-- R438. -/
def execThermalRecover (below105 : Bool) (s : State) : Out := always (·.thermalRecover below105) s

end Sys2Proof.Machine
end

