-- ==== Sys2Proof/Machine/Store.lean ====
section
/-! DEFINITION. The non-volatile store (R276 to R280, R357): which objects differ from their stored values, the queue of requests, and the
writing of rows. Each object has a row of its own (log 32). -/

namespace Sys2Proof.Machine

/-! ## Stored objects -/

/-- Store key of host `k`'s event mask, which is one object per host number (R341). -/
def maskKey (k : Nat) : Nat := 0x1000000 + k

/-- An object marked S. -/
def isStored (k : Nat) : Bool :=
  if 0x1000000 ≤ k then decide (k < 0x1000008) else match describe (k / 256) (k % 256) with | some (_, r) => r.stored | none => false

/-- What an object holds while nothing is stored for it; a parameter of a process what its TYPE gives (R199). -/
def Hub.storedDefault (h : Hub) (k : Nat) : Nat :=
  if 0x1000000 ≤ k then eventBits.toNat
  else
    match blockOf (k / 256), decide (0x10 ≤ k % 256) && decide (k % 256 < 0x50) with
    | some (.process p), true => paramDefault (h.accepted (procIdx p) 1) (k % 256 - 0x10)
    | _, _ => defaultOf (k / 256) (k % 256)

/-- The value an S object is stored with: the one last accepted (R276). -/
def Hub.valueOf (h : Hub) (k : Nat) : Nat :=
  if 0x1000000 ≤ k then (h.eventMask (k - 0x1000000)).toNat
  else if key 0xC000 0x0F ≤ k ∧ k ≤ key 0xC000 0x14 then h.unitSeconds (.irs (k - key 0xC000 0x0F))
  else if key 0xC000 0x15 ≤ k ∧ k ≤ key 0xC000 0x18 then h.unitSeconds (.ors (k - key 0xC000 0x15))
  else tgetD h.objs k (h.storedDefault k)

/-- The accepted value of an S object is not yet stored. -/
def Hub.unstored (h : Hub) (k : Nat) : Bool := isStored k && decide (h.valueOf k ≠ tgetD h.nv k (h.storedDefault k))

/-- The objects the state lists, each once. -/
def Hub.listedKeys (h : Hub) : List Nat :=
  (h.objs.map (·.1) ++ h.nv.map (·.1) ++ (upTo (key 0xC000 0x0F) 10) ++ (List.range 8).map maskKey).foldl (fun l k => withOne l k) []

/-- S objects whose accepted value is not yet stored, PENDING_OBJECTS of them. -/
def Hub.changedKeys (h : Hub) : List Nat := h.listedKeys.filter h.unstored

/-! ## Requests (R276 to R278) -/

/-- A dip is in force: 32 requests fill the queue. -/
def Hub.queueFull (h : Hub) : Bool := h.supply.dip && decide (32 ≤ h.store.queue.length)

/-- Objects always committed under their own rules (R276): roles, the hardware-mute assignment, AUTO_STORE itself. -/
def alwaysStored (k : Nat) : Bool :=
  decide (k = key 0x1200 2) || (decide (k % 256 = 2) && decide (0x1100 ≤ k / 256) && decide (k / 256 < 0x1108)) ||
  (decide (k / 256 = 0x2700) && decide (1 ≤ k % 256) && decide (k % 256 ≤ 4))

/-- The accepted value of an object is in effect, or counts as such: classes 3 and 4 do from the next block boundary (R276). -/
def Hub.inEffect (h : Hub) (k : Nat) : Bool :=
  match describe (k / 256) (k % 256) with
  | some (_, r) => decide (3 ≤ r.cls) || decide (tget h.live k = tget h.objs k) || (tget h.objs k).isNone
  | none => true

/-- An auto-store of an object may be queued now: 2 s after its last store, in effect, not queued already. -/
def Hub.autoReady (h : Hub) (k : Nat) : Bool :=
  h.unstored k && h.inEffect k && (decide (h.live? 0x1200 2 = 1) || alwaysStored k) && !h.store.queue.contains (.auto k) && !h.queueFull &&
  (match tget h.store.storedAt k with | some f => decide (f + secs 2 ≤ h.now) | none => true)

/-- R276: an S object is queued for its row. Event masks are one object per host. -/
def Hub.autoStore (h : Hub) (idx sub : Nat) : Hub :=
  let ks := if idx = 0xA000 ∧ sub = 2 then (List.range 8).map maskKey else [key idx sub]
  ks.foldl (fun h k => if h.autoReady k then h.request (.auto k) else h) h

/-- The abort code of a STORE (R278). -/
def Hub.storeAbort (h : Hub) : Nat := if h.queueFull then 0x09 else 0

/-! ## Rows (R277, R278, R357) -/

/-- After a failed verification no host has written a stored object yet: the accepted values are still the defaults (R389). SRAM_RETIRED is the hub's
own. -/
def Hub.storeQuiet (h : Hub) : Bool :=
  h.store.failed && h.mask.isEmpty && h.objs.all (fun e => !isStored e.1 || decide (e.1 = key 0xC000 0x1A))

/-- Rows may be written: no dip, no restart, not in Watch (R24, R371, R432), and after a failed verification not before a host has written a stored
object (R389). -/
def Hub.rowsRun (h : Hub) : Bool := !h.supply.dip && !h.sup.restarting && decide (h.pwr.state ≠ 1) && !h.storeQuiet

/-- A row is written: the object's stored value. -/
def Hub.writeRow (h : Hub) (k : Nat) : Hub :=
  ({ h with nv := tput h.nv k (h.valueOf k) }).modStore (fun s => { s with storedAt := tput s.storedAt k h.now, lastStore := h.frameCount })

/-- A record committed under its own rules is written (R276). -/
def Hub.writeRecord (h : Hub) (r : StoreReq) : Hub :=
  let e := h.ext
  let ext :=
    match r with
    | .auto _ | .command _ => e
    | .matchSet n =>
      let t := (h.input n).tandem
      { e with stores := if t.factory || t.swapFactory then tdel e.stores n else tput e.stores n t.active }
    | .exclusion n => { e with exclusions := tput e.exclusions n (h.input n).tandem.exclusions }
    | .owner k => { e with owners := match h.owner k with | some o => tput e.owners k o | none => tdel e.owners k }
    | .muteMask _ => e
    | .storedHold => { e with storedHold := h.clk.storedHold }
    | .address => { e with address := h.tet.address }
    | .updatePending b => { e with updatePending := b }
    | .counter v => { e with counter := v }
    | .makerKey => { e with makerKey := h.upd.makerKey }
    | .retired out n =>
      let x := h.slice (if out then .output n else .input n)
      let i := if out then 100 + n else n
      { e with retired := if x.retired && !x.clearDue then withOne e.retired i else without e.retired i }
  ({ h with ext := ext }).modStore (fun s => { s with lastStore := h.frameCount })

/-- A row has to move to a spare (R357): whether one is left. E86, and E87 when 8 are left. -/
def Hub.remap (h : Hub) : Hub × Bool :=
  if h.store.spareRows = 0 then (h.modStore (fun s => { s with fails := satInc 65535 s.fails, headFailed := true }), false)
  else
    let h := (h.modStore (fun s => { s with spareRows := s.spareRows - 1 })).cause evNvRemapped
    (h.when (decide (h.store.spareRows = 8)) (·.cause evNvSparesLow), true)

/-- R357: the spares taken in turn, of which the first `fails` fail the verification of their own write. -/
def Hub.remaps (h : Hub) : Nat → Hub × Bool
  | 0 => h.remap
  | n + 1 => let (h, moved) := h.remap; if moved then h.remaps n else (h, false)

/-- The row of an object or of a record; an exclusion is held with the match set (R72). -/
def rowNumber : StoreReq → Nat
  | .auto k => k
  | .command _ => 0
  | .muteMask k => key 0x2700 (k + 1)
  | .matchSet n | .exclusion n => 0x2000000 + n
  | .owner k => 0x2010000 + k
  | .retired out n => 0x2020000 + if out then 100 + n else n
  | .storedHold => 0x2030000
  | .address => 0x2030001
  | .updatePending _ => 0x2030002
  | .counter _ => 0x2030003
  | .makerKey => 0x2030004

/-- Nine tenths of the writes a row is rated for (R357). -/
def wornWrites : Nat := 900000000

def Hub.countRow (h : Hub) (row n : Nat) : Hub := { h with ext := { h.ext with rowWrites := tput h.ext.rowWrites row n } }

/-- What a request stores, as it stands now. -/
def Hub.writeStored (h : Hub) : StoreReq → Hub
  | .auto k => h.writeRow k
  | .muteMask k => h.writeRow (key 0x2700 (k + 1))
  | .command _ => h
  | r => h.writeRecord r

/-- One row write and its verification: a row that fails or is worn moves to the first spare that verifies, `fails` of them failing before it, which is
written once; without a spare the row is not written (R278, R357). -/
def Hub.rowWrite (h : Hub) (verified : Bool) (fails : Nat) (r : StoreReq) : Hub :=
  let n := tgetD h.ext.rowWrites (rowNumber r) 0 + 1
  if verified ∧ n < wornWrites then (h.countRow (rowNumber r) n).writeStored r
  else
    let (h, moved) := h.remaps fails
    if moved then (h.countRow (rowNumber r) 1).writeStored r else h.countRow (rowNumber r) (min n wornWrites)

/-- The request at the head is done; a STORE completes with its abort code (R277, R278). -/
def Hub.popRequest (h : Hub) : Hub :=
  match h.store.queue with
  | [] => h
  | r :: rest =>
    let failed := h.store.headFailed
    let h := h.modStore (fun s => { s with queue := rest, rows := none, headFailed := false })
    match r with
    | .command w =>
      if (h.mailbox w).waiting = .store then
        h.modMailbox w (fun m => { m with waiting := .none, outcome := some (if failed then 0x0B else 0, 0, []) })
      else h
    | _ => h

/-- R357: the row write at the head of the queue completes and is verified. -/
def Hub.storeRowWritten (h : Hub) (verified : Bool) (spareFails : Nat) : Hub :=
  if h.rowsRun || h.store.started then
    let h := h.modStore (fun s => { s with started := false })
    match h.store.queue with
    | [] => h
    | .command _ :: _ =>
      match h.store.rows.getD h.changedKeys with
      | [] => h.popRequest
      | k :: rest =>
        let h := (h.rowWrite verified spareFails (.auto k)).modStore (fun s => { s with rows := some rest })
        if rest.isEmpty then h.popRequest else h
    | r :: _ => (h.rowWrite verified spareFails r).popRequest
  else h

/-- STORE_STATE (R279). -/
def Hub.storeState (h : Hub) : Nat := if h.store.queue.isEmpty then 0 else if h.supply.dip then 2 else 1

/-- The meaning of AUTO_STORE (R276). -/
def execAutoStore (idx sub : Nat) (s : State) : Out := always (·.autoStore idx sub) s

end Sys2Proof.Machine
end

