-- ==== Sys2Proof/Machine/Watch.lean ====
section
/-! DEFINITION. The watch channels (R372 to R380): stream and ring, signature and level detectors, marks, readers, and how a power-state request
is taken (R365). -/

namespace Sys2Proof.Machine

def Hub.modPwr (h : Hub) (f : Power → Power) : Hub := { h with pwr := f h.pwr }

/-- Setting at subindex `base + c` of the power object. -/
def Hub.watchSetting (h : Hub) (base c : Nat) : Nat := h.live? 0x9000 (base + c)
def Hub.watchInput (h : Hub) (c : Nat) : Nat := h.watchSetting 0x20 c
def Hub.watchFlag (h : Hub) (c k : Nat) : Bool := bit (h.watchSetting 0x24 c) k
/-- The channels with an input. -/
def Hub.watchChannels (h : Hub) : List Nat := (List.range 4).filter (fun c => decide (h.watchInput c ≠ 0))
def Hub.isWatchInput (h : Hub) (n : Nat) : Bool := (List.range 4).any (fun c => decide (h.watchInput c = n))

/-! ## Requests (R365) -/

/-- An activation of firmware runs (R419). -/
def Hub.activating (h : Hub) : Bool := decide (h.upd.state = 6)

/-- A request: at once in line for the next boundary, else pending, replacing one that is (R365). One that waits for its T0 counts as the
transition in progress (log 34). -/
def Hub.powerRequest (h : Hub) (t wake : Nat) : Hub :=
  if h.pwr.requested = 0 ∧ h.pwr.progress = 0 ∧ h.pwr.pendingReq = 0 ∧ h.activating = false then
    h.modPwr (fun p => { p with requested := t, reqCause := wake })
  else
    let replaced := decide (h.pwr.pendingReq ≠ 0)
    let h := h.modPwr (fun p => { p with pendingReq := t, pendCause := wake, lastResult := if replaced then 4 else p.lastResult })
    h.when replaced (·.cause evPowerReplaced)

/-- A host's request; one for Watch during a firmware activation is refused at once (R414; log 34). -/
def Hub.hostRequest (h : Hub) (t : Nat) : Hub :=
  if t = 2 ∧ h.activating = true then h.modPwr (fun p => { p with lastResult := 3 }) else h.powerRequest t (2 ^ 9)

/-! ## Ring and reader (R379, R380) -/

def ringSamples : Nat := 96000

/-- The reader ends: IDLE. -/
def Hub.readerIdle (h : Hub) (c : Nat) : Hub := (h.modChan c (fun x => { x with reader := 0, fade := Fade.steady 0 })).cancel (.reader c)

/-- A playing reader fades out over 10 ms (R380). -/
def Hub.readerStop (h : Hub) (c : Nat) : Hub :=
  if (h.chan c).reader = 2 then (h.modChan c (fun x => { x with reader := 3, fade := x.fade.to 0 h.now (ms 10) })).start (.reader c) (ms 10) else h

/-- Play from the mark, at most 1.99 s behind the writer. -/
def Hub.readerPlay (h : Hub) (c : Nat) : Hub :=
  let age := (h.frameCount + 18446744073709551616 - (h.chan c).mark) % 18446744073709551616
  let old := decide (191040 < age)
  h.modChan c (fun x =>
    { x with reader := 2, truncated := old, lag := if old then 95520 else age / 2, fade := { m0 := 0, m1 := unity, t0 := h.now, len := ms 2 } })

/-- Abort code of a READER_CONTROL write. -/
def Hub.readerAbort (h : Hub) (c v : Nat) : Nat :=
  if v = 1 then if h.pwr.state = 0 ∧ (h.chan c).reader = 1 then 0 else 0x08 else if (h.chan c).reader = 2 then 0 else 0x08

def Hub.readerControl (h : Hub) (c v : Nat) : Hub := if v = 1 then h.readerPlay c else h.readerStop c

/-- The detectors of a channel start anew (R376, R377). -/
def Hub.detectorReset (h : Hub) (c : Nat) : Hub := h.modChan c (fun x => { x with progress := 0, inRun := false, runLen := 0, gap := 0 })

/-- The level detector of a channel counts anew (R378). -/
def Hub.levelReset (h : Hub) (c : Nat) : Hub := h.modChan c (fun x => { x with above := 0, below := 0 })

/-- A change of the assignment: ring filled with zero, detectors anew, reader stopped (R372). -/
def Hub.watchRestart (h : Hub) (c : Nat) : Hub :=
  ((h.modChan c (fun x => { x with wpos := 0, ring := [], armed := true, above := 0, below := 0 })).detectorReset c).readerIdle c

/-- The watch stream of channel `c` in the present frame (R372, R373): what its decimator gives, ahead of polarity and filter, under the fades of
the input. -/
def Hub.watchSample (h : Hub) (c : Nat) : Int :=
  let n := h.watchInput c
  let m := (h.stream n).gate.at h.now
  if n = 0 ∨ m = 0 ∨ (h.input n).lossZero = true then 0 else scaleBy ((h.chan c).decimator.value 0) m

/-- The decimator of channel `c` takes the combiner's output of this frame (R372, log 15). -/
def Hub.watchDecimate (h : Hub) (c : Nat) : Hub :=
  let xs := (h.input (h.watchInput c)).tandem.samples
  h.modChan c (fun x => { x with decimator := x.decimator.run .watch h.boot.filterPhase xs })

/-- The 1:2 filter of a reader takes the sample it reads in the ring (R380, log 15). -/
def Hub.readerRun (h : Hub) (c : Nat) : Hub :=
  let x := h.chan c
  if x.reader = 2 ∨ x.reader = 3 then
    let pos := (x.wpos + ringSamples - x.lag) % ringSamples
    let v := h.sramRead (.preroll c pos) (tgetD x.ring pos 0)
    h.modChan c (fun x => { x with playback := x.playback.run .reader h.boot.filterPhase [v] })
  else h

/-- One 48 kHz sample into each ring, in every second frame (R379). -/
def Hub.watchWrite (h : Hub) : Hub :=
  let h := h.forAll h.watchChannels Hub.watchDecimate
  if h.now % 2 = 0 then
    (h.forAll h.watchChannels (fun h c =>
      let v := h.watchSample c
      let p := (h.stream (h.watchInput c)).privacy
      h.modChan c (fun x =>
        { x with ring := if v = 0 then tdel x.ring x.wpos else tput x.ring x.wpos v, wpos := (x.wpos + 1) % ringSamples
                 flagged := if p then withOne x.flagged x.wpos else if x.flagged.isEmpty then [] else without x.flagged x.wpos }))).forAll (List.range 4) Hub.readerRun
  else h

/-- What the reader of channel `c` carries (R380, R133). -/
def Hub.readerSample (h : Hub) (c : Nat) : Int :=
  let x := h.chan c
  if x.reader = 2 ∨ x.reader = 3 then
    scaleBy (x.playback.value ((h.now + 1) % 2)) (x.fade.at h.now)
  else 0

/-- Fade-outs of readers that have ended. -/
def Hub.readersEnd (h : Hub) : Hub := h.forAll (List.range 4) (fun h c => h.whenDue (.reader c) (·.readerIdle c))

/-! ## Detectors (R376 to R378) -/

/-- Fields of STEP (R385). -/
def stepBand (e : Nat) : Nat := e / 2 ^ 48 % 16
def stepMin (e : Nat) : Int := toS16 (e / 2 ^ 32 % 2 ^ 16)
def stepMinDur (e : Nat) : Nat := e / 2 ^ 16 % 2 ^ 16
def stepMaxDur (e : Nat) : Nat := e % 2 ^ 16

/-- A STEP value that may be written (R385). -/
def stepOk (e : Nat) : Bool :=
  decide (1 ≤ stepMinDur e) && decide (stepMinDur e ≤ stepMaxDur e) && decide (stepMaxDur e ≤ 1000) && decide (-16000 ≤ stepMin e) && decide (stepMin e ≤ 0)

def Hub.watchStep (h : Hub) (c s : Nat) : Nat := h.live? 0x9000 (0x40 + 8 * c + s)

/-- A match or a level firing (R378). `wakeBit` is 4 and `outBit` 6 for the signature, 5 and 7 for the level; `cause` is the WAKE_CAUSE bit. -/
def Hub.watchFire (h : Hub) (c event wakeBit outBit wake : Nat) : Hub :=
  let x := h.chan c
  let h := h.cause event
  let h :=
    if x.reader = 2 ∨ x.reader = 3 then h
    else
      let len := us (h.watchSetting 0x28 c)
      (h.modChan c (fun x => { x with mark := (h.frameCount + 18446744073709551616 - len) % 18446744073709551616, reader := 1 })).cause evPrerollReady
  let h := if h.watchFlag c outBit then h.modPwr (fun p => { p with wakeOut := true }) else h
  if h.watchFlag c wakeBit then
    if h.pwr.state = 1 then h.powerRequest 1 (2 ^ wake)
    else if h.pwr.progress = 2 then (h.powerRequest 1 (2 ^ wake)).cause evWakeDuringEntry
    else h
  else h

/-- The pseudocode's `fail`. -/
def Hub.signatureFail (h : Hub) (c : Nat) (level : Nat → Int) : Hub :=
  let e := h.watchStep c 0
  if stepMin e ≤ level (stepBand e) then h.modChan c (fun x => { x with progress := 0, inRun := true, runLen := 1 })
  else h.modChan c (fun x => { x with progress := 0, inRun := false, runLen := 0 })

/-- R377: one tick of the signature detector; run length in ticks of 10 ms, the gap in microseconds. -/
def Hub.signature (h : Hub) (c : Nat) (level : Nat → Int) : Hub :=
  let x := h.chan c
  let e := h.watchStep c x.progress
  let above := decide (stepMin e ≤ level (stepBand e))
  if x.inRun then
    if above then
      let h := h.modChan c (fun x => { x with runLen := x.runLen + 1 })
      if stepMaxDur e < x.runLen + 1 then h.signatureFail c level else h
    else
      let h := h.modChan c (fun x => { x with inRun := false })
      if stepMinDur e ≤ x.runLen then
        if x.progress + 1 = h.watchSetting 0x34 c then (h.watchFire c evSignature 4 6 7).modChan c (fun x => { x with progress := 0 })
        else h.modChan c (fun x => { x with progress := x.progress + 1, gap := 0 })
      else h.signatureFail c level
  else if above then h.modChan c (fun x => { x with inRun := true, runLen := 1 })
  else if 0 < x.progress then
    let h := h.modChan c (fun x => { x with gap := x.gap + 10000 })
    if h.watchSetting 0x38 c < x.gap + 10000 then h.signatureFail c level else h
  else h

/-- R378: one tick of the level detector. -/
def Hub.levelDetect (h : Hub) (c : Nat) (rms : Int) : Hub :=
  let t := toS32 (h.watchSetting 0x2C c)
  let hold := h.live? 0x9000 0x0E
  let x := h.chan c
  let above := if t ≤ rms then x.above + 1 else 0
  let below := if rms ≤ t - 300 then x.below + 1 else 0
  let h := h.modChan c (fun x => { x with above := above, below := below })
  if x.armed then
    if t ≤ rms ∧ hold ≤ 10000 * above then (h.modChan c (fun x => { x with armed := false })).watchFire c evLevel 5 7 8 else h
  else if rms ≤ t - 300 ∧ hold ≤ 10000 * below then h.modChan c (fun x => { x with armed := true })
  else h

/-- A level no threshold reaches: silence. -/
def silence : Int := -1000000

/-- Every 10 ms (R376, R378): with its input muted or unpowered the detectors see silence (R50, R373); they stop while WATCH firmware is exchanged
and in the entry to Stable (R369, R376). A
detector that is not enabled holds no partial match (log 142). -/
def Hub.signatureTick (h : Hub) (c : Nat) (bands : List Int) (rms : Int) : Hub :=
  let n := h.watchInput c
  if n = 0 ∨ h.boot.full = false ∨ h.pwr.stable = true ∨ h.pwr.progress = 3 ∨ (h.upd.state = 6 ∧ h.upd.step = 1 ∧ h.upd.stepOver = false) then h
  else
    let quiet := decide ((h.stream n).gate.at h.now = 0)
    let level : Nat → Int := fun b => if quiet then silence else (bands[b]?).getD silence
    let h := if h.watchFlag c 0 && decide (h.watchSetting 0x34 c ≠ 0) then h.signature c level else h.detectorReset c
    if h.watchFlag c 1 then h.levelDetect c (if quiet then silence else rms) else h.levelReset c

/-- READER_STATUS (R386). -/
def Hub.readerStatus (h : Hub) (c : Nat) : Nat := (h.chan c).reader + 128 * b2n (h.chan c).truncated

/-- The Watch budget in 0.01 mA (R375). -/
def Hub.budget (h : Hub) : Nat :=
  h.watchChannels.foldl (fun b c => b + 190 + 140 * b2n (h.watchFlag c 0) + 10 * b2n (h.watchFlag c 1)) 800 + 450 * b2n h.tet.on

/-- The meaning of SIGNATURE_TICK (R377, R378). -/
def execSignatureTick (c : Nat) (bands : List Int) (rms : Int) (s : State) : Out := run (isChannel c) (·.signatureTick c bands rms) s

end Sys2Proof.Machine
end

