-- ==== Sys2Proof/Machine/Pads.lean ====
section
/-! DEFINITION. The pads (R381, R451 to R454): what drives each digital pad of the VIO domain, their latching in Stable, and the state of the
analogue pins. A part of a pad that moves faster than a core frame is given at a period of ROOTCLK or of BCLK. -/

namespace Sys2Proof.Machine

/-- The digital pads that draw from VIO (R448, R451). -/
inductive VioPad where
  | xout | wckout | mclko0 | mclko1 | reinCtl
  | bclk (p : Nat) | fs (p : Nat) | di (p : Nat) | dO (p : Nat)
  | qspiClk | qspiCs | qspiIo (k : Nat)
  | tether (p : TetherPort)
deriving DecidableEq, Repr

def levelPad (b : Bool) : PadDrive := if b then .high else .low

/-- VIO is absent in Stable: its pads float (R451, R456). -/
def Hub.padsFloat (h : Hub) : Bool := h.pwr.stable && h.supply.vioFault

/-- A clock output in ROOTCLK period `t`: not driven until step 7 of R387, latched in Stable and until the loader starts it (R203, R453). -/
def Hub.clockPad (h : Hub) (latched : PadLatch → PadDrive) (o : ClockOut) (t : Nat) : PadDrive :=
  match h.pwr.latch with
  | some l => latched l
  | none => if h.boot.step < 7 then .pulledDown else levelPad (o.level t)

/-- REIN_CTL: high impedance until the clocks are read at 5 ms and in Stable; a bit stream in source 2, else low (R203, R205, R220). -/
def Hub.reinPad (h : Hub) : PadDrive :=
  if h.boot.step < 3 ∨ h.pwr.stable ∨ h.pwr.latch.isSome then .highImpedance
  else if h.clk.activeSource = 2 then .bitStream h.reinDuty
  else .low

/-- BCLK of a port in ROOTCLK period `t`, and with it FS in BCLK period `i` of the frame (R226, R236, R237). -/
def Hub.portClockPad (h : Hub) (p : Nat) (level : Bool) : PadDrive :=
  if h.padsHeld p || h.pwr.stable then .pulledDown
  else match h.portClocks p with | .highImpedance => .pulledDown | .heldLow => .low | .clocking => levelPad level

/-- DO of a port in BCLK period `i` of the frame (R234). -/
def Hub.dataPad (h : Hub) (p i : Nat) : PadDrive :=
  if h.padsHeld p || h.pwr.stable then .highImpedance
  else match (h.port p).pins.dout.getD i none with | some b => levelPad b | none => .highImpedance

/-- What a VIO pad presents, in ROOTCLK period `t` and BCLK period `i` of the port's frame. Between accesses the flash pads rest (R453). -/
def Hub.pad (h : Hub) (x : VioPad) (t i : Nat) : PadDrive :=
  if h.padsFloat then .highImpedance
  else
    match x with
    | .xout => if h.boot.step < 3 ∨ h.pwr.stable ∨ h.clk.activeSource ≠ 0 then .highImpedance else .oscillating
    | .wckout => h.clockPad PadLatch.wckout h.clk.wckout t
    | .mclko0 => h.clockPad PadLatch.mclk0 h.clk.mclk0 t
    | .mclko1 => h.clockPad PadLatch.mclk1 h.clk.mclk1 t
    | .reinCtl => h.reinPad
    | .bclk p => h.portClockPad p ((h.port p).bclk.level t)
    | .fs p => h.portClockPad p ((h.port p).pins.fs.getD i false)
    | .di _ => .pulledDown
    | .dO p => h.dataPad p i
    | .qspiClk => if h.boot.step < 3 ∧ h.pwr.latch = none then .highImpedance else .low
    | .qspiCs => if h.boot.step < 3 ∧ h.pwr.latch = none then .pulledUp else .high
    | .qspiIo _ => .highImpedance
    | .tether _ => if h.transmits then .line else .electricalIdle

/-- Frequency of QSPI_CLK in an access (R469). -/
def Hub.qspiHertz (h : Hub) : Nat := if h.boot.qspiDiv = 0 then 0 else 98304000 / h.boot.qspiDiv

/-- Step 3 of R369: the pads keep their level; REIN_CTL goes to high impedance first (R205, R381). -/
def Hub.latchPads (h : Hub) : Hub :=
  let t := h.rootNow
  let l : PadLatch := { wckout := h.pad .wckout t 0, mclk0 := h.pad .mclko0 t 0, mclk1 := h.pad .mclko1 t 0 }
  h.modPwr (fun p => { p with padHeld := 0xFF, latch := some l })

/-! ## Analogue pins (R452) -/

/-- INnP and INnN: `none` is high impedance, else the IMPEDANCE setting that terminates them. -/
def Hub.inputPins (h : Hub) (n : Nat) : Option Nat :=
  let comparator := (List.range 4).any (fun c => decide (h.watchInput c = n) && h.watchFlag c 2)
  if h.boot.step < 5 ∨ h.hwMuted n ∨ (h.pwr.stable ∧ comparator = false) then none
  else if h.fe n = .unpowered ∧ h.pwr.state = 0 then none
  else some (h.input n).impedance

/-- OUTnP and OUTnN are clamped to ground: no mute switch has opened fully (R76, R91). -/
def Hub.outputClamped (h : Hub) (n : Nat) : Bool := match (h.output n).openAt with | some f => decide (h.now < f) | none => true

/-- HPjL and HPjR likewise (R116, R117). -/
def Hub.headphoneClamped (h : Hub) (j : Nat) : Bool := match (h.headphone j).openAt with | some f => decide (h.now < f) | none => true

/-- HPjG senses and returns ground from 35 ms on, and not in Stable (R121, R452). -/
def Hub.groundContact (h : Hub) : Bool := decide (5 ≤ h.boot.step) && !h.pwr.stable

/-- The charge pump runs while PD_HPS is on (R452). -/
def Hub.chargePump (h : Hub) : Bool := bit h.pwr.domains 20 && decide (5 ≤ h.boot.step)

end Sys2Proof.Machine
end

