-- ==== Sys2Proof/Machine/Power.lean ====
section
/-! DEFINITION. Power domains (R43, R98, R118, R364), transitions between Run and Watch (R367, R368), and the entry to Stable (R369). -/

namespace Sys2Proof.Machine

/-! ## Domains -/

def Hub.setDomain (h : Hub) (k : Nat) (on : Bool) : Hub := h.modPwr (fun p => { p with domains := setBit p.domains k on })

/-- Off 1 of R43: the streams of the group carry zero and its phantom ramps down; PHANTOM values are held from here on. A fault stays
as it is until a host writes PHANTOM (R34). -/
def Hub.groupDown (h : Hub) (k : Nat) : Hub :=
  let h := h.forAll (upTo (4 * k + 1) 4) (fun h n =>
    let want := decide (h.live? (inFrontIdx n) 1 = 1) && !(h.input n).phantom.readsZero
    let st := (h.input n).phantom.state
    let h := (h.zeroStream n).cancel (.settle n)
    let h :=
      if st = .rampOn ∨ st = .on then h.phantomOff n .rampOff
      else if st = .noSupply then h.modPhantom n (fun p => { p with state := .off, closed := false, want := false, pf := { v0 := 0, v1 := 0 } })
      else h.modPhantom n (fun p => { p with onAfter := false })
    if st = .fault then h else h.modPhantom n (fun p => { p with held := some want }))
  h.start (.igOff k) (ms 200)

/-- Off 2 of R43. -/
def Hub.groupOff (h : Hub) (k : Nat) : Hub :=
  h.whenDue (.igOff k) (fun h => (h.forAll (upTo (4 * k + 1) 4) (fun h n => h.setFe n .unpowered)).setDomain k false)

/-- An input's front end and modulators start: On 1 of R43. -/
def Hub.inputOn (h : Hub) (n : Nat) : Hub := (h.modTandem n (·.restart h.boot.full)).settle n

/-- On 1 of R43 for a group. -/
def Hub.groupUp (h : Hub) (k : Nat) : Hub := ((h.cancel (.igOff k)).setDomain k true).forAll (upTo (4 * k + 1) 4) Hub.inputOn

/-- An output group goes down (R98). -/
def Hub.outGroupDown (h : Hub) (k : Nat) : Hub := h.forAll (upTo (4 * k + 1) 4) Hub.outputDown

/-- An output group comes up with its present settings (R98); an output still going down comes up once it is down (log 114). -/
def Hub.outGroupUp (h : Hub) (k : Nat) : Hub :=
  (h.setDomain (12 + k) true).forAll (upTo (4 * k + 1) 4) (fun h n => if (h.output n).goingDown then h else h.outputPower n (h.settledCfg n))

/-- Headphones and speaker come up (R117), once an off-sequence that runs is over (log 114). -/
def Hub.hpsUp (h : Hub) : Hub := if h.armed .hpsOff then h else (h.setDomain 20 true).hpsPower

/-- DOMAIN_ENABLE takes effect at a block boundary: each domain whose bit changes runs its own sequence (R364). -/
def Hub.domainsApply (h : Hub) (v : Nat) : Hub :=
  let old := h.pwr.enable
  let h := h.modPwr (fun p => { p with enable := v })
  let changed (k : Nat) : Bool := bit old k != bit v k
  let h := h.forAll ((List.range 12).filter changed) (fun h k => if bit v k then h.groupUp k else h.groupDown k)
  let h := h.forAll ((List.range 8).filter (fun k => changed (12 + k))) (fun h k => if bit v (12 + k) then h.outGroupUp k else h.outGroupDown k)
  let h := if changed 20 then (if bit v 20 then h.hpsUp else h.hpsDown) else h
  let h := if changed 21 then (if bit v 21 then (h.setDomain 21 true).dspOn else h.dspOff.setDomain 21 false) else h
  if changed 23 then (h.tetherPower (bit v 23)).setDomain 23 (bit v 23) else h

/-- Off-sequences of domains that have run their time. -/
def Hub.domainsBoundary (h : Hub) : Hub := 
  (h.forAll (List.range 12) Hub.groupOff).whenDue .hpsOff (fun h =>
    if bit h.pwr.enable 20 ∧ h.pwr.state = 0 then h.hpsOff.hpsUp else h.hpsOff)

/-! ## Quiesce (R367 step 1, R369) -/

/-- T0 of an entry from Run to `target`. -/
def Hub.quiesce (h : Hub) (target : Nat) : Hub :=
  let h := if target = 3 then h.pauseSessions else h
  let h := h.modPwr (fun p => { p with state := 2, progress := target, quiesced := false })
  let h := h.forAll (List.range 4) Hub.readerStop
  let h := if target = 3 then h.forAll (List.range 4) Hub.detectorReset else h
  let h := h.forAll (upTo 1 48) (fun h n =>
    if h.isWatchInput n then h.modTandem n (fun t => { t with toM := t.toM.to unity h.now (ms 10) })
    else if h.fe n = .unpowered then h
    else (h.cancel (.settle n)).modStream n (fun x => { x with gate := x.gate.to 0 h.now (ms 10) }))
  let h := h.forAll (upTo 1 32) Hub.outputDown
  let h := if h.spk.powerup = 0 ∨ h.armed .hpsOff = true then h else h.hpsDown
  (h.portsSuspend.checkpoints).start .quiesce (ms 10)

/-- The slowest part has finished: fades, outputs, headphones and speaker, ports (R366). -/
def Hub.quiesceOver (h : Hub) : Bool :=
  h.due .quiesce && (upTo 1 32).all (fun n => !(h.output n).powered) && decide (h.spk.powerup = 0) &&
  (List.range 8).all (fun p => decide ((h.port p).state = .stopped))

/-- The switched domains of TQ: PD_OG, PD_HPS and PD_DSP off. -/
def Hub.domainsDown (h : Hub) : Hub :=
  let h := if h.dsp.on then h.dspOff else h
  h.modPwr (fun p => { p with domains := clearBits p.domains 0x3FF000 })

/-! ## The flush of R369 -/

/-- Objects and records waiting for the store, and the committed match sets, are written (R72, R276). -/
def Hub.flushStore (h : Hub) : Hub :=
  let ks := h.changedKeys.filter (fun k => decide (h.live? 0x1200 2 = 1) || alwaysStored k)
  let flush (h : Hub) (rs : List StoreReq) : Hub := rs.foldl (fun h r => h.rowWrite true 0 r) h
  let h := flush h (ks.map StoreReq.auto)
  let h := flush h ((h.ins.filter (fun e => !e.2.tandem.factory && decide (tget h.ext.stores e.1 ≠ some e.2.tandem.active))).map (fun e => StoreReq.matchSet e.1))
  let h := h.store.queue.foldl (fun h r =>
    match r with
    | .command _ => flush h (h.changedKeys.map StoreReq.auto)
    | r => flush h [r]) h
  h.modStore (fun s => { s with queue := [], rows := none, headFailed := false })

/-- Inputs without STABLE_PHANTOM start their turn-off ramps (R369 step 2). -/
def Hub.stablePhantom (h : Hub) : Hub :=
  h.forAll (upTo 1 48) (fun h n =>
    if (List.range 4).any (fun c => decide (h.watchInput c = n) && h.watchFlag c 3) then h
    else
      let st := (h.input n).phantom.state
      if st = .rampOn ∨ st = .on then h.phantomOff n .rampOff else h)

/-- Step 3 of R369: the pads are latched; step 4 falls 5 ms after the end of step 2. -/
def Hub.flushOver (h : Hub) : Hub := ((h.latchPads.modPwr (fun p => { p with flushHeld := false })).cancel .stableFlush).start .stableEntry (ms 5)

/-- The flush is done. -/
def Hub.flushDone (h : Hub) : Hub := (if h.storeQuiet then h else h.flushStore).flushOver

/-- TF: the flush, which a supply dip holds for at most 1 s. -/
def Hub.stableFlush (h : Hub) : Hub :=
  let h := h.stablePhantom
  if h.supply.dip then (h.modPwr (fun p => { p with flushHeld := true })).start .stableFlush (secs 1) else h.flushDone

/-- A held flush goes on once the dip has ended. -/
def Hub.flushBoundary (h : Hub) : Hub := if h.pwr.flushHeld && !h.supply.dip then h.flushDone else h

/-- The flush times out: values not written are lost, FLUSH_INCOMPLETE records it. -/
def Hub.flushIncomplete (h : Hub) : Hub :=
  if h.pwr.flushHeld && h.supply.dip then
    h.whenDue .stableFlush (fun h => (h.modPwr (fun p => { p with wakeCause := p.wakeCause ||| 2 ^ 11 })).flushOver)
  else h

/-- TQ: quiesce is over (R367 step 2, R369 step 2). -/
def Hub.quiesceEnd (h : Hub) : Hub :=
  if h.pwr.state = 2 ∧ (h.pwr.progress = 2 ∨ h.pwr.progress = 3) ∧ h.pwr.quiesced = false then
    let h := h.domainsBoundary
    if h.quiesceOver then
      let h := ((h.cancel .quiesce).modPwr (fun p => { p with quiesced := true })).domainsDown
      let h := h.forAll (upTo 1 48) (fun h n => if h.isWatchInput n ∧ h.pwr.progress = 2 then h else (h.zeroStream n).setFe n .unpowered)
      if h.pwr.progress = 2 then h.reinEnterWatch.start .watchEntry (ms 3) else h.stableFlush
    else h
  else h

/-! ## Transitions (R365 to R371) -/

/-- T0 of leaving Watch (R368). -/
def Hub.exitWatch (h : Hub) (wake : Nat) : Hub :=
  (h.modPwr (fun p => { p with state := 2, progress := 1, exitStep := 1, hostGate := false, wakeCause := p.wakeCause ||| wake })).start .watchExit (ms 1)

/-- T0 of entering Stable: from Run quiesce begins; from Watch the flush follows at once (R369). -/
def Hub.enterStable (h : Hub) : Hub :=
  if h.pwr.state = 1 then
    let h := h.forAll (List.range 4) Hub.detectorReset
    (h.modPwr (fun p => { p with state := 2, progress := 3, quiesced := true, hostGate := false })).stableFlush
  else h.quiesce 3

/-- T0 of entering Watch: the budget and the configuration are checked (R367 step 1, R373, R390, R414). -/
def Hub.enterWatch (h : Hub) : Hub :=
  if 2400 < h.budget then (h.modPwr (fun p => { p with lastResult := 2 })).cause evLpRefused
  else if h.boot.full = false ∨ (1 ≤ h.upd.state ∧ h.upd.state ≤ 3) ∨
      h.watchChannels.any (fun c => !bit h.pwr.enable ((h.watchInput c - 1) / 4)) = true then
    h.modPwr (fun p => { p with lastResult := 3 })
  else h.quiesce 2

/-- A request becomes due: one that names the state in force is dropped (R365). -/
def Hub.powerBegin (h : Hub) (t wake : Nat) : Hub :=
  if (t = 1 ∧ h.pwr.state = 0) ∨ (t = 2 ∧ h.pwr.state = 1) then h.modPwr (fun p => { p with lastResult := 5 })
  else if t = 1 then h.exitWatch wake
  else if t = 2 then h.enterWatch
  else h.enterStable

/-- The pending request becomes due when a transition completes (R365, R371). -/
def Hub.powerNext (h : Hub) : Hub :=
  let t := h.pwr.pendingReq
  let w := h.pwr.pendCause
  if t = 0 ∨ h.activating = true then h else (h.modPwr (fun p => { p with pendingReq := 0, pendCause := 0 })).powerBegin t w

/-- The power controller at a block boundary: T0 of a request in line, then of one that waited for an activation. -/
def Hub.powerBoundary (h : Hub) : Hub :=
  let h := h.flushBoundary
  if h.pwr.progress ≠ 0 ∨ h.activating = true then h
  else if h.pwr.requested ≠ 0 then
    let t := h.pwr.requested
    let w := h.pwr.reqCause
    let h := (h.modPwr (fun p => { p with requested := 0, reqCause := 0 })).powerBegin t w
    if h.pwr.progress = 0 then h.powerNext else h
  else h.powerNext

/-- A transition to Run or Watch completes: LAST_RESULT 1 and E8. -/
def Hub.powerDone (h : Hub) (state : Nat) : Hub :=
  ((h.modPwr (fun p => { p with state := state, progress := 0, exitStep := 0, lastResult := 1 })).cause evPowerDone)

/-- R367 step 3: STATE WATCH. -/
def Hub.watchEntryComplete (h : Hub) : Hub :=
  if h.pwr.progress = 2 ∧ h.pwr.quiesced = true then h.whenDue .watchEntry (fun h => h.pauseSessions.powerDone 1 |>.powerNext) else h

/-- R368 step 2: the supervisor, the watch channels' L and H paths, the loop, and every returning domain. -/
def Hub.watchExit2 (h : Hub) : Hub :=
  let h := h.resumeSessions.reinLeaveWatch
  let h := h.forAll ((upTo 1 48).filter h.groupOn) (fun h n => if h.isWatchInput n then h.modTandem n Tandem.startFromWatch else h.inputOn n)
  let h := h.forAll ((List.range 8).filter (fun k => bit h.pwr.enable (12 + k))) Hub.outGroupUp
  let h := if bit h.pwr.enable 20 then h.hpsUp else h
  let h := if bit h.pwr.enable 21 then (h.setDomain 21 true).dspOn else h
  h.portsResume

/-- R368 step 3: L and H of the watch channels are usable, and the crossfade to the full splice begins. -/
def Hub.watchExit3 (h : Hub) : Hub :=
  h.forAll ((upTo 1 48).filter h.isWatchInput) (fun h n =>
    let on : PathState → PathState := fun p => { p with usable := true, stable := 64 }
    h.modTandem n (fun t => { t with l := on t.l, h := on t.h, toM := t.toM.to 0 h.now (ms 10) }))

/-- R368: a step of leaving Watch falls due. -/
def Hub.watchExitStep (h : Hub) : Hub :=
  if h.pwr.progress = 1 then
    h.whenDue .watchExit (fun h =>
      let next (s : Nat) (len : Nat) (h : Hub) : Hub := (h.modPwr (fun p => { p with exitStep := s })).start .watchExit (ms len)
      match h.pwr.exitStep with
      | 1 => next 2 1 h.watchExit2
      | 2 => next 3 10 h.watchExit3
      | _ => (h.powerDone 0).powerNext)
  else h

/-- R369 step 4: only the always-on domain runs. A transfer of firmware is abandoned (R414). -/
def Hub.stableEntry (h : Hub) : Hub :=
  if h.pwr.progress = 3 ∧ h.pwr.quiesced = true ∧ h.pwr.flushHeld = false then
    h.whenDue .stableEntry (fun h =>
      let h := (h.forAll (upTo 1 52) (fun h n => (h.zeroStream n).setFe n .unpowered)).modClk (fun c => { c with pllLocked := false, running := false })
      { ((h.modTet (fun t => { t with tx := [], upLink := false, downLink := false })).modTwi (fun t => { t with alertState := 0 })).modPwr (fun p =>
          { p with stable := true, domains := 0, progress := 0, state := 2 }) with framesRun := false, sup := { h.sup with running := false } })
  else h

/-! ## Pads (R381) -/

/-- PAD_RELEASE: ones release held pads to their function. -/
def Hub.padRelease (h : Hub) (v : Nat) : Hub := h.modPwr (fun p => { p with padHeld := clearBits p.padHeld v })

/-! ## The meanings of the rows -/

/-- R367, R369. -/
def execQuiesceEnd (s : State) : Out := always Hub.quiesceEnd s
/-- R367. -/
def execWatchEntryComplete (s : State) : Out := always Hub.watchEntryComplete s
/-- R368. -/
def execWatchExitStep (s : State) : Out := always Hub.watchExitStep s
/-- R369. -/
def execFlushIncomplete (s : State) : Out := always Hub.flushIncomplete s

end Sys2Proof.Machine
end

