-- ==== Sys2Proof/Machine/Update.lean ====
section
/-! DEFINITION. Firmware update (R402 to R424): the header checks, the transfer, writing to flash, verification, arming, and what an activation
does. The cryptography itself is free (log 21). -/

namespace Sys2Proof.Machine

def Hub.modUpd (h : Hub) (f : Update → Update) : Hub := { h with upd := f h.upd }
def Hub.modBoot (h : Hub) (f : Boot → Boot) : Hub := { h with boot := f h.boot }

/-! ## Fields of an image (R402 to R405); the native header lies at byte 64 -/

/-- A big-endian field of `len` bytes at `off`. -/
def field (bs : List Byte) (off len : Nat) : Nat := ofBytes ((bs.drop off).take len)
def native (bs : List Byte) (off len : Nat) : Nat := field bs (64 + off) len
/-- A field of the entry of component `id`, 1 to 4. -/
def component (bs : List Byte) (id off len : Nat) : Nat := native bs (0x48 + 32 * (id - 1) + off) len

def zeros (bs : List Byte) (off len : Nat) : Bool := decide (field bs off len = 0)

def imageBlocks (bs : List Byte) : Nat := native bs 0x10 2
def imageSecurity (bs : List Byte) : Nat := native bs 0x0C 4
def countersigned (bs : List Byte) : Bool := bit (native bs 0x13 1) 0
def componentVersion (bs : List Byte) (id : Nat) : Nat := component bs id 12 4

/-- Largest BLOCK_COUNT of each component (R405). -/
def maxBlocks : Nat → Nat
  | 1 => 16 | 2 => 352 | 3 => 112 | _ => 32

/-- The entries of R405 and the order of activation. -/
def entriesOk (bs : List Byte) : Bool :=
  let count (id : Nat) := component bs id 4 2
  let ids := upTo 1 4
  decide (native bs 0x12 1 = 4) && decide (native bs 0xCC 4 = 0x01020304) &&
  ids.all (fun id =>
    decide (component bs id 0 1 = id) && decide (component bs id 1 1 = 0) && decide (component bs id 6 2 = 0) &&
    decide (component bs id 2 2 = ((upTo 1 (id - 1)).map count).foldl (· + ·) 0) && decide (1 ≤ count id) && decide (count id ≤ maxBlocks id) &&
    decide (4092 * (count id - 1) < component bs id 8 4) && decide (component bs id 8 4 ≤ 4092 * count id)) &&
  decide ((ids.map count).foldl (· + ·) 0 = imageBlocks bs)

/-- The maker key as accepted, stored or on its way to the store (R408). -/
def Hub.makerKey? (h : Hub) : Option (List Byte) := h.upd.makerKey <|> h.ext.makerKey

/-- The checks of R412, in order: the LAST_ERROR of the first that fails, or 0. The boot makes check 7 (`security`) later and not check 9 (`mixes`)
(R422). -/
def Hub.headerError (h : Hub) (bs : List Byte) (security mixes : Bool) : Nat :=
  let size := 512 + 4112 * imageBlocks bs
  if field bs 0 4 ≠ 0x48513136 ∨ field bs 4 2 ≠ 3 ∨ field bs 0x3C 4 ≠ crc32c (bs.take 0x3C) then 1
  else if field bs 6 2 ≠ 0x4832 ∨ native bs 6 2 ≠ 0x4832 then 2
  else if native bs 0 4 ≠ 0x504E5849 ∨ native bs 4 2 ≠ 1 ∨ native bs 0xFC 4 ≠ crc32c ((bs.drop 64).take 0xFC) ∨ zeros bs 0x30 12 = false ∨
      4 ≤ native bs 0x13 1 ∨ zeros bs (64 + 0xCA) 2 = false ∨ zeros bs (64 + 0xF0) 12 = false then 3
  else if imageBlocks bs < 4 ∨ 512 < imageBlocks bs ∨ native bs 8 4 ≠ size ∨ h.ext.flashSize < size ∨ field bs 8 4 + 64 ≠ size then 4
  else if entriesOk bs = false then 5
  else if Config.loaderVersion / 65536 < native bs 0xC8 2 then 6
  else if security = true ∧ imageSecurity bs < h.ext.counter then 7
  else if (bit (native bs 0x13 1) 1 = true ∧ h.makerKey? = none) ∨ Config.keyUnwraps bs = false then 8
  else if mixes = false then 9
  else if h.makerKey?.isSome = true ∧ countersigned bs = false then 10
  else 0

/-! ## Compatibility (R417) -/

/-- The range component `id` of an image allows for component `other`: bytes of REQUIRES in ascending ID of the others. -/
def requires (bs : List Byte) (id other : Nat) : Nat := component bs id (16 + 4 * (if other < id then other - 1 else other - 2)) 4

/-- Component `id` taken from the image that `pick` chooses for it works with every other of the mix. -/
def mixOk (pick : Nat → List Byte) : Bool :=
  (upTo 1 4).all (fun id => (upTo 1 4).all (fun o =>
    decide (o = id) ||
      (let r := requires (pick id) id o
       let v := componentVersion (pick o) o / 65536
       decide (r / 65536 ≤ v) && decide (v ≤ r % 65536))))

/-- A component whose VERSION and CRC equal those running is not activated. -/
def skipped (old new : List Byte) (id : Nat) : Bool :=
  decide (componentVersion old id = componentVersion new id) && decide (component old id 28 4 = component new id 28 4)

/-- Every mix that arises after a step of R419, the last being the complete new set; in reduced service only that one. -/
def Hub.mixesOk (h : Hub) (new : List Byte) : Bool :=
  let exchanged := (upTo 1 4).filter (fun id => !skipped h.boot.header new id)
  let partly := if h.boot.full then exchanged.dropLast else []
  partly.all (fun k => mixOk (fun id => if id ≤ k ∧ id ∈ exchanged then new else h.boot.header)) && mixOk (fun _ => new)

/-! ## Transfer (R411 to R413) -/

/-- Length of the record that starts at a byte: a block record, or the signature section at the end. -/
def Update.recordLength (u : Update) (start : Nat) : Nat := if start + 192 = u.size then 192 else 4112

/-- Start of the record being received: 0 while the header is. -/
def Update.current (u : Update) : Nat := if u.state = 1 then 0 else u.next - u.staged.length

/-- Abort code of image data (R411). -/
def Hub.imageAbort (h : Hub) (host off len : Nat) : Nat :=
  let u := h.upd
  if u.state = 3 ∨ u.state = 6 then 0x08
  else if off = 0 then 0
  else if u.state ≠ 1 ∧ u.state ≠ 2 then 0x06
  else if host ≠ u.host then 0x08
  else if off ≠ u.next ∧ off ≠ u.current then 0x06
  else if u.state = 1 then 0
  else if u.size < off + len then 0x06
  else
    let filled := if off = u.next then u.staged.length else 0
    let begins := decide (u.staged = []) && decide (2 ≤ u.waiting.length)
    let spills := decide (u.recordLength u.current < filled + len) && decide (1 ≤ u.waiting.length)
    if begins || spills then 0x08 else 0

/-- The transfer ends in FAILED with a cause; only offset 0 is expected from here (R411). -/
def Hub.updateFail (h : Hub) (e : Nat) : Hub :=
  h.modUpd (fun u => { u with state := 7, lastError := e, next := 0, host := 0xFF, staged := [], waiting := [], ops := none, retried := false, armWait := false
                              activateDue := false, step := 0, stepOver := false, stepWaits := false, everything := false })

/-- A record fails: it and everything staged after it is discarded; the host resends from its start (R413). -/
def Hub.blockError (h : Hub) (e start : Nat) (keep : List (List Byte)) : Hub :=
  (h.modUpd (fun u => { u with lastError := e, blockErrors := satInc 65535 u.blockErrors, next := start, staged := [], waiting := keep })).cause evUpdateBlock

/-- The first 320 bytes are complete (R412). -/
def Hub.headerComplete (h : Hub) : Hub :=
  let bs := h.upd.staged.take 320
  let e := h.headerError bs true (h.mixesOk bs)
  if e = 0 then h.modUpd (fun u => { u with state := 2, header := bs, size := native bs 8 4, next := 320, staged := [] })
  else (h.updateFail e).cause evUpdateHeader

/-- A complete record: its tag and its CRC are checked, then it waits for flash (R413). The signature section has neither. -/
def Hub.recordComplete (h : Hub) (start len : Nat) : Hub :=
  let u := h.upd
  let rec_ := u.staged.take len
  let k := (start - 320) / 4112
  let plain := Config.plaintext u.header k rec_
  if len = 4112 ∧ Config.recordTagOk u.header k rec_ = false then h.blockError 11 start u.waiting
  else if len = 4112 ∧ field plain 4092 4 ≠ crc32c (plain.take 4092) then h.blockError 12 start u.waiting
  else h.modUpd (fun u => { u with waiting := u.waiting ++ [rec_], staged := u.staged.drop len })

/-- The record being received is complete if its bytes are. -/
def Hub.recordCheck (h : Hub) : Hub :=
  let start := h.upd.current
  let len := h.upd.recordLength start
  if h.upd.state = 2 ∧ len ≤ h.upd.staged.length then h.recordComplete start len else h

/-- Bytes staged at their offset (R411). A data command completes at most a block record and the signature section. -/
def Hub.imageData (h : Hub) (host off : Nat) (data : List Byte) : Hub :=
  let h :=
    if off = 0 then
      h.modUpd (fun u =>
        { u with state := 1, next := data.length, size := 0, written := 0, lastError := 0, host := host, staged := data, waiting := [], header := []
                 ops := none, retried := false, activateDue := false, everything := false, flags := 0 })
    else if off = h.upd.next then h.modUpd (fun u => { u with staged := u.staged ++ data, next := u.next + data.length })
    else h.modUpd (fun u => { u with staged := data, next := off + data.length })
  if h.upd.state = 1 then if 320 ≤ h.upd.staged.length then h.headerComplete else h
  else h.recordCheck.recordCheck

/-! ## Writing to flash (R413) -/

/-- Erases and programs for the bytes from `a` to `b`: sectors first entered, pages completed; the last page is programmed short. -/
def flashOps (a b : Nat) (last : Bool) : Nat :=
  ((b + 4095) / 4096 - (a + 4095) / 4096) + ((if last then (b + 255) / 256 else b / 256) - a / 256)

/-- First and last byte of the record at the head of the queue; the headers go with record 0. -/
def Update.frontier (u : Update) : Nat × Nat :=
  let a := if u.written = 0 then 0 else 320 + 4112 * u.written
  (a, 320 + 4112 * u.written + (u.waiting.headD []).length)

/-- Flash programming pauses in a dip, with VIO low, and until UPDATE_PENDING stands (R413, R432, R434). -/
def Hub.flashRuns (h : Hub) : Bool := !h.supply.dip && !h.supply.vioWarn && !h.supply.vioFault && h.ext.updatePending

/-- The record at the head of the queue begins: before the first erase UPDATE_PENDING 1 goes to the store; the armed image is gone (R411, R413). -/
def Hub.flashBegin (h : Hub) : Hub :=
  let u := h.upd
  if u.state = 2 ∧ u.waiting ≠ [] ∧ u.ops = none then
    let h := if u.written = 0 ∧ h.ext.updatePending = false ∧ h.store.queue.contains (.updatePending true) = false then h.request (.updatePending true) else h
    let r := u.frontier
    h.modUpd (fun u => { u with ops := some (flashOps r.1 r.2 (decide (r.2 = u.size))), armed := [0, 0, 0, 0] })
  else h

/-- The record at the head is in flash. -/
def Hub.recordWritten (h : Hub) : Hub :=
  let last := decide (h.upd.frontier.2 = h.upd.size)
  let h := h.modUpd (fun u =>
    { u with waiting := u.waiting.tail, ops := none, retried := false, written := if last then u.written else u.written + 1, state := if last then 3 else u.state })
  h.flashBegin

/-- R413: an erase or a page program completes and is read back. -/
def Hub.flashDone (h : Hub) (ok : Bool) : Hub :=
  let h := h.flashBegin
  match h.upd.ops with
  | none => h
  | some n =>
    if h.flashRuns = false then h
    else if ok then if n ≤ 1 then h.recordWritten else h.modUpd (fun u => { u with ops := some (n - 1), retried := false })
    else if h.upd.retried then
      let start := 320 + 4112 * h.upd.written
      (h.modUpd (fun u => { u with ops := none, retried := false })).blockError 15 start []
    else h.modUpd (fun u => { u with retried := true })

/-! ## Verification and arming (R415) -/

/-- Versions of an image in the order WATCH, LANE, SUP, TET. -/
def imageVersions (bs : List Byte) : List Nat := (upTo 1 4).map (componentVersion bs)

/-- The rows of an arming are written: ARMED, or error 18 where the counter could not be stored. -/
def Hub.armRows (h : Hub) : Hub :=
  let waits := h.store.queue.any (fun r => match r with | .counter _ => true | .updatePending _ => true | _ => false)
  if h.upd.armWait && !waits then
    if h.ext.counter < imageSecurity h.upd.header ∨ h.ext.updatePending = true then (h.updateFail 18).cause evUpdateFailed
    else (h.modUpd (fun u => { u with state := 4, armed := imageVersions u.header, host := 0xFF, armWait := false })).cause evUpdateArmed
  else h

/-- The signatures have been verified over the flash contents, which cannot be read while VIO is below 2.70 V (R430). -/
def Hub.verifyComplete (h : Hub) (vendorOk counterOk : Bool) : Hub :=
  if h.upd.state = 3 ∧ h.upd.armWait = false ∧ h.supply.vioFault = false then
    if vendorOk = false then (h.updateFail 13).cause evUpdateFailed
    else if countersigned h.upd.header = true ∧ counterOk = false then (h.updateFail 14).cause evUpdateFailed
    else
      let v := imageSecurity h.upd.header
      let h := if h.ext.counter < v then h.request (.counter v) else h
      (h.request (.updatePending false)).modUpd (fun u => { u with armWait := true })
  else h

/-! ## UPDATE_CONTROL and MAKER_KEY (R408, R414, R418) -/

def Hub.controlAbort (h : Hub) (v : Nat) : Nat :=
  let st := h.upd.state
  match v with
  | 1 => if st = 1 ∨ st = 2 then 0 else 0x08
  | 2 => if (st = 4 ∨ st = 5) ∧ h.upd.activateDue = false then 0 else 0x08
  | 3 => if h.upd.activateAt * 65536 < h.tetherNow + ms 10 * 65536 then 0x06 else if st = 4 ∧ h.tet.timeLocked = true ∧ h.upd.activateDue = false then 0 else 0x08
  | _ => if st = 5 then 0 else 0x08

def Hub.control (h : Hub) (v : Nat) : Hub :=
  match v with
  | 1 =>
    if h.upd.state = 1 then h.modUpd (fun u => { u with state := 0, host := 0xFF, staged := [], waiting := [], next := 0, size := 0 })
    else h.updateFail 17
  | 2 => h.modUpd (fun u => { u with activateDue := true, everything := false, flags := 0 })
  | 3 => h.modUpd (fun u => { u with state := 5, flags := 0 })
  | _ => h.modUpd (fun u => { u with state := 4, activateDue := false })

def Hub.makerAbort (h : Hub) (data : List Byte) : Nat :=
  if h.makerKey?.isSome then 0x05 else if Config.makerKeyOk data then 0 else 0x06
def Hub.makerKey (h : Hub) (data : List Byte) : Hub := (h.modUpd (fun u => { u with makerKey := some data })).request .makerKey

/-! ## Activation (R418 to R421) -/

/-- The steps that are run: those from `k` on whose component differs, or does not run, or all of them (R414, R416, R417). -/
def Hub.nextStep (h : Hub) (k : Nat) : Option Nat :=
  (upTo k (5 - k)).find? (fun id => h.upd.everything || (decide (id = 3) && h.sup.loaderOnly) || !skipped h.boot.header h.upd.header id)

def Hub.modSup (h : Hub) (f : Supervisor → Supervisor) : Hub := { h with sup := f h.sup }

/-- A command started and not yet accepted ends with abort 0x08: RESULT, or its RESP (R24). -/
def Hub.cutCommand (h : Hub) (w : Who) : Hub :=
  let m := h.mailbox w
  if m.result = 1 ∧ m.outcome = none ∧ m.waiting = .none then
    let h := h.modMailbox w (fun m => { m with result := 3, abort := 0x08, len := 0, data := [] })
    match w.via with
    | .twoWire => h
    | .tether => if m.silent then h else h.sendResp m.fromDown (h.respBytes w.host m.seq m.cmd m.index m.sub 0x08 [])
  else h

/-- The supervisor goes down: commands begun end with abort 0x08, held batches are lost, sessions pause (R24). -/
def Hub.supervisorDown (h : Hub) : Hub :=
  let h := h.modSup (fun s => { s with restarting := true })
  let h := (List.range 8).foldl (fun (h : Hub) k => (h.cutCommand ⟨.twoWire, k⟩).cutCommand ⟨.tether, k⟩) h
  let h := h.forAll (List.range 8) (fun h k => h.modHost k (fun x => { x with held := [] }))
  h.pauseSessions

/-- The supervisor is back: shadow edits outside an accepted commit are lost, held claims are processed, sessions run on (R24). -/
def Hub.supervisorUp (h : Hub) : Hub :=
  let claims := h.sup.heldClaims
  let h := { h with sup := { h.sup with restarting := false, heldClaims := [] }
                    shadow := h.shadow.filter (fun e => decide ((h.host e.2.2).commitState ≠ 0)) }
  let h := h.resumeSessions
  (claims.foldl (fun (h : Hub) c =>
    (h.claimCommand c.1 c.2.1 c.2.2).modMailbox c.1 (fun m => if m.waiting = .claim then { m with waiting := .none, outcome := some (0, 0, []) } else m)) h).alertSettle

/-- A step begins at a block boundary. LANE waits for a takeover, SUP for accepted commits (R419). -/
def Hub.stepBegin (h : Hub) (k : Nat) : Hub :=
  if (k = 2 ∧ h.takingOver = true) ∨ (k = 3 ∧ (List.range 8).any (fun j => decide ((h.host j).commitState ≠ 0)) = true) then
    h.modUpd (fun u => { u with step := k, stepOver := false, stepWaits := true })
  else
    let h := h.modUpd (fun u => { u with step := k, stepOver := false, stepWaits := false })
    match k with
    | 1 => h.forAll (List.range 4) (fun h c => (h.detectorReset c).levelReset c)
    | 2 => h.laneHold
    | 3 => h.supervisorDown
    | _ => h

/-- Activation is over (R419, step after 4). -/
def Hub.activated (h : Hub) : Hub :=
  (({ h with boot := { h.boot with header := h.upd.header } }).modUpd (fun u =>
    { u with state := 0, step := 0, stepOver := false, stepWaits := false, everything := false, armed := [0, 0, 0, 0] })).cause evUpdateActivated

/-- Activation starts. In reduced service it is the handover of R396 (R420). -/
def Hub.activate (h : Hub) : Hub :=
  let h := h.modUpd (fun u => { u with activateDue := false })
  if h.boot.full then (h.modUpd (fun u => { u with state := 6, step := 0, stepOver := true }))
  else
    { h.modUpd (fun u => { u with state := 0, everything := false, armed := [0, 0, 0, 0] }) with
      boot := { h.boot with bootResult := 1, thDue := true, header := h.upd.header, versions := imageVersions h.upd.header }
      sup := { h.sup with running := true } }

/-- STATE reads RUN and no transition runs: an activation may start (R418). -/
def Hub.activationFree (h : Hub) : Bool := decide (h.pwr.state = 0) && decide (h.pwr.progress = 0)

/-- Tether time has reached ACTIVATE_AT. -/
def Hub.activationTime (h : Hub) : Bool := decide (h.upd.activateAt ≤ h.tetherNow / 65536)

/-- The next step of an activation begins, or the activation is over (R419). -/
def Hub.activationStep (h : Hub) : Hub :=
  if h.upd.state ≠ 6 then h
  else if h.upd.stepWaits then h.stepBegin h.upd.step
  else if h.upd.stepOver then match h.nextStep (h.upd.step + 1) with | some k => h.stepBegin k | none => h.activated
  else h

/-- R418: an activation that is due starts at a block boundary if nothing holds it; one that is held, or falls due within a block, stays due. -/
def Hub.activationDue (h : Hub) : Hub :=
  let due := h.upd.activateDue || (decide (h.upd.state = 5) && h.activationTime && h.tet.timeLocked)
  if due && h.activationFree && (!h.sup.restarting || h.upd.everything) && decide (h.now % 32 = 0) then h.activate.activationStep
  else h.modUpd (fun u => { u with activateDue := due })

/-- The update's part of a block boundary: LATE, ACTIVATE, the next step, E115. -/
def Hub.updateBoundary (h : Hub) : Hub :=
  let h := h.flashBegin
  let h := if h.upd.state = 5 ∧ h.activationTime = true ∧ h.tet.timeLocked = false then h.modUpd (fun u => { u with flags := 1 }) else h
  if h.upd.activateDue then h.activationDue else h.activationStep

/-- A header with the entry of one component taken from another: what runs once that component is exchanged (R417). -/
def withEntry (old new : List Byte) (id : Nat) : List Byte :=
  let a := 64 + 0x48 + 32 * (id - 1)
  old.take a ++ (new.drop a).take 32 ++ old.drop (a + 32)

/-- R419: a step ends: its component's version changes; a block that fails stops the activation before the component. -/
def Hub.stepEnd (h : Hub) (ok : Bool) : Hub :=
  let k := h.upd.step
  if h.upd.state = 6 ∧ h.upd.stepOver = false ∧ h.upd.stepWaits = false ∧ 1 ≤ k then
    let ended (h : Hub) : Hub :=
      match k with
      | 2 =>
        h.laneRebuilt (decide (componentVersion h.boot.header 2 / 16777216 = componentVersion h.upd.header 2 / 16777216) || !ok)
      | 3 => if ok then h.supervisorUp.modSup (fun s => { s with loaderOnly := false }) else h.supervisorUp
      | _ => h
    if ok then
      let v := componentVersion h.upd.header k
      let h := { ended h with boot := { h.boot with versions := h.boot.versions.set (k - 1) v, header := withEntry h.boot.header h.upd.header k } }
      h.modUpd (fun u => { u with stepOver := true })
    else ((ended h).updateFail 16).cause evUpdateFailed
  else h

/-! ## The supervisor watchdog (R23, R24, R401) -/

/-- A restart in the middle of a reception: what was staged is lost, and NEXT_OFFSET goes back to the records in flash (R24). -/
def Update.cutReceive (u : Update) : Update :=
  if u.state = 1 ∨ u.state = 2 then
    { u with staged := [], waiting := [], ops := none, retried := false, next := if u.state = 1 then 0 else 320 + 4112 * u.written }
  else u

/-- R23: the watchdog expires. With an image armed, a reload from flash is an activation of everything (R416); with the flash being overwritten
the loader serves in the supervisor's place (R414). While Watch gates the supervisor's clock its watchdog does not run (log 115). -/
def Hub.watchdogExpiry (h : Hub) (ramIntact : Bool) : Hub :=
  if !h.sup.running || h.sup.restarting || decide (h.upd.state = 6) || (decide (h.pwr.state = 1) && !h.pwr.hostGate) || h.pwr.stable then h
  else
    let recent := h.sup.expiries.filter (fun f => decide (h.now < f + secs 600)) ++ [h.now]
    let flash := !ramIntact || decide (4 ≤ recent.length)
    let armed := decide (h.upd.state = 4) || decide (h.upd.state = 5)
    let h := (h.modBoot (fun b => { b with resetFlags := b.resetFlags ||| 256 })).supervisorDown
    let h := (h.modSup (fun s => { s with expiries := recent, fromFlash := flash, loaderOnly := flash && h.ext.updatePending })).modUpd Update.cutReceive
    if flash && armed then (h.modUpd (fun u => { u with activateDue := true, everything := true })) else h

/-- The restart completes: E12. One that reloads by an activation completes with it (R416). -/
def Hub.restartComplete (h : Hub) : Hub :=
  if h.sup.restarting = true ∧ h.upd.state ≠ 6 ∧ h.upd.everything = false then (h.supervisorUp).cause evSupRestarted else h

/-! ## The meanings of the rows -/

/-- R413. -/
def execFlashProgramDone (readBackOk : Bool) (s : State) : Out := always (·.flashDone readBackOk) s
/-- R415. -/
def execUpdateVerifyComplete (vendorOk counterOk : Bool) (s : State) : Out := always (·.verifyComplete vendorOk counterOk) s
/-- R418. -/
def execActivationDue (s : State) : Out := always Hub.activationDue s
/-- R419. -/
def execActivationStepEnd (blocksOk : Bool) (s : State) : Out := always (·.stepEnd blocksOk) s
/-- R357, R415: a row of the store is written; the rows of an arming among them. -/
def execStoreRowWritten (verified : Bool) (spareFails : Nat) (s : State) : Out := always (fun h => (h.storeRowWritten verified spareFails).armRows) s
/-- R23, R24. -/
def execSupervisorWatchdogExpiry (ramIntact : Bool) (s : State) : Out := always (·.watchdogExpiry ramIntact) s
/-- R23, R24. -/
def execSupervisorRestartComplete (s : State) : Out := always Hub.restartComplete s

end Sys2Proof.Machine
end

