-- ==== Sys2Proof/Machine/Boot.lean ====
section
/-! DEFINITION. Resets (R398 to R400), bring-up (R387 to R393) and the handover to full service (R395 to R397). -/

namespace Sys2Proof.Machine

/-! ## Reset (R398 to R400) -/

/-- The store after FACTORY_RESET: every S object at its default, without ownership records, address, retirements and committed sets; path exclusions
and what R280 names are kept. -/
def Outside.factory (e : Outside) : Outside := { e with stores := [], retired := [], owners := [], address := 0xFF, updatePending := false }

/-- An input right after a reset: its phantom switch opens and PFn ramps down (R398). -/
def Hub.phantomReset (h : Hub) (n : Nat) : Option (Nat × Input) :=
  let v := h.pfMv n
  if v = 0 then none
  else
    let len := if h.vphMv = 0 then 0 else (ms 200 * v + h.vphMv - 1) / h.vphMv
    some (n, { Input.fresh n with phantom := { state := .rampOff, pf := { v0 := v, v1 := 0, t0 := 0, len := len } } })

/-- A reset with RESET_FLAGS bit `cause`: everything but the pins and rails, the store, and the always-on record returns to its reset state; a power-on
clears that record too (R398). `wake` are bits set in WAKE_CAUSE. An HMUTE pin that is low raises its event with E0 (R456). -/
def Hub.resetBy (h : Hub) (cause : Nat) (powerOn : Bool) (wake : Nat) : Hub :=
  let factory := h.store.resetArmed
  let ext := if factory then h.ext.factory else h.ext
  let kept := if powerOn then 0 else h.boot.resetFlags &&& 256
  let ins := if powerOn then [] else (upTo 1 48).filterMap h.phantomReset
  { ext := ext, nv := if factory then [] else h.nv, clk := Clock.fresh ext.storedHold, ins := ins
    timers := ins.map (fun e => (Timer.phantomRamp e.1, e.2.phantom.pf.len))
    store := { spareRows := h.store.spareRows }
    boot := { resetFlags := kept ||| 2 ^ cause ||| (if factory then 512 else 0) }
    pwr := { wakeCause := if powerOn then 0 else h.pwr.wakeCause ||| wake, wakeOut := !powerOn && h.pwr.wakeOut
             padHeld := if powerOn || decide (cause = 2) then 0 else h.pwr.padHeld, latch := if powerOn || decide (cause = 2) then none else h.pwr.latch }
    supply := if powerOn then {} else { h.supply with lastDip := 0, minVcore := 0xFFFF, e3Due := false, tempMax := none, levels := [] }
    twi := { brstLow := h.twi.brstLow }
    hps := ((upTo 1 4).filter (fun j => !(h.headphone j).jack.pin)).map (fun j => (j, { jack := { pin := false } }))
    spk := { vspkHigh := !powerOn && h.spk.vspkHigh, vspkLow := !powerOn && h.spk.vspkLow }
    draws := h.draws
    evDue := ((List.range 4).filter h.hmuteLow).map (fun k => { event := evHmute k, scope := .all }) }

/-- A reset of the block: status reads find the new state at once. -/
def State.reboot (s : State) (f : Hub → Hub) : State := { s with hub := f s.hub, snap := f s.hub }

/-- The low-power regulator carries the core (R363, R371). -/
def Hub.lowPower (h : Hub) : Bool := decide (h.pwr.state = 1) && !h.pwr.hostGate

/-- R431: a low-power brown-out can only come in low-power mode. -/
def State.lowPowerBrownOut (s : State) : State := if s.hub.lowPower then s.reboot (·.resetBy 4 false 0) else s

/-! ## Waking from Stable (R370, R371) -/

/-- WAKE_CAUSE bit of a source (R386). -/
def wakeBitOf : WakeSource → Nat
  | .comparator c => c | .twoWire => 4 | .tether => 5 | .timer => 6

/-- A source may fire: a comparator needs COMPARATOR_EN, an input and no hardware mute (R50, R370). -/
def Hub.wakeArmed (h : Hub) : WakeSource → Bool
  | .comparator c => isChannel c && h.watchFlag c 2 && decide (h.watchInput c ≠ 0) && !h.hwMuted (h.watchInput c)
  | .twoWire => true
  | .tether => decide (h.live? 0xD000 0x0C = 1)
  | .timer => decide (h.live? 0x9000 0x0C ≠ 0)

/-- The wake reset: WAKE_OUT goes high where it is to (R382). Latched causes record DURING_ENTRY and raise E10 after the wake (R371). -/
def Hub.wakeReset (h : Hub) (srcs : List WakeSource) (duringEntry : Bool) : Hub :=
  let bits := srcs.foldl (fun b c => b ||| 2 ^ wakeBitOf c) (if duringEntry then 1024 else 0)
  let out := h.pwr.wakeOut || decide (h.live? 0x9000 0x0B = 1)
  let h := (h.resetBy 7 false bits).modPwr (fun p => { p with wakeOut := out })
  h.when duringEntry (·.cause evWakeDuringEntry)

/-- A firing during the entry is latched; WAKE_OUT follows it as any Stable wake cause (R371, R382). -/
def Hub.latchWake (h : Hub) (c : WakeSource) : Hub :=
  h.modPwr (fun p => { p with latchedWake := withOne p.latchedWake c, wakeOut := p.wakeOut || decide (h.live? 0x9000 0x0B = 1) })

/-- A wake source fires: in Stable the hub resets, during the entry the firing is latched (R369 to R371). -/
def State.wake (s : State) (c : WakeSource) : State :=
  if s.hub.wakeArmed c then
    if s.hub.pwr.stable then s.reboot (·.wakeReset [c] false)
    else if s.hub.pwr.progress = 3 ∧ c ≠ .timer then s.mapHub (·.latchWake c)
    else s
  else s

/-- R369 step 4; a firing latched during the entry wakes the hub on its completion. -/
def State.stableEntry (s : State) : State :=
  let s := s.mapHub Hub.stableEntry
  if s.hub.pwr.stable ∧ s.hub.pwr.latchedWake ≠ [] then s.reboot (fun h => h.wakeReset h.pwr.latchedWake true) else s

/-! ## The store read (R387 step 3, R388, R389) -/

/-- Objects whose stored values act from the store read on; every other waits for full service (R388). The datapath objects are those of R388's
left column; the managing layer's own objects are served in reduced service and act from here (log 36). -/
def actsReduced (fbPorts k : Nat) : Bool :=
  let sub := k % 256
  match blockOf (k / 256) with
  | some (.inFront _) | some (.hmFront _) | some (.outCfg _) | some (.hpAudio _) | some (.hpJack _) | some .speaker | some .clocks | some .twoWire
  | some .tether | some .hmute | some .fallback | some .store | some .events | some .name => true
  | some (.hostSlot _) => true
  | some (.inTandem _) => decide (sub = 1)
  | some (.outAudio _) => decide (sub ≠ 7)
  | some (.outCv _) => true
  | some (.port p) => bit fbPorts p
  | some .power => decide (sub < 0x20)
  | _ => false

/-- Fields of a FB_ROUTE (R391). -/
def routeSink (v : Nat) : Nat := v / 2 ^ 22 % 1024
def routeSource (v : Nat) : Nat := v / 2 ^ 12 % 1024
def routeGain (v : Nat) : Nat := v % 4096
def routeLevel (v : Nat) : Level :=
  let g := routeGain v
  if g = 0x800 then .lin 0 else .db ((10 * (if g < 2048 then (g : Int) else (g : Int) - 4096) : Int) : Rat)

/-- The route entries that are not empty, by index, as read from the store at the reset (R16, R391). -/
def Hub.routes (h : Hub) : List Nat := ((upTo 0x10 128).map (fun i => h.live? 0x1210 i)).filter (fun v => decide (routeSink v ≠ 0))

/-- A fallback port that can start in reduced service (R393). -/
def Hub.fallbackPort (h : Hub) (p : Nat) : Bool :=
  bit (h.live? 0x1210 1) p && isSyncClass (h.accepted (portIdx p) 3) && decide (h.startCheck p = 0)

/-- An end of a route can be had: no port channel, or a channel that an enabled slot of a fallback port maps to (R392). -/
def Hub.routeEndOk (h : Hub) (id : Nat) (out : Bool) : Bool :=
  if 0x40 ≤ id ∧ id ≤ 0x13F then
    let p := (id - 0x40) / 32
    let mask := h.accepted (portIdx p) (if out then 0x0F else 0x0E)
    h.fallbackPort p && (chansInUse (decide (h.accepted (portIdx p) 0x0D = 1)) mask).contains ((id - 0x40) % 32)
  else true

/-- The route is applied at this reset. -/
def Hub.routeKept (h : Hub) (v : Nat) : Bool := h.routeEndOk (routeSink v) true && h.routeEndOk (routeSource v) false

/-- Gains, mutes, delay, polarity, filter and impedance stand at their stored values. -/
def Hub.audioStored (h : Hub) : Hub :=
  let mute (v : Nat) : Fade := Fade.steady (if v = 1 then 0 else unity)
  let h := h.forAll (upTo 1 52) (fun h n =>
    let inv := decide (h.live? (frontIdx n) 3 = 1)
    let hpf := h.live? (frontIdx n) 4
    let h := if inv || hpf ≠ 0 then h.modStream n (fun x => { x with inverted := inv, polTarget := inv, hpf := hpf }) else h
    let z := h.live? (frontIdx n) 2
    if n ≤ 48 ∧ z ≠ 0 then h.modInput n (fun x => { x with impedance := z }) else h)
  let h := h.forAll (upTo 1 32) (fun h n =>
    let i := outIdx n + 1
    if h.live.any (fun e => decide (e.1 / 256 = i)) then
      h.modAudio n (fun a => { a with gain := Ramp.steady (gainLevel (h.live? i 1)), mute := mute (h.live? i 2), delay := us (h.live? i 3) })
    else h)
  let h := h.forAll (upTo 1 4) (fun h j =>
    let i := hpIdx j
    h.modHeadphone j (fun x =>
      { x with gain := Ramp.steady (gainLevel (h.live? i 1)), mute := mute (h.live? i 2), shortL := h.live? i 6, shortR := h.live? i 7 }))
  let i := spkIdx
  h.modSpk (fun x =>
    { x with gainL := Ramp.steady (gainLevel (h.live? i 1)), gainR := Ramp.steady (gainLevel (h.live? i 2)), mute := mute (h.live? i 3)
             spread := decide (h.live? i 8 = 1) })

/-- Match tables, exclusions and retirement records from their rows (R72, R353). -/
def Hub.recordsStored (h : Hub) : Hub :=
  let e := h.ext
  let h := e.stores.foldl (fun h x => h.modTandem x.1 (fun t => { t with bankA := x.2, bankB := x.2, factory := false })) h
  let h := e.exclusions.foldl (fun h x =>
    h.modTandem x.1 (fun t =>
      { t with l := { t.l with excluded := bit x.2 0 }, m := { t.m with excluded := bit x.2 1 }, h := { t.h with excluded := bit x.2 2 } })) h
  let h := e.retired.foldl (fun h i =>
    let sl := if i ≤ 48 then SliceId.input i else .output (i - 100)
    let h := (h.modSlice sl (fun x => { x with state := .relieved, declared := true, retired := true })).modRelief (unitOf sl)
      (fun r => { r with state := 3, serves := numberOf sl })
    match sl with
    | .input _ => h
    | .output n => h.modOutput n (fun o => { o with onRelief := true })) h
  let sram := tgetD h.nv (key 0xC000 0x1A) 0
  { h with owners := e.owners, sram := { h.sram with retired := sram, spares := 2 - popcount sram 12 } }

/-- The settings of the two-wire port take their stored values (R293, R301). -/
def Hub.twiStored (h : Hub) : Hub :=
  let v (sub : Nat) : Nat := h.live? 0xE000 sub
  let on := decide (v 6 = 1)
  h.modTwi (fun t => { t with busTimeout := on, busTimeoutWas := on, holdSteps := v 1, setupSteps := v 2, spikeFilter := v 3 })

/-- Step 3 of R387: the store is read and verified; `unreadable`, or the objects whose rows fail (R389). -/
def Hub.storeRead (h : Hub) (unreadable : Bool) (failed : List (Nat × Nat)) : Hub :=
  let bad := failed.map (fun e => key e.1 e.2)
  let nv := if unreadable then [] else h.nv.filter (fun e => !bad.contains e.1)
  let h := { h with nv := nv, ext := if unreadable then { h.ext.factory with exclusions := [], storedHold := Config.factoryStoredHold } else h.ext }
  let h := if unreadable then h.modStore (fun s => { s with failed := true }) else h
  let h := if unreadable || !bad.isEmpty then h.modBoot (fun b => { b with resetFlags := b.resetFlags ||| 1024 }) else h
  let objs := nv.filter (fun e => decide (e.1 < 0x1000000))
  let fb := tgetD objs (key 0x1210 1) 0
  let masks := (List.range 8).filterMap (fun k => (tget nv (maskKey k)).map (fun v => (k, BitVec.ofNat 128 v &&& eventBits)))
  let h := { h with objs := objs, live := objs.filter (fun e => actsReduced fb e.1), mask := masks }
  let h := h.modBoot (fun b =>
    { b with muteMask := (List.range 4).map (fun k => (k, tgetD objs (key 0x2700 (k + 1)) 0)), filterPhase := tgetD objs (key 0x6000 1) 0 })
  let h := h.recordsStored.audioStored
  let h := h.modClk (fun c => { c with activeSource := h.live? 0x8000 1, storedHold := h.ext.storedHold })
  let h := h.modTet (fun t => { t with enabled := decide (h.live? 0xD000 0x0E = 1) })
  let h := h.modBoot (fun b => { b with routesDropped := (h.routes.filter (fun v => !h.routeKept v)).length })
  h.twiStored

/-! ## The steps of bring-up (R387) -/

/-- Milliseconds of R387 as frames since FRAME_COUNT 0, which starts at 25 ms; without XIN the frames start at 45 ms and what falls before then acts at
once (R204; log 31). -/
def Hub.bootTime (h : Hub) (t : Nat) : Nat := if h.clk.bootHold then ms (t - 45) else ms (t - 25)

/-- A phantom ramp begun by the reset goes on in core frames: `t` ms of it have run (R398). -/
def Hub.phantomRebase (h : Hub) (t : Nat) : Hub :=
  h.forAll (upTo 1 48) (fun h n =>
    if h.armed (.phantomRamp n) then
      let r := (h.input n).phantom.pf
      (h.modPhantom n (fun p => { p with pf := { v0 := r.at (ms t), v1 := 0, t0 := 0, len := r.len - ms t } })).startAt (.phantomRamp n) (r.len - ms t)
    else h)

/-- Step 4: the core frames begin at FRAME_COUNT 0. -/
def Hub.framesStart (h : Hub) : Hub :=
  let h := { h with now := 0, sub := 0, framesRun := true, blockDone := false }
  let h := h.centre
  if h.clk.bootHold then h.phantomRebase 45 else h.pllLock.phantomRebase 25

/-- Output groups with an output whose stored MODE is not OFF (R91). -/
def Hub.groupUsed (h : Hub) (k : Nat) : Bool := (upTo (4 * k + 1) 4).any (fun n => decide (h.live? (outIdx n) 1 ≠ 0))

/-- Step 5: front ends, output references, headphones and speaker; pads of fallback ports (R91, R117, R353, R381). -/
def Hub.frontEnds (h : Hub) : Hub :=
  let groups := (List.range 8).filter h.groupUsed
  let v := groups.foldl (fun v k => v + 2 ^ (12 + k)) 0xF00FFF
  let h := h.modPwr (fun p => { p with enable := v, domains := v, padHeld := if h.live? 0x9000 0x12 = 1 then clearBits p.padHeld (h.live? 0x1210 1) else p.padHeld })
  let k := key 0x9000 7
  let h := { h with objs := tput h.objs k v, live := tput h.live k v }
  let h := h.forAll (upTo 1 52) Hub.settle
  let h := h.forAll (upTo 1 4) Hub.connectMic
  let h := groups.foldl (fun h k => (upTo (4 * k + 1) 4).foldl (fun h n =>
    h.outputPower n (h.settledCfg n)) h) h
  let h := h.forAll (upTo 1 4) (fun h m =>
    h.modHeadMic m (fun x => { x with biasEnable := decide (h.live? (hmIdx m) 1 = 1), biasVoltage := h.live? (hmIdx m) 2
                                      bias := if h.live? (hmIdx m) 1 = 1 then .on else .off }))
  h.hpsPower

/-- R455: a low TEST_N sampled at step 1 leaves the hub in factory test. -/
def Hub.strapsSampled (h : Hub) : Hub := (h.modTwi (fun t => { t with adr := h.ext.adrPins })).modBoot (fun b => { b with factoryTest := !h.ext.testN })

/-- QSPI_CLK is the highest of FABCLK, FABCLK/2 and FABCLK/4 that the flash declares for quad output read (R469; log 144). -/
def Hub.qspiStart (h : Hub) : Hub :=
  let f := h.ext.flashQuadHz
  h.modBoot (fun b => { b with qspiDiv := if 98304000 ≤ f then 1 else if 49152000 ≤ f then 2 else 4 })

/-- R387: the next timed step falls due. -/
def Hub.bringUpStep (h : Hub) (unreadable : Bool) (failed : List (Nat × Nat)) : Hub :=
  let at_ (s : Nat) (h : Hub) : Hub := h.modBoot (fun b => { b with step := s })
  if h.boot.factoryTest ∨ h.pwr.stable then h
  else
    match h.boot.step with
    | 0 => at_ 1 h.strapsSampled
    | 1 => at_ 2 h
    | 2 => at_ 3 (h.storeRead unreadable failed)
    | 3 => if h.ext.xinOk || h.clk.bootHold then at_ 4 h.framesStart else h
    | 4 => if h.bootTime 35 ≤ h.now then at_ 5 h.frontEnds else h
    | 5 => if h.bootTime 40 ≤ h.now then at_ 6 h.qspiStart else h
    | _ => h

/-! ## Reduced service (R387 step 7, R390) -/

/-- A timer's period counts from its write in whole blocks, rounded up (R337). -/
def Hub.timerSet (h : Hub) (i : Nat) : Hub :=
  let us_ := h.live? 0xA000 (8 + i)
  if us_ = 0 then h.cancel (.timer i) else h.startAt (.timer i) (h.now + (us us_ + 31) / 32 * 32)

/-- R387 step 7: the fallback routes are live, the fallback ports start, the clocks run (R203), and events are served. -/
def Hub.reducedService (h : Hub) : Hub :=
  if h.boot.step = 6 ∧ h.bootTime (if h.clk.bootHold then 80 else 60) ≤ h.now then
    let h := h.modBoot (fun b => { b with step := 7, service := 1 })
    let h := h.clockStart.modPwr (fun p => { p with latch := none })
    let h := (h.routes.filter h.routeKept).foldl (fun h v =>
      h.modSink (routeSink v) (fun x => { x with source := routeSource v, fbGain := some (routeLevel v) })) h
    let h := h.forAll ((List.range 8).filter h.fallbackPort) (fun h p => h.modPort p (fun x => { x with startDue := true }))
    let h := ((h.timerSet 0).timerSet 1).cause evResetFlags
    h.when (decide (h.pwr.padHeld ≠ 0)) (·.cause evPadHold)
  else h

/-! ## The image check and the handover (R395 to R397, R422) -/

/-- BOOT_RESULT of a checked image (R422). -/
def Hub.bootResultOf (h : Hub) (image : List Byte) (recordsOk signatureOk : Bool) : Nat :=
  if h.ext.updatePending = true ∨ field image 0 4 ≠ 0x48513136 then 2
  else if h.headerError image false true ≠ 0 then 3
  else if imageSecurity image < h.ext.counter then 6
  else if recordsOk = false then 4
  else if signatureOk = false then 5
  else 1

/-- The loader finishes checking the image: step 1 of R396, or reduced service with E2 and E116 (R397). -/
def Hub.imageChecked (h : Hub) (image : List Byte) (recordsOk signatureOk : Bool) : Hub :=
  if 6 ≤ h.boot.step ∧ h.boot.bootResult = 0 ∧ h.boot.full = false ∧ h.pwr.progress ≠ 3 ∧ h.pwr.stable = false ∧ h.supply.vioFault = false then
    let r := h.bootResultOf image recordsOk signatureOk
    let h := h.modBoot (fun b => { b with bootResult := r })
    if r = 1 then
      { h.modBoot (fun b => { b with thDue := true, header := image.take 320, versions := imageVersions image }) with sup := { h.sup with running := true } }
    else (h.cause evReducedService).cause evUpdateFailed
  else h

/-- Buses of the objects that differ from their defaults. -/
def Hub.storedBuses (h : Hub) : List Nat := (List.range 64).filter (fun b => h.objs.any (fun e => decide (e.1 / 256 = busIdx b)))

/-- The object is one read "from the next reset" (class 4 of R267): the value in force stays that of the last reset. -/
def fromReset (k : Nat) : Bool := match describe (k / 256) (k % 256) with | some (_, r) => decide (r.cls = 4) | none => false

/-- The accepted values come into force, but for those that wait for a reset. -/
def Hub.liveAll (h : Hub) : Table Nat :=
  (h.live.filter (fun e => fromReset e.1)).foldl (fun t e => tput t e.1 e.2) (h.objs.filter (fun e => !fromReset e.1))

/-- The datapath tables that waited for full service take their stored values (R388, R396). -/
def Hub.tablesStored (h : Hub) : Hub :=
  let mute (v : Nat) : Fade := Fade.steady (if v = 1 then 0 else unity)
  let h := { h with live := h.liveAll }
  let h := h.forAll (upTo 1 52) (fun h n => h.forAll (List.range 8) (fun h k =>
    match tget h.live (key (trimIdx n) (k + 1)) with
    | some v => { h with trims := tput h.trims (8 * n + k) (Ramp.steady (.db (toS32 v : Int))) }
    | none => h))
  let h := h.forAll h.storedBuses (fun h b =>
    let h := h.modBus b (fun x => { x with gain := Ramp.steady (gainLevel (h.live? (busIdx b) 0x41)), mute := mute (h.live? (busIdx b) 0x42) })
    let h := h.forAll (upTo 1 64) (fun h k =>
      match tget h.live (key (busIdx b) k) with
      | some e => h.modTerm (termKey b k) (fun t =>
          { t.take e with gain := Ramp.steady (gainLevel (entryGain e)), fade := Fade.steady (if entryEnable e then unity else 0) })
      | none => h)
    (h.rescale b).modBus b (fun x => { x with scale := Ramp.steady x.scale.target }))
  let h := h.forAll (List.range 8) (fun h g =>
    let i := genIdx g
    h.modGen g (fun _ =>
      { type := h.live? i 1, target := h.live? i 1, phase := .steady, fade := Fade.steady (if h.live? i 1 = 0 then 0 else unity)
        level := Ramp.steady (gainLevel (h.live? i 3)), freq := h.live? i 2 }))
  let h := h.forAll (List.range 128) (fun h i =>
    match tget h.live (key 0x6800 (i + 1)) with
    | some e => h.modSlot i (fun t =>
        { t.take e with gain := Ramp.steady (gainLevel (entryGain e)), fade := Fade.steady (if entryEnable e then unity else 0) })
    | none => h)
  let h := h.forAll (List.range 8) (fun h b => h.modShort b (fun x => { x with gain := Ramp.steady (gainLevel (h.live? 0x6800 (0x81 + b))) }))
  h.forAll (upTo 1 32) (fun h n => h.shortSelApply n (h.live? (outIdx n + 1) 7))

/-- A sink crossfades over 20 ms from its route, or from silence, to its stored selection; a stored SOURCE of 0 on a routed sink adopts the route's
source (R396 step 2). -/
def Hub.sinkHandover (h : Hub) (s : Nat) : Hub :=
  let x := h.sink s
  let stored := h.live? (selIdx s) 1
  let new := if stored = 0 then x.source else stored
  if x.fbGain = none ∧ stored = 0 then h
  else
    let k := key (selIdx s) 1
    let h := if stored = new then h else { h with objs := tput h.objs k new, live := tput h.live k new }
    (h.modSink s (fun y => { y with xfade := some { old := x.source, new := new, t0 := h.now, len := ms 20 }, source := new, held := none })).start (.sinkXfade s) (ms 20)

/-- Sinks that a route or a stored selection names. -/
def Hub.sinksInUse (h : Hub) : List Nat :=
  let stored := (h.objs.map (fun (e : Nat × Nat) => e.1)).filter (fun k => decide (k % 256 = 1) && decide (0x6000 < k / 256) && decide (k / 256 < 0x61C0))
  ((h.sinks.map (fun (e : Nat × Sink) => e.1)) ++ stored.map (fun k => k / 256 - 0x6000)).foldl (fun l s => withOne l s) []

/-- A fallback port at TH: synchronous where R228 allows, else across to ASRC (R258, R396 step 3). -/
def Hub.portHandover (h : Hub) (p : Nat) : Hub :=
  if (h.port p).state = .stopped ∨ h.isMaster p = true then h
  else
    let sync := h.isSyncSlave p
    let h := if sync && decide (h.live? 0x4400 0x85 = 1) then (h.modPort p (fun x => { x with reserve := true })).reserveAll p else h
    if sync && (h.syncAllowed p || decide ((h.port p).state = .waitClock)) then h else h.handOver p

/-- TH: the stored selections take over at this block boundary (R396 steps 2 and 3). -/
def Hub.handover (h : Hub) : Hub :=
  let h := { h with boot := { h.boot with thDue := false, full := true, step := 8 } }
  let h := h.tablesStored.placeStored
  let h := h.forAll (upTo 1 48) (fun h n => h.modTandem n Tandem.startOnM)
  let h := h.forAll h.sinksInUse Hub.sinkHandover
  let fb := h.live? 0x1210 1
  let h := h.forAll (List.range 8) (fun h p =>
    if bit fb p then h.portHandover p
    else if h.live? (portIdx p) 0x13 = 1 then h.modPort p (fun x => { x with startDue := true }) else h)
  h.start .handoverService (ms 20)

/-- The handover's part of a block boundary. A supervisor restart during step 1 holds it (R397). -/
def Hub.handoverBoundary8 (h : Hub) : Hub :=
  if h.boot.thDue && decide (h.boot.service = 1) && !h.sup.restarting then h.handover else h

/-- R396 step 4: SERVICE 2, FULL_SERVICE_AT and E1, at the first block boundary 20 ms after TH. -/
def Hub.fullService (h : Hub) : Hub :=
  if h.boot.full ∧ h.boot.service = 1 ∧ h.now % 32 = 0 then
    h.whenDue .handoverService (fun h => (h.modBoot (fun b => { b with service := 2, fullAt := h.frameCount })).cause evFullService)
  else h

/-! ## The meanings of the rows -/

/-- R387. -/
def execReducedServiceStart (s : State) : Out := always Hub.reducedService s
/-- R396, R397. -/
def execBootImageChecked (image : List Byte) (recordsOk signatureOk : Bool) (s : State) : Out := always (·.imageChecked image recordsOk signatureOk) s
/-- R396. -/
def execFullService (s : State) : Out := always Hub.fullService s
/-- R399, R426. -/
def execPowerOnReset (s : State) : Out := .next (s.reboot (·.resetBy 1 true 0))
/-- R399. -/
def execResetN (s : State) : Out := .next (s.reboot (·.resetBy 2 false 0))
/-- R399, R431: each of the three causes ends in the same reset. -/
def execCoreBrownOut (_cause : BrownOut) (s : State) : Out := .next (s.reboot (·.resetBy 3 false 0))
/-- R431. -/
def execLowPowerBrownOut (s : State) : Out := .next s.lowPowerBrownOut
/-- R399. -/
def execThermalReset (s : State) : Out := .next (s.reboot (·.resetBy 5 false 0))
/-- R369. -/
def execStableEntryComplete (s : State) : Out := .next s.stableEntry
/-- R370. -/
def execStableWake (c : WakeSource) (s : State) : Out := .next (s.wake c)
/-- R370. -/
def execWakeTimerExpiry (s : State) : Out := .next (s.wake .timer)
/-- R370. -/
def execWakeComparatorFire (c : Nat) (s : State) : Out := if isChannel c then .next (s.wake (.comparator c)) else .refused .noSuchInstance

end Sys2Proof.Machine
end

