-- ==== Sys2Proof/Machine/Frame.lean ====
section
/-! DEFINITION. One core frame of audio (R19, R79, R110, R114, R131, R138 to R141, R181): sources, buses, sinks, process rings, outputs, and the
768 kHz stages. Frame `now` is finished here; the next begins in Boundary. -/

namespace Sys2Proof.Machine

/-- Outgoing and incoming value under an equal-gain crossfade at time `f` (R134, R82, R83). -/
def crossfade (t0 len f : Nat) (old new : Int) : Int :=
  if f < t0 then old
  else let w := raisedCosine 0 unity (f - t0) len; roundFree (old * ((unity - w : Nat) : Int) + new * (w : Int)) unity

/-! ## Inputs (R19, R38, R39, R69) -/

/-- M's full scale, -24 dBFS (R53, R69). -/
def mFullScale : Int := scaleBy s32Max (Level.db (-2400)).amp

/-- Sign and fades common to the core and the short-path stream of a source (R38, R43, R124). -/
def Hub.streamFades (h : Hub) (src : Nat) (x : Int) : Int :=
  let s := h.stream src
  let y := if s.inverted then -x else x
  let fades := [s.gate.at h.now, s.polFade.at h.now]
  if src ≤ 48 then if (h.input src).lossZero then 0 else product y fades
  else let m := h.headMic (src - 48); if m.connected then product y (m.key.at h.now :: fades) else 0

/-- R41, R69, R73: whether the frame of input `n` counts as clipped. -/
def Hub.clippedFrame (h : Hub) (n : Nat) (x : Int) : Bool :=
  isClip x || ((h.input n).tandem.mFull && (!h.boot.full || (h.input n).tandem.l.excluded))

/-- The core stream of a source runs one frame (R19): its decimator on the look-ahead output of the frame, or on what the converter of a headset
microphone gave; the high-pass filter; saturation at M's full scale where L is excluded (R69). -/
def Hub.decimate (h : Hub) (src : Nat) (raw : List Int) : Hub :=
  let mic := decide (48 < src)
  let low := !mic && (h.input src).tandem.l.excluded
  h.modStream src (fun s =>
    let d := s.decimator.run (if mic then .mic else .core) h.boot.filterPhase raw
    let y := s.highPass (d.value 0)
    let x := if low then clampInt (-mFullScale) mFullScale y.2 else y.2
    { y.1 with decimator := d, sample := x })

/-- The core-stream sample, meters and clip counting of a source in this frame (R19, R41, R175). A source without power carries zero. -/
def Hub.inputFrame (h : Hub) (src : Nat) (raw : List Int) : Hub :=
  if h.fe src = .unpowered ∨ h.fe src = .hwMuted then
    if (h.stream src).sample = 0 then h else h.modStream src (fun s => { s with sample := 0 })
  else
    let h := h.decimate src raw
    let x := satS32 (h.streamFades src (h.stream src).sample)
    let h := h.modStream src (fun s => { s with sample := x, blockPeak := max s.blockPeak x.natAbs })
    if src ≤ 48 ∧ h.clippedFrame src x = true then h.inputClip src else h

/-- What the decimator of a source takes in this frame: eight samples of the look-ahead combiner, or the word of a headset microphone. -/
def Hub.frameInput (h : Hub) (xs : List (Nat × Int)) (src : Nat) : List Int :=
  if src ≤ 48 then (h.input src).tandem.samples else [wordOf xs src]

/-! ## DSP returns (R181, R187, R188) -/

/-- The sample of channel `c` of process `p` from `d` frames earlier. -/
def Hub.past (h : Hub) (p d c : Nat) : Int := h.sramRead (.processRing p d c) ((((h.proc p).ring.drop (d - 1)).headD []).getD c 0)

/-- Delay crossfade of tap `t` (R186): the sample of channel `c` at its delay and gain. -/
def Hub.tapValue (h : Hub) (p c t : Nat) : Int :=
  let x := h.proc p
  let at_ (d : Nat) : Int := h.past p (x.latency + d) c
  let y := match tget x.taps t with
    | some k => crossfade k.t0 k.len h.now (at_ k.old) (at_ k.new)
    | none => at_ (us (h.paramLive p (2 * t)))
  let g := match tget x.ramped (0x11 + 2 * t) with
    | some r => r.at h.now
    | none => gainLevel (h.paramLive p (2 * t + 1))
  scaleBy y g.amp

/-- BYPASS_GAIN[c] as a word (R180, R198): the gain at the last checkpoint for DYN and AUTOMIX, else 0 dB. -/
def Hub.bypassGain (h : Hub) (p c : Nat) : Nat :=
  let x := h.proc p
  if x.type = 3 ∨ x.type = 6 then match x.newest with | some k => k.st.gains.getD c 0 % 4294967296 | none => 0 else 0

/-- What bypass carries on return `c` (R188). -/
def Hub.bypassSample (h : Hub) (p c : Nat) : Int :=
  if h.live? (procIdx p) 0x0B = 1 then 0
  else if (h.proc p).type = 4 then h.tapValue p c 0
  else scaleBy (h.past p (h.proc p).latency c) (gainLevel (h.bypassGain p c)).amp

/-- A parameter as the process reads it in this frame: one that ramps as a multiplier in 2^-60, any other as its word (R186). -/
def Hub.paramNow (h : Hub) (p sub : Nat) : Int :=
  let x := h.proc p
  if isRamped x.type sub then
    (((tget x.ramped sub).map (fun (r : Ramp) => (r.at h.now).amp)).getD (gainLevel (h.paramValue p sub)).amp : Nat)
  else (h.paramValue p sub : Nat)

/-- LOUD reports no loudness before its first gated block (R199). -/
def shownState (ty : Nat) (s : Config.ProcState) : Config.ProcState :=
  if ty = 8 ∧ s.gated = false then { s with report := [minusInf, minusInf, minusInf] ++ s.report.drop 3 } else s

/-- What the process computes in this frame for its returns, and the state it reaches: LOUD returns its input, DLY the sum of its taps; the others are
free (log 16). -/
def Hub.processed (h : Hub) (p : Nat) : Config.ProcState × List Int :=
  let x := h.proc p
  let sends := (List.range x.channels).map (h.past p x.latency)
  let params := ((List.range 64).map (0x10 + ·) ++ (List.range 32).map (0x60 + ·)).map (h.paramNow p)
  let r := Config.process x.type x.option params x.st sends ((List.range x.channels).map (h.past p 1))
  match x.type with
  | 4 => (x.st, (List.range x.channels).map (fun c => ((List.range x.option).map (h.tapValue p c)).foldl (· + ·) 0))
  | 8 => (shownState 8 r.1, sends)
  | t => (shownState t r.1, r.2)

/-- A process runs one frame: its lane computes where it can, and each return mixes the processed signal and bypass (R188). -/
def Hub.processFrame (h : Hub) (p : Nat) (x : Process) : Process :=
  if x.state = 0 then { x with returns := [] }
  else
    let r := if h.computes x then h.processed p else (x.st, [])
    let w := x.wet.at h.now
    let mix (c : Nat) : Int :=
      satS32 (roundFree ((r.2.getD c 0 * (w : Int) + h.bypassSample p c * ((unity - w : Nat) : Int)) * (x.out.at h.now : Int)) (unity * unity))
    { x with st := r.1, returns := (List.range x.channels).map mix }

def Hub.returnsFrame (h : Hub) : Hub := { h with procs := h.procs.map (fun (e : Nat × Process) => (e.1, h.processFrame e.1 e.2)) }

/-- What return `i` carries (R133). -/
def Hub.returnOf (h : Hub) (i : Nat) : Int :=
  match h.coverOf i with
  | some p => (h.proc p).returns.getD (i - (h.proc p).slot) 0
  | none => 0

/-- The sends of this frame enter the rings (R187, R196). -/
def Hub.ringsFrame (h : Hub) : Hub :=
  { h with procs := h.procs.map (fun (e : Nat × Process) =>
      let x := e.2
      if x.state = 0 then e
      else
        let sends := (List.range x.channels).map (fun c => (h.sink (0x180 + x.slot + c)).sample)
        (e.1, { x with ring := (sends :: x.ring).take (x.poolBytes / (4 * x.channels)) })) }

/-! ## Sources (R131, R133) -/

/-- One shift of a 32-bit maximal-length sequence (R137, log 13). -/
def noiseShift (x : BitVec 32) : BitVec 32 := if x.getLsbD 0 then (x >>> 1) ^^^ Config.noiseTaps else x >>> 1

/-- The next word of a noise generator: 32 shifts (log 13). -/
def noiseWord (seed x : BitVec 32) : BitVec 32 := (List.range 32).foldl (fun x _ => noiseShift x) (if x = 0 then seed else x)

/-- A sine of full amplitude at a phase in 1/96,000,000 turn, in S32 steps. -/
def sineSample (angle : Nat) : Int :=
  let a : Int := if angle ≤ 48000000 then angle else (angle : Int) - 96000000
  roundFree (fixSin ((fixPi : Int) * a / 48000000) * 2147483648) fixOne

/-- A generator runs one frame (R137): the sine's phase goes on by its frequency, a noise takes its next word through its shaping filter. -/
def Generator.advance (x : Generator) (g : Nat) : Generator :=
  match x.type with
  | 0 => { x with sample := 0 }
  | 1 => { x with angle := (x.angle + x.freq) % 96000000, sample := sineSample x.angle }
  | t =>
    let w := noiseWord (Config.noiseSeed g) x.noise
    let f := x.shape.run (if t = 2 then .white else .pink) 0 [w.toInt]
    { x with noise := w, shape := f, sample := f.value 0 }

def Hub.generatorsFrame (h : Hub) : Hub := { h with gens := h.gens.map (fun (e : Nat × Generator) => (e.1, e.2.advance e.1)) }

/-- A generator's sample (R137). -/
def Hub.generatorSample (h : Hub) (g : Nat) : Int :=
  let x := h.gen g
  if x.type = 0 then 0 else satS32 (product x.sample [(x.level.at h.now).amp, x.fade.at h.now])

/-- The sample a source carries in this frame. -/
def Hub.sourceSample (h : Hub) (id : Nat) : Int :=
  if id = 0 then 0
  else if id ≤ 0x34 then (h.stream id).sample
  else if 0x40 ≤ id ∧ id ≤ 0x13F then h.portSource ((id - 0x40) / 32) ((id - 0x40) % 32) h.now
  else if 0x140 ≤ id ∧ id ≤ 0x17F then (h.bus (id - 0x140)).sample
  else if 0x180 ≤ id ∧ id ≤ 0x1BF then h.returnOf (id - 0x180)
  else if 0x1C0 ≤ id ∧ id ≤ 0x1C7 then h.generatorSample (id - 0x1C0)
  else if 0x1D0 ≤ id ∧ id ≤ 0x1D3 then h.readerSample (id - 0x1D0)
  else 0

/-! ## Buses (R138 to R141, R144) -/

/-- A term reaches -80 dBFS, 10^-4 of full scale (R144). -/
def heard (x : Int) : Bool := decide (2147483648 * 32 ≤ 10000 * x.natAbs)

/-- Crosspoint `k` of bus `b`: its term and whether it saturated. -/
def Hub.termOf (h : Hub) (b k : Nat) : Int × Bool :=
  let t := h.term (termKey b k)
  if t.enabled then t.value (h.sourceSample t.source) (h.trimAmp t.trimMove t.source (h.busOwner b) h.now) h.now else (0, false)

/-- The sums of R140 over the listed crosspoints of a bus: accumulator, and whether a term saturated. -/
def Hub.busSum (h : Hub) (b : Nat) : Int × Bool :=
  (h.listed b).foldl (fun (a : Int × Bool) k => let t := h.termOf b k; (a.1 + t.1, a.2 || t.2)) (0, false)

/-- The last peaks that signal sensing looks at. -/
def Hub.notePeaks (h : Hub) (b : Nat) : Hub :=
  h.forAll (h.listed b) (fun h k => if heard (h.termOf b k).1 then h.modTerm (termKey b k) (fun t => { t with lastPeak := some h.now }) else h)

/-- R141: a clipped frame of a bus. -/
def Hub.busClip (h : Hub) (b : Nat) (terms : Bool) : Hub :=
  let h := (h.modBus b (fun x => { x with clippedNow := true, termSatNow := x.termSatNow || terms })).countBusClip b
  h.episode (.busClip b) (ms 100) (·.cause evBusClip)

/-- One bus in this frame. -/
def Hub.busFrame (h : Hub) (b : Nat) : Hub :=
  let x := h.bus b
  let s := h.busSum b
  let y := busOut s.1 [(x.scale.at h.now).amp, (x.gain.at h.now).amp, x.mute.at h.now]
  let h := h.notePeaks b
  let h := h.modBus b (fun x =>
    { x with sample := y.1, blockPeak := max x.blockPeak y.1.natAbs, scaleRampedNow := x.scaleRampedNow || x.scale.moving h.now })
  if y.2 || s.2 then h.busClip b s.2 else h

/-- The buses that anything is known of, ascending (R138). -/
def Hub.busesInUse (h : Hub) : List Nat :=
  (List.range 64).filter (fun b => (tget h.buses b).isSome || !(h.listed b).isEmpty)

/-! ## Sinks (R20, R134, R174, R390) -/

/-- A source as one sink selects it: its trim saturates before the stages of the sink; a fallback route has its own gain and no trim. -/
def Hub.selected (h : Hub) (s src : Nat) (route : Option Level) : Int :=
  let x := h.sourceSample src
  match route with
  | some g => satS32 (scaleBy x g.amp)
  | none => satS32 (scaleBy x (h.trimAmp (h.sink s).trimMove src (h.sinkOwner s) h.now))

def Hub.sinkSample (h : Hub) (s : Nat) : Int :=
  let x := h.sink s
  match x.xfade with
  | some c => crossfade c.t0 c.len h.now (h.selected s c.old x.fbGain) (h.selected s c.new none)
  | none => h.selected s x.source x.fbGain

/-- A source under a hardware mute, whose zeros carry the privacy flag (R50). -/
def Hub.privateSource (h : Hub) (src : Nat) : Bool := decide (1 ≤ src) && decide (src ≤ 52) && (h.stream src).privacy

/-- The flag of a sink, of whatever it takes. -/
def Hub.sinkPrivate (h : Hub) (s : Nat) : Bool :=
  match (h.sink s).xfade with
  | some c => h.privateSource c.old || h.privateSource c.new
  | none => h.privateSource (h.sink s).source

def Hub.sinksFrame (h : Hub) : Hub :=
  { h with sinks := h.sinks.map (fun (e : Nat × Sink) => (e.1, { e.2 with sample := h.sinkSample e.1, privacy := h.sinkPrivate e.1 })) }

/-! ## Limiters (R81, R110, R114) -/

/-- The largest magnitude a threshold allows. -/
def ceilingOf (c : Int) : Nat := (scaleBy s32Max (Level.db (c : Rat)).amp).natAbs

/-- The multiplier of a gain reduction. -/
def reductionAmp (r : Nat) : Nat := if r = 0 then unity else amplitude (-(mkRat r reductionUnit))

/-- A gain reduction one sample later: it decays exponentially in decibels, with a time constant in microseconds (log 26). -/
def release (reduction tau : Nat) : Nat := reduction * expUnit (-((fixOne * 1000 / (96 * tau) : Nat) : Int)) / unity

/-- The least gain reduction that brings a magnitude to a limit. -/
def reductionTo (limit x : Nat) : Nat := ((ratioDb x limit * (reductionUnit : Rat)).ceil).toNat

/-- One sample through a limiter: what leaves it, and the reduction it leaves behind. `limit` none is a disabled limiter, whose reduction
releases. -/
def limitSample (limit : Option Nat) (tau reduction : Nat) (x : Int) : Int × Nat :=
  let r := release reduction tau
  let y := scaleBy x (reductionAmp r)
  match limit with
  | none => (y, r)
  | some m => if y.natAbs ≤ m then (y, r) else (clampInt (-(m : Int)) m y, max r (reductionTo m x.natAbs))

/-- LIMITING shows a reduction above 0.10 dB (R104, R128). -/
def limits (reduction : Nat) : Bool := decide (10 * reductionUnit < reduction)

/-! ## Outputs (R79, R80 to R83) -/

/-- Most frames a delay line holds (R82). -/
def delayFrames : Nat := 8160

/-- Stages 1 to 4 of an AUDIO output; any other output processes silence. -/
def Hub.outputFrame (h : Hub) (n : Nat) : Hub :=
  let o := h.output n
  if o.powered = true ∧ o.cfg.mode = 1 then
    let x := scaleBy (h.sink n).sample (o.audio.gain.at h.now).amp
    let on := h.live? (outIdx n + 1) 4 = 1
    let l := limitSample (if on then some (ceilingOf (toS32 (h.live? (outIdx n + 1) 5))) else none) (h.live? (outIdx n + 1) 6) o.audio.reduction x
    let line := (l.1 :: o.audio.line).take (delayFrames + 1)
    let tap (d : Nat) : Int := h.sramRead (.delayLine n d) (line.getD d 0)
    let core := match o.audio.delayXfade with
      | some c => crossfade c.t0 c.len h.now (tap c.old) (tap c.new)
      | none => tap o.audio.delay
    h.modAudio n (fun a => { a with reduction := l.2, limitingNow := a.limitingNow || limits l.2, line := line, core := core, interp := a.interp.run .output h.boot.filterPhase [core] })
  else if o.audio.line.isEmpty then h
  else h.modAudio n (fun a => { a with line := (0 :: a.line).take (delayFrames + 1), core := 0, interp := {}, out := 0 })

/-- Stages 1 to 3 of a headphone. -/
def Hub.hpFrame (h : Hub) (j : Nat) : Hub :=
  let x := h.headphone j
  if x.powered then
    let g := (x.gain.at h.now).amp
    let m := ceilingOf (toS32 (h.live? (hpIdx j) 5))
    let l := limitSample (some m) 100000 x.reductionL (scaleBy (h.sink (0x1F + 2 * j)).sample g)
    let r := limitSample (some m) 100000 x.reductionR (scaleBy (h.sink (0x20 + 2 * j)).sample g)
    h.modHeadphone j (fun x =>
      { x with coreL := l.1, coreR := r.1, interpL := x.interpL.run .output h.boot.filterPhase [l.1], interpR := x.interpR.run .output h.boot.filterPhase [r.1], reductionL := l.2, reductionR := r.2
               limitingNow := x.limitingNow || limits l.2 || limits r.2 })
  else h

/-- SUPPLY_LIMIT in 0.01 dB (R114): `20 log10 (0.66 vspk / full_scale) - 0.50`, at most 0 (log 11). -/
def Hub.supplyLimit (h : Hub) : Int :=
  min 0 (wholeDb (ratioDb (66 * (h.level 0x29).toNat) (100 * h.live? spkIdx 7)) - 50)

/-- Stages 1 to 3 of the speaker. -/
def Hub.spkFrame (h : Hub) : Hub :=
  if h.spk.bridgeOn then
    let m := ceilingOf h.supplyLimit
    let xl := scaleBy (h.sink 0x29).sample (h.spk.gainL.at h.now).amp
    let xr := scaleBy (h.sink 0x2A).sample (h.spk.gainR.at h.now).amp
    let l := limitSample (some m) 100000 h.spk.reductionL xl
    let r := limitSample (some m) 100000 h.spk.reductionR xr
    h.modSpk (fun x =>
      { x with coreL := l.1, coreR := r.1, interpL := x.interpL.run .output h.boot.filterPhase [l.1], interpR := x.interpR.run .output h.boot.filterPhase [r.1], reductionL := l.2, reductionR := r.2, limitNowL := x.limitNowL || decide (l.1 ≠ xl)
               limitNowR := x.limitNowR || decide (r.1 ≠ xr), blockPeakL := max x.blockPeakL l.1.natAbs, blockPeakR := max x.blockPeakR r.1.natAbs })
  else h

/-! ## The 768 kHz stages (R79 stages 5 to 8, R110, R114, R156) -/

/-- The predictive stream of input `n` with its sign and fades (R19, R156). -/
def Hub.shortInput (h : Hub) (n : Nat) : Int := if n = 0 then 0 else satS32 (h.streamFades n (h.input n).tandem.pred.y)

/-- Short bus `s`: slots `16 s` to `16 s + 15`. -/
def Hub.shortFrame (h : Hub) (s : Nat) : Hub :=
  let acc := h.slots.foldl (fun (a : Int) (e : Nat × Term) =>
    if e.1 / 16 = s ∧ e.2.enabled = true then a + (e.2.value (h.shortInput e.2.source) unity h.fast).1 else a) 0
  let y := busOut acc [((h.short s).gain.at h.fast).amp]
  h.modShort s (fun x => { x with sample := y.1, clippedNow := x.clippedNow || y.2 })

/-- The short buses that anything is known of. -/
def Hub.shortsInUse (h : Hub) : List Nat :=
  (List.range 8).filter (fun s => (tget h.shorts s).isSome || h.slots.any (fun (e : Nat × Term) => decide (e.1 / 16 = s)))

/-- What a short-bus selection carries (R83): 0xFF is none. -/
def Hub.shortSelected (h : Hub) (sel : Nat) : Int := if sel < 8 then (h.short sel).sample else 0

def Hub.shortOf (h : Hub) (sel : Nat) (x : Option SelFade) : Int :=
  match x with
  | some c => roundFree ((c.weights sel h.fast).foldl (fun (a : Int) e => a + h.shortSelected e.1 * (e.2 : Int)) 0) unity
  | none => h.shortSelected sel

/-- Saturation to ±(2^31 - 1) of stage 8; whether it limited. -/
def saturate8 (x : Int) : Int × Bool := (clampInt (-s32Max) s32Max x, decide (x ≠ clampInt (-s32Max) s32Max x))

def Hub.outputSample (h : Hub) (n : Nat) : Hub :=
  let o := h.output n
  if o.powered = true ∧ o.cfg.mode = 1 then
    let a := o.audio
    let x := a.interp.value h.sub + h.shortOf a.short a.shortXfade
    let y := saturate8 (product x [a.mute.at h.now, a.protect.at h.now, a.panicFade.at h.now])
    h.modAudio n (fun a => { a with out := y.1, saturatedNow := a.saturatedNow || y.2, blockPeak := max a.blockPeak y.1.natAbs })
  else h

def Hub.hpSample (h : Hub) (j : Nat) : Hub :=
  let x := h.headphone j
  if x.powered then
    let m (v : Int) : Int := product v [x.mute.at h.now, x.gate.at h.now, x.fade.at h.now, x.panicFade.at h.now]
    let l := saturate8 (m (x.interpL.value h.sub + h.shortOf x.shortL x.shortXL))
    let r := saturate8 (m (x.interpR.value h.sub + h.shortOf x.shortR x.shortXR))
    h.modHeadphone j (fun x =>
      { x with outL := l.1, outR := r.1, saturatedNow := x.saturatedNow || l.2 || r.2
               blockPeakL := max x.blockPeakL l.1.natAbs, blockPeakR := max x.blockPeakR r.1.natAbs })
  else h

def Hub.spkSample (h : Hub) : Hub :=
  if h.spk.bridgeOn then
    let x := h.spk
    let m (v : Int) : Int := product v [x.mute.at h.now, x.fade.at h.now, x.panicFade.at h.now]
    h.modSpk (fun x => { x with outL := satS32 (m (x.interpL.value h.sub)), outR := satS32 (m (x.interpR.value h.sub)) })
  else h

/-- R58, R61, R21, R156: one 768 kHz sample of the combiners, the short buses and the output stages. The harness is idle in Watch (R363). -/
def Hub.pathSample (h : Hub) (xs : List (Nat × PathSample)) : Hub :=
  let go := h.framesRun && decide (h.sub < 8)
  let sub := h.sub
  let h := h.combinerSample xs
  if go && decide (h.pwr.state ≠ 1) then
    let h := { h with sub := sub }.slotZeros
    let h := h.forAll h.shortsInUse Hub.shortFrame
    let h := ((h.forAll (h.outs.map (·.1)) Hub.outputSample).forAll (h.hps.map (·.1)) Hub.hpSample).spkSample
    { h with sub := sub + 1 }
  else h

/-! ## One frame -/

/-- The harness of frame `now`, from the samples of the inputs and headset microphones. -/
def Hub.audioFrame (h : Hub) (xs : List (Nat × Int)) : Hub :=
  let h := h.forAll (upTo 1 52) (fun h src => h.inputFrame src (h.frameInput xs src))
  if h.pwr.state = 1 then h
  else
    let h := (h.forAll (List.range 8) Hub.portInputs).returnsFrame.generatorsFrame
    let h := h.forAll h.busesInUse Hub.busFrame
    let h := h.sinksFrame.ringsFrame
    let h := h.forAll (List.range 8) Hub.portOutputs
    ((h.forAll (h.outs.map (·.1)) Hub.outputFrame).forAll (h.hps.map (·.1)) Hub.hpFrame).spkFrame

/-! ## Meters (R175, R294) -/

/-- A magnitude as a meter shows it: -32768 for digital zero, 0 at full scale, else rounded as the hub does (log 11). -/
def meterDb (m : Nat) : Int :=
  if m = 0 then -32768 else if 2147483648 ≤ m then 0 else clampInt (-32767) 0 (wholeDb (ratioDb m 2147483648))

/-- PEAK plus the trim of a host in force at the end of the block (R175). -/
def Hub.hostPeak (h : Hub) (src k : Nat) (peak : Int) : Int :=
  if peak = -32768 then -32768
  else match (h.trim src k).at (h.now - 1) with
    | .db c => peak + wholeDb c
    | .lin _ => -32768

/-- Meters of a stream at the end of a block. -/
def Hub.streamMeter (h : Hub) (src : Nat) : Hub :=
  if (h.stream src).blockPeak = 0 ∧ (h.stream src).peak = -32768 then h
  else
    let p := meterDb (h.stream src).blockPeak
    h.modStream src (fun s => { s with peak := p, blockPeak := 0, hostPeaks := (List.range 8).map (fun k => h.hostPeak src k p) })

/-- The meters, and the flags of the last block that status objects show (R83, R94, R143, R157). -/
def Hub.meters (h : Hub) : Hub :=
  let h := h.forAll (upTo 1 52) Hub.streamMeter
  let h := { h with outs := h.outs.map (fun (e : Nat × Output) =>
    let a := e.2.audio
    (e.1, { e.2 with audio := { a with peak := if e.2.cfg.mode = 1 ∧ e.2.powered = true then meterDb a.blockPeak else -32768, blockPeak := 0, saturated := a.saturatedNow, saturatedNow := false
                                       limiting := a.limitingNow, limitingNow := false } })) }
  let h := { h with hps := h.hps.map (fun (e : Nat × Headphone) =>
    (e.1, { e.2 with peakL := meterDb e.2.blockPeakL, peakR := meterDb e.2.blockPeakR, blockPeakL := 0, blockPeakR := 0, limiting := e.2.limitingNow
                     limitingNow := false, saturated := e.2.saturatedNow, saturatedNow := false })) }
  let h := h.modSpk (fun x =>
    { x with peakL := meterDb x.blockPeakL, peakR := meterDb x.blockPeakR, blockPeakL := 0, blockPeakR := 0, limitL := x.limitNowL, limitR := x.limitNowR
             limitNowL := false, limitNowR := false })
  let h := { h with buses := h.buses.map (fun (e : Nat × Bus) =>
    (e.1, { e.2 with peak := meterDb e.2.blockPeak, blockPeak := 0, clipped := e.2.clippedNow, clippedNow := false, termSat := e.2.termSatNow
                     termSatNow := false, scaleRamping := e.2.scaleRampedNow, scaleRampedNow := false })) }
  { h with
    sbClipped := h.shorts.foldl (fun (n : Nat) (e : Nat × ShortBus) => if e.2.clippedNow then n + 2 ^ e.1 else n) 0
    shorts := h.shorts.map (fun (e : Nat × ShortBus) => (e.1, { e.2 with clippedNow := false })) }

/-! ## The meaning of the row -/

/-- R58. -/
def execCombinerSample (xs : List (Nat × PathSample)) (s : State) : Out := always (·.pathSample xs) s

end Sys2Proof.Machine
end

