-- ==== Sys2Proof/Machine/Writes.lean ====
section
/-! DEFINITION. Writes to the object dictionary: the checks of R264 in their order, acceptance (R266), and how an accepted write comes into
force by the timing class of its object (R267). -/

namespace Sys2Proof.Machine

/-! ## Access (R263 to R265) -/

def Acc.readable : Acc → Bool
  | .wo _ | .woOwner | .woOwnerOp | .woHost | .woHostInst => false
  | _ => true

def Acc.writable : Acc → Bool
  | .ro | .roHost => false
  | _ => true

/-- Commands: written, and never read back as a setting. -/
def Acc.command (a : Acc) : Bool := !a.readable

/-- A setting whose accepted and present values the dictionary holds. -/
def Acc.setting : Acc → Bool
  | .rw _ | .rwOwner | .rwOwnerOp | .rwHost | .rwHostInst => true
  | _ => false

/-- The host number a row is restricted to (host slots, trims, bank modes); events are those of the host that asks. -/
def Blk.hostOf (b : Blk) (sub : Nat) : Option Nat :=
  match b with
  | .hostSlot k => some k
  | .trims _ => some (sub - 1)
  | .bank => if sub ≤ 8 then some (sub - 1) else none
  | _ => none

/-- Owner key of an owned object (R168); a send that no process covers has none. -/
def Hub.ownerKeyOf (h : Hub) (b : Blk) : Option Nat :=
  match b with
  | .inFront n => some (ownerKey 1 n)
  | .hmFront m => some (ownerKey 1 (48 + m))
  | .outCfg n | .outAudio n | .outCv n => some (ownerKey 2 n)
  | .hpAudio j | .hpJack j => some (ownerKey 3 j)
  | .speaker => some (ownerKey 4 0)
  | .port p => some (ownerKey 5 p)
  | .bus b => some (ownerKey 7 b)
  | .process p => some (ownerKey 8 p)
  | .selector s => h.sinkKey s
  | _ => none

/-- The first abort code of a list of checks, 0 where all pass. -/
def firstAbort : List Nat → Nat
  | [] => 0
  | a :: r => if a = 0 then firstAbort r else a

/-- An abort code where a condition fails. -/
def abortUnless (c : Bool) (code : Nat) : Nat := if c then 0 else code

/-- A process is present: placed and not yet freed (R198). -/
def Hub.present (h : Hub) (p : Nat) : Bool := h.placed p

/-- Fixed fields of a process (R198). -/
def Hub.fixedField (h : Hub) (p sub : Nat) : Bool :=
  (decide (1 ≤ sub) && decide (sub ≤ 4)) || (decide (0x10 ≤ sub) && decide (sub < 0x50) && paramFixed (h.procType p) (sub - 0x10))

/-- Check 1 of R264; CLAIM and the identity objects skip it (R165). -/
def Hub.claimCheck (h : Hub) (host idx sub : Nat) (write : Bool) : Nat :=
  let free := (decide (0x1100 ≤ idx) && decide (idx < 0x1108) && decide (sub = 1)) || (!write && decide (0x1000 ≤ idx) && decide (idx ≤ 0x1018))
  abortUnless (h.claimed host || free) 0x0C

/-- Check 4 of R264 for a write. -/
def Hub.directionCheck (h : Hub) (b : Blk) (r : Row) (sub : Nat) : Nat :=
  let fixed := match b with | .process p => h.fixedField p sub && h.present p | _ => false
  abortUnless (r.acc.writable && !fixed) 0x05

/-- Check 5 of R264 for a write. -/
def Hub.roleCheck (h : Hub) (host : Nat) (b : Blk) (r : Row) (sub : Nat) : Nat :=
  let role := h.role host
  let self := match b.hostOf sub with | some k => decide (k = host) | none => true
  match b with
  | .vendor => 0x03
  | _ =>
    match r.acc with
    | .rw n | .wo n | .w1c n => abortUnless (decide (n ≤ role)) 0x03
    | .zeroOnly => abortUnless (decide (role = 2)) 0x03
    | .rwOwner | .rwOwnerOp | .woOwner | .woOwnerOp => abortUnless (decide (1 ≤ role)) 0x03
    | .rwHost | .w1cHost => abortUnless self 0x03
    | .woHost => abortUnless (self && decide (1 ≤ role)) 0x03
    | .rwHostInst | .woHostInst => abortUnless ((self && decide (1 ≤ role)) || decide (role = 2)) 0x03
    | .ro | .roHost => 0

/-- Check 6 of R264 (R169): the owner or an Installer; any Operator stages an absent process without an owner, its fixed parameters too (R198). -/
def Hub.ownerCheck (h : Hub) (host : Nat) (b : Blk) (r : Row) (sub : Nat) : Nat :=
  let key := h.ownerKeyOf b
  let mine := decide (key.bind h.ownerInForce = some host) || decide (h.role host = 2)
  let absent := match b with | .process p => !h.present p && (h.owner (ownerKey 8 p)).isNone | _ => false
  let fixed := match b with | .process p => h.fixedField p sub | _ => false
  match r.acc with
  | .rwOwner | .woOwner => abortUnless (mine || (absent && fixed)) 0x04
  | .rwOwnerOp | .woOwnerOp => abortUnless (mine || absent) 0x04
  | _ => 0

/-- Check 7 of R264: type code and length; a few objects take one length of their own. -/
def typeCheck (b : Blk) (r : Row) (sub ty : Nat) (data : List Byte) : Nat :=
  let n := data.length
  let own :=
    match b with
    | .outCv _ => if sub = 2 then decide (n % 4 = 0) && decide (n ≠ 0) else true
    | .events => if sub ≤ 2 then decide (n = 16) else true
    | .update => if sub = 2 then decide (5 ≤ n) else if sub = 0x13 then decide (n = 233) else true
    | _ => true
  abortUnless ((decide (ty = 0) || decide (ty = r.ty.number)) && r.ty.lengthOk n && own) 0x07

/-! ## Service outside full service (R275) -/

/-- 0 no service, 1 reads, 2 full: in reduced service. -/
def servedReduced (idx : Nat) : Nat :=
  if 0x1000 ≤ idx ∧ idx ≤ 0x1018 then 1
  else if (0x1100 ≤ idx ∧ idx < 0x1108) ∨ idx = 0x1200 ∨ idx = 0x1210 then 2
  else if idx = 0x8000 ∨ idx = 0xC000 ∨ idx = 0xD000 then 1
  else if idx = 0x9000 ∨ idx = 0xA000 ∨ idx = 0xB000 ∨ idx = 0xE000 then 2
  else 0

/-- The same in Watch. -/
def servedWatch (idx : Nat) : Nat := if idx = 0xB000 then 0 else if idx = 0xE000 then 1 else servedReduced idx

/-- What is served of an index now. -/
def Hub.served (h : Hub) (idx : Nat) : Nat :=
  min (if h.boot.full && !h.sup.loaderOnly then 2 else servedReduced idx) (if h.pwr.state = 1 then servedWatch idx else 2)

/-- Check 8 of R264. -/
def Hub.serviceCheck (h : Hub) (idx : Nat) (write : Bool) : Nat := abortUnless (decide ((if write then 2 else 1) ≤ h.served idx)) 0x0A

/-! ## Values (check 9) -/

/-- A fallback route (R391, R392). -/
def routeOk (v : Nat) : Bool :=
  let sink := routeSink v
  let src := routeSource v
  let g := routeGain v
  let signed : Int := if g < 2048 then g else (g : Int) - 4096
  (decide (sink ≤ 0x2A) || (decide (0x40 ≤ sink) && decide (sink ≤ 0x13F))) && (decide (src ≤ 0x34) || (decide (0x40 ≤ src) && decide (src ≤ 0x13F))) &&
  (decide (g = 0x800) || (decide (-600 ≤ signed) && decide (signed ≤ 900)))

/-- Another nonzero entry names the sink of a route. -/
def Hub.routeClash (h : Hub) (sub v : Nat) : Bool :=
  decide (routeSink v ≠ 0) && (upTo 0x10 128).any (fun i => decide (i ≠ sub) && decide (routeSink (h.accepted 0x1210 i) = routeSink v))

/-- MODE, RANGE and WIRING accepted for an output. -/
def Hub.acceptedCfg (h : Hub) (n : Nat) : OutCfg :=
  { mode := h.accepted (outIdx n) 1, range := h.accepted (outIdx n) 2, wiring := h.accepted (outIdx n) 3 }

/-- A configuration with one field written. -/
def OutCfg.with_ (c : OutCfg) (sub v : Nat) : OutCfg :=
  match sub with
  | 1 => { c with mode := v } | 2 => { c with range := v } | _ => { c with wiring := v }

/-- Combination rules of R77 and R221 for one write over the accepted values. -/
def Hub.combinationCheck (h : Hub) (b : Blk) (sub v : Nat) : Nat :=
  match b with
  | .outCfg n => if sub ≤ 3 then abortUnless (cfgOk ((h.acceptedCfg n).with_ sub v)) 0x06 else 0
  | .clocks =>
    if sub = 0x10 then abortUnless (wckoutOk v (h.accepted 0x8000 0x11)) 0x06
    else if sub = 0x11 then abortUnless (wckoutOk (h.accepted 0x8000 0x10) v) 0x06 else 0
  | _ => 0

/-- The range of a process parameter by the TYPE accepted (R199). -/
def Hub.paramCheckOf (h : Hub) (p sub : Nat) : Check :=
  if sub < 0x50 then paramCheck (h.procType p) (sub - 0x10) (h.paramAccepted p 16) else chParamCheck (h.procType p)

/-- Check 9 of R264 beyond type and range: what the object's own rule demands of the value. -/
def Hub.objectCheck (h : Hub) (host : Nat) (b : Blk) (sub v : Nat) (data : List Byte) : Nat :=
  match b with
  | .hostSlot k =>
    if sub = 2 then h.roleAbort k v else if sub = 0x0A then h.takeAbort k v else if sub = 0x0B then h.releaseAbort k v
    else if sub = 0x0C then h.assignAbort k v else 0
  | .fallback => if 0x10 ≤ sub then abortUnless (routeOk v && !h.routeClash sub v) 0x06 else 0
  | .outCv n =>
    if sub = 1 then h.cvAbort n 1
    else if sub = 2 then if (List.range (data.length / 4)).all (fun i => decide (field data (4 * i) 4 < 1048576)) then h.cvAbort n (data.length / 4) else 0x06
    else if sub = 3 then h.cvAbort n 0 else 0
  | .port p =>
    if sub = 0x0E ∨ sub = 0x0F then abortUnless (h.maskOk p v) 0x06
    else if sub = 0x10 then abortUnless (h.maskOk p (v / 4294967296) && h.maskOk p (v % 4294967296)) 0x06
    else if sub = 0x11 then abortUnless (decide (v = 0) || decide ((h.port p).state ≠ .stopped) || decide (h.startCheck p = 0)) 0x06
    else 0
  | .capture => if sub = 0x0B then abortUnless (h.capPosOk v) 0x06 else 0
  | .bus b => if sub ≤ 0x40 then abortUnless (entryOk b v) 0x06 else 0
  | .selector _ => if sub = 1 then abortUnless (isSource v) 0x06 else 0
  | .shortPath => if sub ≤ 0x80 then abortUnless (slotOk v) 0x06 else 0
  | .process p =>
    if 0x10 ≤ sub ∧ sub < 0x80 then abortUnless ((h.paramCheckOf p sub).ok v) 0x06
    else if sub = 5 then
      if v = 0 then 0 else if h.present p ∨ h.takingOver = true then 0x08 else abortUnless (decide (h.placeResult p = 0)) 0x06
    else 0
  | .clocks => if sub = 5 then abortUnless (h.anchorPortOk v) 0x06 else if sub = 0x12 ∨ sub = 0x13 then abortUnless (mclkOk v) 0x06 else 0
  | .power =>
    if sub = 7 then abortUnless (decide (v < 0x1000000) && bit v 22) 0x06
    else if 0x20 ≤ sub ∧ sub ≤ 0x23 then
      abortUnless (decide (v = 0) || (upTo 0x20 4).all (fun s => decide (s = sub) || decide (h.accepted 0x9000 s ≠ v))) 0x06
    else if 0x30 ≤ sub ∧ sub ≤ 0x33 then abortUnless (decide (toS32 v % 100 = 0)) 0x06
    else if 0x40 ≤ sub ∧ sub < 0x60 then abortUnless (stepOk v) 0x06
    else 0
  | .events => if sub ≤ 2 then abortUnless (decide (BitVec.ofNat 128 v &&& ~~~ eventBits = 0)) 0x06 else 0
  | .update =>
    if sub = 1 then h.controlAbort v else if sub = 2 then h.imageAbort host (field data 0 4) (data.length - 4) else if sub = 0x13 then h.makerAbort data else 0
  | _ => 0

/-- Check 9 of R264. -/
def Hub.valueCheck (h : Hub) (host : Nat) (b : Blk) (r : Row) (sub : Nat) (data : List Byte) : Nat :=
  let v := ofBytes data
  let zero := match r.acc with | .zeroOnly => decide (v = 0) | _ => true
  firstAbort [abortUnless (r.ty.valueOk data && r.chk.ok v && zero) 0x06, h.objectCheck host b sub v data]

/-- Check 10 of R264: the object's own state permits the write now. -/
def Hub.stateCheck (h : Hub) (host : Nat) (b : Blk) (idx sub v : Nat) : Nat :=
  match b with
  | .process _ => abortUnless (decide (sub ≠ 6) || decide (v = 0) || !h.takingOver) 0x08
  | .outCfg n => abortUnless (decide (3 < sub) || !(h.output n).fault) 0x08
  | .capture => abortUnless (decide (4 < sub) || (decide (h.cap.state ≠ 1) && decide (h.cap.state ≠ 2))) 0x08
  | .bank =>
    if sub ≤ 8 then abortUnless (decide (v ≠ 0) || (h.editsOf (sub - 1)).isEmpty) 0x08
    else if sub = 9 then abortUnless (decide (v = 0) || decide ((h.host host).commitState = 0)) 0x08 else 0
  | .bus _ => if sub ≤ 0x40 then h.xpAbort host (key idx sub) else 0
  | .power =>
    if sub = 7 ∨ (0x20 ≤ sub ∧ sub ≤ 0x23) ∨ (0x28 ≤ sub ∧ sub ≤ 0x2B) then abortUnless (decide (h.pwr.state = 0) && decide (h.pwr.progress = 0)) 0x08
    else if 0x60 ≤ sub ∧ sub ≤ 0x63 then h.readerAbort (sub - 0x60) v
    else 0
  | _ => 0

/-- Check 11 of R264: a STORE that finds the queue full, and a write-through object during a dip (R52, R278). -/
def Hub.storeCheck (h : Hub) (b : Blk) (sub v : Nat) : Nat :=
  match b with
  | .store => if sub = 1 ∧ v = 1 then h.storeAbort else 0
  | .hmute => if sub ≤ 4 then abortUnless (!h.supply.dip) 0x09 else 0
  | _ => 0

/-- The abort code of a single write (R264), 0 where it is accepted. -/
def Hub.writeAbort (h : Hub) (host idx sub ty : Nat) (data : List Byte) : Nat :=
  match blockOf idx, describe idx sub with
  | none, _ => firstAbort [h.claimCheck host idx sub true, 0x01]
  | some _, none => firstAbort [h.claimCheck host idx sub true, 0x02]
  | _, some (b, r) =>
    let v := ofBytes data
    firstAbort [h.claimCheck host idx sub true, h.directionCheck b r sub, h.roleCheck host b r sub, h.ownerCheck host b r sub, typeCheck b r sub ty data,
      h.serviceCheck idx true, h.valueCheck host b r sub data, h.combinationCheck b sub v, h.stateCheck host b idx sub v, h.storeCheck b sub v]

/-- Only objects of classes 1 and 2 may be held, no crosspoint of a host in bank mode (R272). -/
def Hub.holdable (h : Hub) (host : Nat) (b : Blk) (r : Row) (sub : Nat) : Bool :=
  (decide (r.cls = 1) || decide (r.cls = 2)) && (match b with | .bus _ => decide (0x40 < sub) || !h.bankMode host | _ => true)

/-- What a held write's own value must pass before the release; rules that depend on other writes of the batch wait (R272). -/
def Hub.heldValueCheck (h : Hub) (host : Nat) (b : Blk) (r : Row) (sub : Nat) (data : List Byte) : Nat :=
  let waits := match b with | .outCv _ => true | .port _ => decide (sub = 0x11) | _ => false
  if waits then abortUnless (r.ty.valueOk data && r.chk.ok (ofBytes data)) 0x06 else h.valueCheck host b r sub data

/-- The abort code of WRITE_HELD: checks 1 to 9 on the single write (R272). -/
def Hub.heldAbort (h : Hub) (host idx sub ty : Nat) (data : List Byte) : Nat :=
  match blockOf idx, describe idx sub with
  | none, _ => firstAbort [h.claimCheck host idx sub true, 0x01]
  | some _, none => firstAbort [h.claimCheck host idx sub true, 0x02]
  | _, some (b, r) =>
    firstAbort [h.claimCheck host idx sub true, h.directionCheck b r sub, h.roleCheck host b r sub, h.ownerCheck host b r sub, typeCheck b r sub ty data,
      h.serviceCheck idx true, h.heldValueCheck host b r sub data, abortUnless (h.holdable host b r sub) 0x06]

/-! ## In force (R267) -/

/-- What a setting or command does when it comes into force; the value in force is already recorded, `old` is the one before. -/
def Hub.inForce (h : Hub) (b : Blk) (sub v old : Nat) : Hub :=
  let on := decide (v = 1)
  match b with
  | .hostSlot k => if sub = 2 then h.roleApply k v else if sub = 6 then h.restartSession k else h
  | .inFront n => h.frontApply n sub v
  | .hmFront m => h.frontApply (48 + m) sub v
  | .inTandem n => if sub = 0x14 then h.pathRestore n v else if sub = 0x15 ∧ v = 1 then h.resetMatch n else h
  | .trims src => h.trimApply src (sub - 1) v
  | .inRelief n => if on then if sub = 8 then h.reliefRequest (.input n) else if sub = 0x0A then h.retireClear (.input n) else h else h
  | .outRelief n => if on then if sub = 8 then h.reliefRequest (.output n) else if sub = 0x0A then h.retireClear (.output n) else h else h
  | .outAudio n =>
    match sub with
    | 1 => h.outGainApply n v | 2 => h.outMuteApply n v | 3 => h.delayApply n v | 7 => h.shortSelApply n v | _ => h
  | .hpAudio j =>
    match sub with
    | 1 => h.hpGainApply j v | 2 => h.hpMuteApply j v | 6 => h.hpShortApply j v false | 7 => h.hpShortApply j v true | _ => h
  | .hpJack j =>
    match sub with
    | 1 => if v = old then h else h.jdModeApply j v | 2 => h.accessoryModeApply j v | 3 => h.setGate j | 7 => if on then h.reclassify j else h | _ => h
  | .speaker =>
    match sub with
    | 1 => h.spkGainApply v false | 2 => h.spkGainApply v true | 3 => h.spkMuteApply v | 6 => h.spkEnableApply on | 8 => h.spreadApply v
    | 9 => if on then h.faultClear else h | _ => h
  | .port p =>
    if on then
      if sub = 0x11 then h.modPort p (fun x => if x.stopDue && decide (x.state ≠ .stopped) then { x with startHeld := true } else { x with startDue := true })
      else if sub = 0x12 then h.modPort p (fun x => { x with stopDue := true })
      else h
    else h
  | .bus b => if sub ≤ 0x40 then h.xpApply b sub v else if sub = 0x41 then h.busGainApply b v else if sub = 0x42 then h.busMuteApply b v else h
  | .selector s => if sub = 1 then h.sinkApply s v else h
  | .generator g => match sub with | 1 => h.generatorApply g v | 2 => h.generatorFreqApply g v | 3 => h.generatorLevelApply g v | _ => h
  | .shortPath => if sub ≤ 0x80 then h.slotApply (sub - 1) v else if sub ≤ 0x88 then h.shortGainApply (sub - 0x81) v else h
  | .process p =>
    if sub = 5 then if on then h.place p else h
    else if sub = 6 then if on then h.removeApply p else h
    else if sub = 0x0C then h.procEnableApply p v
    else h
  | .clocks => if sub = 4 ∨ sub = 5 then h.anchorApply else h
  | .power =>
    if sub = 1 then h.hostRequest v
    else if sub = 7 then h.domainsApply v
    else if sub = 0x0A then h.modPwr (fun p => { p with wakeOut := on })
    else if sub = 0x10 then h.padRelease v
    else if (0x20 ≤ sub ∧ sub ≤ 0x23) ∨ (0x28 ≤ sub ∧ sub ≤ 0x2B) then (if v = old then h else h.watchRestart (sub % 4))
    else if 0x34 ≤ sub ∧ sub ≤ 0x3B then h.detectorReset (sub % 4)
    else if 0x40 ≤ sub ∧ sub < 0x60 then h.detectorReset ((sub - 0x40) / 8)
    else if 0x60 ≤ sub ∧ sub ≤ 0x63 then h.readerControl (sub - 0x60) v
    else h
  | .events => if sub = 8 ∨ sub = 9 then h.timerSet (sub - 8) else h
  | .store => if sub = 3 then h.modStore (fun s => { s with resetArmed := true }) else h
  | .tether => if sub = 0x0D ∧ on = true then h.wakeDown else h
  | .twoWire =>
    if sub = 6 then h.modTwi (fun t => { t with busTimeout := on, busTimeoutWas := t.busTimeout, busTimeoutAt := h.now }) else h
  | .update => if sub = 1 then h.control v else if sub = 9 then h.modUpd (fun u => { u with activateAt := v }) else h
  | _ => h

/-- A write comes into force. A batch value also stands in the committed bank (R18). -/
def Hub.applyWr (h : Hub) (w : Wr) : Hub :=
  let idx := w.key / 256
  let sub := w.key % 256
  match describe idx sub with
  | none => h
  | some (b, r) =>
    match b, isParam sub with
    | .process p, true => h.paramApply p sub w.val
    | _, _ => (if r.acc.setting then { h with live := tput h.live w.key w.val } else h).inForce b sub w.val (h.live? idx sub)

/-- Outputs whose MODE, RANGE or WIRING a batch writes, each once. -/
def batchOutputs (ws : List Wr) : List Nat :=
  ws.foldl (fun l w =>
    match blockOf (w.key / 256) with
    | some (.outCfg n) => if w.key % 256 ≤ 3 then withOne l n else l
    | _ => l) []

/-- A parameter batch applies at a block boundary: its writes in the order written, each output's configuration as one change (R93). -/
def Hub.applyBatch (h : Hub) (ws : List Wr) : Hub :=
  let h := ws.foldl Hub.applyWr h
  (batchOutputs ws).foldl (fun h n =>
    h.outputCfgApply n (h.settledCfg n)) h

/-- Frame-class writes come into force at a frame boundary. -/
def Hub.applyFrame (h : Hub) : Hub := h.frameQ.foldl Hub.applyWr { h with frameQ := [] }

/-! ## Acceptance (R266, R267) -/

/-- Bits written 1 clear (W1C). -/
def Hub.clearBitsOf (h : Hub) (host : Nat) (b : Blk) (sub v : Nat) : Hub :=
  match b with
  | .fallback => h.modBoot (fun x => { x with resetFlags := clearBits x.resetFlags v })
  | .inCounters n => h.modInput n (fun x => { x with cause := clearBits x.cause v })
  | .inRelief n => h.modSlice (.input n) (fun x => { x with cause := clearBits x.cause v })
  | .outRelief n => h.modSlice (.output n) (fun x => { x with cause := clearBits x.cause v })
  | .outCfg n => h.modOutput n (fun x => { x with cause := clearBits x.cause v })
  | .hpAudio j => h.modHeadphone j (fun x => { x with cause := clearBits x.cause v })
  | .hpJack j => h.modJack j (fun x => { x with buttonCause := clearBits x.buttonCause v })
  | .speaker => h.modSpk (fun x => { x with cause := clearBits x.cause v })
  | .port p => h.modPort p (fun x => { x with cause := clearBits x.cause v })
  | .asrc => h.modAsrc (fun a => if sub = 0x86 then { a with relockPorts := clearBits a.relockPorts v } else { a with shortPorts := clearBits a.shortPorts v })
  | .power => h.modPwr (fun p => { p with wakeCause := clearBits p.wakeCause v })
  | .events => h.clearPending host (BitVec.ofNat 128 v)
  | _ => h

/-- Commands that act when they are accepted and depend on who sent them or on a block of bytes. -/
def Hub.commandNow (h : Hub) (w : Who) (b : Blk) (sub v : Nat) (data : List Byte) : Hub :=
  match b with
  | .hostSlot k =>
    match sub with
    | 1 =>
      let held := h.sup.restarting && (decide (v % 4 = 1) || decide (v % 4 = 2))
      (h.claimWrite w v).when held (·.modMailbox w (fun m => { m with waiting := .claim }))
    | 0x0A => h.ownerWill v (some k)
    | 0x0B => h.ownerWill v none
    | 0x0C => h.ownerWill v (some k)
    | 0x0D => if v = 1 then h.forceRelease k else h
    | 0x0E => h.modHost k (fun x => { x with queryKey := v })
    | 0x11 => h.modHost k (fun x => { x with ownedStart := v })
    | _ => h
  | .process p => if sub = 5 ∧ v = 1 then h.adopt w.host p else h
  | .store => if sub = 1 ∧ v = 1 then (h.modMailbox w (fun m => { m with waiting := .store })).request (.command w) else h
  | .bank =>
    if sub = 9 ∧ v = 1 then
      (({ h with commitSeq := h.commitSeq + 1 }).modHost w.host (fun x => { x with commitState := 1, commitSeq := h.commitSeq })).modMailbox w
        (fun m => { m with waiting := .commit })
    else if sub = 0x0A ∧ v = 1 then h.discardEdits w.host
    else h
  | .outCv n =>
    match sub with
    | 1 => h.cvAppend n [BitVec.ofNat 20 v]
    | 2 => h.cvAppend n ((List.range (data.length / 4)).map (fun i => BitVec.ofNat 20 (field data (4 * i) 4)))
    | _ => if v = 1 then h.cvFlush n else h
  | .events =>
    if sub = 2 then h.writeMask w.host (BitVec.ofNat 128 v)
    else if sub = 6 then if v = 0xFF then h.forAll (List.range 8) Hub.clearOccurrences else h.clearOccurrences v
    else h
  | .update => if sub = 2 then h.imageData w.host (field data 0 4) (data.drop 4) else if sub = 0x13 then h.makerKey data else h
  | .capture =>
    match sub with
    | 5 => if v = 1 then { h with cap := { h.cap with armDue := true } } else { h.capStop with cap := { h.capStop.cap with armDue := false } }
    | 0x0B => { h with cap := { h.cap with readPos := v } }
    | _ => h
  | _ => h

/-- The value the dictionary holds for a setting: a STR of any length is told from its default by a leading byte. -/
def settingValue (b : Blk) (data : List Byte) : Nat :=
  match b with
  | .name => ofBytes (1 :: data)
  | _ => ofBytes data

/-- Commands whose own chapter has them act at acceptance (R88, R245, R267). -/
def actsAtOnce (b : Blk) (r : Row) (sub : Nat) : Bool :=
  decide (r.cls = 0) || (match b with | .outCv _ => decide (sub ≤ 3) | .capture => decide (sub = 5) | _ => false)

/-- Settings the dictionary holds; an event mask is its host's, a claim word its session's. -/
def recorded (b : Blk) (r : Row) (sub : Nat) : Bool :=
  r.acc.setting && (match b with | .events => decide (sub ≠ 2) | .hostSlot _ => decide (sub ≠ 1) | _ => true)

/-- Side effects of acceptance on the way into force: a staged mask (R235), a write-through object (R52). -/
def Hub.onAccept (h : Hub) (b : Blk) (sub : Nat) : Hub :=
  match b with
  | .port p => if sub = 0x0E ∨ sub = 0x0F ∨ sub = 0x10 then h.maskStage p else h
  | .hmute => if sub ≤ 4 then h.request (.muteMask (sub - 1)) else h
  | _ => h

/-- One write is accepted: the hub after it, and what waits for its frame or block boundary. -/
def Hub.accept (h : Hub) (w : Who) (idx sub : Nat) (data : List Byte) : Hub × List Wr :=
  match describe idx sub with
  | none => (h, [])
  | some (b, r) =>
    let v := settingValue b data
    let k := key idx sub
    match r.acc with
    | .w1c _ | .w1cHost => (h.clearBitsOf w.host b sub v, [])
    | .zeroOnly => ({ h with clears := withOne h.clears k }, [])
    | _ =>
      match b, decide (sub ≤ 0x40) && h.bankMode w.host with
      | .bus _, true => (h.shadowWrite w.host k v, [])
      | _, _ =>
        let old := h.live? idx sub
        let h := if recorded b r sub then { h with objs := tput h.objs k v } else h
        let h := h.onAccept b sub
        if actsAtOnce b r sub then
          let h := if recorded b r sub then { h with live := tput h.live k v } else h
          ((h.commandNow w b sub v data).inForce b sub v old, [])
        else if 3 ≤ r.cls then (h, [])
        else
          match b, decide (sub = 0x10) with
          | .port p, true =>
            let i := key (portIdx p) 0x0E
            let o := key (portIdx p) 0x0F
            ({ h with objs := tput (tput h.objs i (v / 4294967296)) o (v % 4294967296) }, [⟨i, v / 4294967296⟩, ⟨o, v % 4294967296⟩])
          | _, _ => (h, [⟨k, v⟩])

/-- What a refused write leaves behind: its refusal record and event (R88, R183, R238). Nothing else changes (R265). -/
def Hub.refusal (h : Hub) (idx sub code : Nat) (data : List Byte) : Hub :=
  match blockOf idx with
  | some (.outCv n) => if (sub = 1 ∨ sub = 2) ∧ code = 0x08 ∧ (h.output n).fault = false then h.cvOverflow n else h
  | some (.process p) => if sub = 5 ∧ code = 0x06 ∧ ofBytes data = 1 then h.place p else h
  | some (.port p) => if sub = 0x11 ∧ code = 0x06 ∧ h.startCheck p ≠ 0 then h.modPort p (fun x => { x with startResult := h.startCheck p }) else h
  | _ => h

/-- Step 0 of R93: at acceptance of a changed configuration the queue is flushed. -/
def Hub.acceptOutputs (h before : Hub) (ns : List Nat) : Hub := ns.foldl (fun h n => h.outputAccept n (before.acceptedCfg n) (h.acceptedCfg n)) h

/-- A WRITE (R267, R269): its abort code, and the hub after it. A frame-class write waits for its frame, a block-class one is a batch. -/
def Hub.writeObject (h : Hub) (w : Who) (idx sub ty : Nat) (data : List Byte) : Nat × Hub :=
  let code := h.writeAbort w.host idx sub ty data
  if code ≠ 0 then (code, h.refusal idx sub code data)
  else
    let before := h
    let (h, ws) := h.accept w idx sub data
    let h := h.acceptOutputs before (batchOutputs ws)
    if ws.isEmpty then (0, h)
    else if (describe idx sub).any (fun e => decide (e.2.cls = 1)) then (0, { h with frameQ := h.frameQ ++ ws })
    else (0, { h with batches := h.batches ++ [ws] })

/-! ## Held batches (R272) -/

def heldBytes (ws : List HeldWrite) : Nat := ws.foldl (fun n w => n + w.data.length) 0

/-- A held write joins the batch, in the place of an earlier one to the same object. -/
def holdWrite : List HeldWrite → HeldWrite → List HeldWrite
  | [], w => [w]
  | x :: r, w => if x.idx = w.idx ∧ x.sub = w.sub then w :: r else x :: holdWrite r w

/-- WRITE_HELD. -/
def Hub.writeHeld (h : Hub) (w : Who) (idx sub ty : Nat) (data : List Byte) : Nat × Hub :=
  let code := h.heldAbort w.host idx sub ty data
  let held := holdWrite (h.host w.host).held { idx := idx, sub := sub, data := data }
  if code ≠ 0 then (code, h)
  else if 32 < held.length ∨ 1024 < heldBytes held then (0x08, h)
  else (0, h.modHost w.host (fun x => { x with held := held }))

/-- Checks 5, 6, 9 and 10 of one held write, with the combination rules over the accepted values of the whole batch. -/
def Hub.releaseCheck (h : Hub) (host : Nat) (x : HeldWrite) : Nat :=
  match describe x.idx x.sub with
  | none => 0x02
  | some (b, r) =>
    let v := ofBytes x.data
    firstAbort [h.roleCheck host b r x.sub, h.ownerCheck host b r x.sub, h.valueCheck host b r x.sub x.data, h.combinationCheck b x.sub v,
      h.stateCheck host b x.idx x.sub v]

/-- The configurations the batch accepts together, ahead of its other writes (R77, R221, R93 step 0). -/
def Hub.acceptCombined (h : Hub) (ws : List HeldWrite) : Hub :=
  ws.foldl (fun h x =>
    match blockOf x.idx with
    | some (.outCfg _) => if x.sub ≤ 3 then { h with objs := tput h.objs (key x.idx x.sub) (ofBytes x.data) } else h
    | some .clocks => if x.sub = 0x10 ∨ x.sub = 0x11 then { h with objs := tput h.objs (key x.idx x.sub) (ofBytes x.data) } else h
    | _ => h) h

/-- The writes of a batch are checked and accepted one after the other; the abort code is the first failure's,
which is named. -/
def Hub.acceptHeld (h : Hub) (w : Who) : List HeldWrite → Nat × Hub × List Wr × Option HeldWrite
  | [] => (0, h, [], none)
  | x :: r =>
    let code := h.releaseCheck w.host x
    if code ≠ 0 then (code, h, [], some x)
    else
      let (h, ws) := h.accept w x.idx x.sub x.data
      let (c, h, rest, bad) := h.acceptHeld w r
      (c, h, ws ++ rest, bad)

/-- RELEASE_BATCH: its abort code, the hub after it, and the number of writes released. On a failure the batch is discarded. -/
def Hub.releaseBatch (h : Hub) (w : Who) : Nat × Hub × Nat :=
  let held := (h.host w.host).held
  let h := h.modHost w.host (fun x => { x with held := [] })
  if held.isEmpty then (0, h, 0)
  else
    let outs := batchOutputs (held.map (fun x => ⟨key x.idx x.sub, 0⟩))
    let (code, h', ws, bad) := ((h.acceptCombined held).acceptOutputs h outs).acceptHeld w held
    if code ≠ 0 then (code, match bad with | some x => h.refusal x.idx x.sub code x.data | none => h, 0) else (0, if ws.isEmpty then h' else { h' with batches := h'.batches ++ [ws] }, held.length)

/-- DISCARD_BATCH. -/
def Hub.discardBatch (h : Hub) (w : Who) : Hub := h.modHost w.host (fun x => { x with held := [] })

/-! ## Reads: the checks, and READ_INFO (R273) -/

/-- Check 5 of R264 for a read. -/
def Hub.readRole (h : Hub) (host : Nat) (b : Blk) (r : Row) (sub : Nat) : Nat :=
  let self := match b.hostOf sub with | some k => decide (k = host) | none => true
  match b, r.acc with
  | .vendor, _ => abortUnless (decide (sub = 0) || decide (h.role host = 2)) 0x03
  | .trims _, _ => 0
  | _, .rwHost | _, .w1cHost | _, .roHost => abortUnless self 0x03
  | _, .rwHostInst => abortUnless (self || decide (h.role host = 2)) 0x03
  | _, _ => 0

/-- The abort code of a read. -/
def Hub.readAbort (h : Hub) (host idx sub : Nat) : Nat :=
  match blockOf idx, describe idx sub with
  | none, _ => firstAbort [h.claimCheck host idx sub false, 0x01]
  | some _, none => firstAbort [h.claimCheck host idx sub false, 0x02]
  | _, some (b, r) =>
    firstAbort [h.claimCheck host idx sub false, abortUnless r.acc.readable 0x05, h.readRole host b r sub, h.serviceCheck idx false]

/-- Checks 1 to 3 only (R273). -/
def Hub.infoAbort (h : Hub) (host idx sub : Nat) : Nat :=
  firstAbort [abortUnless (h.claimed host) 0x0C, abortUnless (blockOf idx).isSome 0x01, abortUnless (describe idx sub).isSome 0x02]

/-- Bytes 1 and 2 of READ_INFO: access code, minimum role, and the flags. -/
def Acc.info : Acc → Nat × Nat
  | .ro => (0, 0) | .roHost => (0, 16) | .rw n => (1, n) | .zeroOnly => (1, 66) | .rwOwner | .rwOwnerOp => (1, 33) | .rwHost => (1, 16)
  | .rwHostInst => (1, 17) | .wo n => (2, n) | .woOwner | .woOwnerOp => (2, 33) | .woHost => (2, 17) | .woHostInst => (2, 17) | .w1c n => (3, n)
  | .w1cHost => (3, 16)

/-- Whether the Access column of a row names the owner. -/
def Acc.owned : Acc → Bool
  | .rwOwner | .rwOwnerOp | .woOwner | .woOwnerOp => true
  | _ => false

/-- READ_INFO of an object: 10 bytes (R273). -/
def Hub.info (h : Hub) (b : Blk) (r : Row) : List Byte :=
  let key := if r.acc.owned then h.ownerKeyOf b else none
  let owner := match key.bind h.ownerInForce with | some o => o | none => 0xFF
  [BitVec.ofNat 8 r.ty.number, BitVec.ofNat 8 r.acc.info.1, BitVec.ofNat 8 r.acc.info.2, BitVec.ofNat 8 (r.cls + 128 * b2n r.stored)] ++
  toBytes 4 (key.getD 0) ++ [BitVec.ofNat 8 r.ty.bytes, BitVec.ofNat 8 owner]

end Sys2Proof.Machine
end

