-- ==== Sys2Proof/Machine/Boundary.lean ====
section
/-! DEFINITION. The two clocks of the hub: what a core frame boundary and a block boundary do (R6, R7, R16, R17, R328). -/

namespace Sys2Proof.Machine

/-! ## Bank commits (R152, R153) -/

/-- The COMMIT of a host ends with an abort code: its reply is ready. -/
def Hub.commitReply (h : Hub) (host code : Nat) : Hub :=
  let done (m : Mailbox) : Mailbox := if m.waiting = .commit then { m with waiting := .none, outcome := some (code, 0, []) } else m
  (h.modMailbox ⟨.twoWire, host⟩ done).modMailbox ⟨.tether, host⟩ done

/-- One host's commit at a block boundary: the swap; a deferral with E76; a refusal at the second boundary. -/
def Hub.commitBoundary (h : Hub) (host : Nat) : Hub :=
  if h.commitReady host then (h.swapEdits host).commitReply host 0
  else if (h.host host).commitState = 1 then (h.modHost host (fun x => { x with commitState := 2 })).cause evCommitDeferred
  else (h.modHost host (fun x => { x with commitState := 0 })).commitReply host 0x08

def Hub.commitsBoundary (h : Hub) : Hub := h.committing.foldl Hub.commitBoundary h

/-! ## Cleared counters (R339) -/

/-- A counter cleared by an Installer, with its SAT flag. -/
def Hub.clearCounter (h : Hub) (k : Nat) : Hub :=
  let sub := k % 256
  match blockOf (k / 256) with
  | some (.inCounters n) =>
    h.modInput n (fun x =>
      match sub with
      | 1 => { x with clipCount := 0, sat := clearBits x.sat 1 }
      | 2 => { x with overloadCount := 0, sat := clearBits x.sat 2 }
      | _ => { x with phantomFaults := 0, sat := clearBits x.sat 4 })
  | some (.port p) =>
    h.modPort p (fun x =>
      if sub = 0x21 then { x with din := { x.din with slips := 0 }, sat := clearBits x.sat 1 }
      else { x with dout := { x.dout with slips := 0 }, sat := clearBits x.sat 2 })
  | some (.bus b) => h.modBus b (fun x => { x with clipCount := 0, sat := false })
  | some .health =>
    let u : ReliefUnit := if sub ≤ 0x14 then .irs (sub - 0x0F) else .ors (sub - 0x15)
    h.modRelief u (fun r => { r with seconds := 0, since := h.now })
  | some .tether => h.modTet (fun t => if sub = 9 then { t with crcErrors := 0 } else { t with fwdDrops := 0 })
  | some .twoWire => h.modTwi (fun t => if sub = 0x0A then { t with protocolErrors := 0 } else { t with busResets := 0 })
  | some .update => h.modUpd (fun u => { u with blockErrors := 0 })
  | _ => h

def Hub.clearsBoundary (h : Hub) : Hub := h.clears.foldl Hub.clearCounter { h with clears := [] }

/-! ## Timers (R337) -/

/-- The timers stop in Watch; one that is on and not counting starts at the first boundary at which STATE reads RUN. -/
def Hub.timersBoundary (h : Hub) : Hub :=
  h.forAll [0, 1] (fun h i =>
    if h.pwr.state = 1 then h.cancel (.timer i)
    else if 1 ≤ h.boot.service ∧ h.pwr.state = 0 ∧ h.armed (.timer i) = false then h.timerSet i
    else h)

/-- A period is complete: E121 or E122, and the next period counts from there. -/
def Hub.timerExpiry (h : Hub) (i : Nat) : Hub :=
  match h.deadline (.timer i) with
  | some d =>
    if h.due (.timer i) then
      let p := (us (h.live? 0xA000 (8 + i)) + 31) / 32 * 32
      (if p = 0 then h.cancel (.timer i) else h.startAt (.timer i) (d + p)).cause (evTimer i)
    else h
  | none => h

/-! ## Buses (R143, R145) -/

/-- The status of a bus at a block boundary: N recounted, ENABLED_TERMS and SHADOW_DIRTY. -/
def Hub.busBoundary (h : Hub) (b : Nat) : Hub :=
  let h := h.rescale b
  let enabled := ((upTo 1 64).filter (fun k => entryEnable (h.entry b k))).length
  let dirty := h.shadow.any (fun e => decide (busOfKey e.1 = b))
  h.modBus b (fun x => { x with enabledTerms := enabled, shadowDirty := dirty })

/-- Buses the harness works on, and those with pending edits. -/
def Hub.busesTouched (h : Hub) : List Nat :=
  (List.range 64).filter (fun b => h.busesInUse.contains b || h.shadow.any (fun e => decide (busOfKey e.1 = b)))

/-! ## The block boundary -/

/-- R17: the table actions in their order. Owners change ahead of the swap, which excludes what they discard (R171). -/
def Hub.tablesBoundary (h : Hub) : Hub :=
  let h := h.forAll (h.ins.map (·.1)) Hub.tandemBoundary
  let h := h.ownersBoundary.commitsBoundary
  let h := h.batches.foldl Hub.applyBatch { h with batches := [] }
  h.checkpoints.resumeLane.laneHoldEnd.laneFaultsDue

/-- Everything else that falls on a block boundary. -/
def Hub.unitsBoundary (h : Hub) : Hub :=
  let h := h.processStarts.patrolKeep
  let h := (h.forAll (h.outs.map (·.1)) Hub.outputBoundary).spkBoundary
  let h := h.forAll h.busesTouched Hub.busBoundary
  let h := h.portsBoundary
  let h := if h.cap.armDue then { h.capArm with cap := { h.capArm.cap with armDue := false } } else h
  let h := h.reliefBoundary.sramBoundary.clockBoundary.supplyBoundary
  h.domainsBoundary.powerBoundary.updateBoundary.timersBoundary

/-- The actions of one block boundary, with what the hub measured in the block. -/
def Hub.blockBoundary (h : Hub) (m : Measures) : Hub :=
  let h := ((h.measure m).meters.clearsBoundary).handoverBoundary8
  { h.tablesBoundary.unitsBoundary.raiseBoundary with blockDone := true }

/-- A block boundary falls on a frame whose count is a multiple of 32, once; status reads return the state it leaves (R7, R266). -/
def State.blockBoundary (s : State) (m : Measures) : State :=
  if s.hub.framesRun ∧ s.hub.atBoundary = true then
    let h := s.hub.blockBoundary m
    { s with hub := h, snap := h }
  else s

/-! ## The frame boundary -/

/-- The frame that ends: its audio, the pre-roll rings, the links. -/
def Hub.frameEnd (h : Hub) (src : List (Nat × Int)) : Hub :=
  let h := (h.audioFrame src).watchWrite.txFrame
  { h with
    now := h.now + 1
    sub := 0
    sram := { h.sram with zeroed := [] }
    blockDone := if (h.now + 1) % 32 = 0 then false else h.blockDone
    ins := h.ins.map (fun (e : Nat × Input) => (e.1, { e.2 with tandem := { e.2.tandem with mFull := false, samples := [] } })) }

/-- The frame that begins: fades that have run, and the frame-class writes (R16, R267). -/
def Hub.frameBegin (h : Hub) : Hub :=
  let h := (h.forAll (List.range 8) Hub.portFadeOut).fullLevels.readersEnd
  h.applyFrame.timeLockJudge

/-- One core frame (R6): frame `now` ends and the next begins. A reset that follows a RESP comes here (R323). -/
def State.frameBoundary (s : State) (src : List (Nat × Int)) : State :=
  if s.hub.framesRun then
    let h := (s.hub.frameEnd src).frameBegin
    if h.due .reset then s.reboot (fun _ => h.resetBy 6 false 0) else { s with hub := h }
  else s

/-! ## The meanings of the rows -/

/-- R6. -/
def execFrameBoundary (src : List (Nat × Int)) (s : State) : Out := .next (s.frameBoundary src)
/-- R7, R17. -/
def execBlockBoundary (m : Measures) (s : State) : Out := .next (s.blockBoundary m)
/-- R337. -/
def execTimerExpiry (i : Nat) (s : State) : Out := run (decide (i < 2)) (·.timerExpiry i) s

end Sys2Proof.Machine
end

