-- ==== Sys2Proof/Machine/Status.lean ====
section
/-! DEFINITION. What a read returns (R266): the accepted value of a setting, a status field as it stood at the last block boundary, and the
few fields read as they stand when the read is served. -/

namespace Sys2Proof.Machine

/-! ## Codes of states -/

def PhantomState.code : PhantomState → Nat
  | .off => 0 | .rampOn => 1 | .on => 2 | .rampOff => 3 | .fault => 4 | .noSupply => 5
def FeState.code : FeState → Nat
  | .unpowered => 0 | .settling => 1 | .running => 2 | .hwMuted => 3 | .onRelief => 4
def BiasState.code : BiasState → Nat
  | .off => 0 | .on => 1 | .fault => 2
def SliceState.code : SliceState → Nat
  | .healthy => 0 | .degraded => 1 | .matching => 2 | .crossfading => 3 | .relieved => 4 | .unrelieved => 5 | .lost => 6

/-- A level as a GAIN word. -/
def Level.word : Level → Nat
  | .db c => ofInt 32 (wholeDb c)
  | .lin a => if a = 0 then minusInf else ofInt 32 (wholeDb (ratioDb a unity))

/-- Frames in microseconds. -/
def inMicros (f : Nat) : Nat := f * 1000 / 96

/-! ## Status words (R104, R128, R130, R143) -/

/-- STATUS of R104. QUEUE_EMPTY reads 1 whenever no code is queued, after reset too (log 127). -/
def Hub.outStatus (h : Hub) (n : Nat) : Nat :=
  let o := h.output n
  o.shownRange * 2 ^ 20 + o.shownMode * 2 ^ 16 + (h.outState n).code * 2 ^ 12 + o.step * 2 ^ 8 + 128 * b2n o.onRelief + 64 * b2n o.compliance +
  32 * b2n o.audio.limiting + 16 * b2n o.audio.saturated + 8 * b2n o.patrol.flag + 4 * b2n (decide (o.cv.queue.length = 32)) +
  2 * b2n o.cv.queue.isEmpty + b2n o.pendingCfg.isSome

/-- LIMIT_GR: present reduction in 0.01 dB, 0 or positive (log 11). -/
def Output.limitGr (o : Output) : Nat :=
  (wholeDb (mkRat o.audio.reduction reductionUnit)).toNat

/-- STATUS of R128. -/
def Hub.hpStatus (h : Hub) (j : Nat) : Nat :=
  let x := h.headphone j
  h.hpState j * 2 ^ 12 + x.jack.accessory * 2 ^ 8 + 8 * b2n x.limiting + 4 * b2n x.saturated + 2 * b2n x.jack.inserted + b2n x.jack.micSwapped

/-- STATUS of R130: restarts of the last 10 s among it. -/
def Hub.spkStatus (h : Hub) : Nat :=
  let x := h.spk
  h.spkState.code * 2 ^ 12 + (x.restarts.filter (fun f => decide (h.now < f + secs 10))).length * 2 ^ 8 + 4 * b2n x.spread + 2 * b2n x.limitR + b2n x.limitL

/-- STATUS of R143. -/
def Bus.status (x : Bus) : Nat :=
  x.enabledTerms * 2 ^ 8 + 8 * b2n x.shadowDirty + 4 * b2n x.scaleRamping + 2 * b2n x.termSat + b2n x.clipped

/-- Active mute groups that include a source (R40). -/
def Hub.muteGroups (h : Hub) (src : Nat) : Nat :=
  (List.range 4).foldl (fun v k => if h.member k src && h.hmuteLow k then v + 2 ^ k else v) 0

/-- A committed match set, field by field in the order of R74. -/
def matchField (m : MatchSet) (i : Nat) : Int :=
  match i with
  | 0 => m.lmGain | 1 => m.lmDelay | 2 => m.mhGain | 3 => m.mhDelay | 4 => m.lhGain | 5 => m.lhDelay | 6 => m.lOffset | 7 => m.mOffset | _ => m.hOffset

/-- Result fields a process reports (R199). -/
def hasResult (ty i : Nat) : Bool :=
  match ty with
  | 3 => decide (i = 0) | 5 => decide (i = 0) | 7 => decide (i < 12) | 8 => decide (i < 5) | _ => false

/-- Hosts with a bit of a kind set, as a byte. -/
def hostBits (f : Nat → Bool) : Nat := (List.range 8).foldl (fun v k => if f k then v + 2 ^ k else v) 0

/-- OR of the pending bits of every host number. -/
def Hub.anyPending (h : Hub) : BitVec 128 := (List.range 8).foldl (fun v k => v ||| h.pending k) 0

/-! ## Status fields as numbers -/

def Hub.frontStatus (h : Hub) (n sub : Nat) : Nat :=
  let x := h.input n
  match sub with
  | 5 => x.phantom.state.code | 6 => x.phantom.currentUa | 7 => x.fe.code | 8 => b2n x.stream.privacy | 9 => h.muteGroups n | _ => ofInt 16 (h.level 0x28)

def Hub.tandemStatus (h : Hub) (n sub : Nat) : Nat :=
  let t := (h.input n).tandem
  if 6 ≤ sub ∧ sub ≤ 0x0E then ofInt 32 (matchField t.active (sub - 6))
  else
    match sub with
    | 4 => t.activePath | 5 => t.pathStatus | 0x0F => t.est.lm.conf | 0x10 => t.est.mh.conf | 0x11 => t.est.lh.conf | 0x12 => min 600 (t.staleBlocks / 3000) | _ => t.lastCommit

def Hub.meterStatus (h : Hub) (src sub : Nat) : Nat :=
  let s := h.stream src
  if sub ≤ 8 then ofInt 16 (s.hostPeaks.getD (sub - 1) (-32768))
  else if sub = 9 then ofInt 16 s.peak
  else hostBits (fun k => decide (0 ≤ s.hostPeaks.getD k (-32768)))

def Hub.sliceStatus (h : Hub) (sl : SliceId) (sub : Nat) : Nat :=
  let x := h.slice sl
  match sub with
  | 1 => x.state.code | 2 => x.cause | 3 => ofInt 16 x.noiseL | 4 => ofInt 16 x.noiseM | 5 => ofInt 16 x.noiseH | 6 => x.matchConf
  | 7 => inMicros (match x.matchSince with | some f => h.now - f | none => x.matchElapsed) | _ => b2n x.retired

def Hub.portFields (h : Hub) (p sub : Nat) : Nat :=
  let x := h.port p
  match sub with
  | 0x14 => x.startResult | 0x15 => x.state.code | 0x16 => h.portStatus p | 0x17 => x.cause | 0x18 => x.rateMeas | 0x19 => x.measClass | 0x1A => x.divider
  | 0x1B => x.din.mask | 0x1C => x.dout.mask | 0x1D => channelCount (h.compact p) x.din.mask | 0x1E => channelCount (h.compact p) x.dout.mask
  | 0x1F => x.din.fill / 256 | 0x20 => x.dout.fill / 256 | 0x21 => x.din.slips | 0x22 => x.dout.slips | _ => x.sat

def Hub.processFields (h : Hub) (p sub : Nat) : Nat :=
  let x := h.proc p
  if 0x50 ≤ sub ∧ sub < 0x60 then
    if x.state = 1 ∧ hasResult x.type (sub - 0x50) = true then x.st.report.getD (sub - 0x50) 0 % 4294967296 else 0
  else if 0x80 ≤ sub then if x.state ≠ 0 ∧ sub - 0x80 < x.channels then h.bypassGain p (sub - 0x80) else 0
  else
    match sub with
    | 7 => h.procState p | 8 => h.procLane p | 9 => x.cost | 0x0A => x.latency | 0x0D => x.placeResult | _ => h.accepted (procIdx p) 0x0E

def Hub.clockFields (h : Hub) (sub : Nat) : Nat :=
  match sub with
  | 2 => h.clk.activeSource | 0x0B => h.clk.rein | 0x0C => ofInt 32 h.freqOffset | 0x0D => ofInt 32 h.phaseErrorNs | 0x0E => h.clk.wck.rate
  | 0x0F => h.clk.wck.cls | 0x14 => h.clockStatus | 0x15 => h.frameCount | 0x16 => h.clk.lockTime | _ => ofInt 32 h.clk.storedHold

def Hub.powerFields (h : Hub) (sub : Nat) : Nat :=
  if 0x64 ≤ sub ∧ sub < 0x68 then h.readerStatus (sub - 0x64)
  else if 0x68 ≤ sub ∧ sub < 0x6C then (h.chan (sub - 0x68)).mark
  else if 0x6C ≤ sub ∧ sub < 0x70 then (h.chan (sub - 0x6C)).progress
  else
    match sub with
    | 2 => h.pwr.state | 3 => h.pwr.progress | 4 => h.pwr.pendingReq | 5 => h.pwr.lastResult | 6 => h.budget | 8 => h.pwr.domains | 9 => h.pwr.wakeCause
    | 0x0A => b2n h.pwr.wakeOut | _ => h.pwr.padHeld

def Hub.healthFields (h : Hub) (sub : Nat) : Nat :=
  if 5 ≤ sub ∧ sub ≤ 0x0A then (h.relief (.irs (sub - 5))).serves * 256 + h.unitState (.irs (sub - 5))
  else if 0x0B ≤ sub ∧ sub ≤ 0x0E then (h.relief (.ors (sub - 0x0B))).serves * 256 + h.unitState (.ors (sub - 0x0B))
  else if 0x0F ≤ sub ∧ sub ≤ 0x14 then h.unitSeconds (.irs (sub - 0x0F))
  else if 0x15 ≤ sub ∧ sub ≤ 0x18 then h.unitSeconds (.ors (sub - 0x15))
  else
    match sub with
    | 0x19 => h.sram.spares | 0x1A => h.sram.retired | 0x1F => ofInt 16 (h.supply.tempMax.getD 0) | 0x20 => h.healthSummary | 0x21 => h.supplyStatus
    | 0x2B => h.supply.lastDip | 0x2C => h.supply.minVcore | s => ofInt 16 (h.level s)

def Hub.updateFields (h : Hub) (sub : Nat) : Nat :=
  let u := h.upd
  if 0x0C ≤ sub ∧ sub ≤ 0x0F then u.armed.getD (sub - 0x0C) 0
  else
    match sub with
    | 3 => u.state | 4 => u.next | 5 => u.size | 6 => u.written | 7 => u.lastError | 8 => u.host | 0x0A => u.step | 0x0B => u.flags | 0x10 => u.blockErrors
    | 0x11 => h.ext.flashId | 0x12 => h.ext.flashSize | 0x14 => b2n h.makerKey?.isSome | _ => b2n h.ext.updatePending

def Hub.tetherFields (h : Hub) (sub : Nat) : Nat :=
  let t := h.tet
  match sub with
  | 1 => t.address | 2 => h.ext.address | 3 => t.position | 4 => h.linkStatus | 5 => h.tetherNow / 65536 | 6 => t.fraction | 7 => t.pathDelay | 8 => t.upDelay
  | 9 => t.crcErrors | 0x0A => t.fwdDrops | _ => t.generation

def Hub.twoWireFields (h : Hub) (sub : Nat) : Nat :=
  match sub with
  | 7 => 0x30 + h.twi.adr | 8 => 0x38 + h.twi.adr | 9 => h.twi.lastError | 0x0A => h.twi.protocolErrors | 0x0B => h.twi.busResets | 0x0C => if h.twi.alertState = 2 ∧ h.armed .alertRepeat = false then 0 else h.twi.alertState
  | _ => h.twi.araWins % 4294967296

/-- A status, counter or cause field as a number; `host` is the host number that reads. -/
def Hub.status (h : Hub) (host : Nat) (b : Blk) (sub d : Nat) : Nat :=
  match b with
  | .identity => if sub = 5 then b2n Config.grade else d
  | .revision => if sub = 1 then Config.siliconMajor % 256 * 256 + Config.siliconMinor % 256 else 0
  | .versions => if sub = 1 then Config.loaderVersion else if sub = 6 then h.ext.counter else h.boot.versions.getD (sub - 2) 0
  | .serial => match sub with | 3 => Config.siliconMajor % 256 * 65536 + Config.siliconMinor % 256 | 4 => Config.serialNumber % 4294967296 | _ => d
  | .hostSlot k =>
    let x := h.host k
    match sub with
    | 1 => h.claimWord k | 3 => x.tag | 4 => b2n x.claimed | 5 => h.sessionLeft k | 0x0F => h.queryOwner k | 0x10 => (h.ownedKeys k).length
    | _ => x.conflicts
  | .store =>
    match sub with
    | 4 => h.storeState | 5 => min 32 h.store.queue.length | 6 => h.changedKeys.length | 7 => h.store.spareRows | 8 => h.store.lastStore
    | 9 => b2n h.store.resetArmed | _ => h.store.fails
  | .fallback =>
    match sub with
    | 2 => ((upTo 0x10 128).filter (fun i => decide (h.accepted 0x1210 i ≠ 0))).length | 3 => h.boot.resetFlags | 4 => h.boot.service | 5 => h.boot.bootResult
    | 6 => h.boot.fullAt | _ => h.boot.routesDropped
  | .inFront n => h.frontStatus n sub
  | .inTandem n => h.tandemStatus n sub
  | .meters src => h.meterStatus src sub
  | .inCounters n =>
    let x := h.input n
    match sub with | 1 => x.clipCount | 2 => x.overloadCount | 3 => x.phantomFaults | 4 => x.sat | _ => x.cause
  | .inRelief n => h.sliceStatus (.input n) sub
  | .outRelief n => h.sliceStatus (.output n) sub
  | .hmFront m => match sub with | 5 => (h.headMic m).bias.code | 6 => (h.headMic m).currentUa | _ => b2n (h.headMic m).stream.privacy
  | .hmute => if sub = 9 then h.ext.hmutePins else h.muteMask (sub - 5)
  | .outCfg n => if sub = 6 then h.outStatus n else (h.output n).cause
  | .outAudio n => (h.output n).limitGr
  | .outCv n => match sub with | 4 => (h.output n).cv.queue.length | 8 => (h.output n).cv.present.toNat | _ => (h.output n).cv.target.toNat
  | .outPatrol n =>
    let p := (h.output n).patrol
    match sub with
    | 4 => ofInt 32 p.readback | 5 => ofInt 32 p.deviation | 6 => match p.residual with | some r => ofInt 32 r | none => minusInf
    | _ => min 65535 p.consec
  | .hpAudio j => if sub = 8 then h.hpStatus j else (h.headphone j).cause
  | .hpJack j =>
    let x := (h.headphone j).jack
    match sub with | 8 => x.accessory | 9 => x.tip | 0x0A => x.ring | 0x0B => x.buttons | _ => x.buttonCause
  | .speaker =>
    match sub with
    | 0x0A => h.spkStatus | 0x0B => h.spk.cause | 0x0C => ofInt 16 (h.level 0x29)
    | _ => if h.level 0x29 = 0 then 0 else ofInt 32 h.supplyLimit
  | .port p => h.portFields p sub
  | .capture =>
    match sub with
    | 6 => h.cap.state | 7 => h.cap.recordBytes | 8 => h.cap.records | 9 => h.cap.head | 0x0A => h.cap.start | _ => h.cap.readPos
  | .asrc =>
    if sub ≤ 0x80 then h.ctxWord sub
    else
      match sub with
      | 0x81 => h.countCtx (fun s => decide (s = .free)) | 0x82 => h.countCtx (fun s => decide (s = .reserved))
      | 0x83 => h.countCtx (fun s => decide (s ≠ .free) && decide (s ≠ .reserved)) | 0x84 => h.asrc.waiting.length | 0x86 => h.asrc.relockPorts
      | _ => h.asrc.shortPorts
  | .bus b =>
    let x := h.bus b
    match sub with | 0x47 => x.scaleN | 0x48 => x.scale.target.word | 0x49 => x.clipCount | 0x4A => b2n x.sat | _ => x.status
  | .bank =>
    match sub with
    | 0x0B => hostBits (fun k => !(h.editsOf k).isEmpty) | 0x0C => (h.host host).commitState | 0x0D => h.lastCommit | _ => (h.editsOf host).length
  | .harness => h.boot.filterPhase
  | .selector s => match sub with | 3 => (h.sink s).activeSource h.now | 4 => (h.sink s).selState | _ => (h.sink s).held.getD 0
  | .shortPath => h.sbClipped
  | .dsp =>
    if sub ≤ 8 then h.laneState (sub - 1) else if sub ≤ 0x10 then h.laneLoad (sub - 9)
    else match sub with | 0x11 => h.reliefState | 0x12 => h.dsp.patrolLane | 0x13 => h.dsp.cycles | 0x14 => h.dsp.errors | _ => h.poolFree
  | .process p => h.processFields p sub
  | .clocks => h.clockFields sub
  | .power => h.powerFields sub
  | .events =>
    if 0x80 ≤ sub then h.occurrences host (sub - 0x80)
    else match sub with | 1 => (h.pending host).toNat | 2 => (h.eventMask host).toNat | 3 => hostBits h.alerting | 4 => h.anyPending.toNat | _ => h.satSummary
  | .update => h.updateFields sub
  | .health => h.healthFields sub
  | .tether => h.tetherFields sub
  | .twoWire => h.twoWireFields sub
  | _ => d

/-- Status fields read as they stand when the read is served (R266, R327). -/
def servedLive (b : Blk) (sub : Nat) : Bool :=
  match b with
  | .hostSlot _ => decide (sub ≠ 0x13)
  | .store => decide (4 ≤ sub) && decide (sub ≤ 9) && decide (sub ≠ 8)
  | .bank => decide (sub = 0x0B) || decide (sub = 0x0C) || decide (sub = 0x0E)
  | .clocks => decide (sub = 0x15)
  | .tether => decide (sub = 5) || decide (sub = 6)
  | .events => decide (sub ≤ 2)
  | _ => false

/-- The bytes of NAME from the number that holds them. -/
def nameBytes (v : Nat) : List Byte :=
  match (List.range 33).find? (fun n => decide (v / 256 ^ n = 1)) with
  | some n => toBytes n v
  | none => ascii "MX-4832"

/-- The value a read of a setting returns (R266): the one last accepted, but for those whose own rule says otherwise. -/
def Hub.settingRead (h : Hub) (host : Nat) (b : Blk) (idx sub : Nat) : Nat :=
  match b with
  | .hostSlot k => if sub = 1 then h.claimWord k else h.accepted idx sub
  | .inFront n => if sub = 1 && (h.input n).phantom.readsZero then 0 else h.accepted idx sub
  | .hmFront m => if sub = 1 && (h.headMic m).autoBias then 1 else h.accepted idx sub
  | .bus _ =>
    if sub ≤ 0x40 && h.bankMode host then match h.pendingEdit (key idx sub) with | some (e, _) => e | none => h.accepted idx sub
    else h.accepted idx sub
  | .port p => if sub = 0x10 then h.accepted (portIdx p) 0x0E * 4294967296 + h.accepted (portIdx p) 0x0F else h.accepted idx sub
  | .process p => if 0x10 ≤ sub ∧ sub < 0x50 then h.paramAccepted p (sub - 0x10) else h.accepted idx sub
  | .power => if sub = 0x0A then b2n h.pwr.wakeOut else h.accepted idx sub
  | .capture => if sub = 0x0B then h.cap.readPos else h.accepted idx sub
  | .events => if sub = 2 then (h.eventMask host).toNat else h.accepted idx sub
  | _ => h.accepted idx sub

/-- Byte blocks and strings (R262). -/
def Hub.blockRead (h : Hub) (host : Nat) (b : Blk) (sub : Nat) : List Byte :=
  match b with
  | .identity => if sub = 3 then ascii "Weleivor" else ascii "MX-4832"
  | .name => nameBytes (h.accepted 0x1008 1)
  | .serial => Config.lot.take 16
  | .hostSlot k => h.ownedList k
  | .capture => h.capData.1
  | .events => if sub = 5 then (List.range 128).map (fun e => BitVec.ofNat 8 (h.occurrences host e)) else toBytes 16 (h.status host b sub 0)
  | .vendor => (Config.vendorValue sub).take 240
  | _ => []

/-- What a read returns (R266): `h` as it stands, `snap` as it stood at the last block boundary. -/
def Hub.readBytes (h snap : Hub) (host idx sub : Nat) : List Byte :=
  match describe idx sub with
  | none => []
  | some (b, r) =>
    if sub = 0 then toBytes 1 b.highest
    else
      let at_ := if servedLive b sub || r.acc.setting then h else snap
      match r.ty with
      | .str _ | .domain _ =>
        match b with
        | .capture => h.blockRead host b sub
        | _ => at_.blockRead host b sub
      | t =>
        let v :=
          match r.acc with
          | .w1c _ | .w1cHost => snap.status host b sub r.deflt &&& h.status host b sub r.deflt
          | .ro | .roHost | .zeroOnly => at_.status host b sub r.deflt
          | _ => h.settingRead host b idx sub
        toBytes t.bytes v

/-- What a read changes: CAP_READ_POS advances (R245), the fraction of Tether time is sampled with the time (R327). -/
def Hub.readEffect (h : Hub) (idx sub : Nat) : Hub :=
  if idx = 0x4200 ∧ sub = 0x0C then h.capData.2
  else if idx = 0xD000 ∧ sub = 5 then h.modTet (fun t => { t with fraction := h.tetherNow % 65536 })
  else h

end Sys2Proof.Machine
end

