-- ==== Sys2Proof/Machine/Mailbox.lean ====
section
/-! DEFINITION. The mailbox (R268 to R273): one command path for both transports, from the start of a command to its completion. A row that
names a command stands at the moment the managing layer processes it; `commandComplete` shows its result (log 37). -/

namespace Sys2Proof.Machine

/-- The request fields of a command (R268). `valid` is false where the frame that carries it may not carry this command (R313). -/
structure Request where
  cmd : Nat
  idx : Nat
  sub : Nat
  ty : Nat
  data : List Byte
  valid : Bool := true
deriving DecidableEq, Repr

/-! ## Service -/

/-- SERVICE_BUSY: the managing layer serves no commands (R270). -/
def Hub.serviceBusy (h : Hub) : Bool := h.sup.restarting || decide (h.boot.step < 6)

/-- The TET component is being activated: READ and WRITE frames are answered with abort 0x08 (R322). -/
def Hub.tetherHeld (h : Hub) : Bool := decide (h.upd.state = 6) && decide (h.upd.step = 4) && !h.upd.stepOver

/-- A host access in Watch ungates the clocks; they gate again 50 ms after it (R302, R326). -/
def Hub.ungate (h : Hub) : Hub :=
  if h.pwr.state = 1 then (h.modPwr (fun p => { p with hostGate := true })).start .watchRegate (ms 50) else h

/-! ## Processing (R269) -/

/-- What a command answers (abort code, type code or 0, data), and the hub after it. -/
def Hub.answer (h snap : Hub) (w : Who) (r : Request) : (Nat × Nat × List Byte) × Hub :=
  if r.valid = false then ((if h.claimed w.host then 0x06 else 0x0C, 0, []), h)
  else
    match r.cmd with
    | 1 =>
      let code := h.readAbort w.host r.idx r.sub
      if code = 0 then ((0, typeOf r.idx r.sub, h.readBytes snap w.host r.idx r.sub), h.readEffect r.idx r.sub) else ((code, 0, []), h)
    | 2 => let x := h.writeObject w r.idx r.sub r.ty r.data; ((x.1, 0, []), x.2)
    | 3 => let x := h.writeHeld w r.idx r.sub r.ty r.data; ((x.1, 0, []), x.2)
    | 4 =>
      if h.claimed w.host then
        let x := h.releaseBatch w
        ((x.1, 0, if x.1 = 0 then [BitVec.ofNat 8 x.2.2] else []), x.2.1)
      else ((0x0C, 0, []), h)
    | 5 => if h.claimed w.host then ((0, 0, []), h.discardBatch w) else ((0x0C, 0, []), h)
    | 6 =>
      let code := h.infoAbort w.host r.idx r.sub
      match describe r.idx r.sub with
      | some (b, row) => if code = 0 then ((0, typeOf r.idx r.sub, h.info b row), h) else ((code, 0, []), h)
      | none => ((code, 0, []), h)
    | 0 => ((if h.claimed w.host then 0 else 0x0C, 0, []), h)
    | _ => ((if h.claimed w.host then 0x06 else 0x0C, 0, []), h)

/-- The command is processed: its outcome stands until it completes. A COMMIT and a STORE complete later (R271). ALERT_N follows at once (R300). -/
def Hub.process (h snap : Hub) (w : Who) (r : Request) : Hub :=
  let x := h.answer snap w r
  let h := x.2.alertSettle
  if (h.mailbox w).waiting = .none then h.modMailbox w (fun m => { m with outcome := some x.1 }) else h

/-! ## Starting a command (R270, R302, R322) -/

/-- The mailbox takes a request. -/
def Mailbox.take (m : Mailbox) (r : Request) (seq : Nat) (fromDown silent : Bool) : Mailbox :=
  { m with
    cmd := r.cmd, index := r.idx, sub := r.sub, ty := r.ty, len := r.data.length, data := r.data, result := 1, overrun := false, outcome := none
    valid := r.valid, waiting := .none, seq := seq, fromDown := fromDown, silent := silent }

/-- A command that finds one running: OVERRUN, or a RESP with abort 0x08 (R270). -/
def Hub.overrun (h : Hub) (w : Who) (r : Request) (seq : Nat) (fromDown silent : Bool) : Hub :=
  match w.via with
  | .twoWire => h.modMailbox w (fun m => { m with overrun := true })
  | .tether => if silent then h else h.sendResp fromDown (h.respBytes w.host seq r.cmd r.idx r.sub 0x08 [])

/-- A command that finds the managing layer busy ends at once with abort 0x08, and raises no event (R24, R270). -/
def Hub.turnAway (h : Hub) (w : Who) (r : Request) (seq : Nat) (fromDown silent : Bool) : Hub :=
  match w.via with
  | .twoWire =>
    h.modMailbox w (fun m =>
      { m with cmd := r.cmd, index := r.idx, sub := r.sub, ty := r.ty, data := r.data, len := 0, result := 3, abort := 0x08 })
  | .tether => if silent then h else h.sendResp fromDown (h.respBytes w.host seq r.cmd r.idx r.sub 0x08 [])

/-- A claim or release by a WRITE frame of its own host number: held through a restart, not turned away (R24, R164). -/
def claimFrame (w : Who) (r : Request) : Bool :=
  decide (w.via = .tether) && r.valid && decide (r.cmd = 2) && decide (r.idx = hostIdx w.host) && decide (r.sub = 1)

/-- A command finds the managing layer busy. -/
def Hub.turnsAway (h : Hub) (w : Who) (r : Request) : Bool :=
  (h.serviceBusy && !(claimFrame w r && decide (6 ≤ h.boot.step))) || (decide (w.via = .tether) && h.tetherHeld)

/-- A command starts: RESULT reads running, and `go` follows. Every access restarts the session timer (R166). In a restart only a claim gets this
far; it is held in the order of arrival (R24, R164). -/
def Hub.startCommand (h : Hub) (w : Who) (r : Request) (seq : Nat) (fromDown silent : Bool) (go : Hub → Hub) : Hub :=
  if h.pwr.stable then h
  else
    let h := (h.touch w.host).ungate
    if (h.mailbox w).result = 1 then h.overrun w r seq fromDown silent
    else if h.turnsAway w r then h.turnAway w r seq fromDown silent
    else
      let h := h.modMailbox w (fun m => m.take r seq fromDown silent)
      if h.sup.restarting then h.process h w r else go h

/-- A command starts and is processed. -/
def Hub.command (h snap : Hub) (w : Who) (r : Request) (seq : Nat) (fromDown silent : Bool) : Hub :=
  h.startCommand w r seq fromDown silent (·.process snap w r)

/-- A command by a row that names it alone: SEQ and port of its RESP are those of the last frame of this host (log 38). -/
def Hub.rowCommand (h snap : Hub) (w : Who) (r : Request) : Hub := h.command snap w r (h.mailbox w).seq (h.mailbox w).fromDown false

/-! ## Completion (R268, R271) -/

/-- Commands that return data. -/
def returnsData (cmd : Nat) : Bool := decide (cmd = 1) || decide (cmd = 4) || decide (cmd = 6)

/-- The response fields of a completed command. -/
def Mailbox.finish (m : Mailbox) (abort ty : Nat) (data : List Byte) : Mailbox :=
  let reply := decide (abort = 0) && returnsData m.cmd
  { m with
    result := if abort = 0 then 2 else 3, abort := abort, outcome := none, ty := if ty = 0 then m.ty else ty
    len := if abort ≠ 0 then 0 else if returnsData m.cmd then data.length else m.len, data := if reply then data else m.data }

/-- The request of a command that runs. -/
def Mailbox.running (m : Mailbox) : Request := { cmd := m.cmd, idx := m.index, sub := m.sub, ty := m.ty, data := m.data, valid := m.valid }

/-- The command runs and is not processed yet: a bus access or a frame started it (R267, log 37). -/
def Mailbox.unprocessed (m : Mailbox) : Bool := decide (m.result = 1) && m.outcome.isNone && decide (m.waiting = .none)

/-- R271: a command is processed where it was only started, and completes: RESULT, and E106 on the two-wire port; on the Tether link its RESP
leaves. -/
def Hub.commandComplete (h snap : Hub) (w : Who) : Hub :=
  let h := if (h.mailbox w).unprocessed then h.process snap w (h.mailbox w).running else h
  let m := h.mailbox w
  match m.outcome with
  | none => h
  | some (abort, ty, data) =>
    let h := h.modMailbox w (fun m => m.finish abort ty data)
    match w.via with
    | .twoWire => h.cause evMailboxDone (.command w.host)
    | .tether =>
      if m.silent then h.modMailbox w (fun m => { m with lastSeq := none, lastResp := [] })
      else
        let bs := h.respBytes w.host m.seq m.cmd m.index m.sub abort (if abort = 0 then data else [])
        (h.sendResp m.fromDown bs).modMailbox w (fun m => { m with lastSeq := some (m.seq, h.now), lastResp := bs })

/-- MB_STATUS (R270). -/
def Hub.mbStatus (h : Hub) (w : Who) : Nat := 128 * b2n h.serviceBusy + 64 * b2n (h.mailbox w).overrun + (h.mailbox w).result

/-! ## Objects written by rows of their own -/

/-- The bytes a value has as the object's type (R262). -/
def objectBytes (idx sub v : Nat) : List Byte :=
  match describe idx sub with
  | some (_, r) => toBytes r.ty.bytes v
  | none => []

/-- A WRITE of a value to an object, with no type check asked for. -/
def writeOf (idx sub v : Nat) : Request := { cmd := 2, idx := idx, sub := sub, ty := 0, data := objectBytes idx sub v }

/-- A row that writes a value to an object. -/
def Hub.writeRowOf (h snap : Hub) (w : Who) (idx sub v : Nat) : Hub := h.rowCommand snap w (writeOf idx sub v)

/-- The meaning shared by the rows that write one object: refused only for an instance the part does not have. -/
def runWrite (ok : Bool) (w : Who) (idx sub v : Nat) (s : State) : Out := run (isWho w && ok) (fun h => h.writeRowOf s.snap w idx sub v) s

/-- A row that is a mailbox command. -/
def runCommand (w : Who) (r : Request) (s : State) : Out := run (isWho w) (fun h => h.rowCommand s.snap w r) s

end Sys2Proof.Machine
end

