-- ==== Sys2Proof/Machine/Commands.lean ====
section
/-! DEFINITION. The rows a host sends: mailbox commands, and the writes of single objects that have rows of their own. Every one takes the command path
of `Machine/Mailbox.lean` (R264, R266 to R273); what the object does with the write stands in its own chapter's file (`Machine/Writes.lean`). -/

namespace Sys2Proof.Machine

/-! ## Claims (R163, R164) -/

/-- The two-wire port answers: the loader serves it, outside Stable, and BRST_N is high (R292, R302, R387). -/
def Hub.twoWireServes (h : Hub) : Bool := !h.pwr.stable && decide (6 ≤ h.boot.step) && !h.twi.brstLow

/-- A claim word written by a host: at offset 0x0010 of its host view, or by a WRITE frame (R163, R164). -/
def Hub.claimRow (h snap : Hub) (w : Who) (cmd tag : Nat) : Hub :=
  match w.via with
  | .twoWire => if h.twoWireServes then ((h.ungate.claimCommand w cmd (tag % 65536)).touch w.host).alertSettle else h
  | .tether => h.writeRowOf snap w (hostIdx w.host) 1 (tag % 65536 * 65536 + cmd)

/-! ## Direct trims (R172, R173, R294) -/

/-- A trim written whole at the host view of its host: discarded for an unclaimed host or an Observer, and where the trim's own range does not hold it. -/
def Hub.viewTrim (h : Hub) (host src v : Nat) : Hub :=
  let idx := trimIdx src
  let sub := host + 1
  match describe idx sub with
  | some (b, r) =>
    if h.claimed host && decide (h.roleCheck host b r sub = 0) && r.chk.ok v then
      let x := h.accept ⟨.twoWire, host⟩ idx sub (toBytes 4 v)
      { x.1 with frameQ := x.1.frameQ ++ x.2 }
    else h
  | none => h

/-- A trim write by its row: through the host view, or as a mailbox command. -/
def Hub.trimRow (h snap : Hub) (w : Who) (view : Bool) (src k v : Nat) : Hub :=
  if view then if h.twoWireServes then ((h.touch w.host).ungate).viewTrim w.host src v else h
  else h.writeRowOf snap w (trimIdx src) (k + 1) v

/-! ## MODE, RANGE and WIRING of an output together (R93, R272) -/

/-- The fields a row gives, as held writes. -/
def cfgWrites (n : Nat) (mode range wiring : Option Nat) : List HeldWrite :=
  let one (sub : Nat) (v : Option Nat) : List HeldWrite := match v with | some x => [{ idx := outIdx n, sub := sub, data := objectBytes (outIdx n) sub x }] | none => []
  one 1 mode ++ one 2 range ++ one 3 wiring

/-- Several fields form one batch, checked as held writes and released; one field is a WRITE. The host's own held batch stays as it is. -/
def Hub.writeTogether (h snap : Hub) (w : Who) (ws : List HeldWrite) : Hub :=
  let single (x : HeldWrite) : Request := { cmd := 2, idx := x.idx, sub := x.sub, ty := 0, data := x.data }
  match ws with
  | [x] => h.rowCommand snap w (single x)
  | _ =>
    match ws.find? (fun x => decide (h.heldAbort w.host x.idx x.sub 0 x.data ≠ 0)) with
    | some x => h.rowCommand snap w (single x)
    | none =>
      let mine := (h.host w.host).held
      let h := h.modHost w.host (fun x => { x with held := ws })
      (h.rowCommand snap w { cmd := 4, idx := 0, sub := 0, ty := 0, data := [] }).modHost w.host (fun x => { x with held := mine })

/-! ## The meanings of the rows -/

/-- R361. The object of relief status of a slice. -/
def reliefIdx : SliceId → Nat
  | .input n => inReliefIdx n
  | .output n => outIdx n + 5

/-- R347. -/
def execReliefRequest (w : Who) (sl : SliceId) (v : Nat) (s : State) : Out := runWrite (isSlice sl) w (reliefIdx sl) 8 v s
/-- R354. -/
def execRetireClear (w : Who) (sl : SliceId) (v : Nat) (s : State) : Out := runWrite (isSlice sl) w (reliefIdx sl) 0x0A v s
/-- R183. -/
def execInstantiate (w : Who) (p v : Nat) (s : State) : Out := runWrite (isProcess p) w (procIdx p) 5 v s
/-- R184. -/
def execRemove (w : Who) (p v : Nat) (s : State) : Out := runWrite (isProcess p) w (procIdx p) 6 v s
/-- R188. -/
def execProcessEnable (w : Who) (p v : Nat) (s : State) : Out := runWrite (isProcess p) w (procIdx p) 0x0C v s
/-- R33, R35. -/
def execPhantomWrite (w : Who) (n v : Nat) (s : State) : Out := runWrite (isInput n) w (inFrontIdx n) 1 v s
/-- R38. -/
def execPolarityWrite (w : Who) (src v : Nat) (s : State) : Out := runWrite (isTrimSource src) w (frontIdx src) 3 v s
/-- R52. -/
def execMuteMaskWrite (w : Who) (k v : Nat) (s : State) : Out := runWrite (isMuteGroup k) w (0x2700) (k + 1) v s
/-- R71. -/
def execPathRestore (w : Who) (n v : Nat) (s : State) : Out := runWrite (isInput n) w (inTandemIdx n) 0x14 v s
/-- R72. -/
def execResetMatch (w : Who) (n v : Nat) (s : State) : Out := runWrite (isInput n) w (inTandemIdx n) 0x15 v s
/-- R93. -/
def execOutputModeChange (w : Who) (n : Nat) (mode range wiring : Option Nat) (s : State) : Out :=
  run (isWho w && isOutput n) (fun h => h.writeTogether s.snap w (cfgWrites n mode range wiring)) s
/-- R88. -/
def execCvCode (w : Who) (n code : Nat) (s : State) : Out := runWrite (isOutput n) w (outIdx n + 2) 1 code s
/-- R88. -/
def execCvBlock (w : Who) (n : Nat) (data : List Byte) (s : State) : Out :=
  run (isWho w && isOutput n) (fun h => h.rowCommand s.snap w { cmd := 2, idx := outIdx n + 2, sub := 2, ty := 0, data := data }) s
/-- R88. -/
def execCvFlush (w : Who) (n v : Nat) (s : State) : Out := runWrite (isOutput n) w (outIdx n + 2) 3 v s
/-- R115. -/
def execFaultClear (w : Who) (v : Nat) (s : State) : Out := runWrite (true) w (spkIdx) 9 v s
/-- R119. -/
def execSpkEnable (w : Who) (v : Nat) (s : State) : Out := runWrite (true) w (spkIdx) 6 v s
/-- R122. -/
def execReclassify (w : Who) (j v : Nat) (s : State) : Out := runWrite (isHeadphone j) w (hpIdx j + 1) 7 v s
/-- R134. -/
def execSinkSelect (w : Who) (k src : Nat) (s : State) : Out := runWrite (isSink k) w (selIdx k) 1 src s
/-- R137. -/
def execGeneratorType (w : Who) (g v : Nat) (s : State) : Out := runWrite (decide (g < 8)) w (genIdx g) 1 v s
/-- R139, R151. -/
def execCrosspointWrite (w : Who) (b k entry : Nat) (s : State) : Out := runWrite (isBus b && decide (1 ≤ k) && decide (k ≤ 64)) w (busIdx b) k entry s
/-- R151. -/
def execBankMode (w : Who) (k v : Nat) (s : State) : Out := runWrite (isHost k) w (0x5F00) (k + 1) v s
/-- R152. -/
def execCommit (w : Who) (v : Nat) (s : State) : Out := runWrite (true) w (0x5F00) 9 v s
/-- R154. -/
def execDiscard (w : Who) (v : Nat) (s : State) : Out := runWrite (true) w (0x5F00) 0x0A v s
/-- R164. -/
def execHostClaim (w : Who) (tag : Nat) (s : State) : Out := run (isWho w) (fun h => h.claimRow s.snap w 1 tag) s
/-- R164. -/
def execHostRelease (w : Who) (tag : Nat) (s : State) : Out := run (isWho w) (fun h => h.claimRow s.snap w 2 tag) s
/-- R162. -/
def execRoleWrite (w : Who) (k v : Nat) (s : State) : Out := runWrite (isHost k) w (hostIdx k) 2 v s
/-- R166. -/
def execSessionTimeoutWrite (w : Who) (k v : Nat) (s : State) : Out := runWrite (isHost k) w (hostIdx k) 6 v s
/-- R167. -/
def execForceRelease (w : Who) (k v : Nat) (s : State) : Out := runWrite (isHost k) w (hostIdx k) 0x0D v s
/-- R170. -/
def execTake (w : Who) (k key : Nat) (s : State) : Out := runWrite (isHost k) w (hostIdx k) 0x0A key s
/-- R170. -/
def execRelease (w : Who) (k key : Nat) (s : State) : Out := runWrite (isHost k) w (hostIdx k) 0x0B key s
/-- R170. -/
def execAssign (w : Who) (k key : Nat) (s : State) : Out := runWrite (isHost k) w (hostIdx k) 0x0C key s
/-- R172, R173, R294. -/
def execTrimWrite (w : Who) (view : Bool) (src k v : Nat) (s : State) : Out :=
  run (isWho w && isTrimSource src && isHost k) (fun h => h.trimRow s.snap w view src k v) s
/-- R214. -/
def execAnchorWrite (w : Who) (port : Bool) (v : Nat) (s : State) : Out := runWrite (true) w (0x8000) (if port then 5 else 4) v s
/-- R236. -/
def execStart (w : Who) (p v : Nat) (s : State) : Out := runWrite (isPort p) w (portIdx p) 0x11 v s
/-- R237. -/
def execStop (w : Who) (p v : Nat) (s : State) : Out := runWrite (isPort p) w (portIdx p) 0x12 v s
/-- R235. -/
def execMaskWrite (w : Who) (p sub v : Nat) (s : State) : Out := runWrite (isPort p && (decide (sub = 0x0E) || decide (sub = 0x0F) || decide (sub = 0x10))) w (portIdx p) sub v s
/-- R245. -/
def execCapArm (w : Who) (s : State) : Out := runWrite true w 0x4200 5 1 s
/-- R245. -/
def execCapStop (w : Who) (s : State) : Out := runWrite true w 0x4200 5 2 s
/-- R245. -/
def execCapData (w : Who) (s : State) : Out := runCommand w { cmd := 1, idx := 0x4200, sub := 0x0C, ty := 0, data := [] } s
/-- R269. -/
def execRead (w : Who) (idx sub : Nat) (s : State) : Out := runCommand w { cmd := 1, idx := idx, sub := sub, ty := 0, data := [] } s
/-- R269. -/
def execWrite (w : Who) (idx sub ty : Nat) (data : List Byte) (s : State) : Out :=
  runCommand w { cmd := 2, idx := idx, sub := sub, ty := ty, data := data } s
/-- R272. -/
def execWriteHeld (w : Who) (idx sub ty : Nat) (data : List Byte) (s : State) : Out :=
  runCommand w { cmd := 3, idx := idx, sub := sub, ty := ty, data := data } s
/-- R272. -/
def execReleaseBatch (w : Who) (s : State) : Out := runCommand w { cmd := 4, idx := 0, sub := 0, ty := 0, data := [] } s
/-- R269, R272. -/
def execDiscardBatch (w : Who) (s : State) : Out := runCommand w { cmd := 5, idx := 0, sub := 0, ty := 0, data := [] } s
/-- R273. -/
def execReadInfo (w : Who) (idx sub : Nat) (s : State) : Out := runCommand w { cmd := 6, idx := idx, sub := sub, ty := 0, data := [] } s
/-- R267. -/
def execObjectWrite (w : Who) (idx sub : Nat) (data : List Byte) (s : State) : Out :=
  runCommand w { cmd := 2, idx := idx, sub := sub, ty := 0, data := data } s
/-- R271. -/
def execCommandComplete (w : Who) (s : State) : Out := run (isWho w) (fun h => h.commandComplete s.snap w) s
/-- R277. -/
def execStore (w : Who) (v : Nat) (s : State) : Out := runWrite (true) w (0x1200) 1 v s
/-- R280. -/
def execFactoryReset (w : Who) (v : Nat) (s : State) : Out := runWrite (true) w (0x1200) 3 v s
/-- R341. -/
def execOccurClear (w : Who) (v : Nat) (s : State) : Out := runWrite (true) w (0xA000) 6 v s
/-- R333. -/
def execEventPendingClear (w : Who) (bits : BitVec 128) (s : State) : Out :=
  runCommand w { cmd := 2, idx := 0xA000, sub := 1, ty := 0, data := toBytes 16 bits.toNat } s
/-- R332. -/
def execEventMaskWrite (w : Who) (bits : BitVec 128) (s : State) : Out :=
  runCommand w { cmd := 2, idx := 0xA000, sub := 2, ty := 0, data := toBytes 16 bits.toNat } s
/-- R326. -/
def execWakeDown (w : Who) (v : Nat) (s : State) : Out := runWrite (true) w (0xD000) 0x0D v s
/-- R365. -/
def execRequest (w : Who) (v : Nat) (s : State) : Out := runWrite (true) w (0x9000) 1 v s
/-- R364. -/
def execDomainEnable (w : Who) (v : Nat) (s : State) : Out := runWrite (true) w (0x9000) 7 v s
/-- R372. -/
def execWatchInputWrite (w : Who) (c v : Nat) (s : State) : Out := runWrite (isChannel c) w (0x9000) (0x20 + c) v s
/-- R380. -/
def execReaderPlay (w : Who) (c : Nat) (s : State) : Out := runWrite (isChannel c) w 0x9000 (0x60 + c) 1 s
/-- R380. -/
def execReaderStop (w : Who) (c : Nat) (s : State) : Out := runWrite (isChannel c) w 0x9000 (0x60 + c) 2 s
/-- R381. -/
def execPadRelease (w : Who) (v : Nat) (s : State) : Out := runWrite (true) w (0x9000) 0x10 v s
/-- R382. -/
def execWakeOutWrite (w : Who) (v : Nat) (s : State) : Out := runWrite (true) w (0x9000) 0x0A v s
/-- R411. -/
def execImageData (w : Who) (offset : Nat) (data : List Byte) (s : State) : Out :=
  runCommand w { cmd := 2, idx := 0xB000, sub := 2, ty := 0, data := toBytes 4 offset ++ data } s
/-- R414. -/
def execAbort (w : Who) (s : State) : Out := runWrite true w 0xB000 1 1 s
/-- R418. -/
def execActivate (w : Who) (s : State) : Out := runWrite true w 0xB000 1 2 s
/-- R418. -/
def execSchedule (w : Who) (s : State) : Out := runWrite true w 0xB000 1 3 s
/-- R418. -/
def execCancel (w : Who) (s : State) : Out := runWrite true w 0xB000 1 4 s
/-- R408. -/
def execMakerKey (w : Who) (data : List Byte) (s : State) : Out :=
  runCommand w { cmd := 2, idx := 0xB000, sub := 0x13, ty := 0, data := data } s

end Sys2Proof.Machine
end

