-- ==== Sys2Proof/Machine/TwoWire.lean ====
section
/-! DEFINITION. The two-wire host port (R283 to R303): transactions, the host view and the quick window, bus resets, and the alert response. One row
stands for a transaction's START with what is read, and one for the STOP that commits a write (log 39). -/

namespace Sys2Proof.Machine

/-! ## Addresses (R284) -/

def Hub.mainAddress (h : Hub) : Nat := 0x30 + h.twi.adr
def Hub.quickAddress (h : Hub) : Nat := 0x38 + h.twi.adr

/-- The view an address opens. -/
def Hub.targetOf (h : Hub) (addr : Nat) : TwiTarget :=
  if addr = h.mainAddress then .main else if addr = h.quickAddress then .quick else .ignored

/-! ## The host view (R294 to R297) -/

/-- Byte `i` of a field of `n` bytes. -/
def byteOf (n v i : Nat) : Nat := v / 256 ^ (n - 1 - i) % 256

/-- STATUS (R295). -/
def Hub.viewStatus (h : Hub) (k : Nat) : Nat :=
  let x := h.host k
  h.boot.service * 2 ^ 20 + h.role k * 2 ^ 16 + 2048 * b2n x.claimed + 1024 * b2n x.onTwoWire + 512 * b2n (h.alerting k) +
  256 * b2n (decide ((h.mailbox ⟨.twoWire, k⟩).result = 1)) + 128 * b2n h.serviceBusy + 64 * b2n h.twi.panic + 32 * b2n (decide (h.ext.hmutePins ≠ 0)) +
  16 * b2n h.reinLocked + 8 * b2n h.supply.dip + 4 * b2n h.supply.thermalWarn +
  2 * b2n h.healthDegraded + b2n (decide (h.upd.state = 4) || decide (h.upd.state = 5))

/-- POWER_STATE (R296). -/
def Hub.viewPower (h : Hub) : Nat := 16 * h.pwr.pendingReq + h.pwr.state

/-- Byte `i` of the mailbox, 0x00 to 0xFF (R268). -/
def Hub.mailboxByte (h : Hub) (k i : Nat) : Nat :=
  let w : Who := ⟨.twoWire, k⟩
  let m := h.mailbox w
  if 0x10 ≤ i then if i - 0x10 < m.len then ((m.data[i - 0x10]?).getD 0).toNat else 0
  else
    match i with
    | 0 => m.cmd | 1 => h.mbStatus w | 2 => m.index / 256 | 3 => m.index % 256 | 4 => m.sub | 5 => m.ty | 6 => m.len | 7 => m.abort | _ => 0

/-- Peak of output `n`, -32768 outside AUDIO mode. -/
def Hub.outPeak (h : Hub) (n : Nat) : Int := if (h.output n).cfg.mode = 1 then (h.output n).audio.peak else -32768

/-- Peaks of HP1L, HP1R to HP4R by number, and of the speaker. -/
def Hub.hpPeak (h : Hub) (i : Nat) : Int := if i % 2 = 0 then (h.headphone (i / 2 + 1)).peakL else (h.headphone (i / 2 + 1)).peakR
def Hub.spkPeak (h : Hub) (i : Nat) : Int := if i = 0 then h.spk.peakL else h.spk.peakR

/-- The meter at a two-byte offset. -/
def Hub.viewMeter (h : Hub) (k off : Nat) : Option Int :=
  let i := (off % 0x1000) / 2
  if off < 0x1068 then some (h.stream (i + 1)).peak
  else if 0x1080 ≤ off ∧ off < 0x10C0 then some (h.outPeak (i - 0x40 + 1))
  else if 0x10C0 ≤ off ∧ off < 0x10D0 then some (h.hpPeak (i - 0x60))
  else if 0x10D0 ≤ off ∧ off < 0x10D4 then some (h.spkPeak (i - 0x68))
  else if 0x1100 ≤ off ∧ off < 0x1180 then some (h.bus (i - 0x80)).peak
  else if 0x1200 ≤ off ∧ off < 0x1268 then some ((h.stream (i - 0x100 + 1)).hostPeaks.getD k (-32768))
  else none

/-- What an unclaimed host number may read (R165). -/
def viewOpen (off : Nat) : Bool := decide (off ≤ 8) || (decide (0x10 ≤ off) && decide (off < 0x14))

/-- One byte of the view of host `k` (R294); reserved and unlisted offsets, and what R165 withholds, read as zero. -/
def Hub.viewRead (h : Hub) (k off : Nat) : Nat :=
  if !h.claimed k && !viewOpen off then 0
  else if off < 2 then byteOf 2 0x4832 off
  else if off < 4 then byteOf 2 0x4D01 (off - 2)
  else if off < 8 then byteOf 4 (h.viewStatus k) (off - 4)
  else if off = 8 then h.viewPower
  else if 0x10 ≤ off ∧ off < 0x14 then byteOf 4 (h.claimWord k) (off - 0x10)
  else if 0x100 ≤ off ∧ off < 0x200 then h.mailboxByte k (off - 0x100)
  else if 0x200 ≤ off ∧ off < 0x2D0 then byteOf 4 (h.accepted (trimIdx ((off - 0x200) / 4 + 1)) (k + 1)) (off % 4)
  else if 0x300 ≤ off ∧ off < 0x310 then byteOf 16 (h.pending k).toNat (off - 0x300)
  else if 0x310 ≤ off ∧ off < 0x320 then byteOf 16 (h.eventMask k).toNat (off - 0x310)
  else if 0x1000 ≤ off then match h.viewMeter k off with | some p => byteOf 2 (ofInt 16 p) (off % 2) | none => 0
  else 0

/-! ## The quick window (R298) -/

/-- SUMMARY. -/
def Hub.quickSummary (h : Hub) : Nat :=
  h.boot.service * 64 + 32 * b2n h.serviceBusy + 16 * b2n h.twi.panic + 8 * b2n (decide (h.ext.hmutePins ≠ 0)) + 4 * b2n h.reinLocked +
  2 * b2n h.healthDegraded + b2n ((List.range 8).any h.alerting)

/-- One byte of the quick window. -/
def Hub.quickRead (h : Hub) (off : Nat) : Nat :=
  if off = 0 then h.quickSummary
  else if off = 1 then h.viewPower
  else if off = 2 then hostBits h.alerting
  else if 4 ≤ off ∧ off < 0x0C then byteOf 8 h.twi.frameLatch (off - 4)
  else if 0x10 ≤ off ∧ off < 0x20 then byteOf 16 h.twi.anyLatch.toNat (off - 0x10)
  else if off = 0x30 then if h.twi.panic then 0xA5 else 0
  else if off = 0x31 then h.twi.lampTest
  else 0

/-- Reading the first byte of FRAME_COUNT or ANY_PENDING latches it. -/
def Hub.quickLatch (h : Hub) (off : Nat) : Hub :=
  if off = 4 then h.modTwi (fun t => { t with frameLatch := h.frameCount })
  else if off = 0x10 then h.modTwi (fun t => { t with anyLatch := h.anyPending })
  else h

/-! ## Reads (R286, R298) -/

/-- A read of `n` bytes of the host view from the pointer, which wraps inside the view. -/
def Hub.readMain (h : Hub) (n : Nat) : Hub :=
  let k := h.twi.pointer / 8192
  let off := h.twi.pointer % 8192
  let bs := (List.range n).map (fun i => BitVec.ofNat 8 (h.viewRead k ((off + i) % 8192)))
  (h.modTwi (fun t => { t with sent := bs, pointer := 8192 * k + (off + n) % 8192 })).touch k

/-- The bytes of a read of the quick window one after the other. -/
def Hub.readQuickFrom (h : Hub) (off : Nat) : Nat → Hub × List Byte
  | 0 => (h, [])
  | n + 1 =>
    let h := h.quickLatch (off % 64)
    let b : Byte := BitVec.ofNat 8 (h.quickRead (off % 64))
    let (h', bs) := h.readQuickFrom (off + 1) n
    (h', b :: bs)

def Hub.readQuick (h : Hub) (n : Nat) : Hub :=
  let (h', bs) := h.readQuickFrom h.twi.quickPointer n
  h'.modTwi (fun t => { t with sent := bs, quickPointer := (h.twi.quickPointer + n) % 64 })

def Hub.serveRead (h : Hub) (t : TwiTarget) (n : Nat) : Hub :=
  match t with
  | .main => h.readMain n
  | .quick => h.readQuick n
  | _ => h

/-! ## START (R286, R301, R302) -/

/-- The settings of R301 apply from this START. -/
def Hub.startTiming (h : Hub) : Hub :=
  let v (sub : Nat) : Nat := h.live? 0xE000 sub
  h.modTwi (fun t => { t with holdSteps := v 1, setupSteps := v 2, spikeFilter := v 3 })

/-- The stored STABLE_WAKE_NACK. -/
def Hub.wakeNack (h : Hub) : Bool := decide (tgetD h.nv (key 0xE000 5) 0 = 1)

/-- A transaction begins on a hub whose port service runs. In Watch the clocks are ungated for it; in the entry to Stable the match is latched as a wake
cause (R302, R371). -/
def Hub.startServed (h : Hub) (t : TwiTarget) (isRead : Bool) (n : Nat) : Hub :=
  let h := h.startTiming.ungate
  let h := if h.pwr.progress = 3 then h.latchWake .twoWire else h
  let h := h.modTwi (fun x => { x with open_ := t, reading := isRead, sent := [] })
  if isRead then h.serveRead t n else h

/-- A transaction begins before the loader's port service runs: it waits on a stretched clock, or is turned away (R302). -/
def Hub.startStretched (h : Hub) (t : TwiTarget) (isRead : Bool) (n : Nat) : Hub :=
  if h.wakeNack then h.modTwi (fun x => { x with open_ := .ignored, reading := isRead, sent := if isRead then List.replicate n 0xFF else [] })
  else h.modTwi (fun x => { x with open_ := t, reading := isRead, sent := [], stretched := if isRead then some n else none })

/-- R286: a START with an address. Before the straps are sampled, and in factory test, no address is acknowledged (R284, R455). -/
def State.twiStart (s : State) (addr : Nat) (isRead : Bool) (n : Nat) : State :=
  let h := s.hub
  let t := h.targetOf addr
  if h.twi.brstLow then s
  else if t = .ignored then s.mapHub (·.modTwi (fun x => { x with open_ := .ignored, reading := isRead, sent := [] }))
  else if h.pwr.stable then s.reboot (fun h => ((h.wakeReset [.twoWire] false).modTwi (fun x => { x with adr := h.twi.adr })).startStretched t isRead n)
  else if h.boot.step = 0 ∨ h.boot.factoryTest = true then s
  else if h.boot.step < 6 then s.mapHub (·.startStretched t isRead n)
  else s.mapHub (·.startServed t isRead n)

/-- Step 6 of bring-up: a read that waited goes on (R302). -/
def Hub.portServes (h : Hub) : Hub :=
  match h.twi.stretched with
  | some n => if 6 ≤ h.boot.step then (h.modTwi (fun t => { t with stretched := none })).serveRead h.twi.open_ n else h
  | none => h

/-! ## Writes (R287, R288, R298) -/

/-- Bytes staged in a page of `size` bytes from an offset: a later byte for an offset replaces the one before. -/
def stage (size : Nat) : Nat → List Byte → Table Byte
  | _, [] => []
  | off, b :: r =>
    let later := stage size (off / size * size + (off + 1) % size) r
    if (tget later off).isSome then later else tput later off b

/-- The offset after `n` bytes, within the page. -/
def pageAfter (size off n : Nat) : Nat := off / size * size + (off + n) % size

/-- A byte put into a number of `n` bytes at place `i`. -/
def putByte (n v i b : Nat) : Nat := v - byteOf n v i * 256 ^ (n - 1 - i) + b * 256 ^ (n - 1 - i)

/-- A byte of MB_DATA. -/
def putData (bs : List Byte) (i : Nat) (b : Byte) : List Byte := (List.range (max bs.length (i + 1))).map (fun j => if j = i then b else (bs[j]?).getD 0)

/-- The whole four-byte field that ends at an offset, if all of it is staged. -/
def wholeField (st : Table Byte) (off : Nat) : Option Nat :=
  match tget st (off - 3), tget st (off - 2), tget st (off - 1), tget st off with
  | some a, some b, some c, some d => some (ofBytes [a, b, c, d])
  | _, _, _, _ => none

/-- One staged byte of a field that is handled byte by byte: the mailbox's request fields, PENDING and MASK. -/
def Hub.viewByte (h : Hub) (k off : Nat) (b : Byte) : Hub :=
  let w : Who := ⟨.twoWire, k⟩
  let v := b.toNat
  if 0x110 ≤ off ∧ off < 0x200 then h.modMailbox w (fun m => { m with data := putData m.data (off - 0x110) b })
  else if 0x300 ≤ off ∧ off < 0x310 then h.clearPending k (BitVec.ofNat 128 (v * 256 ^ (0x30F - off)))
  else if 0x310 ≤ off ∧ off < 0x320 then h.writeMask k (BitVec.ofNat 128 (putByte 16 (h.eventMask k).toNat (off - 0x310) v))
  else
    match off with
    | 0x102 => h.modMailbox w (fun m => { m with index := 256 * v + m.index % 256 })
    | 0x103 => h.modMailbox w (fun m => { m with index := m.index / 256 * 256 + v })
    | 0x104 => h.modMailbox w (fun m => { m with sub := v })
    | 0x105 => h.modMailbox w (fun m => { m with ty := v })
    | 0x106 => h.modMailbox w (fun m => { m with len := v })
    | _ => h

/-- One offset of the commit, in ascending order: CLAIM and the trims act only whole. -/
def Hub.viewWrite (h : Hub) (k : Nat) (st : Table Byte) (off : Nat) (b : Byte) : Hub :=
  if off = 0x13 then match wholeField st off with | some v => h.claimWrite ⟨.twoWire, k⟩ v | none => h
  else if !h.claimed k then h
  else if 0x200 ≤ off ∧ off < 0x2D0 then
    if off % 4 = 3 then match wholeField st off with | some v => h.viewTrim k ((off - 0x200) / 4 + 1) v | none => h else h
  else h.viewByte k off b

/-- The request a host view's mailbox holds. -/
def Mailbox.request (m : Mailbox) (cmd : Nat) : Request :=
  { cmd := cmd, idx := m.index, sub := m.sub, ty := m.ty, data := (List.range m.len).map (fun i => (m.data[i]?).getD 0) }

/-- MB_CMD is written: 0x00 is no action; while a command runs the write is ignored and OVERRUN set (R269, R270). -/
def Hub.startMailbox (h : Hub) (k cmd : Nat) : Hub :=
  let w : Who := ⟨.twoWire, k⟩
  if (h.mailbox w).result = 1 then h.modMailbox w (fun m => { m with overrun := true })
  else if cmd = 0 then h.modMailbox w (fun m => { m with cmd := 0 })
  else h.startCommand w ((h.mailbox w).request cmd) 0 false false id

/-- A commit in the view of host `k`: MB_CMD last (R287). An unclaimed host number reaches only CLAIM (R165). -/
def Hub.commitMain (h : Hub) (k : Nat) (st : Table Byte) : Hub :=
  let h := st.foldl (fun h e => h.viewWrite k st e.1 e.2) h
  let h := match tget st 0x100 with | some b => if h.claimed k then h.startMailbox k b.toNat else h | none => h
  (h.touch k).alertSettle

/-- PANIC_MUTE 0xA5 (R97, R116, R299). -/
def Hub.panicMute (h : Hub) : Hub :=
  if h.twi.panic then h
  else (((h.modTwi (fun t => { t with panic := true })).forAll (upTo 1 32) Hub.outputPanic).forAll (upTo 1 4) (·.hpPanic · 0)).spkPanic 0

/-- PANIC_MUTE 0x5A. -/
def Hub.panicRelease (h : Hub) : Hub :=
  if h.twi.panic then
    (((h.modTwi (fun t => { t with panic := false })).forAll (upTo 1 32) Hub.outputPanicRelease).forAll (upTo 1 4) (·.hpPanic · unity)).spkPanic unity
  else h

/-- LAMP_TEST: each bit written 1 sinks its lamp for 5 s (R299). -/
def Hub.lampTest (h : Hub) (v : Nat) : Hub :=
  let h := h.modTwi (fun t => { t with lampTest := v % 16 })
  h.forAll (List.range 4) (fun h k => if bit v k then h.start (.lampTest k) (secs 5) else h.cancel (.lampTest k))

/-- A lamp-test bit clears itself. -/
def Hub.lampTestExpiry (h : Hub) (k : Nat) : Hub :=
  h.whenDue (.lampTest k) (·.modTwi (fun t => { t with lampTest := clearBits t.lampTest (2 ^ k) }))

/-- A commit in the quick window. -/
def Hub.commitQuick (h : Hub) (st : Table Byte) : Hub :=
  let h :=
    match tget st 0x30 with
    | some b => if b.toNat = 0xA5 then h.panicMute else if b.toNat = 0x5A then h.panicRelease else h
    | none => h
  match tget st 0x31 with
  | some b => h.lampTest b.toNat
  | none => h

/-! ## Faults of the bus (R290, R292, R293) -/

/-- A protocol error: staged bytes are discarded, LAST_ERROR, E96. -/
def Hub.twiError (h : Hub) (code : Nat) : Hub :=
  (h.modTwi (fun t => { t with open_ := .none, reading := false, lastError := code, protocolErrors := satInc 65535 t.protocolErrors })).cause
    evTwiProtocol .twoWire

/-- R290. -/
def Hub.protocolError (h : Hub) (code : Nat) : Hub := if h.twoWireServes then (h.twiError code).ungate else h

/-- The port state machine is reset (R292). -/
def Hub.portReset (h : Hub) (code : Nat) : Hub :=
  (h.modTwi (fun t =>
    { t with open_ := .none, reading := false, stretched := none, pointer := 0, quickPointer := 0, lastError := code, busResets := satInc 65535 t.busResets })).cause
    evTwiBusReset .twoWire

/-- R292: BRST_N low for 1 µs. -/
def Hub.brstReset (h : Hub) : Hub := if h.twi.brstLow then h else (h.portReset 5).modTwi (fun t => { t with brstLow := true })

/-- R292: BRST_N high again. -/
def Hub.brstRelease (h : Hub) : Hub := h.modTwi (fun t => { t with brstLow := false })

/-- BUS_TIMEOUT in force for a hold of SCL that has lasted 35 ms (R293). -/
def Hub.timeoutOn (h : Hub) : Bool := if h.twi.busTimeoutAt + ms 35 ≤ h.now ∨ h.twi.busTimeout = h.twi.busTimeoutWas then h.twi.busTimeout else h.twi.busTimeoutWas

/-- R293. -/
def Hub.busTimeout (h : Hub) : Hub := if h.timeoutOn && h.twoWireServes then h.portReset 4 else h

/-! ## STOP (R287, R290) -/

/-- A STOP, or a well-formed repeated START: the bytes after the address are the pointer and the staged data. After a read there is nothing to commit. -/
def Hub.twiStop (h : Hub) (bs : List Byte) : Hub :=
  if h.twoWireServes then
    let t := h.twi.open_
    let h := (h.modTwi (fun x => { x with open_ := .none })).ungate
    if h.twi.reading then h
    else
      match t, bs with
      | .main, [_] => h.twiError 3
      | .main, a :: b :: data =>
        let k := a.toNat / 32
        let off := a.toNat % 32 * 256 + b.toNat
        let h := h.modTwi (fun x => { x with pointer := 8192 * k + pageAfter 32 off data.length })
        if data.isEmpty then h.touch k else h.commitMain k (stage 32 off data)
      | .quick, a :: data =>
        let off := a.toNat % 64
        (h.modTwi (fun x => { x with quickPointer := pageAfter 64 off data.length })).commitQuick (stage 64 off data)
      | _, _ => h
  else h

/-! ## Alert response (R300) and Watch (R302) -/

/-- A read of address 0x0C while ALERT_N is asserted: on a win ALERT_N is released and the repeat starts; a loss changes nothing. -/
def Hub.alertResponse (h : Hub) (lowerTarget : Bool) : Hub :=
  if h.twoWireServes && decide (h.twi.alertState = 1) then
    let h := h.modTwi (fun t => { t with sent := [BitVec.ofNat 8 (2 * h.mainAddress)] })
    if lowerTarget then h
    else
      let h := h.modTwi (fun t => { t with alertState := 2, araWins := (t.araWins + 1) % 4294967296 })
      let r := h.live? 0xE000 4
      if r = 0 then h.cancel .alertRepeat else h.start .alertRepeat (us r)
  else h

/-- ALERT_REPEAT after a win: ALERT_N again while unmasked pending events remain. -/
def Hub.alertRepeat (h : Hub) : Hub :=
  h.whenDue .alertRepeat (fun h => h.modTwi (fun t => { t with alertState := if h.twoWireAlerting then 1 else 0 }))

/-- R302, R326: a host access in Watch. -/
def Hub.watchAccess (h : Hub) : Hub := h.ungate

/-- Some command of a host still runs. -/
def Hub.commandRuns (h : Hub) : Bool := (h.mailTwi ++ h.mailTether).any (fun e => decide (e.2.result = 1))

/-- 50 ms after the last STOP, once no command runs, the clocks return to Watch gating. -/
def Hub.watchRegate (h : Hub) : Hub :=
  if h.commandRuns then h else h.whenDue .watchRegate (·.modPwr (fun p => { p with hostGate := false }))

/-! ## The meanings of the rows -/

/-- R286, R298, R302. -/
def execTwiAddressMatch (addr : Nat) (isRead : Bool) (count : Nat) (s : State) : Out := .next (s.twiStart addr isRead count)
/-- R287, R290, R298. -/
def execTwiStopCommit (bytes : List Byte) (s : State) : Out := always (·.twiStop bytes) s
/-- R290. -/
def execTwiProtocolError (code : Nat) (s : State) : Out := run (decide (1 ≤ code) && decide (code ≤ 3)) (·.protocolError code) s
/-- R292. -/
def execBrstNReset (s : State) : Out := always Hub.brstReset s
/-- R292. -/
def execBrstNRelease (s : State) : Out := always Hub.brstRelease s
/-- R293. -/
def execBusTimeout (s : State) : Out := always Hub.busTimeout s
/-- R300. -/
def execAlertResponse (lowerTarget : Bool) (s : State) : Out := always (·.alertResponse lowerTarget) s
/-- R300. -/
def execAlertRepeat (s : State) : Out := always Hub.alertRepeat s
/-- R302. -/
def execWatchHostAccess (s : State) : Out := always Hub.watchAccess s
/-- R302. -/
def execWatchClockRegate (s : State) : Out := always Hub.watchRegate s
/-- R97, R299. -/
def execPanicMute (s : State) : Out := always Hub.panicMute s
/-- R97, R299. -/
def execPanicRelease (s : State) : Out := always Hub.panicRelease s
/-- R299. -/
def execLampTest (bits : Nat) (s : State) : Out := run (decide (bits < 16)) (·.lampTest bits) s
/-- R299. -/
def execLampTestExpiry (k : Nat) (s : State) : Out := run (decide (k < 4)) (·.lampTestExpiry k) s
/-- R387, R302. -/
def execBringUpStep (unreadable : Bool) (failed : List (Nat × Nat)) (s : State) : Out := always (fun h => (h.bringUpStep unreadable failed).portServes) s

end Sys2Proof.Machine
end

