-- ==== Sys2Proof/Machine/Tether.lean ====
section
/-! DEFINITION. The Tether link (R304 to R327): what a received frame does, roll calls, Tether time, the commands, resets and image data that
arrive by frame, and NOTIFY. Every row below names either a whole frame or its parsed content (log 41). -/

namespace Sys2Proof.Machine

/-! ## Receiving (R306, R310, R311) -/

/-- The hub receives on a port: the link is up, PD_TETHER is on and the port service runs (R306, R326, R387). -/
def Hub.receives (h : Hub) (p : TetherPort) : Bool := h.linkUp p && h.tet.on && !h.pwr.stable && decide (6 ≤ h.boot.step)

/-- Byte `i` of a frame as a number. -/
def frameAt (bs : List Byte) (i : Nat) : Nat := ((bs[i]?).getD 0).toNat

/-- Length of the command header: READ, WRITE and RESP have one (R310). -/
def headerLength (ty : Nat) : Nat := if 1 ≤ ty ∧ ty ≤ 3 then 6 else 0

/-- The flags of a broadcast SYNC or ROLLCALL hold no reserved bit (R311, R314, R319). -/
def flagsOk (bs : List Byte) : Bool :=
  decide (frameAt bs 0 ≠ 63) ||
  match frameAt bs 3 with
  | 5 => decide (frameAt bs 20 < 8)
  | 6 => decide (frameAt bs 8 < 4)
  | _ => true

/-- A frame is whole (R311): its length, its reserved bits, its TYPE and its CRC. -/
def frameOk (bs : List Byte) : Bool :=
  let n := bs.length
  let len := frameAt bs 5
  decide (10 ≤ n) && decide (len ≤ 240) && decide (n = 10 + headerLength (frameAt bs 3) + len) && decide (frameAt bs 0 < 64) && decide (frameAt bs 1 < 64) &&
  decide (frameAt bs 2 < 8) && decide (1 ≤ frameAt bs 3) && decide (frameAt bs 3 ≤ 8) && flagsOk bs && decide (field bs (n - 4) 4 = crc32c (bs.take (n - 4)))

/-- The payload of a whole frame. -/
def framePayload (bs : List Byte) : List Byte := (bs.drop (6 + headerLength (frameAt bs 3))).take (frameAt bs 5)

/-- A fault in a frame: CRC_ERRORS, and E105 at the start of an episode (R311). -/
def Hub.frameError (h : Hub) : Hub :=
  (h.modTet (fun t => { t with crcErrors := satInc 4294967295 t.crcErrors })).episode .tetherCrc (secs 1) (·.cause evTetherCrc)

/-- A frame for everyone that arrives on `p` goes out of the other port as well (R307). -/
def Hub.passOn (h : Hub) (p : TetherPort) (dest : Nat) (k : TxKind) (bs : List Byte) : Hub :=
  if dest = 63 then h.forward (otherPort p) k bs false else h

/-- Addressed to this hub. -/
def Hub.isOwn (h : Hub) (dest : Nat) : Bool := decide (dest = h.tet.address) && decide (dest ≠ 0xFF)

/-! ## Commands (R313, R322, R323) -/

/-- The request of a READ or WRITE frame. -/
def frameRequest (bs : List Byte) : Request :=
  let cmd := frameAt bs 10
  let read := decide (frameAt bs 3 = 1)
  let infos := decide (cmd = 1) || decide (cmd = 6)
  { cmd := cmd, idx := field bs 6 2, sub := frameAt bs 8, ty := frameAt bs 9, data := framePayload bs
    valid := if read then infos && decide (frameAt bs 5 = 0) else !infos }

/-- A frame of the hub with the SRC now in force (R317). -/
def Hub.readdressed (h : Hub) (bs : List Byte) : List Byte :=
  let body := (bs.take (bs.length - 4)).set 1 (BitVec.ofNat 8 h.tet.address)
  body ++ toBytes 4 (crc32c body)

/-- READ or WRITE for this hub: a retry of the running command is ignored, one of the last completed within 1 s is answered again (R322). -/
def Hub.frameCommand (h : Hub) (p : TetherPort) (bs : List Byte) : Hub :=
  let dest := frameAt bs 0
  let w : Who := ⟨.tether, frameAt bs 2⟩
  let seq := frameAt bs 4
  let r := frameRequest bs
  let down := decide (p = .down)
  if dest = 63 then if frameAt bs 3 = 2 then h.startCommand w r seq down true id else h
  else
    let h := (h.touch w.host).ungate
    let m := h.mailbox w
    if m.result = 1 ∧ m.seq = seq then h
    else if m.result ≠ 1 ∧ (match m.lastSeq with | some (q, f) => decide (q = seq) && decide (h.now ≤ f + secs 1) | none => false) = true then
      h.sendResp down (h.readdressed m.lastResp)
    else h.startCommand w r seq down false id

/-! ## RESET and BULK (R323) -/

/-- Abort code of a RESET for a host number. -/
def Hub.resetAbort (h : Hub) (host : Nat) : Nat := if !h.claimed host then 0x0C else if h.role host = 2 then 0 else 0x03

/-- A RESET frame: the reset follows 1 ms after the RESP; a broadcast has none, and its reset comes as late (log 42). -/
def Hub.frameReset (h : Hub) (p : TetherPort) (dest host seq : Nat) (payload : List Byte) : Hub :=
  let h := h.touch host
  if payload ≠ [0xA5, 0x5A] then h
  else
    let code := h.resetAbort host
    let h := if dest = 63 then h else h.sendResp (decide (p = .down)) (h.respBytes host seq 0 0 0 code [])
    if code = 0 then h.start .reset (ms 1) else h

/-- A BULK frame: image data written to the update object; broadcasts are discarded. -/
def Hub.frameBulk (h : Hub) (p : TetherPort) (dest host seq offset : Nat) (data : List Byte) : Hub :=
  if dest = 63 then h
  else
    let h := (h.touch host).ungate
    let x := if h.serviceBusy then (0x08, h) else h.writeObject ⟨.tether, host⟩ 0xB000 2 0 (toBytes 4 offset ++ data)
    let h := x.2
    h.sendResp (decide (p = .down)) (frameBytes 0 h.tet.address host 3 seq (commandHeader 0xB000 0 0 2 x.1) [])

/-! ## Time (R318 to R321) -/

/-- Nanoseconds, over a denominator, in 1/65536 frame: 6.291456 of them to the nanosecond. How a broken result is rounded is not stated (log 12). -/
def inFractions (ns den : Nat) : Nat :=
  let a := ns * 6291456
  let b := den * 1000000
  if a % b = 0 then a / b else if Config.roundsUp a b then a / b + 1 else a / b

/-- Round trip less the turnaround of 16 symbols, halved, averaged over 64 (R318). -/
def linkDelay (sum : Nat) : Nat := inFractions (sum - 64 * 1280) 128

/-- An ECHO_RSP completes a round trip of an unanswered ECHO_REQ. -/
def Hub.echoReply (h : Hub) (p : TetherPort) (ns : Nat) : Hub :=
  match p with
  | .up =>
    if h.tet.upEcho then
      h.modTet (fun t =>
        if t.upTrips + 1 = 64 then { t with upEcho := false, upTrips := 0, upSum := 0, upDelay := linkDelay (t.upSum + ns) }
        else { t with upEcho := false, upTrips := t.upTrips + 1, upSum := t.upSum + ns })
    else h
  | .down =>
    if h.tet.downEcho then
      h.modTet (fun t =>
        if t.downTrips + 1 = 64 then { t with downEcho := false, downTrips := 0, downSum := 0, downDelay := linkDelay (t.downSum + ns) }
        else { t with downEcho := false, downTrips := t.downTrips + 1, downSum := t.downSum + ns })
    else h

/-- After a SYNC frame an ECHO_REQ goes out on the port the frame came in on (log 43). -/
def Hub.echoRequest (h : Hub) (p : TetherPort) : Hub :=
  (h.transmitEcho p .echoReq).modTet (fun t => match p with | .up => { t with upEcho := true } | .down => { t with downEcho := true })

/-- A difference in 1/65536 frame is at most `ns` nanoseconds. -/
def syncWithin (e : Int) (ns : Nat) : Bool := decide (e.natAbs * 15625 ≤ ns * 98304)

/-- The delay of the link a frame came over. -/
def Hub.delayOf (h : Hub) : TetherPort → Nat
  | .up => h.tet.upDelay
  | .down => h.tet.downDelay

/-- The difference of the two frame boundaries as the anchor's phase sample: the nearest of Tether time against the local one (R209). -/
def tetherPhase (t l : Nat) : Int :=
  let e := (t + 65536 - l % 65536) % 65536
  2 * (if e ≤ 32768 then (e : Int) else (e : Int) - 65536)

/-- A SYNC frame whose SOF came `arrival` into the present core frame is used: the estimate at its arrival, the rate over 16 of them, its agreement with
the estimate before, the flags, and the phase sample (R209, R320, R321, R325; log 44). -/
def Hub.syncUse (h : Hub) (p : TetherPort) (f : SyncFrame) (arrival : Nat) : Hub :=
  let d := h.delayOf p
  let t := f.time + f.delayAcc + d
  let l := 65536 * h.now + arrival
  let e : Int := (t : Int) - h.tetherAt l
  let known := !h.tet.syncs.isEmpty
  let good := f.timeValid && known && syncWithin e 100
  let bad := known && !syncWithin e 1000
  let run := h.syncRecent
  let changed := decide (h.tet.ringBroken ≠ f.ringBroken)
  let h := h.modTet (fun x =>
    { x with
      time := t, timeAt := l, syncs := ((l, t) :: x.syncs).take 16, lastSync := some h.now, pathDelay := f.delayAcc + d, ring := f.ring
      ringBroken := f.ringBroken, timeValid := f.timeValid, generation := f.generation % 256
      goodSyncs := if good then if run then x.goodSyncs + 1 else 1 else 0, badSyncs := if bad then x.badSyncs + 1 else 0 })
  let h := if changed then h.cause evRingBroken else h
  (h.timeLockJudge.detect 3 (tetherPhase t l)).wckoutTether

/-- The payload of SYNC with a delay in place of its own (R319). -/
def syncPayload (f : SyncFrame) (delayAcc : Nat) : List Byte :=
  toBytes 8 (f.time / 65536) ++ toBytes 2 (f.time % 65536) ++ toBytes 4 delayAcc ++
  [BitVec.ofNat 8 (b2n f.ring + 2 * b2n f.ringBroken + 4 * b2n f.timeValid), BitVec.ofNat 8 f.generation]

/-- A SYNC frame: the first of each 1 ms is used (R325); it goes on with this hub's delay added, and an echo is asked for (R318, R320). -/
def Hub.sync (h : Hub) (p : TetherPort) (f : SyncFrame) (t : SyncTimes) (src host seq : Nat) : Hub :=
  if h.receives p then
    let fresh := match h.tet.lastSync with | some l => decide (l + 95 ≤ h.now) | none => true
    let acc := (f.delayAcc + h.delayOf p + t.residence) % 4294967296
    let h := if fresh then h.syncUse p f t.arrival else h
    (h.passOn p 63 .sync (frameBytes 63 src host 5 seq [] (syncPayload f acc))).echoRequest p
  else h

/-- A SYNC payload read from its bytes. -/
def syncOf (bs : List Byte) : SyncFrame :=
  let flags := frameAt bs 14
  { time := field bs 0 8 * 65536 + field bs 8 2, delayAcc := field bs 10 4, ring := bit flags 0, ringBroken := bit flags 1, timeValid := bit flags 2
    generation := frameAt bs 15 }

/-- The residence time of a frame whose row does not give it: between 800 and 960 ns on an idle port (R308). -/
def Hub.residence (h : Hub) (p : TetherPort) : Nat × Hub :=
  let (d, h) := h.draw
  let r := Config.residence d
  (if h.tet.tx.all (fun g => decide (g.port ≠ (otherPort p))) then clampNat 5034 6039 r else max 5034 r, h)

/-! ## Roll call (R314 to R317) -/

/-- The payload of a roll call. -/
def rollBytes (mode : Nat) (r : RollCall) : List Byte :=
  [BitVec.ofNat 8 mode, BitVec.ofNat 8 r.counter, BitVec.ofNat 8 (b2n r.returning + 2 * b2n r.overflow)] ++ toBytes 8 r.taken ++
  r.list.map (fun a => BitVec.ofNat 8 a)

/-- A roll call read from its payload. -/
def rollOf (bs : List Byte) : RollCall :=
  { sticky := decide (frameAt bs 0 = 1), counter := frameAt bs 1, returning := bit (frameAt bs 2) 0, overflow := bit (frameAt bs 2) 1, taken := field bs 3 8
    list := (bs.drop 11).map (·.toNat) }

/-- The provisional address of R315, if one is available. -/
def Hub.provisionalFor (h : Hub) (r : RollCall) : Option Nat :=
  if r.sticky then
    let stored := h.ext.address
    if 1 ≤ stored ∧ stored ≤ 62 ∧ bit r.taken stored = false then some stored else (upTo 1 62).find? (fun a => !bit r.taken a)
  else if r.counter + 1 ≤ 62 then some (r.counter + 1) else none

/-- R315: a FRESH or STICKY roll call without RETURNING on the up port is held, answered and sent on or returned, as a frame of the hub's own (R309); any
other is forwarded. -/
def Hub.rollCall (h : Hub) (p : TetherPort) (r : RollCall) (dest src host seq : Nat) : Hub :=
  if h.receives p then
    let mode := b2n r.sticky
    if p = .down ∨ r.returning = true then
      h.forward (otherPort p) .forwarded (frameBytes dest src host 6 seq [] (rollBytes mode r)) false
    else
      let a := h.provisionalFor r
      let r' := match a with
        | some a => { r with taken := setBit r.taken a true, list := r.list ++ [a], counter := r.counter + 1 }
        | none => { r with overflow := true }
      let h := h.modTet (fun t => { t with provisional := a.map (fun a => (a, r.counter + 1)) })
      let h := if a.isSome then h.start .rollcall (ms 100) else h.cancel .rollcall
      let src := a.getD src
      if h.tet.downLink then h.transmit .down .own (frameBytes 63 src host 6 seq [] (rollBytes mode r'))
      else h.transmit .up .own (frameBytes 0 src host 6 seq [] (rollBytes mode { r' with returning := true }))
  else h

/-- R316: CONFIRM: the provisional address that stands at its place in LIST is adopted, stored, and E102 raised. -/
def Hub.confirm (h : Hub) (r : RollCall) : Hub :=
  match h.tet.provisional with
  | some (a, place) =>
    if r.list[place - 1]? = some a then
      (((h.modTet (fun t => { t with address := a, position := place, provisional := none })).cancel .rollcall).request .address).cause evRollCall
    else h
  | none => h

/-- R316: no matching CONFIRM within 100 ms. -/
def Hub.rollcallTimeout (h : Hub) : Hub := h.whenDue .rollcall (·.modTet (fun t => { t with provisional := none }))

/-- A CONFIRM as a frame: consumed and forwarded (R307, R316). -/
def Hub.confirmRow (h : Hub) (p : TetherPort) (r : RollCall) : Hub :=
  if h.receives p then (h.confirm r).passOn p 63 .forwarded (frameBytes 63 0 0 6 0 [] (rollBytes 2 r)) else h

/-! ## A received frame (R307, R311) -/

/-- A roll call that is held until its end, and not forwarded cut-through. -/
def isHeldRoll (p : TetherPort) (bs : List Byte) : Bool :=
  decide (p = .up) && decide (frameAt bs 3 = 6) && decide (frameAt bs 6 < 2) && !bit (frameAt bs 8) 0 && decide (frameAt bs 0 = 63)

/-- What this hub consumes of a whole frame, by TYPE (R312). RESP and NOTIFY go to the head; a hub does nothing with one. -/
def Hub.consume (h : Hub) (p : TetherPort) (bs : List Byte) : Hub :=
  let dest := frameAt bs 0
  let host := frameAt bs 2
  let pay := framePayload bs
  match frameAt bs 3 with
  | 1 => h.frameCommand p bs
  | 2 => h.frameCommand p bs
  | 6 => if frameAt pay 0 = 2 then h.confirm (rollOf pay) else h
  | 7 => h.frameReset p dest host (frameAt bs 4) pay
  | 8 => h.frameBulk p dest host (frameAt bs 4) (field pay 0 4) (pay.drop 4)
  | _ => h

/-- A frame with a fault: dropped where it is for this hub alone, sent on with ABORT_END where it is forwarded, and counted (R311). -/
def Hub.faultyFrame (h : Hub) (p : TetherPort) (bs : List Byte) : Hub :=
  let h := h.frameError
  if h.isOwn (frameAt bs 0) || isHeldRoll p bs then h else h.forward (otherPort p) .forwarded bs true

/-- R307: what a frame does by its DEST: consumed by `f`, consumed and forwarded, or forwarded. -/
def Hub.byDest (h : Hub) (p : TetherPort) (dest : Nat) (bs : List Byte) (f : Hub → Hub) : Hub :=
  if h.receives p = false then h
  else if h.isOwn dest then f h
  else if dest = 63 then f (h.passOn p 63 .forwarded bs)
  else h.forward (otherPort p) .forwarded bs false

/-- R307: a frame is consumed, forwarded, or both. -/
def Hub.frameReceive (h : Hub) (p : TetherPort) (f : TetherFrame) : Hub :=
  let bs := f.bytes
  let dest := frameAt bs 0
  if h.receives p = false ∨ f.ending = .abortEnd then h
  else if f.ending = .violation ∨ frameOk bs = false then h.faultyFrame p bs
  else if isHeldRoll p bs then h.rollCall p (rollOf (framePayload bs)) dest (frameAt bs 1) (frameAt bs 2) (frameAt bs 4)
  else if frameAt bs 3 = 5 ∧ dest = 63 then
    let (r, h) := h.residence p
    h.sync p (syncOf (framePayload bs)) ⟨f.arrival, r⟩ (frameAt bs 1) (frameAt bs 2) (frameAt bs 4)
  else h.byDest p dest bs (fun h => h.consume p bs)

/-! ## Rows that name a frame's content -/

/-- A READ or WRITE frame (R322). -/
def Hub.commandFrame (h : Hub) (p : TetherPort) (bs : List Byte) : Hub :=
  if frameAt bs 3 = 1 ∨ frameAt bs 3 = 2 then h.frameReceive p { bytes := bs, ending := .eof } else h

/-- R306: a link comes up only on a powered port. -/
def Hub.linkRow (h : Hub) (p : TetherPort) (up : Bool) : Hub :=
  if up && (!h.tet.on || h.pwr.stable || decide (h.boot.step < 6)) then h else h.linkChange p up

/-- R318: an ECHO_REQ is answered with ECHO_RSP. -/
def Hub.echoRow (h : Hub) (p : TetherPort) : Hub := if h.receives p then h.transmitEcho p .echoRsp else h

/-- R324: a further events NOTIFY while unmasked pending events of the host remain. -/
def Hub.notifyAgain (h : Hub) (k : Nat) : Hub :=
  h.whenDue (.notifyRepeat k) (fun h => if (h.host k).claimed && (h.host k).onTether && h.alerting k then h.notifyEvents k else h)

/-! ## The meanings of the rows -/

/-- R306, R324. -/
def execTetherLinkChange (p : TetherPort) (up : Bool) (s : State) : Out := always (·.linkRow p up) s
/-- R307, R311. -/
def execTetherFrameReceive (p : TetherPort) (f : TetherFrame) (s : State) : Out := always (fun h => h.frameReceive p f) s
/-- R313, R322. -/
def execTetherCommandFrame (p : TetherPort) (bytes : List Byte) (s : State) : Out := always (fun h => h.commandFrame p bytes) s
/-- R318 to R321. -/
def execSync (p : TetherPort) (f : SyncFrame) (t : SyncTimes) (s : State) : Out := always (·.sync p f t 0 0 0) s
/-- R321. -/
def execTetherTimeLockChange (s : State) : Out := always Hub.timeLockJudge s
/-- R318. -/
def execEchoReq (p : TetherPort) (s : State) : Out := always (·.echoRow p) s
/-- R318. -/
def execEchoRsp (p : TetherPort) (roundTrip : Nat) (s : State) : Out := always (·.echoReply p roundTrip) s
/-- R314, R315. -/
def execRollcall (p : TetherPort) (r : RollCall) (s : State) : Out := always (·.rollCall p r (if r.returning then 0 else 63) 0 0 0) s
/-- R316. -/
def execConfirm (p : TetherPort) (r : RollCall) (s : State) : Out := always (·.confirmRow p r) s
/-- R316. -/
def execRollcallTimeout (s : State) : Out := always Hub.rollcallTimeout s
/-- R323. -/
def execReset (p : TetherPort) (dest src host seq : Nat) (payload : List Byte) (s : State) : Out :=
  run (isHost host) (fun h => h.byDest p dest (frameBytes dest src host 7 seq [] payload) (·.frameReset p dest host seq payload)) s
/-- R323. -/
def execBulk (p : TetherPort) (dest src host seq offset : Nat) (data : List Byte) (s : State) : Out :=
  run (isHost host) (fun h =>
    h.byDest p dest (frameBytes dest src host 8 seq [] (toBytes 4 offset ++ data)) (·.frameBulk p dest host seq offset data)) s
/-- R324. -/
def execNotifyRepeat (k : Nat) (s : State) : Out := run (isHost k) (·.notifyAgain k) s

end Sys2Proof.Machine
end

