-- ==== Sys2Proof/Machine/Dispatch.lean ====
section
/-! DEFINITION. The dispatch of commands: one arm per constructor of Instr, each a direct call of its meaning. -/

namespace Sys2Proof.Machine

def exec (i : Instr) (s : State) : Host.Outcome State Fault Refusal :=
  match i with
  | .frameBoundary src => Sys2Proof.Machine.execFrameBoundary src s
  | .blockBoundary m => Sys2Proof.Machine.execBlockBoundary m s
  | .healthJudgement sl j => Sys2Proof.Machine.execHealthJudgement sl j s
  | .sliceReferenceFault sl => Sys2Proof.Machine.execSliceReferenceFault sl s
  | .sliceTotalLoss sl => Sys2Proof.Machine.execSliceTotalLoss sl s
  | .reliefSettled u => Sys2Proof.Machine.execReliefSettled u s
  | .reliefCrossfadeEnd u => Sys2Proof.Machine.execReliefCrossfadeEnd u s
  | .reliefRequest w sl v => Sys2Proof.Machine.execReliefRequest w sl v s
  | .retireClear w sl v => Sys2Proof.Machine.execRetireClear w sl v s
  | .reliefSelfTest u pass => Sys2Proof.Machine.execReliefSelfTest u pass s
  | .phantomLeak n => Sys2Proof.Machine.execPhantomLeak n s
  | .sramError bank e => Sys2Proof.Machine.execSramError bank e s
  | .sramBankCopyDone bank => Sys2Proof.Machine.execSramBankCopyDone bank s
  | .tsDisagree k => Sys2Proof.Machine.execTsDisagree k s
  | .supervisorWatchdogExpiry ramIntact => Sys2Proof.Machine.execSupervisorWatchdogExpiry ramIntact s
  | .supervisorRestartComplete => Sys2Proof.Machine.execSupervisorRestartComplete s
  | .dspLaneFault k cause => Sys2Proof.Machine.execDspLaneFault k cause s
  | .reliefLaneLoadComplete => Sys2Proof.Machine.execReliefLaneLoadComplete s
  | .dspTakeoverComplete => Sys2Proof.Machine.execDspTakeoverComplete s
  | .l8PatrolPeriodEnd => Sys2Proof.Machine.execL8PatrolPeriodEnd s
  | .l8PatrolMismatch => Sys2Proof.Machine.execL8PatrolMismatch s
  | .l8RecheckComplete r => Sys2Proof.Machine.execL8RecheckComplete r s
  | .instantiate w p v => Sys2Proof.Machine.execInstantiate w p v s
  | .remove w p v => Sys2Proof.Machine.execRemove w p v s
  | .processEnable w p v => Sys2Proof.Machine.execProcessEnable w p v s
  | .phantomWrite w n v => Sys2Proof.Machine.execPhantomWrite w n v s
  | .phantomRampOnEnd n => Sys2Proof.Machine.execPhantomRampOnEnd n s
  | .phantomRampOffEnd n => Sys2Proof.Machine.execPhantomRampOffEnd n s
  | .phantomFaultTimerArm n => Sys2Proof.Machine.execPhantomFaultTimerArm n s
  | .phantomFault n => Sys2Proof.Machine.execPhantomFault n s
  | .vphLoss => Sys2Proof.Machine.execVphLoss s
  | .vphReturn => Sys2Proof.Machine.execVphReturn s
  | .phantomGroupRampStart k => Sys2Proof.Machine.execPhantomGroupRampStart k s
  | .polarityWrite w src v => Sys2Proof.Machine.execPolarityWrite w src v s
  | .polarityInvert src => Sys2Proof.Machine.execPolarityInvert src s
  | .modulatorOverload n p => Sys2Proof.Machine.execModulatorOverload n p s
  | .pathUsable n p => Sys2Proof.Machine.execPathUsable n p s
  | .episodeEnd e => Sys2Proof.Machine.execEpisodeEnd e s
  | .frontEndSettled n => Sys2Proof.Machine.execFrontEndSettled n s
  | .hmuteAssert k => Sys2Proof.Machine.execHmuteAssert k s
  | .hmuteRelease k => Sys2Proof.Machine.execHmuteRelease k s
  | .hmuteSettled k => Sys2Proof.Machine.execHmuteSettled k s
  | .muteMaskWrite w k v => Sys2Proof.Machine.execMuteMaskWrite w k v s
  | .biasFault m => Sys2Proof.Machine.execBiasFault m s
  | .combinerSample xs => Sys2Proof.Machine.execCombinerSample xs s
  | .combinerFadeEnd n p shortPath => Sys2Proof.Machine.execCombinerFadeEnd n p shortPath s
  | .matchCommitRequest n lm mh lh refs => Sys2Proof.Machine.execMatchCommitRequest n lm mh lh refs s
  | .matchStale n => Sys2Proof.Machine.execMatchStale n s
  | .pathExclude n p => Sys2Proof.Machine.execPathExclude n p s
  | .pathRestore w n v => Sys2Proof.Machine.execPathRestore w n v s
  | .resetMatch w n v => Sys2Proof.Machine.execResetMatch w n v s
  | .matchSetStore n => Sys2Proof.Machine.execMatchSetStore n s
  | .outputModeChange w n mode range wiring => Sys2Proof.Machine.execOutputModeChange w n mode range wiring s
  | .outputChangeStep n => Sys2Proof.Machine.execOutputChangeStep n s
  | .outputPowerupStep n => Sys2Proof.Machine.execOutputPowerupStep n s
  | .delayXfadeEnd n => Sys2Proof.Machine.execDelayXfadeEnd n s
  | .cvCode w n code => Sys2Proof.Machine.execCvCode w n code s
  | .cvBlock w n data => Sys2Proof.Machine.execCvBlock w n data s
  | .cvFlush w n v => Sys2Proof.Machine.execCvFlush w n v s
  | .cvTick n => Sys2Proof.Machine.execCvTick n s
  | .cvCompliance n present => Sys2Proof.Machine.execCvCompliance n present s
  | .patrolScan readings => Sys2Proof.Machine.execPatrolScan readings s
  | .patrolAudioWindow n rms deviation residual => Sys2Proof.Machine.execPatrolAudioWindow n rms deviation residual s
  | .panicMute => Sys2Proof.Machine.execPanicMute s
  | .panicRelease => Sys2Proof.Machine.execPanicRelease s
  | .lampTest bits => Sys2Proof.Machine.execLampTest bits s
  | .lampTestExpiry k => Sys2Proof.Machine.execLampTestExpiry k s
  | .analogRailLow => Sys2Proof.Machine.execAnalogRailLow s
  | .analogRailRecover => Sys2Proof.Machine.execAnalogRailRecover s
  | .inputRailMute => Sys2Proof.Machine.execInputRailMute s
  | .avddLow => Sys2Proof.Machine.execAvddLow s
  | .avddRecover => Sys2Proof.Machine.execAvddRecover s
  | .hpOvercurrent j => Sys2Proof.Machine.execHpOvercurrent j s
  | .spkOvercurrent => Sys2Proof.Machine.execSpkOvercurrent s
  | .spkRestart => Sys2Proof.Machine.execSpkRestart s
  | .spkDcFault => Sys2Proof.Machine.execSpkDcFault s
  | .vspkOutOfRange high => Sys2Proof.Machine.execVspkOutOfRange high s
  | .vspkRecover => Sys2Proof.Machine.execVspkRecover s
  | .faultClear w v => Sys2Proof.Machine.execFaultClear w v s
  | .spkEnable w v => Sys2Proof.Machine.execSpkEnable w v s
  | .spkSequenceEnd => Sys2Proof.Machine.execSpkSequenceEnd s
  | .hpPowerupStep => Sys2Proof.Machine.execHpPowerupStep s
  | .jdEdge j level => Sys2Proof.Machine.execJdEdge j level s
  | .jackInsertAccept j => Sys2Proof.Machine.execJackInsertAccept j s
  | .jackRemoveAccept j => Sys2Proof.Machine.execJackRemoveAccept j s
  | .classifyComplete j m => Sys2Proof.Machine.execClassifyComplete j m s
  | .reclassify w j v => Sys2Proof.Machine.execReclassify w j v s
  | .hmBiasSettled m => Sys2Proof.Machine.execHmBiasSettled m s
  | .buttonPress j ohms => Sys2Proof.Machine.execButtonPress j ohms s
  | .buttonLongPress j => Sys2Proof.Machine.execButtonLongPress j s
  | .buttonRelease j => Sys2Proof.Machine.execButtonRelease j s
  | .sinkSelect w k src => Sys2Proof.Machine.execSinkSelect w k src s
  | .sinkXfadeEnd k => Sys2Proof.Machine.execSinkXfadeEnd k s
  | .generatorType w g v => Sys2Proof.Machine.execGeneratorType w g v s
  | .generatorSwitch g => Sys2Proof.Machine.execGeneratorSwitch g s
  | .crosspointWrite w b k entry => Sys2Proof.Machine.execCrosspointWrite w b k entry s
  | .xpFadeZero b k => Sys2Proof.Machine.execXpFadeZero b k s
  | .scaleRecomputeDone b => Sys2Proof.Machine.execScaleRecomputeDone b s
  | .bankMode w h v => Sys2Proof.Machine.execBankMode w h v s
  | .commit w v => Sys2Proof.Machine.execCommit w v s
  | .discard w v => Sys2Proof.Machine.execDiscard w v s
  | .hostClaim w tag => Sys2Proof.Machine.execHostClaim w tag s
  | .hostRelease w tag => Sys2Proof.Machine.execHostRelease w tag s
  | .roleWrite w h v => Sys2Proof.Machine.execRoleWrite w h v s
  | .sessionTimeoutWrite w h v => Sys2Proof.Machine.execSessionTimeoutWrite w h v s
  | .sessionTimerExpiry h => Sys2Proof.Machine.execSessionTimerExpiry h s
  | .forceRelease w h v => Sys2Proof.Machine.execForceRelease w h v s
  | .take w h key => Sys2Proof.Machine.execTake w h key s
  | .release w h key => Sys2Proof.Machine.execRelease w h key s
  | .assign w h key => Sys2Proof.Machine.execAssign w h key s
  | .trimWrite w view src h v => Sys2Proof.Machine.execTrimWrite w view src h v s
  | .clkXinStartTimeout => Sys2Proof.Machine.execClkXinStartTimeout s
  | .storedHoldStore v => Sys2Proof.Machine.execStoredHoldStore v s
  | .reinPhaseSample anchor port => Sys2Proof.Machine.execReinPhaseSample anchor port s
  | .reinLock => Sys2Proof.Machine.execReinLock s
  | .reinLimitEntry => Sys2Proof.Machine.execReinLimitEntry s
  | .anchorWrite w port v => Sys2Proof.Machine.execAnchorWrite w port v s
  | .anchorLoss => Sys2Proof.Machine.execAnchorLoss s
  | .wckinEdge e => Sys2Proof.Machine.execWckinEdge e s
  | .wckinPeriodMissed => Sys2Proof.Machine.execWckinPeriodMissed s
  | .wckinRateFound rate => Sys2Proof.Machine.execWckinRateFound rate s
  | .xtalFailure => Sys2Proof.Machine.execXtalFailure s
  | .xinRecovered => Sys2Proof.Machine.execXinRecovered s
  | .start w p v => Sys2Proof.Machine.execStart w p v s
  | .stop w p v => Sys2Proof.Machine.execStop w p v s
  | .portClockLock p => Sys2Proof.Machine.execPortClockLock p s
  | .portPreambleEnd p => Sys2Proof.Machine.execPortPreambleEnd p s
  | .portFadeInEnd p => Sys2Proof.Machine.execPortFadeInEnd p s
  | .portFlushEnd p => Sys2Proof.Machine.execPortFlushEnd p s
  | .portClockLoss p => Sys2Proof.Machine.execPortClockLoss p s
  | .portRateChange p rate => Sys2Proof.Machine.execPortRateChange p rate s
  | .portFrame p f => Sys2Proof.Machine.execPortFrame p f s
  | .rawWordSlip p out dropped => Sys2Proof.Machine.execRawWordSlip p out dropped s
  | .maskWrite w p sub v => Sys2Proof.Machine.execMaskWrite w p sub v s
  | .maskApply p => Sys2Proof.Machine.execMaskApply p s
  | .capArm w => Sys2Proof.Machine.execCapArm w s
  | .capStop w => Sys2Proof.Machine.execCapStop w s
  | .capData w => Sys2Proof.Machine.execCapData w s
  | .asrcContextLock k => Sys2Proof.Machine.execAsrcContextLock k s
  | .asrcRelock k => Sys2Proof.Machine.execAsrcRelock k s
  | .asrcHandoverEnd p => Sys2Proof.Machine.execAsrcHandoverEnd p s
  | .read w idx sub => Sys2Proof.Machine.execRead w idx sub s
  | .write w idx sub ty data => Sys2Proof.Machine.execWrite w idx sub ty data s
  | .writeHeld w idx sub ty data => Sys2Proof.Machine.execWriteHeld w idx sub ty data s
  | .releaseBatch w => Sys2Proof.Machine.execReleaseBatch w s
  | .discardBatch w => Sys2Proof.Machine.execDiscardBatch w s
  | .readInfo w idx sub => Sys2Proof.Machine.execReadInfo w idx sub s
  | .objectWrite w idx sub data => Sys2Proof.Machine.execObjectWrite w idx sub data s
  | .commandComplete w => Sys2Proof.Machine.execCommandComplete w s
  | .autoStore idx sub => Sys2Proof.Machine.execAutoStore idx sub s
  | .store w v => Sys2Proof.Machine.execStore w v s
  | .storeRowWritten verified spareFails => Sys2Proof.Machine.execStoreRowWritten verified spareFails s
  | .factoryReset w v => Sys2Proof.Machine.execFactoryReset w v s
  | .occurClear w v => Sys2Proof.Machine.execOccurClear w v s
  | .eventPendingClear w bits => Sys2Proof.Machine.execEventPendingClear w bits s
  | .eventMaskWrite w bits => Sys2Proof.Machine.execEventMaskWrite w bits s
  | .timerExpiry k => Sys2Proof.Machine.execTimerExpiry k s
  | .twiAddressMatch addr isRead count => Sys2Proof.Machine.execTwiAddressMatch addr isRead count s
  | .twiStopCommit bytes => Sys2Proof.Machine.execTwiStopCommit bytes s
  | .twiProtocolError code => Sys2Proof.Machine.execTwiProtocolError code s
  | .brstNReset => Sys2Proof.Machine.execBrstNReset s
  | .busTimeout => Sys2Proof.Machine.execBusTimeout s
  | .alertResponse lowerTarget => Sys2Proof.Machine.execAlertResponse lowerTarget s
  | .alertRepeat => Sys2Proof.Machine.execAlertRepeat s
  | .watchHostAccess => Sys2Proof.Machine.execWatchHostAccess s
  | .watchClockRegate => Sys2Proof.Machine.execWatchClockRegate s
  | .tetherLinkChange p up => Sys2Proof.Machine.execTetherLinkChange p up s
  | .tetherFrameReceive p f => Sys2Proof.Machine.execTetherFrameReceive p f s
  | .tetherCommandFrame p bytes => Sys2Proof.Machine.execTetherCommandFrame p bytes s
  | .sync p f t => Sys2Proof.Machine.execSync p f t s
  | .tetherTimeLockChange => Sys2Proof.Machine.execTetherTimeLockChange s
  | .echoReq p => Sys2Proof.Machine.execEchoReq p s
  | .echoRsp p roundTrip => Sys2Proof.Machine.execEchoRsp p roundTrip s
  | .rollcall p r => Sys2Proof.Machine.execRollcall p r s
  | .confirm p r => Sys2Proof.Machine.execConfirm p r s
  | .rollcallTimeout => Sys2Proof.Machine.execRollcallTimeout s
  | .reset p dest src host seq payload => Sys2Proof.Machine.execReset p dest src host seq payload s
  | .bulk p dest src host seq offset data => Sys2Proof.Machine.execBulk p dest src host seq offset data s
  | .notifyRepeat h => Sys2Proof.Machine.execNotifyRepeat h s
  | .wakeDown w v => Sys2Proof.Machine.execWakeDown w v s
  | .request w v => Sys2Proof.Machine.execRequest w v s
  | .quiesceEnd => Sys2Proof.Machine.execQuiesceEnd s
  | .watchEntryComplete => Sys2Proof.Machine.execWatchEntryComplete s
  | .watchExitStep => Sys2Proof.Machine.execWatchExitStep s
  | .stableEntryComplete => Sys2Proof.Machine.execStableEntryComplete s
  | .stableWake c => Sys2Proof.Machine.execStableWake c s
  | .wakeTimerExpiry => Sys2Proof.Machine.execWakeTimerExpiry s
  | .wakeComparatorFire c => Sys2Proof.Machine.execWakeComparatorFire c s
  | .domainEnable w v => Sys2Proof.Machine.execDomainEnable w v s
  | .watchInputWrite w c v => Sys2Proof.Machine.execWatchInputWrite w c v s
  | .signatureTick c bands rms => Sys2Proof.Machine.execSignatureTick c bands rms s
  | .readerPlay w c => Sys2Proof.Machine.execReaderPlay w c s
  | .readerStop w c => Sys2Proof.Machine.execReaderStop w c s
  | .padRelease w v => Sys2Proof.Machine.execPadRelease w v s
  | .wakeOutWrite w v => Sys2Proof.Machine.execWakeOutWrite w v s
  | .powerOnReset => Sys2Proof.Machine.execPowerOnReset s
  | .resetN => Sys2Proof.Machine.execResetN s
  | .coreBrownOut cause => Sys2Proof.Machine.execCoreBrownOut cause s
  | .lowPowerBrownOut => Sys2Proof.Machine.execLowPowerBrownOut s
  | .thermalReset => Sys2Proof.Machine.execThermalReset s
  | .bringUpStep unreadable failed => Sys2Proof.Machine.execBringUpStep unreadable failed s
  | .reducedServiceStart => Sys2Proof.Machine.execReducedServiceStart s
  | .bootImageChecked image recordsOk signatureOk => Sys2Proof.Machine.execBootImageChecked image recordsOk signatureOk s
  | .fullService => Sys2Proof.Machine.execFullService s
  | .imageData w offset data => Sys2Proof.Machine.execImageData w offset data s
  | .flashProgramDone readBackOk => Sys2Proof.Machine.execFlashProgramDone readBackOk s
  | .updateVerifyComplete vendorOk counterOk => Sys2Proof.Machine.execUpdateVerifyComplete vendorOk counterOk s
  | .abort w => Sys2Proof.Machine.execAbort w s
  | .activate w => Sys2Proof.Machine.execActivate w s
  | .schedule w => Sys2Proof.Machine.execSchedule w s
  | .cancel w => Sys2Proof.Machine.execCancel w s
  | .activationDue => Sys2Proof.Machine.execActivationDue s
  | .activationStepEnd blocksOk => Sys2Proof.Machine.execActivationStepEnd blocksOk s
  | .makerKey w data => Sys2Proof.Machine.execMakerKey w data s
  | .supplyDipStart r => Sys2Proof.Machine.execSupplyDipStart r s
  | .supplyDipEnd => Sys2Proof.Machine.execSupplyDipEnd s
  | .vioWarn fault => Sys2Proof.Machine.execVioWarn fault s
  | .thermalWarn => Sys2Proof.Machine.execThermalWarn s
  | .thermalCrit => Sys2Proof.Machine.execThermalCrit s
  | .thermalRecover below105 => Sys2Proof.Machine.execThermalRecover below105 s
  | .vioRecover => Sys2Proof.Machine.execVioRecover s
  | .brstNRelease => Sys2Proof.Machine.execBrstNRelease s
  | .flushIncomplete => Sys2Proof.Machine.execFlushIncomplete s
  | .tapDelayXfadeEnd p t => Sys2Proof.Machine.execTapDelayXfadeEnd p t s

end Sys2Proof.Machine
end

