-- ==== Sys2Proof/Laws/State.lean ====
section
/-! SUPPORT. What each update of the hub leaves in each field: one equation a field and update, true by definition. -/

namespace Sys2Proof.Machine

@[simp] theorem State.mapHub_hub (s : State) (f : Hub → Hub) : (s.mapHub f).hub = f s.hub := rfl
@[simp] theorem State.mapHub_snap (s : State) (f : Hub → Hub) : (s.mapHub f).snap = s.snap := rfl
@[simp] theorem State.mapHub_pending (s : State) (f : Hub → Hub) : (s.mapHub f).pending = s.pending := rfl

/-! ### `Hub.setInput` -/

section

variable (h : Hub) (n : Nat) (x : Input)

@[simp] theorem Hub.setInput_now : (h.setInput n x).now = h.now := rfl
@[simp] theorem Hub.setInput_sub : (h.setInput n x).sub = h.sub := rfl
@[simp] theorem Hub.setInput_framesRun : (h.setInput n x).framesRun = h.framesRun := rfl
@[simp] theorem Hub.setInput_blockDone : (h.setInput n x).blockDone = h.blockDone := rfl
@[simp] theorem Hub.setInput_timers : (h.setInput n x).timers = h.timers := rfl
@[simp] theorem Hub.setInput_objs : (h.setInput n x).objs = h.objs := rfl
@[simp] theorem Hub.setInput_live : (h.setInput n x).live = h.live := rfl
@[simp] theorem Hub.setInput_nv : (h.setInput n x).nv = h.nv := rfl
@[simp] theorem Hub.setInput_frameQ : (h.setInput n x).frameQ = h.frameQ := rfl
@[simp] theorem Hub.setInput_batches : (h.setInput n x).batches = h.batches := rfl
@[simp] theorem Hub.setInput_clears : (h.setInput n x).clears = h.clears := rfl
@[simp] theorem Hub.setInput_evDue : (h.setInput n x).evDue = h.evDue := rfl
@[simp] theorem Hub.setInput_evNext : (h.setInput n x).evNext = h.evNext := rfl
@[simp] theorem Hub.setInput_pend : (h.setInput n x).pend = h.pend := rfl
@[simp] theorem Hub.setInput_mask : (h.setInput n x).mask = h.mask := rfl
@[simp] theorem Hub.setInput_occ : (h.setInput n x).occ = h.occ := rfl
@[simp] theorem Hub.setInput_hosts : (h.setInput n x).hosts = h.hosts := rfl
@[simp] theorem Hub.setInput_mailTwi : (h.setInput n x).mailTwi = h.mailTwi := rfl
@[simp] theorem Hub.setInput_mailTether : (h.setInput n x).mailTether = h.mailTether := rfl
@[simp] theorem Hub.setInput_owners : (h.setInput n x).owners = h.owners := rfl
@[simp] theorem Hub.setInput_trims : (h.setInput n x).trims = h.trims := rfl
@[simp] theorem Hub.setInput_ownerDue : (h.setInput n x).ownerDue = h.ownerDue := rfl
@[simp] theorem Hub.setInput_hms : (h.setInput n x).hms = h.hms := rfl
@[simp] theorem Hub.setInput_outs : (h.setInput n x).outs = h.outs := rfl
@[simp] theorem Hub.setInput_hps : (h.setInput n x).hps = h.hps := rfl
@[simp] theorem Hub.setInput_spk : (h.setInput n x).spk = h.spk := rfl
@[simp] theorem Hub.setInput_sinks : (h.setInput n x).sinks = h.sinks := rfl
@[simp] theorem Hub.setInput_gens : (h.setInput n x).gens = h.gens := rfl
@[simp] theorem Hub.setInput_terms : (h.setInput n x).terms = h.terms := rfl
@[simp] theorem Hub.setInput_shadow : (h.setInput n x).shadow = h.shadow := rfl
@[simp] theorem Hub.setInput_buses : (h.setInput n x).buses = h.buses := rfl
@[simp] theorem Hub.setInput_commitSeq : (h.setInput n x).commitSeq = h.commitSeq := rfl
@[simp] theorem Hub.setInput_lastCommit : (h.setInput n x).lastCommit = h.lastCommit := rfl
@[simp] theorem Hub.setInput_slots : (h.setInput n x).slots = h.slots := rfl
@[simp] theorem Hub.setInput_shorts : (h.setInput n x).shorts = h.shorts := rfl
@[simp] theorem Hub.setInput_sbClipped : (h.setInput n x).sbClipped = h.sbClipped := rfl
@[simp] theorem Hub.setInput_procs : (h.setInput n x).procs = h.procs := rfl
@[simp] theorem Hub.setInput_lanes : (h.setInput n x).lanes = h.lanes := rfl
@[simp] theorem Hub.setInput_dsp : (h.setInput n x).dsp = h.dsp := rfl
@[simp] theorem Hub.setInput_clk : (h.setInput n x).clk = h.clk := rfl
@[simp] theorem Hub.setInput_ports : (h.setInput n x).ports = h.ports := rfl
@[simp] theorem Hub.setInput_cap : (h.setInput n x).cap = h.cap := rfl
@[simp] theorem Hub.setInput_asrc : (h.setInput n x).asrc = h.asrc := rfl
@[simp] theorem Hub.setInput_twi : (h.setInput n x).twi = h.twi := rfl
@[simp] theorem Hub.setInput_tet : (h.setInput n x).tet = h.tet := rfl
@[simp] theorem Hub.setInput_store : (h.setInput n x).store = h.store := rfl
@[simp] theorem Hub.setInput_sup : (h.setInput n x).sup = h.sup := rfl
@[simp] theorem Hub.setInput_irs : (h.setInput n x).irs = h.irs := rfl
@[simp] theorem Hub.setInput_ors : (h.setInput n x).ors = h.ors := rfl
@[simp] theorem Hub.setInput_sram : (h.setInput n x).sram = h.sram := rfl
@[simp] theorem Hub.setInput_chans : (h.setInput n x).chans = h.chans := rfl
@[simp] theorem Hub.setInput_pwr : (h.setInput n x).pwr = h.pwr := rfl
@[simp] theorem Hub.setInput_boot : (h.setInput n x).boot = h.boot := rfl
@[simp] theorem Hub.setInput_upd : (h.setInput n x).upd = h.upd := rfl
@[simp] theorem Hub.setInput_ext : (h.setInput n x).ext = h.ext := rfl
@[simp] theorem Hub.setInput_supply : (h.setInput n x).supply = h.supply := rfl
@[simp] theorem Hub.setInput_draws : (h.setInput n x).draws = h.draws := rfl

end

/-! ### `Hub.modInput` -/

section

variable (h : Hub) (n : Nat) (f : Input → Input)

@[simp] theorem Hub.modInput_now : (h.modInput n f).now = h.now := rfl
@[simp] theorem Hub.modInput_sub : (h.modInput n f).sub = h.sub := rfl
@[simp] theorem Hub.modInput_framesRun : (h.modInput n f).framesRun = h.framesRun := rfl
@[simp] theorem Hub.modInput_blockDone : (h.modInput n f).blockDone = h.blockDone := rfl
@[simp] theorem Hub.modInput_timers : (h.modInput n f).timers = h.timers := rfl
@[simp] theorem Hub.modInput_objs : (h.modInput n f).objs = h.objs := rfl
@[simp] theorem Hub.modInput_live : (h.modInput n f).live = h.live := rfl
@[simp] theorem Hub.modInput_nv : (h.modInput n f).nv = h.nv := rfl
@[simp] theorem Hub.modInput_frameQ : (h.modInput n f).frameQ = h.frameQ := rfl
@[simp] theorem Hub.modInput_batches : (h.modInput n f).batches = h.batches := rfl
@[simp] theorem Hub.modInput_clears : (h.modInput n f).clears = h.clears := rfl
@[simp] theorem Hub.modInput_evDue : (h.modInput n f).evDue = h.evDue := rfl
@[simp] theorem Hub.modInput_evNext : (h.modInput n f).evNext = h.evNext := rfl
@[simp] theorem Hub.modInput_pend : (h.modInput n f).pend = h.pend := rfl
@[simp] theorem Hub.modInput_mask : (h.modInput n f).mask = h.mask := rfl
@[simp] theorem Hub.modInput_occ : (h.modInput n f).occ = h.occ := rfl
@[simp] theorem Hub.modInput_hosts : (h.modInput n f).hosts = h.hosts := rfl
@[simp] theorem Hub.modInput_mailTwi : (h.modInput n f).mailTwi = h.mailTwi := rfl
@[simp] theorem Hub.modInput_mailTether : (h.modInput n f).mailTether = h.mailTether := rfl
@[simp] theorem Hub.modInput_owners : (h.modInput n f).owners = h.owners := rfl
@[simp] theorem Hub.modInput_trims : (h.modInput n f).trims = h.trims := rfl
@[simp] theorem Hub.modInput_ownerDue : (h.modInput n f).ownerDue = h.ownerDue := rfl
@[simp] theorem Hub.modInput_hms : (h.modInput n f).hms = h.hms := rfl
@[simp] theorem Hub.modInput_outs : (h.modInput n f).outs = h.outs := rfl
@[simp] theorem Hub.modInput_hps : (h.modInput n f).hps = h.hps := rfl
@[simp] theorem Hub.modInput_spk : (h.modInput n f).spk = h.spk := rfl
@[simp] theorem Hub.modInput_sinks : (h.modInput n f).sinks = h.sinks := rfl
@[simp] theorem Hub.modInput_gens : (h.modInput n f).gens = h.gens := rfl
@[simp] theorem Hub.modInput_terms : (h.modInput n f).terms = h.terms := rfl
@[simp] theorem Hub.modInput_shadow : (h.modInput n f).shadow = h.shadow := rfl
@[simp] theorem Hub.modInput_buses : (h.modInput n f).buses = h.buses := rfl
@[simp] theorem Hub.modInput_commitSeq : (h.modInput n f).commitSeq = h.commitSeq := rfl
@[simp] theorem Hub.modInput_lastCommit : (h.modInput n f).lastCommit = h.lastCommit := rfl
@[simp] theorem Hub.modInput_slots : (h.modInput n f).slots = h.slots := rfl
@[simp] theorem Hub.modInput_shorts : (h.modInput n f).shorts = h.shorts := rfl
@[simp] theorem Hub.modInput_sbClipped : (h.modInput n f).sbClipped = h.sbClipped := rfl
@[simp] theorem Hub.modInput_procs : (h.modInput n f).procs = h.procs := rfl
@[simp] theorem Hub.modInput_lanes : (h.modInput n f).lanes = h.lanes := rfl
@[simp] theorem Hub.modInput_dsp : (h.modInput n f).dsp = h.dsp := rfl
@[simp] theorem Hub.modInput_clk : (h.modInput n f).clk = h.clk := rfl
@[simp] theorem Hub.modInput_ports : (h.modInput n f).ports = h.ports := rfl
@[simp] theorem Hub.modInput_cap : (h.modInput n f).cap = h.cap := rfl
@[simp] theorem Hub.modInput_asrc : (h.modInput n f).asrc = h.asrc := rfl
@[simp] theorem Hub.modInput_twi : (h.modInput n f).twi = h.twi := rfl
@[simp] theorem Hub.modInput_tet : (h.modInput n f).tet = h.tet := rfl
@[simp] theorem Hub.modInput_store : (h.modInput n f).store = h.store := rfl
@[simp] theorem Hub.modInput_sup : (h.modInput n f).sup = h.sup := rfl
@[simp] theorem Hub.modInput_irs : (h.modInput n f).irs = h.irs := rfl
@[simp] theorem Hub.modInput_ors : (h.modInput n f).ors = h.ors := rfl
@[simp] theorem Hub.modInput_sram : (h.modInput n f).sram = h.sram := rfl
@[simp] theorem Hub.modInput_chans : (h.modInput n f).chans = h.chans := rfl
@[simp] theorem Hub.modInput_pwr : (h.modInput n f).pwr = h.pwr := rfl
@[simp] theorem Hub.modInput_boot : (h.modInput n f).boot = h.boot := rfl
@[simp] theorem Hub.modInput_upd : (h.modInput n f).upd = h.upd := rfl
@[simp] theorem Hub.modInput_ext : (h.modInput n f).ext = h.ext := rfl
@[simp] theorem Hub.modInput_supply : (h.modInput n f).supply = h.supply := rfl
@[simp] theorem Hub.modInput_draws : (h.modInput n f).draws = h.draws := rfl

end

/-! ### `Hub.modHeadMic` -/

section

variable (h : Hub) (n : Nat) (f : HeadMic → HeadMic)

@[simp] theorem Hub.modHeadMic_now : (h.modHeadMic n f).now = h.now := rfl
@[simp] theorem Hub.modHeadMic_sub : (h.modHeadMic n f).sub = h.sub := rfl
@[simp] theorem Hub.modHeadMic_framesRun : (h.modHeadMic n f).framesRun = h.framesRun := rfl
@[simp] theorem Hub.modHeadMic_blockDone : (h.modHeadMic n f).blockDone = h.blockDone := rfl
@[simp] theorem Hub.modHeadMic_timers : (h.modHeadMic n f).timers = h.timers := rfl
@[simp] theorem Hub.modHeadMic_objs : (h.modHeadMic n f).objs = h.objs := rfl
@[simp] theorem Hub.modHeadMic_live : (h.modHeadMic n f).live = h.live := rfl
@[simp] theorem Hub.modHeadMic_nv : (h.modHeadMic n f).nv = h.nv := rfl
@[simp] theorem Hub.modHeadMic_frameQ : (h.modHeadMic n f).frameQ = h.frameQ := rfl
@[simp] theorem Hub.modHeadMic_batches : (h.modHeadMic n f).batches = h.batches := rfl
@[simp] theorem Hub.modHeadMic_clears : (h.modHeadMic n f).clears = h.clears := rfl
@[simp] theorem Hub.modHeadMic_evDue : (h.modHeadMic n f).evDue = h.evDue := rfl
@[simp] theorem Hub.modHeadMic_evNext : (h.modHeadMic n f).evNext = h.evNext := rfl
@[simp] theorem Hub.modHeadMic_pend : (h.modHeadMic n f).pend = h.pend := rfl
@[simp] theorem Hub.modHeadMic_mask : (h.modHeadMic n f).mask = h.mask := rfl
@[simp] theorem Hub.modHeadMic_occ : (h.modHeadMic n f).occ = h.occ := rfl
@[simp] theorem Hub.modHeadMic_hosts : (h.modHeadMic n f).hosts = h.hosts := rfl
@[simp] theorem Hub.modHeadMic_mailTwi : (h.modHeadMic n f).mailTwi = h.mailTwi := rfl
@[simp] theorem Hub.modHeadMic_mailTether : (h.modHeadMic n f).mailTether = h.mailTether := rfl
@[simp] theorem Hub.modHeadMic_owners : (h.modHeadMic n f).owners = h.owners := rfl
@[simp] theorem Hub.modHeadMic_trims : (h.modHeadMic n f).trims = h.trims := rfl
@[simp] theorem Hub.modHeadMic_ownerDue : (h.modHeadMic n f).ownerDue = h.ownerDue := rfl
@[simp] theorem Hub.modHeadMic_ins : (h.modHeadMic n f).ins = h.ins := rfl
@[simp] theorem Hub.modHeadMic_outs : (h.modHeadMic n f).outs = h.outs := rfl
@[simp] theorem Hub.modHeadMic_hps : (h.modHeadMic n f).hps = h.hps := rfl
@[simp] theorem Hub.modHeadMic_spk : (h.modHeadMic n f).spk = h.spk := rfl
@[simp] theorem Hub.modHeadMic_sinks : (h.modHeadMic n f).sinks = h.sinks := rfl
@[simp] theorem Hub.modHeadMic_gens : (h.modHeadMic n f).gens = h.gens := rfl
@[simp] theorem Hub.modHeadMic_terms : (h.modHeadMic n f).terms = h.terms := rfl
@[simp] theorem Hub.modHeadMic_shadow : (h.modHeadMic n f).shadow = h.shadow := rfl
@[simp] theorem Hub.modHeadMic_buses : (h.modHeadMic n f).buses = h.buses := rfl
@[simp] theorem Hub.modHeadMic_commitSeq : (h.modHeadMic n f).commitSeq = h.commitSeq := rfl
@[simp] theorem Hub.modHeadMic_lastCommit : (h.modHeadMic n f).lastCommit = h.lastCommit := rfl
@[simp] theorem Hub.modHeadMic_slots : (h.modHeadMic n f).slots = h.slots := rfl
@[simp] theorem Hub.modHeadMic_shorts : (h.modHeadMic n f).shorts = h.shorts := rfl
@[simp] theorem Hub.modHeadMic_sbClipped : (h.modHeadMic n f).sbClipped = h.sbClipped := rfl
@[simp] theorem Hub.modHeadMic_procs : (h.modHeadMic n f).procs = h.procs := rfl
@[simp] theorem Hub.modHeadMic_lanes : (h.modHeadMic n f).lanes = h.lanes := rfl
@[simp] theorem Hub.modHeadMic_dsp : (h.modHeadMic n f).dsp = h.dsp := rfl
@[simp] theorem Hub.modHeadMic_clk : (h.modHeadMic n f).clk = h.clk := rfl
@[simp] theorem Hub.modHeadMic_ports : (h.modHeadMic n f).ports = h.ports := rfl
@[simp] theorem Hub.modHeadMic_cap : (h.modHeadMic n f).cap = h.cap := rfl
@[simp] theorem Hub.modHeadMic_asrc : (h.modHeadMic n f).asrc = h.asrc := rfl
@[simp] theorem Hub.modHeadMic_twi : (h.modHeadMic n f).twi = h.twi := rfl
@[simp] theorem Hub.modHeadMic_tet : (h.modHeadMic n f).tet = h.tet := rfl
@[simp] theorem Hub.modHeadMic_store : (h.modHeadMic n f).store = h.store := rfl
@[simp] theorem Hub.modHeadMic_sup : (h.modHeadMic n f).sup = h.sup := rfl
@[simp] theorem Hub.modHeadMic_irs : (h.modHeadMic n f).irs = h.irs := rfl
@[simp] theorem Hub.modHeadMic_ors : (h.modHeadMic n f).ors = h.ors := rfl
@[simp] theorem Hub.modHeadMic_sram : (h.modHeadMic n f).sram = h.sram := rfl
@[simp] theorem Hub.modHeadMic_chans : (h.modHeadMic n f).chans = h.chans := rfl
@[simp] theorem Hub.modHeadMic_pwr : (h.modHeadMic n f).pwr = h.pwr := rfl
@[simp] theorem Hub.modHeadMic_boot : (h.modHeadMic n f).boot = h.boot := rfl
@[simp] theorem Hub.modHeadMic_upd : (h.modHeadMic n f).upd = h.upd := rfl
@[simp] theorem Hub.modHeadMic_ext : (h.modHeadMic n f).ext = h.ext := rfl
@[simp] theorem Hub.modHeadMic_supply : (h.modHeadMic n f).supply = h.supply := rfl
@[simp] theorem Hub.modHeadMic_draws : (h.modHeadMic n f).draws = h.draws := rfl

end

/-! ### `Hub.modOutput` -/

section

variable (h : Hub) (n : Nat) (f : Output → Output)

@[simp] theorem Hub.modOutput_now : (h.modOutput n f).now = h.now := rfl
@[simp] theorem Hub.modOutput_sub : (h.modOutput n f).sub = h.sub := rfl
@[simp] theorem Hub.modOutput_framesRun : (h.modOutput n f).framesRun = h.framesRun := rfl
@[simp] theorem Hub.modOutput_blockDone : (h.modOutput n f).blockDone = h.blockDone := rfl
@[simp] theorem Hub.modOutput_timers : (h.modOutput n f).timers = h.timers := rfl
@[simp] theorem Hub.modOutput_objs : (h.modOutput n f).objs = h.objs := rfl
@[simp] theorem Hub.modOutput_live : (h.modOutput n f).live = h.live := rfl
@[simp] theorem Hub.modOutput_nv : (h.modOutput n f).nv = h.nv := rfl
@[simp] theorem Hub.modOutput_frameQ : (h.modOutput n f).frameQ = h.frameQ := rfl
@[simp] theorem Hub.modOutput_batches : (h.modOutput n f).batches = h.batches := rfl
@[simp] theorem Hub.modOutput_clears : (h.modOutput n f).clears = h.clears := rfl
@[simp] theorem Hub.modOutput_evDue : (h.modOutput n f).evDue = h.evDue := rfl
@[simp] theorem Hub.modOutput_evNext : (h.modOutput n f).evNext = h.evNext := rfl
@[simp] theorem Hub.modOutput_pend : (h.modOutput n f).pend = h.pend := rfl
@[simp] theorem Hub.modOutput_mask : (h.modOutput n f).mask = h.mask := rfl
@[simp] theorem Hub.modOutput_occ : (h.modOutput n f).occ = h.occ := rfl
@[simp] theorem Hub.modOutput_hosts : (h.modOutput n f).hosts = h.hosts := rfl
@[simp] theorem Hub.modOutput_mailTwi : (h.modOutput n f).mailTwi = h.mailTwi := rfl
@[simp] theorem Hub.modOutput_mailTether : (h.modOutput n f).mailTether = h.mailTether := rfl
@[simp] theorem Hub.modOutput_owners : (h.modOutput n f).owners = h.owners := rfl
@[simp] theorem Hub.modOutput_trims : (h.modOutput n f).trims = h.trims := rfl
@[simp] theorem Hub.modOutput_ownerDue : (h.modOutput n f).ownerDue = h.ownerDue := rfl
@[simp] theorem Hub.modOutput_ins : (h.modOutput n f).ins = h.ins := rfl
@[simp] theorem Hub.modOutput_hms : (h.modOutput n f).hms = h.hms := rfl
@[simp] theorem Hub.modOutput_hps : (h.modOutput n f).hps = h.hps := rfl
@[simp] theorem Hub.modOutput_spk : (h.modOutput n f).spk = h.spk := rfl
@[simp] theorem Hub.modOutput_sinks : (h.modOutput n f).sinks = h.sinks := rfl
@[simp] theorem Hub.modOutput_gens : (h.modOutput n f).gens = h.gens := rfl
@[simp] theorem Hub.modOutput_terms : (h.modOutput n f).terms = h.terms := rfl
@[simp] theorem Hub.modOutput_shadow : (h.modOutput n f).shadow = h.shadow := rfl
@[simp] theorem Hub.modOutput_buses : (h.modOutput n f).buses = h.buses := rfl
@[simp] theorem Hub.modOutput_commitSeq : (h.modOutput n f).commitSeq = h.commitSeq := rfl
@[simp] theorem Hub.modOutput_lastCommit : (h.modOutput n f).lastCommit = h.lastCommit := rfl
@[simp] theorem Hub.modOutput_slots : (h.modOutput n f).slots = h.slots := rfl
@[simp] theorem Hub.modOutput_shorts : (h.modOutput n f).shorts = h.shorts := rfl
@[simp] theorem Hub.modOutput_sbClipped : (h.modOutput n f).sbClipped = h.sbClipped := rfl
@[simp] theorem Hub.modOutput_procs : (h.modOutput n f).procs = h.procs := rfl
@[simp] theorem Hub.modOutput_lanes : (h.modOutput n f).lanes = h.lanes := rfl
@[simp] theorem Hub.modOutput_dsp : (h.modOutput n f).dsp = h.dsp := rfl
@[simp] theorem Hub.modOutput_clk : (h.modOutput n f).clk = h.clk := rfl
@[simp] theorem Hub.modOutput_ports : (h.modOutput n f).ports = h.ports := rfl
@[simp] theorem Hub.modOutput_cap : (h.modOutput n f).cap = h.cap := rfl
@[simp] theorem Hub.modOutput_asrc : (h.modOutput n f).asrc = h.asrc := rfl
@[simp] theorem Hub.modOutput_twi : (h.modOutput n f).twi = h.twi := rfl
@[simp] theorem Hub.modOutput_tet : (h.modOutput n f).tet = h.tet := rfl
@[simp] theorem Hub.modOutput_store : (h.modOutput n f).store = h.store := rfl
@[simp] theorem Hub.modOutput_sup : (h.modOutput n f).sup = h.sup := rfl
@[simp] theorem Hub.modOutput_irs : (h.modOutput n f).irs = h.irs := rfl
@[simp] theorem Hub.modOutput_ors : (h.modOutput n f).ors = h.ors := rfl
@[simp] theorem Hub.modOutput_sram : (h.modOutput n f).sram = h.sram := rfl
@[simp] theorem Hub.modOutput_chans : (h.modOutput n f).chans = h.chans := rfl
@[simp] theorem Hub.modOutput_pwr : (h.modOutput n f).pwr = h.pwr := rfl
@[simp] theorem Hub.modOutput_boot : (h.modOutput n f).boot = h.boot := rfl
@[simp] theorem Hub.modOutput_upd : (h.modOutput n f).upd = h.upd := rfl
@[simp] theorem Hub.modOutput_ext : (h.modOutput n f).ext = h.ext := rfl
@[simp] theorem Hub.modOutput_supply : (h.modOutput n f).supply = h.supply := rfl
@[simp] theorem Hub.modOutput_draws : (h.modOutput n f).draws = h.draws := rfl

end

/-! ### `Hub.modHeadphone` -/

section

variable (h : Hub) (n : Nat) (f : Headphone → Headphone)

@[simp] theorem Hub.modHeadphone_now : (h.modHeadphone n f).now = h.now := rfl
@[simp] theorem Hub.modHeadphone_sub : (h.modHeadphone n f).sub = h.sub := rfl
@[simp] theorem Hub.modHeadphone_framesRun : (h.modHeadphone n f).framesRun = h.framesRun := rfl
@[simp] theorem Hub.modHeadphone_blockDone : (h.modHeadphone n f).blockDone = h.blockDone := rfl
@[simp] theorem Hub.modHeadphone_timers : (h.modHeadphone n f).timers = h.timers := rfl
@[simp] theorem Hub.modHeadphone_objs : (h.modHeadphone n f).objs = h.objs := rfl
@[simp] theorem Hub.modHeadphone_live : (h.modHeadphone n f).live = h.live := rfl
@[simp] theorem Hub.modHeadphone_nv : (h.modHeadphone n f).nv = h.nv := rfl
@[simp] theorem Hub.modHeadphone_frameQ : (h.modHeadphone n f).frameQ = h.frameQ := rfl
@[simp] theorem Hub.modHeadphone_batches : (h.modHeadphone n f).batches = h.batches := rfl
@[simp] theorem Hub.modHeadphone_clears : (h.modHeadphone n f).clears = h.clears := rfl
@[simp] theorem Hub.modHeadphone_evDue : (h.modHeadphone n f).evDue = h.evDue := rfl
@[simp] theorem Hub.modHeadphone_evNext : (h.modHeadphone n f).evNext = h.evNext := rfl
@[simp] theorem Hub.modHeadphone_pend : (h.modHeadphone n f).pend = h.pend := rfl
@[simp] theorem Hub.modHeadphone_mask : (h.modHeadphone n f).mask = h.mask := rfl
@[simp] theorem Hub.modHeadphone_occ : (h.modHeadphone n f).occ = h.occ := rfl
@[simp] theorem Hub.modHeadphone_hosts : (h.modHeadphone n f).hosts = h.hosts := rfl
@[simp] theorem Hub.modHeadphone_mailTwi : (h.modHeadphone n f).mailTwi = h.mailTwi := rfl
@[simp] theorem Hub.modHeadphone_mailTether : (h.modHeadphone n f).mailTether = h.mailTether := rfl
@[simp] theorem Hub.modHeadphone_owners : (h.modHeadphone n f).owners = h.owners := rfl
@[simp] theorem Hub.modHeadphone_trims : (h.modHeadphone n f).trims = h.trims := rfl
@[simp] theorem Hub.modHeadphone_ownerDue : (h.modHeadphone n f).ownerDue = h.ownerDue := rfl
@[simp] theorem Hub.modHeadphone_ins : (h.modHeadphone n f).ins = h.ins := rfl
@[simp] theorem Hub.modHeadphone_hms : (h.modHeadphone n f).hms = h.hms := rfl
@[simp] theorem Hub.modHeadphone_outs : (h.modHeadphone n f).outs = h.outs := rfl
@[simp] theorem Hub.modHeadphone_spk : (h.modHeadphone n f).spk = h.spk := rfl
@[simp] theorem Hub.modHeadphone_sinks : (h.modHeadphone n f).sinks = h.sinks := rfl
@[simp] theorem Hub.modHeadphone_gens : (h.modHeadphone n f).gens = h.gens := rfl
@[simp] theorem Hub.modHeadphone_terms : (h.modHeadphone n f).terms = h.terms := rfl
@[simp] theorem Hub.modHeadphone_shadow : (h.modHeadphone n f).shadow = h.shadow := rfl
@[simp] theorem Hub.modHeadphone_buses : (h.modHeadphone n f).buses = h.buses := rfl
@[simp] theorem Hub.modHeadphone_commitSeq : (h.modHeadphone n f).commitSeq = h.commitSeq := rfl
@[simp] theorem Hub.modHeadphone_lastCommit : (h.modHeadphone n f).lastCommit = h.lastCommit := rfl
@[simp] theorem Hub.modHeadphone_slots : (h.modHeadphone n f).slots = h.slots := rfl
@[simp] theorem Hub.modHeadphone_shorts : (h.modHeadphone n f).shorts = h.shorts := rfl
@[simp] theorem Hub.modHeadphone_sbClipped : (h.modHeadphone n f).sbClipped = h.sbClipped := rfl
@[simp] theorem Hub.modHeadphone_procs : (h.modHeadphone n f).procs = h.procs := rfl
@[simp] theorem Hub.modHeadphone_lanes : (h.modHeadphone n f).lanes = h.lanes := rfl
@[simp] theorem Hub.modHeadphone_dsp : (h.modHeadphone n f).dsp = h.dsp := rfl
@[simp] theorem Hub.modHeadphone_clk : (h.modHeadphone n f).clk = h.clk := rfl
@[simp] theorem Hub.modHeadphone_ports : (h.modHeadphone n f).ports = h.ports := rfl
@[simp] theorem Hub.modHeadphone_cap : (h.modHeadphone n f).cap = h.cap := rfl
@[simp] theorem Hub.modHeadphone_asrc : (h.modHeadphone n f).asrc = h.asrc := rfl
@[simp] theorem Hub.modHeadphone_twi : (h.modHeadphone n f).twi = h.twi := rfl
@[simp] theorem Hub.modHeadphone_tet : (h.modHeadphone n f).tet = h.tet := rfl
@[simp] theorem Hub.modHeadphone_store : (h.modHeadphone n f).store = h.store := rfl
@[simp] theorem Hub.modHeadphone_sup : (h.modHeadphone n f).sup = h.sup := rfl
@[simp] theorem Hub.modHeadphone_irs : (h.modHeadphone n f).irs = h.irs := rfl
@[simp] theorem Hub.modHeadphone_ors : (h.modHeadphone n f).ors = h.ors := rfl
@[simp] theorem Hub.modHeadphone_sram : (h.modHeadphone n f).sram = h.sram := rfl
@[simp] theorem Hub.modHeadphone_chans : (h.modHeadphone n f).chans = h.chans := rfl
@[simp] theorem Hub.modHeadphone_pwr : (h.modHeadphone n f).pwr = h.pwr := rfl
@[simp] theorem Hub.modHeadphone_boot : (h.modHeadphone n f).boot = h.boot := rfl
@[simp] theorem Hub.modHeadphone_upd : (h.modHeadphone n f).upd = h.upd := rfl
@[simp] theorem Hub.modHeadphone_ext : (h.modHeadphone n f).ext = h.ext := rfl
@[simp] theorem Hub.modHeadphone_supply : (h.modHeadphone n f).supply = h.supply := rfl
@[simp] theorem Hub.modHeadphone_draws : (h.modHeadphone n f).draws = h.draws := rfl

end

/-! ### `Hub.modJack` -/

section

variable (h : Hub) (n : Nat) (f : Jack → Jack)

@[simp] theorem Hub.modJack_now : (h.modJack n f).now = h.now := rfl
@[simp] theorem Hub.modJack_sub : (h.modJack n f).sub = h.sub := rfl
@[simp] theorem Hub.modJack_framesRun : (h.modJack n f).framesRun = h.framesRun := rfl
@[simp] theorem Hub.modJack_blockDone : (h.modJack n f).blockDone = h.blockDone := rfl
@[simp] theorem Hub.modJack_timers : (h.modJack n f).timers = h.timers := rfl
@[simp] theorem Hub.modJack_objs : (h.modJack n f).objs = h.objs := rfl
@[simp] theorem Hub.modJack_live : (h.modJack n f).live = h.live := rfl
@[simp] theorem Hub.modJack_nv : (h.modJack n f).nv = h.nv := rfl
@[simp] theorem Hub.modJack_frameQ : (h.modJack n f).frameQ = h.frameQ := rfl
@[simp] theorem Hub.modJack_batches : (h.modJack n f).batches = h.batches := rfl
@[simp] theorem Hub.modJack_clears : (h.modJack n f).clears = h.clears := rfl
@[simp] theorem Hub.modJack_evDue : (h.modJack n f).evDue = h.evDue := rfl
@[simp] theorem Hub.modJack_evNext : (h.modJack n f).evNext = h.evNext := rfl
@[simp] theorem Hub.modJack_pend : (h.modJack n f).pend = h.pend := rfl
@[simp] theorem Hub.modJack_mask : (h.modJack n f).mask = h.mask := rfl
@[simp] theorem Hub.modJack_occ : (h.modJack n f).occ = h.occ := rfl
@[simp] theorem Hub.modJack_hosts : (h.modJack n f).hosts = h.hosts := rfl
@[simp] theorem Hub.modJack_mailTwi : (h.modJack n f).mailTwi = h.mailTwi := rfl
@[simp] theorem Hub.modJack_mailTether : (h.modJack n f).mailTether = h.mailTether := rfl
@[simp] theorem Hub.modJack_owners : (h.modJack n f).owners = h.owners := rfl
@[simp] theorem Hub.modJack_trims : (h.modJack n f).trims = h.trims := rfl
@[simp] theorem Hub.modJack_ownerDue : (h.modJack n f).ownerDue = h.ownerDue := rfl
@[simp] theorem Hub.modJack_ins : (h.modJack n f).ins = h.ins := rfl
@[simp] theorem Hub.modJack_hms : (h.modJack n f).hms = h.hms := rfl
@[simp] theorem Hub.modJack_outs : (h.modJack n f).outs = h.outs := rfl
@[simp] theorem Hub.modJack_spk : (h.modJack n f).spk = h.spk := rfl
@[simp] theorem Hub.modJack_sinks : (h.modJack n f).sinks = h.sinks := rfl
@[simp] theorem Hub.modJack_gens : (h.modJack n f).gens = h.gens := rfl
@[simp] theorem Hub.modJack_terms : (h.modJack n f).terms = h.terms := rfl
@[simp] theorem Hub.modJack_shadow : (h.modJack n f).shadow = h.shadow := rfl
@[simp] theorem Hub.modJack_buses : (h.modJack n f).buses = h.buses := rfl
@[simp] theorem Hub.modJack_commitSeq : (h.modJack n f).commitSeq = h.commitSeq := rfl
@[simp] theorem Hub.modJack_lastCommit : (h.modJack n f).lastCommit = h.lastCommit := rfl
@[simp] theorem Hub.modJack_slots : (h.modJack n f).slots = h.slots := rfl
@[simp] theorem Hub.modJack_shorts : (h.modJack n f).shorts = h.shorts := rfl
@[simp] theorem Hub.modJack_sbClipped : (h.modJack n f).sbClipped = h.sbClipped := rfl
@[simp] theorem Hub.modJack_procs : (h.modJack n f).procs = h.procs := rfl
@[simp] theorem Hub.modJack_lanes : (h.modJack n f).lanes = h.lanes := rfl
@[simp] theorem Hub.modJack_dsp : (h.modJack n f).dsp = h.dsp := rfl
@[simp] theorem Hub.modJack_clk : (h.modJack n f).clk = h.clk := rfl
@[simp] theorem Hub.modJack_ports : (h.modJack n f).ports = h.ports := rfl
@[simp] theorem Hub.modJack_cap : (h.modJack n f).cap = h.cap := rfl
@[simp] theorem Hub.modJack_asrc : (h.modJack n f).asrc = h.asrc := rfl
@[simp] theorem Hub.modJack_twi : (h.modJack n f).twi = h.twi := rfl
@[simp] theorem Hub.modJack_tet : (h.modJack n f).tet = h.tet := rfl
@[simp] theorem Hub.modJack_store : (h.modJack n f).store = h.store := rfl
@[simp] theorem Hub.modJack_sup : (h.modJack n f).sup = h.sup := rfl
@[simp] theorem Hub.modJack_irs : (h.modJack n f).irs = h.irs := rfl
@[simp] theorem Hub.modJack_ors : (h.modJack n f).ors = h.ors := rfl
@[simp] theorem Hub.modJack_sram : (h.modJack n f).sram = h.sram := rfl
@[simp] theorem Hub.modJack_chans : (h.modJack n f).chans = h.chans := rfl
@[simp] theorem Hub.modJack_pwr : (h.modJack n f).pwr = h.pwr := rfl
@[simp] theorem Hub.modJack_boot : (h.modJack n f).boot = h.boot := rfl
@[simp] theorem Hub.modJack_upd : (h.modJack n f).upd = h.upd := rfl
@[simp] theorem Hub.modJack_ext : (h.modJack n f).ext = h.ext := rfl
@[simp] theorem Hub.modJack_supply : (h.modJack n f).supply = h.supply := rfl
@[simp] theorem Hub.modJack_draws : (h.modJack n f).draws = h.draws := rfl

end

/-! ### `Hub.modSink` -/

section

variable (h : Hub) (n : Nat) (f : Sink → Sink)

@[simp] theorem Hub.modSink_now : (h.modSink n f).now = h.now := rfl
@[simp] theorem Hub.modSink_sub : (h.modSink n f).sub = h.sub := rfl
@[simp] theorem Hub.modSink_framesRun : (h.modSink n f).framesRun = h.framesRun := rfl
@[simp] theorem Hub.modSink_blockDone : (h.modSink n f).blockDone = h.blockDone := rfl
@[simp] theorem Hub.modSink_timers : (h.modSink n f).timers = h.timers := rfl
@[simp] theorem Hub.modSink_objs : (h.modSink n f).objs = h.objs := rfl
@[simp] theorem Hub.modSink_live : (h.modSink n f).live = h.live := rfl
@[simp] theorem Hub.modSink_nv : (h.modSink n f).nv = h.nv := rfl
@[simp] theorem Hub.modSink_frameQ : (h.modSink n f).frameQ = h.frameQ := rfl
@[simp] theorem Hub.modSink_batches : (h.modSink n f).batches = h.batches := rfl
@[simp] theorem Hub.modSink_clears : (h.modSink n f).clears = h.clears := rfl
@[simp] theorem Hub.modSink_evDue : (h.modSink n f).evDue = h.evDue := rfl
@[simp] theorem Hub.modSink_evNext : (h.modSink n f).evNext = h.evNext := rfl
@[simp] theorem Hub.modSink_pend : (h.modSink n f).pend = h.pend := rfl
@[simp] theorem Hub.modSink_mask : (h.modSink n f).mask = h.mask := rfl
@[simp] theorem Hub.modSink_occ : (h.modSink n f).occ = h.occ := rfl
@[simp] theorem Hub.modSink_hosts : (h.modSink n f).hosts = h.hosts := rfl
@[simp] theorem Hub.modSink_mailTwi : (h.modSink n f).mailTwi = h.mailTwi := rfl
@[simp] theorem Hub.modSink_mailTether : (h.modSink n f).mailTether = h.mailTether := rfl
@[simp] theorem Hub.modSink_owners : (h.modSink n f).owners = h.owners := rfl
@[simp] theorem Hub.modSink_trims : (h.modSink n f).trims = h.trims := rfl
@[simp] theorem Hub.modSink_ownerDue : (h.modSink n f).ownerDue = h.ownerDue := rfl
@[simp] theorem Hub.modSink_ins : (h.modSink n f).ins = h.ins := rfl
@[simp] theorem Hub.modSink_hms : (h.modSink n f).hms = h.hms := rfl
@[simp] theorem Hub.modSink_outs : (h.modSink n f).outs = h.outs := rfl
@[simp] theorem Hub.modSink_hps : (h.modSink n f).hps = h.hps := rfl
@[simp] theorem Hub.modSink_spk : (h.modSink n f).spk = h.spk := rfl
@[simp] theorem Hub.modSink_gens : (h.modSink n f).gens = h.gens := rfl
@[simp] theorem Hub.modSink_terms : (h.modSink n f).terms = h.terms := rfl
@[simp] theorem Hub.modSink_shadow : (h.modSink n f).shadow = h.shadow := rfl
@[simp] theorem Hub.modSink_buses : (h.modSink n f).buses = h.buses := rfl
@[simp] theorem Hub.modSink_commitSeq : (h.modSink n f).commitSeq = h.commitSeq := rfl
@[simp] theorem Hub.modSink_lastCommit : (h.modSink n f).lastCommit = h.lastCommit := rfl
@[simp] theorem Hub.modSink_slots : (h.modSink n f).slots = h.slots := rfl
@[simp] theorem Hub.modSink_shorts : (h.modSink n f).shorts = h.shorts := rfl
@[simp] theorem Hub.modSink_sbClipped : (h.modSink n f).sbClipped = h.sbClipped := rfl
@[simp] theorem Hub.modSink_procs : (h.modSink n f).procs = h.procs := rfl
@[simp] theorem Hub.modSink_lanes : (h.modSink n f).lanes = h.lanes := rfl
@[simp] theorem Hub.modSink_dsp : (h.modSink n f).dsp = h.dsp := rfl
@[simp] theorem Hub.modSink_clk : (h.modSink n f).clk = h.clk := rfl
@[simp] theorem Hub.modSink_ports : (h.modSink n f).ports = h.ports := rfl
@[simp] theorem Hub.modSink_cap : (h.modSink n f).cap = h.cap := rfl
@[simp] theorem Hub.modSink_asrc : (h.modSink n f).asrc = h.asrc := rfl
@[simp] theorem Hub.modSink_twi : (h.modSink n f).twi = h.twi := rfl
@[simp] theorem Hub.modSink_tet : (h.modSink n f).tet = h.tet := rfl
@[simp] theorem Hub.modSink_store : (h.modSink n f).store = h.store := rfl
@[simp] theorem Hub.modSink_sup : (h.modSink n f).sup = h.sup := rfl
@[simp] theorem Hub.modSink_irs : (h.modSink n f).irs = h.irs := rfl
@[simp] theorem Hub.modSink_ors : (h.modSink n f).ors = h.ors := rfl
@[simp] theorem Hub.modSink_sram : (h.modSink n f).sram = h.sram := rfl
@[simp] theorem Hub.modSink_chans : (h.modSink n f).chans = h.chans := rfl
@[simp] theorem Hub.modSink_pwr : (h.modSink n f).pwr = h.pwr := rfl
@[simp] theorem Hub.modSink_boot : (h.modSink n f).boot = h.boot := rfl
@[simp] theorem Hub.modSink_upd : (h.modSink n f).upd = h.upd := rfl
@[simp] theorem Hub.modSink_ext : (h.modSink n f).ext = h.ext := rfl
@[simp] theorem Hub.modSink_supply : (h.modSink n f).supply = h.supply := rfl
@[simp] theorem Hub.modSink_draws : (h.modSink n f).draws = h.draws := rfl

end

/-! ### `Hub.modGen` -/

section

variable (h : Hub) (n : Nat) (f : Generator → Generator)

@[simp] theorem Hub.modGen_now : (h.modGen n f).now = h.now := rfl
@[simp] theorem Hub.modGen_sub : (h.modGen n f).sub = h.sub := rfl
@[simp] theorem Hub.modGen_framesRun : (h.modGen n f).framesRun = h.framesRun := rfl
@[simp] theorem Hub.modGen_blockDone : (h.modGen n f).blockDone = h.blockDone := rfl
@[simp] theorem Hub.modGen_timers : (h.modGen n f).timers = h.timers := rfl
@[simp] theorem Hub.modGen_objs : (h.modGen n f).objs = h.objs := rfl
@[simp] theorem Hub.modGen_live : (h.modGen n f).live = h.live := rfl
@[simp] theorem Hub.modGen_nv : (h.modGen n f).nv = h.nv := rfl
@[simp] theorem Hub.modGen_frameQ : (h.modGen n f).frameQ = h.frameQ := rfl
@[simp] theorem Hub.modGen_batches : (h.modGen n f).batches = h.batches := rfl
@[simp] theorem Hub.modGen_clears : (h.modGen n f).clears = h.clears := rfl
@[simp] theorem Hub.modGen_evDue : (h.modGen n f).evDue = h.evDue := rfl
@[simp] theorem Hub.modGen_evNext : (h.modGen n f).evNext = h.evNext := rfl
@[simp] theorem Hub.modGen_pend : (h.modGen n f).pend = h.pend := rfl
@[simp] theorem Hub.modGen_mask : (h.modGen n f).mask = h.mask := rfl
@[simp] theorem Hub.modGen_occ : (h.modGen n f).occ = h.occ := rfl
@[simp] theorem Hub.modGen_hosts : (h.modGen n f).hosts = h.hosts := rfl
@[simp] theorem Hub.modGen_mailTwi : (h.modGen n f).mailTwi = h.mailTwi := rfl
@[simp] theorem Hub.modGen_mailTether : (h.modGen n f).mailTether = h.mailTether := rfl
@[simp] theorem Hub.modGen_owners : (h.modGen n f).owners = h.owners := rfl
@[simp] theorem Hub.modGen_trims : (h.modGen n f).trims = h.trims := rfl
@[simp] theorem Hub.modGen_ownerDue : (h.modGen n f).ownerDue = h.ownerDue := rfl
@[simp] theorem Hub.modGen_ins : (h.modGen n f).ins = h.ins := rfl
@[simp] theorem Hub.modGen_hms : (h.modGen n f).hms = h.hms := rfl
@[simp] theorem Hub.modGen_outs : (h.modGen n f).outs = h.outs := rfl
@[simp] theorem Hub.modGen_hps : (h.modGen n f).hps = h.hps := rfl
@[simp] theorem Hub.modGen_spk : (h.modGen n f).spk = h.spk := rfl
@[simp] theorem Hub.modGen_sinks : (h.modGen n f).sinks = h.sinks := rfl
@[simp] theorem Hub.modGen_terms : (h.modGen n f).terms = h.terms := rfl
@[simp] theorem Hub.modGen_shadow : (h.modGen n f).shadow = h.shadow := rfl
@[simp] theorem Hub.modGen_buses : (h.modGen n f).buses = h.buses := rfl
@[simp] theorem Hub.modGen_commitSeq : (h.modGen n f).commitSeq = h.commitSeq := rfl
@[simp] theorem Hub.modGen_lastCommit : (h.modGen n f).lastCommit = h.lastCommit := rfl
@[simp] theorem Hub.modGen_slots : (h.modGen n f).slots = h.slots := rfl
@[simp] theorem Hub.modGen_shorts : (h.modGen n f).shorts = h.shorts := rfl
@[simp] theorem Hub.modGen_sbClipped : (h.modGen n f).sbClipped = h.sbClipped := rfl
@[simp] theorem Hub.modGen_procs : (h.modGen n f).procs = h.procs := rfl
@[simp] theorem Hub.modGen_lanes : (h.modGen n f).lanes = h.lanes := rfl
@[simp] theorem Hub.modGen_dsp : (h.modGen n f).dsp = h.dsp := rfl
@[simp] theorem Hub.modGen_clk : (h.modGen n f).clk = h.clk := rfl
@[simp] theorem Hub.modGen_ports : (h.modGen n f).ports = h.ports := rfl
@[simp] theorem Hub.modGen_cap : (h.modGen n f).cap = h.cap := rfl
@[simp] theorem Hub.modGen_asrc : (h.modGen n f).asrc = h.asrc := rfl
@[simp] theorem Hub.modGen_twi : (h.modGen n f).twi = h.twi := rfl
@[simp] theorem Hub.modGen_tet : (h.modGen n f).tet = h.tet := rfl
@[simp] theorem Hub.modGen_store : (h.modGen n f).store = h.store := rfl
@[simp] theorem Hub.modGen_sup : (h.modGen n f).sup = h.sup := rfl
@[simp] theorem Hub.modGen_irs : (h.modGen n f).irs = h.irs := rfl
@[simp] theorem Hub.modGen_ors : (h.modGen n f).ors = h.ors := rfl
@[simp] theorem Hub.modGen_sram : (h.modGen n f).sram = h.sram := rfl
@[simp] theorem Hub.modGen_chans : (h.modGen n f).chans = h.chans := rfl
@[simp] theorem Hub.modGen_pwr : (h.modGen n f).pwr = h.pwr := rfl
@[simp] theorem Hub.modGen_boot : (h.modGen n f).boot = h.boot := rfl
@[simp] theorem Hub.modGen_upd : (h.modGen n f).upd = h.upd := rfl
@[simp] theorem Hub.modGen_ext : (h.modGen n f).ext = h.ext := rfl
@[simp] theorem Hub.modGen_supply : (h.modGen n f).supply = h.supply := rfl
@[simp] theorem Hub.modGen_draws : (h.modGen n f).draws = h.draws := rfl

end

/-! ### `Hub.modTerm` -/

section

variable (h : Hub) (n : Nat) (f : Term → Term)

@[simp] theorem Hub.modTerm_now : (h.modTerm n f).now = h.now := rfl
@[simp] theorem Hub.modTerm_sub : (h.modTerm n f).sub = h.sub := rfl
@[simp] theorem Hub.modTerm_framesRun : (h.modTerm n f).framesRun = h.framesRun := rfl
@[simp] theorem Hub.modTerm_blockDone : (h.modTerm n f).blockDone = h.blockDone := rfl
@[simp] theorem Hub.modTerm_timers : (h.modTerm n f).timers = h.timers := rfl
@[simp] theorem Hub.modTerm_objs : (h.modTerm n f).objs = h.objs := rfl
@[simp] theorem Hub.modTerm_live : (h.modTerm n f).live = h.live := rfl
@[simp] theorem Hub.modTerm_nv : (h.modTerm n f).nv = h.nv := rfl
@[simp] theorem Hub.modTerm_frameQ : (h.modTerm n f).frameQ = h.frameQ := rfl
@[simp] theorem Hub.modTerm_batches : (h.modTerm n f).batches = h.batches := rfl
@[simp] theorem Hub.modTerm_clears : (h.modTerm n f).clears = h.clears := rfl
@[simp] theorem Hub.modTerm_evDue : (h.modTerm n f).evDue = h.evDue := rfl
@[simp] theorem Hub.modTerm_evNext : (h.modTerm n f).evNext = h.evNext := rfl
@[simp] theorem Hub.modTerm_pend : (h.modTerm n f).pend = h.pend := rfl
@[simp] theorem Hub.modTerm_mask : (h.modTerm n f).mask = h.mask := rfl
@[simp] theorem Hub.modTerm_occ : (h.modTerm n f).occ = h.occ := rfl
@[simp] theorem Hub.modTerm_hosts : (h.modTerm n f).hosts = h.hosts := rfl
@[simp] theorem Hub.modTerm_mailTwi : (h.modTerm n f).mailTwi = h.mailTwi := rfl
@[simp] theorem Hub.modTerm_mailTether : (h.modTerm n f).mailTether = h.mailTether := rfl
@[simp] theorem Hub.modTerm_owners : (h.modTerm n f).owners = h.owners := rfl
@[simp] theorem Hub.modTerm_trims : (h.modTerm n f).trims = h.trims := rfl
@[simp] theorem Hub.modTerm_ownerDue : (h.modTerm n f).ownerDue = h.ownerDue := rfl
@[simp] theorem Hub.modTerm_ins : (h.modTerm n f).ins = h.ins := rfl
@[simp] theorem Hub.modTerm_hms : (h.modTerm n f).hms = h.hms := rfl
@[simp] theorem Hub.modTerm_outs : (h.modTerm n f).outs = h.outs := rfl
@[simp] theorem Hub.modTerm_hps : (h.modTerm n f).hps = h.hps := rfl
@[simp] theorem Hub.modTerm_spk : (h.modTerm n f).spk = h.spk := rfl
@[simp] theorem Hub.modTerm_sinks : (h.modTerm n f).sinks = h.sinks := rfl
@[simp] theorem Hub.modTerm_gens : (h.modTerm n f).gens = h.gens := rfl
@[simp] theorem Hub.modTerm_shadow : (h.modTerm n f).shadow = h.shadow := rfl
@[simp] theorem Hub.modTerm_buses : (h.modTerm n f).buses = h.buses := rfl
@[simp] theorem Hub.modTerm_commitSeq : (h.modTerm n f).commitSeq = h.commitSeq := rfl
@[simp] theorem Hub.modTerm_lastCommit : (h.modTerm n f).lastCommit = h.lastCommit := rfl
@[simp] theorem Hub.modTerm_slots : (h.modTerm n f).slots = h.slots := rfl
@[simp] theorem Hub.modTerm_shorts : (h.modTerm n f).shorts = h.shorts := rfl
@[simp] theorem Hub.modTerm_sbClipped : (h.modTerm n f).sbClipped = h.sbClipped := rfl
@[simp] theorem Hub.modTerm_procs : (h.modTerm n f).procs = h.procs := rfl
@[simp] theorem Hub.modTerm_lanes : (h.modTerm n f).lanes = h.lanes := rfl
@[simp] theorem Hub.modTerm_dsp : (h.modTerm n f).dsp = h.dsp := rfl
@[simp] theorem Hub.modTerm_clk : (h.modTerm n f).clk = h.clk := rfl
@[simp] theorem Hub.modTerm_ports : (h.modTerm n f).ports = h.ports := rfl
@[simp] theorem Hub.modTerm_cap : (h.modTerm n f).cap = h.cap := rfl
@[simp] theorem Hub.modTerm_asrc : (h.modTerm n f).asrc = h.asrc := rfl
@[simp] theorem Hub.modTerm_twi : (h.modTerm n f).twi = h.twi := rfl
@[simp] theorem Hub.modTerm_tet : (h.modTerm n f).tet = h.tet := rfl
@[simp] theorem Hub.modTerm_store : (h.modTerm n f).store = h.store := rfl
@[simp] theorem Hub.modTerm_sup : (h.modTerm n f).sup = h.sup := rfl
@[simp] theorem Hub.modTerm_irs : (h.modTerm n f).irs = h.irs := rfl
@[simp] theorem Hub.modTerm_ors : (h.modTerm n f).ors = h.ors := rfl
@[simp] theorem Hub.modTerm_sram : (h.modTerm n f).sram = h.sram := rfl
@[simp] theorem Hub.modTerm_chans : (h.modTerm n f).chans = h.chans := rfl
@[simp] theorem Hub.modTerm_pwr : (h.modTerm n f).pwr = h.pwr := rfl
@[simp] theorem Hub.modTerm_boot : (h.modTerm n f).boot = h.boot := rfl
@[simp] theorem Hub.modTerm_upd : (h.modTerm n f).upd = h.upd := rfl
@[simp] theorem Hub.modTerm_ext : (h.modTerm n f).ext = h.ext := rfl
@[simp] theorem Hub.modTerm_supply : (h.modTerm n f).supply = h.supply := rfl
@[simp] theorem Hub.modTerm_draws : (h.modTerm n f).draws = h.draws := rfl

end

/-! ### `Hub.modSlot` -/

section

variable (h : Hub) (n : Nat) (f : Term → Term)

@[simp] theorem Hub.modSlot_now : (h.modSlot n f).now = h.now := rfl
@[simp] theorem Hub.modSlot_sub : (h.modSlot n f).sub = h.sub := rfl
@[simp] theorem Hub.modSlot_framesRun : (h.modSlot n f).framesRun = h.framesRun := rfl
@[simp] theorem Hub.modSlot_blockDone : (h.modSlot n f).blockDone = h.blockDone := rfl
@[simp] theorem Hub.modSlot_timers : (h.modSlot n f).timers = h.timers := rfl
@[simp] theorem Hub.modSlot_objs : (h.modSlot n f).objs = h.objs := rfl
@[simp] theorem Hub.modSlot_live : (h.modSlot n f).live = h.live := rfl
@[simp] theorem Hub.modSlot_nv : (h.modSlot n f).nv = h.nv := rfl
@[simp] theorem Hub.modSlot_frameQ : (h.modSlot n f).frameQ = h.frameQ := rfl
@[simp] theorem Hub.modSlot_batches : (h.modSlot n f).batches = h.batches := rfl
@[simp] theorem Hub.modSlot_clears : (h.modSlot n f).clears = h.clears := rfl
@[simp] theorem Hub.modSlot_evDue : (h.modSlot n f).evDue = h.evDue := rfl
@[simp] theorem Hub.modSlot_evNext : (h.modSlot n f).evNext = h.evNext := rfl
@[simp] theorem Hub.modSlot_pend : (h.modSlot n f).pend = h.pend := rfl
@[simp] theorem Hub.modSlot_mask : (h.modSlot n f).mask = h.mask := rfl
@[simp] theorem Hub.modSlot_occ : (h.modSlot n f).occ = h.occ := rfl
@[simp] theorem Hub.modSlot_hosts : (h.modSlot n f).hosts = h.hosts := rfl
@[simp] theorem Hub.modSlot_mailTwi : (h.modSlot n f).mailTwi = h.mailTwi := rfl
@[simp] theorem Hub.modSlot_mailTether : (h.modSlot n f).mailTether = h.mailTether := rfl
@[simp] theorem Hub.modSlot_owners : (h.modSlot n f).owners = h.owners := rfl
@[simp] theorem Hub.modSlot_trims : (h.modSlot n f).trims = h.trims := rfl
@[simp] theorem Hub.modSlot_ownerDue : (h.modSlot n f).ownerDue = h.ownerDue := rfl
@[simp] theorem Hub.modSlot_ins : (h.modSlot n f).ins = h.ins := rfl
@[simp] theorem Hub.modSlot_hms : (h.modSlot n f).hms = h.hms := rfl
@[simp] theorem Hub.modSlot_outs : (h.modSlot n f).outs = h.outs := rfl
@[simp] theorem Hub.modSlot_hps : (h.modSlot n f).hps = h.hps := rfl
@[simp] theorem Hub.modSlot_spk : (h.modSlot n f).spk = h.spk := rfl
@[simp] theorem Hub.modSlot_sinks : (h.modSlot n f).sinks = h.sinks := rfl
@[simp] theorem Hub.modSlot_gens : (h.modSlot n f).gens = h.gens := rfl
@[simp] theorem Hub.modSlot_terms : (h.modSlot n f).terms = h.terms := rfl
@[simp] theorem Hub.modSlot_shadow : (h.modSlot n f).shadow = h.shadow := rfl
@[simp] theorem Hub.modSlot_buses : (h.modSlot n f).buses = h.buses := rfl
@[simp] theorem Hub.modSlot_commitSeq : (h.modSlot n f).commitSeq = h.commitSeq := rfl
@[simp] theorem Hub.modSlot_lastCommit : (h.modSlot n f).lastCommit = h.lastCommit := rfl
@[simp] theorem Hub.modSlot_shorts : (h.modSlot n f).shorts = h.shorts := rfl
@[simp] theorem Hub.modSlot_sbClipped : (h.modSlot n f).sbClipped = h.sbClipped := rfl
@[simp] theorem Hub.modSlot_procs : (h.modSlot n f).procs = h.procs := rfl
@[simp] theorem Hub.modSlot_lanes : (h.modSlot n f).lanes = h.lanes := rfl
@[simp] theorem Hub.modSlot_dsp : (h.modSlot n f).dsp = h.dsp := rfl
@[simp] theorem Hub.modSlot_clk : (h.modSlot n f).clk = h.clk := rfl
@[simp] theorem Hub.modSlot_ports : (h.modSlot n f).ports = h.ports := rfl
@[simp] theorem Hub.modSlot_cap : (h.modSlot n f).cap = h.cap := rfl
@[simp] theorem Hub.modSlot_asrc : (h.modSlot n f).asrc = h.asrc := rfl
@[simp] theorem Hub.modSlot_twi : (h.modSlot n f).twi = h.twi := rfl
@[simp] theorem Hub.modSlot_tet : (h.modSlot n f).tet = h.tet := rfl
@[simp] theorem Hub.modSlot_store : (h.modSlot n f).store = h.store := rfl
@[simp] theorem Hub.modSlot_sup : (h.modSlot n f).sup = h.sup := rfl
@[simp] theorem Hub.modSlot_irs : (h.modSlot n f).irs = h.irs := rfl
@[simp] theorem Hub.modSlot_ors : (h.modSlot n f).ors = h.ors := rfl
@[simp] theorem Hub.modSlot_sram : (h.modSlot n f).sram = h.sram := rfl
@[simp] theorem Hub.modSlot_chans : (h.modSlot n f).chans = h.chans := rfl
@[simp] theorem Hub.modSlot_pwr : (h.modSlot n f).pwr = h.pwr := rfl
@[simp] theorem Hub.modSlot_boot : (h.modSlot n f).boot = h.boot := rfl
@[simp] theorem Hub.modSlot_upd : (h.modSlot n f).upd = h.upd := rfl
@[simp] theorem Hub.modSlot_ext : (h.modSlot n f).ext = h.ext := rfl
@[simp] theorem Hub.modSlot_supply : (h.modSlot n f).supply = h.supply := rfl
@[simp] theorem Hub.modSlot_draws : (h.modSlot n f).draws = h.draws := rfl

end

/-! ### `Hub.modBus` -/

section

variable (h : Hub) (n : Nat) (f : Bus → Bus)

@[simp] theorem Hub.modBus_now : (h.modBus n f).now = h.now := rfl
@[simp] theorem Hub.modBus_sub : (h.modBus n f).sub = h.sub := rfl
@[simp] theorem Hub.modBus_framesRun : (h.modBus n f).framesRun = h.framesRun := rfl
@[simp] theorem Hub.modBus_blockDone : (h.modBus n f).blockDone = h.blockDone := rfl
@[simp] theorem Hub.modBus_timers : (h.modBus n f).timers = h.timers := rfl
@[simp] theorem Hub.modBus_objs : (h.modBus n f).objs = h.objs := rfl
@[simp] theorem Hub.modBus_live : (h.modBus n f).live = h.live := rfl
@[simp] theorem Hub.modBus_nv : (h.modBus n f).nv = h.nv := rfl
@[simp] theorem Hub.modBus_frameQ : (h.modBus n f).frameQ = h.frameQ := rfl
@[simp] theorem Hub.modBus_batches : (h.modBus n f).batches = h.batches := rfl
@[simp] theorem Hub.modBus_clears : (h.modBus n f).clears = h.clears := rfl
@[simp] theorem Hub.modBus_evDue : (h.modBus n f).evDue = h.evDue := rfl
@[simp] theorem Hub.modBus_evNext : (h.modBus n f).evNext = h.evNext := rfl
@[simp] theorem Hub.modBus_pend : (h.modBus n f).pend = h.pend := rfl
@[simp] theorem Hub.modBus_mask : (h.modBus n f).mask = h.mask := rfl
@[simp] theorem Hub.modBus_occ : (h.modBus n f).occ = h.occ := rfl
@[simp] theorem Hub.modBus_hosts : (h.modBus n f).hosts = h.hosts := rfl
@[simp] theorem Hub.modBus_mailTwi : (h.modBus n f).mailTwi = h.mailTwi := rfl
@[simp] theorem Hub.modBus_mailTether : (h.modBus n f).mailTether = h.mailTether := rfl
@[simp] theorem Hub.modBus_owners : (h.modBus n f).owners = h.owners := rfl
@[simp] theorem Hub.modBus_trims : (h.modBus n f).trims = h.trims := rfl
@[simp] theorem Hub.modBus_ownerDue : (h.modBus n f).ownerDue = h.ownerDue := rfl
@[simp] theorem Hub.modBus_ins : (h.modBus n f).ins = h.ins := rfl
@[simp] theorem Hub.modBus_hms : (h.modBus n f).hms = h.hms := rfl
@[simp] theorem Hub.modBus_outs : (h.modBus n f).outs = h.outs := rfl
@[simp] theorem Hub.modBus_hps : (h.modBus n f).hps = h.hps := rfl
@[simp] theorem Hub.modBus_spk : (h.modBus n f).spk = h.spk := rfl
@[simp] theorem Hub.modBus_sinks : (h.modBus n f).sinks = h.sinks := rfl
@[simp] theorem Hub.modBus_gens : (h.modBus n f).gens = h.gens := rfl
@[simp] theorem Hub.modBus_terms : (h.modBus n f).terms = h.terms := rfl
@[simp] theorem Hub.modBus_shadow : (h.modBus n f).shadow = h.shadow := rfl
@[simp] theorem Hub.modBus_commitSeq : (h.modBus n f).commitSeq = h.commitSeq := rfl
@[simp] theorem Hub.modBus_lastCommit : (h.modBus n f).lastCommit = h.lastCommit := rfl
@[simp] theorem Hub.modBus_slots : (h.modBus n f).slots = h.slots := rfl
@[simp] theorem Hub.modBus_shorts : (h.modBus n f).shorts = h.shorts := rfl
@[simp] theorem Hub.modBus_sbClipped : (h.modBus n f).sbClipped = h.sbClipped := rfl
@[simp] theorem Hub.modBus_procs : (h.modBus n f).procs = h.procs := rfl
@[simp] theorem Hub.modBus_lanes : (h.modBus n f).lanes = h.lanes := rfl
@[simp] theorem Hub.modBus_dsp : (h.modBus n f).dsp = h.dsp := rfl
@[simp] theorem Hub.modBus_clk : (h.modBus n f).clk = h.clk := rfl
@[simp] theorem Hub.modBus_ports : (h.modBus n f).ports = h.ports := rfl
@[simp] theorem Hub.modBus_cap : (h.modBus n f).cap = h.cap := rfl
@[simp] theorem Hub.modBus_asrc : (h.modBus n f).asrc = h.asrc := rfl
@[simp] theorem Hub.modBus_twi : (h.modBus n f).twi = h.twi := rfl
@[simp] theorem Hub.modBus_tet : (h.modBus n f).tet = h.tet := rfl
@[simp] theorem Hub.modBus_store : (h.modBus n f).store = h.store := rfl
@[simp] theorem Hub.modBus_sup : (h.modBus n f).sup = h.sup := rfl
@[simp] theorem Hub.modBus_irs : (h.modBus n f).irs = h.irs := rfl
@[simp] theorem Hub.modBus_ors : (h.modBus n f).ors = h.ors := rfl
@[simp] theorem Hub.modBus_sram : (h.modBus n f).sram = h.sram := rfl
@[simp] theorem Hub.modBus_chans : (h.modBus n f).chans = h.chans := rfl
@[simp] theorem Hub.modBus_pwr : (h.modBus n f).pwr = h.pwr := rfl
@[simp] theorem Hub.modBus_boot : (h.modBus n f).boot = h.boot := rfl
@[simp] theorem Hub.modBus_upd : (h.modBus n f).upd = h.upd := rfl
@[simp] theorem Hub.modBus_ext : (h.modBus n f).ext = h.ext := rfl
@[simp] theorem Hub.modBus_supply : (h.modBus n f).supply = h.supply := rfl
@[simp] theorem Hub.modBus_draws : (h.modBus n f).draws = h.draws := rfl

end

/-! ### `Hub.modShort` -/

section

variable (h : Hub) (n : Nat) (f : ShortBus → ShortBus)

@[simp] theorem Hub.modShort_now : (h.modShort n f).now = h.now := rfl
@[simp] theorem Hub.modShort_sub : (h.modShort n f).sub = h.sub := rfl
@[simp] theorem Hub.modShort_framesRun : (h.modShort n f).framesRun = h.framesRun := rfl
@[simp] theorem Hub.modShort_blockDone : (h.modShort n f).blockDone = h.blockDone := rfl
@[simp] theorem Hub.modShort_timers : (h.modShort n f).timers = h.timers := rfl
@[simp] theorem Hub.modShort_objs : (h.modShort n f).objs = h.objs := rfl
@[simp] theorem Hub.modShort_live : (h.modShort n f).live = h.live := rfl
@[simp] theorem Hub.modShort_nv : (h.modShort n f).nv = h.nv := rfl
@[simp] theorem Hub.modShort_frameQ : (h.modShort n f).frameQ = h.frameQ := rfl
@[simp] theorem Hub.modShort_batches : (h.modShort n f).batches = h.batches := rfl
@[simp] theorem Hub.modShort_clears : (h.modShort n f).clears = h.clears := rfl
@[simp] theorem Hub.modShort_evDue : (h.modShort n f).evDue = h.evDue := rfl
@[simp] theorem Hub.modShort_evNext : (h.modShort n f).evNext = h.evNext := rfl
@[simp] theorem Hub.modShort_pend : (h.modShort n f).pend = h.pend := rfl
@[simp] theorem Hub.modShort_mask : (h.modShort n f).mask = h.mask := rfl
@[simp] theorem Hub.modShort_occ : (h.modShort n f).occ = h.occ := rfl
@[simp] theorem Hub.modShort_hosts : (h.modShort n f).hosts = h.hosts := rfl
@[simp] theorem Hub.modShort_mailTwi : (h.modShort n f).mailTwi = h.mailTwi := rfl
@[simp] theorem Hub.modShort_mailTether : (h.modShort n f).mailTether = h.mailTether := rfl
@[simp] theorem Hub.modShort_owners : (h.modShort n f).owners = h.owners := rfl
@[simp] theorem Hub.modShort_trims : (h.modShort n f).trims = h.trims := rfl
@[simp] theorem Hub.modShort_ownerDue : (h.modShort n f).ownerDue = h.ownerDue := rfl
@[simp] theorem Hub.modShort_ins : (h.modShort n f).ins = h.ins := rfl
@[simp] theorem Hub.modShort_hms : (h.modShort n f).hms = h.hms := rfl
@[simp] theorem Hub.modShort_outs : (h.modShort n f).outs = h.outs := rfl
@[simp] theorem Hub.modShort_hps : (h.modShort n f).hps = h.hps := rfl
@[simp] theorem Hub.modShort_spk : (h.modShort n f).spk = h.spk := rfl
@[simp] theorem Hub.modShort_sinks : (h.modShort n f).sinks = h.sinks := rfl
@[simp] theorem Hub.modShort_gens : (h.modShort n f).gens = h.gens := rfl
@[simp] theorem Hub.modShort_terms : (h.modShort n f).terms = h.terms := rfl
@[simp] theorem Hub.modShort_shadow : (h.modShort n f).shadow = h.shadow := rfl
@[simp] theorem Hub.modShort_buses : (h.modShort n f).buses = h.buses := rfl
@[simp] theorem Hub.modShort_commitSeq : (h.modShort n f).commitSeq = h.commitSeq := rfl
@[simp] theorem Hub.modShort_lastCommit : (h.modShort n f).lastCommit = h.lastCommit := rfl
@[simp] theorem Hub.modShort_slots : (h.modShort n f).slots = h.slots := rfl
@[simp] theorem Hub.modShort_sbClipped : (h.modShort n f).sbClipped = h.sbClipped := rfl
@[simp] theorem Hub.modShort_procs : (h.modShort n f).procs = h.procs := rfl
@[simp] theorem Hub.modShort_lanes : (h.modShort n f).lanes = h.lanes := rfl
@[simp] theorem Hub.modShort_dsp : (h.modShort n f).dsp = h.dsp := rfl
@[simp] theorem Hub.modShort_clk : (h.modShort n f).clk = h.clk := rfl
@[simp] theorem Hub.modShort_ports : (h.modShort n f).ports = h.ports := rfl
@[simp] theorem Hub.modShort_cap : (h.modShort n f).cap = h.cap := rfl
@[simp] theorem Hub.modShort_asrc : (h.modShort n f).asrc = h.asrc := rfl
@[simp] theorem Hub.modShort_twi : (h.modShort n f).twi = h.twi := rfl
@[simp] theorem Hub.modShort_tet : (h.modShort n f).tet = h.tet := rfl
@[simp] theorem Hub.modShort_store : (h.modShort n f).store = h.store := rfl
@[simp] theorem Hub.modShort_sup : (h.modShort n f).sup = h.sup := rfl
@[simp] theorem Hub.modShort_irs : (h.modShort n f).irs = h.irs := rfl
@[simp] theorem Hub.modShort_ors : (h.modShort n f).ors = h.ors := rfl
@[simp] theorem Hub.modShort_sram : (h.modShort n f).sram = h.sram := rfl
@[simp] theorem Hub.modShort_chans : (h.modShort n f).chans = h.chans := rfl
@[simp] theorem Hub.modShort_pwr : (h.modShort n f).pwr = h.pwr := rfl
@[simp] theorem Hub.modShort_boot : (h.modShort n f).boot = h.boot := rfl
@[simp] theorem Hub.modShort_upd : (h.modShort n f).upd = h.upd := rfl
@[simp] theorem Hub.modShort_ext : (h.modShort n f).ext = h.ext := rfl
@[simp] theorem Hub.modShort_supply : (h.modShort n f).supply = h.supply := rfl
@[simp] theorem Hub.modShort_draws : (h.modShort n f).draws = h.draws := rfl

end

/-! ### `Hub.modProc` -/

section

variable (h : Hub) (n : Nat) (f : Process → Process)

@[simp] theorem Hub.modProc_now : (h.modProc n f).now = h.now := rfl
@[simp] theorem Hub.modProc_sub : (h.modProc n f).sub = h.sub := rfl
@[simp] theorem Hub.modProc_framesRun : (h.modProc n f).framesRun = h.framesRun := rfl
@[simp] theorem Hub.modProc_blockDone : (h.modProc n f).blockDone = h.blockDone := rfl
@[simp] theorem Hub.modProc_timers : (h.modProc n f).timers = h.timers := rfl
@[simp] theorem Hub.modProc_objs : (h.modProc n f).objs = h.objs := rfl
@[simp] theorem Hub.modProc_live : (h.modProc n f).live = h.live := rfl
@[simp] theorem Hub.modProc_nv : (h.modProc n f).nv = h.nv := rfl
@[simp] theorem Hub.modProc_frameQ : (h.modProc n f).frameQ = h.frameQ := rfl
@[simp] theorem Hub.modProc_batches : (h.modProc n f).batches = h.batches := rfl
@[simp] theorem Hub.modProc_clears : (h.modProc n f).clears = h.clears := rfl
@[simp] theorem Hub.modProc_evDue : (h.modProc n f).evDue = h.evDue := rfl
@[simp] theorem Hub.modProc_evNext : (h.modProc n f).evNext = h.evNext := rfl
@[simp] theorem Hub.modProc_pend : (h.modProc n f).pend = h.pend := rfl
@[simp] theorem Hub.modProc_mask : (h.modProc n f).mask = h.mask := rfl
@[simp] theorem Hub.modProc_occ : (h.modProc n f).occ = h.occ := rfl
@[simp] theorem Hub.modProc_hosts : (h.modProc n f).hosts = h.hosts := rfl
@[simp] theorem Hub.modProc_mailTwi : (h.modProc n f).mailTwi = h.mailTwi := rfl
@[simp] theorem Hub.modProc_mailTether : (h.modProc n f).mailTether = h.mailTether := rfl
@[simp] theorem Hub.modProc_owners : (h.modProc n f).owners = h.owners := rfl
@[simp] theorem Hub.modProc_trims : (h.modProc n f).trims = h.trims := rfl
@[simp] theorem Hub.modProc_ownerDue : (h.modProc n f).ownerDue = h.ownerDue := rfl
@[simp] theorem Hub.modProc_ins : (h.modProc n f).ins = h.ins := rfl
@[simp] theorem Hub.modProc_hms : (h.modProc n f).hms = h.hms := rfl
@[simp] theorem Hub.modProc_outs : (h.modProc n f).outs = h.outs := rfl
@[simp] theorem Hub.modProc_hps : (h.modProc n f).hps = h.hps := rfl
@[simp] theorem Hub.modProc_spk : (h.modProc n f).spk = h.spk := rfl
@[simp] theorem Hub.modProc_sinks : (h.modProc n f).sinks = h.sinks := rfl
@[simp] theorem Hub.modProc_gens : (h.modProc n f).gens = h.gens := rfl
@[simp] theorem Hub.modProc_terms : (h.modProc n f).terms = h.terms := rfl
@[simp] theorem Hub.modProc_shadow : (h.modProc n f).shadow = h.shadow := rfl
@[simp] theorem Hub.modProc_buses : (h.modProc n f).buses = h.buses := rfl
@[simp] theorem Hub.modProc_commitSeq : (h.modProc n f).commitSeq = h.commitSeq := rfl
@[simp] theorem Hub.modProc_lastCommit : (h.modProc n f).lastCommit = h.lastCommit := rfl
@[simp] theorem Hub.modProc_slots : (h.modProc n f).slots = h.slots := rfl
@[simp] theorem Hub.modProc_shorts : (h.modProc n f).shorts = h.shorts := rfl
@[simp] theorem Hub.modProc_sbClipped : (h.modProc n f).sbClipped = h.sbClipped := rfl
@[simp] theorem Hub.modProc_lanes : (h.modProc n f).lanes = h.lanes := rfl
@[simp] theorem Hub.modProc_dsp : (h.modProc n f).dsp = h.dsp := rfl
@[simp] theorem Hub.modProc_clk : (h.modProc n f).clk = h.clk := rfl
@[simp] theorem Hub.modProc_ports : (h.modProc n f).ports = h.ports := rfl
@[simp] theorem Hub.modProc_cap : (h.modProc n f).cap = h.cap := rfl
@[simp] theorem Hub.modProc_asrc : (h.modProc n f).asrc = h.asrc := rfl
@[simp] theorem Hub.modProc_twi : (h.modProc n f).twi = h.twi := rfl
@[simp] theorem Hub.modProc_tet : (h.modProc n f).tet = h.tet := rfl
@[simp] theorem Hub.modProc_store : (h.modProc n f).store = h.store := rfl
@[simp] theorem Hub.modProc_sup : (h.modProc n f).sup = h.sup := rfl
@[simp] theorem Hub.modProc_irs : (h.modProc n f).irs = h.irs := rfl
@[simp] theorem Hub.modProc_ors : (h.modProc n f).ors = h.ors := rfl
@[simp] theorem Hub.modProc_sram : (h.modProc n f).sram = h.sram := rfl
@[simp] theorem Hub.modProc_chans : (h.modProc n f).chans = h.chans := rfl
@[simp] theorem Hub.modProc_pwr : (h.modProc n f).pwr = h.pwr := rfl
@[simp] theorem Hub.modProc_boot : (h.modProc n f).boot = h.boot := rfl
@[simp] theorem Hub.modProc_upd : (h.modProc n f).upd = h.upd := rfl
@[simp] theorem Hub.modProc_ext : (h.modProc n f).ext = h.ext := rfl
@[simp] theorem Hub.modProc_supply : (h.modProc n f).supply = h.supply := rfl
@[simp] theorem Hub.modProc_draws : (h.modProc n f).draws = h.draws := rfl

end

/-! ### `Hub.modLane` -/

section

variable (h : Hub) (n : Nat) (f : Lane → Lane)

@[simp] theorem Hub.modLane_now : (h.modLane n f).now = h.now := rfl
@[simp] theorem Hub.modLane_sub : (h.modLane n f).sub = h.sub := rfl
@[simp] theorem Hub.modLane_framesRun : (h.modLane n f).framesRun = h.framesRun := rfl
@[simp] theorem Hub.modLane_blockDone : (h.modLane n f).blockDone = h.blockDone := rfl
@[simp] theorem Hub.modLane_timers : (h.modLane n f).timers = h.timers := rfl
@[simp] theorem Hub.modLane_objs : (h.modLane n f).objs = h.objs := rfl
@[simp] theorem Hub.modLane_live : (h.modLane n f).live = h.live := rfl
@[simp] theorem Hub.modLane_nv : (h.modLane n f).nv = h.nv := rfl
@[simp] theorem Hub.modLane_frameQ : (h.modLane n f).frameQ = h.frameQ := rfl
@[simp] theorem Hub.modLane_batches : (h.modLane n f).batches = h.batches := rfl
@[simp] theorem Hub.modLane_clears : (h.modLane n f).clears = h.clears := rfl
@[simp] theorem Hub.modLane_evDue : (h.modLane n f).evDue = h.evDue := rfl
@[simp] theorem Hub.modLane_evNext : (h.modLane n f).evNext = h.evNext := rfl
@[simp] theorem Hub.modLane_pend : (h.modLane n f).pend = h.pend := rfl
@[simp] theorem Hub.modLane_mask : (h.modLane n f).mask = h.mask := rfl
@[simp] theorem Hub.modLane_occ : (h.modLane n f).occ = h.occ := rfl
@[simp] theorem Hub.modLane_hosts : (h.modLane n f).hosts = h.hosts := rfl
@[simp] theorem Hub.modLane_mailTwi : (h.modLane n f).mailTwi = h.mailTwi := rfl
@[simp] theorem Hub.modLane_mailTether : (h.modLane n f).mailTether = h.mailTether := rfl
@[simp] theorem Hub.modLane_owners : (h.modLane n f).owners = h.owners := rfl
@[simp] theorem Hub.modLane_trims : (h.modLane n f).trims = h.trims := rfl
@[simp] theorem Hub.modLane_ownerDue : (h.modLane n f).ownerDue = h.ownerDue := rfl
@[simp] theorem Hub.modLane_ins : (h.modLane n f).ins = h.ins := rfl
@[simp] theorem Hub.modLane_hms : (h.modLane n f).hms = h.hms := rfl
@[simp] theorem Hub.modLane_outs : (h.modLane n f).outs = h.outs := rfl
@[simp] theorem Hub.modLane_hps : (h.modLane n f).hps = h.hps := rfl
@[simp] theorem Hub.modLane_spk : (h.modLane n f).spk = h.spk := rfl
@[simp] theorem Hub.modLane_sinks : (h.modLane n f).sinks = h.sinks := rfl
@[simp] theorem Hub.modLane_gens : (h.modLane n f).gens = h.gens := rfl
@[simp] theorem Hub.modLane_terms : (h.modLane n f).terms = h.terms := rfl
@[simp] theorem Hub.modLane_shadow : (h.modLane n f).shadow = h.shadow := rfl
@[simp] theorem Hub.modLane_buses : (h.modLane n f).buses = h.buses := rfl
@[simp] theorem Hub.modLane_commitSeq : (h.modLane n f).commitSeq = h.commitSeq := rfl
@[simp] theorem Hub.modLane_lastCommit : (h.modLane n f).lastCommit = h.lastCommit := rfl
@[simp] theorem Hub.modLane_slots : (h.modLane n f).slots = h.slots := rfl
@[simp] theorem Hub.modLane_shorts : (h.modLane n f).shorts = h.shorts := rfl
@[simp] theorem Hub.modLane_sbClipped : (h.modLane n f).sbClipped = h.sbClipped := rfl
@[simp] theorem Hub.modLane_procs : (h.modLane n f).procs = h.procs := rfl
@[simp] theorem Hub.modLane_dsp : (h.modLane n f).dsp = h.dsp := rfl
@[simp] theorem Hub.modLane_clk : (h.modLane n f).clk = h.clk := rfl
@[simp] theorem Hub.modLane_ports : (h.modLane n f).ports = h.ports := rfl
@[simp] theorem Hub.modLane_cap : (h.modLane n f).cap = h.cap := rfl
@[simp] theorem Hub.modLane_asrc : (h.modLane n f).asrc = h.asrc := rfl
@[simp] theorem Hub.modLane_twi : (h.modLane n f).twi = h.twi := rfl
@[simp] theorem Hub.modLane_tet : (h.modLane n f).tet = h.tet := rfl
@[simp] theorem Hub.modLane_store : (h.modLane n f).store = h.store := rfl
@[simp] theorem Hub.modLane_sup : (h.modLane n f).sup = h.sup := rfl
@[simp] theorem Hub.modLane_irs : (h.modLane n f).irs = h.irs := rfl
@[simp] theorem Hub.modLane_ors : (h.modLane n f).ors = h.ors := rfl
@[simp] theorem Hub.modLane_sram : (h.modLane n f).sram = h.sram := rfl
@[simp] theorem Hub.modLane_chans : (h.modLane n f).chans = h.chans := rfl
@[simp] theorem Hub.modLane_pwr : (h.modLane n f).pwr = h.pwr := rfl
@[simp] theorem Hub.modLane_boot : (h.modLane n f).boot = h.boot := rfl
@[simp] theorem Hub.modLane_upd : (h.modLane n f).upd = h.upd := rfl
@[simp] theorem Hub.modLane_ext : (h.modLane n f).ext = h.ext := rfl
@[simp] theorem Hub.modLane_supply : (h.modLane n f).supply = h.supply := rfl
@[simp] theorem Hub.modLane_draws : (h.modLane n f).draws = h.draws := rfl

end

/-! ### `Hub.modPort` -/

section

variable (h : Hub) (n : Nat) (f : Port → Port)

@[simp] theorem Hub.modPort_now : (h.modPort n f).now = h.now := rfl
@[simp] theorem Hub.modPort_sub : (h.modPort n f).sub = h.sub := rfl
@[simp] theorem Hub.modPort_framesRun : (h.modPort n f).framesRun = h.framesRun := rfl
@[simp] theorem Hub.modPort_blockDone : (h.modPort n f).blockDone = h.blockDone := rfl
@[simp] theorem Hub.modPort_timers : (h.modPort n f).timers = h.timers := rfl
@[simp] theorem Hub.modPort_objs : (h.modPort n f).objs = h.objs := rfl
@[simp] theorem Hub.modPort_live : (h.modPort n f).live = h.live := rfl
@[simp] theorem Hub.modPort_nv : (h.modPort n f).nv = h.nv := rfl
@[simp] theorem Hub.modPort_frameQ : (h.modPort n f).frameQ = h.frameQ := rfl
@[simp] theorem Hub.modPort_batches : (h.modPort n f).batches = h.batches := rfl
@[simp] theorem Hub.modPort_clears : (h.modPort n f).clears = h.clears := rfl
@[simp] theorem Hub.modPort_evDue : (h.modPort n f).evDue = h.evDue := rfl
@[simp] theorem Hub.modPort_evNext : (h.modPort n f).evNext = h.evNext := rfl
@[simp] theorem Hub.modPort_pend : (h.modPort n f).pend = h.pend := rfl
@[simp] theorem Hub.modPort_mask : (h.modPort n f).mask = h.mask := rfl
@[simp] theorem Hub.modPort_occ : (h.modPort n f).occ = h.occ := rfl
@[simp] theorem Hub.modPort_hosts : (h.modPort n f).hosts = h.hosts := rfl
@[simp] theorem Hub.modPort_mailTwi : (h.modPort n f).mailTwi = h.mailTwi := rfl
@[simp] theorem Hub.modPort_mailTether : (h.modPort n f).mailTether = h.mailTether := rfl
@[simp] theorem Hub.modPort_owners : (h.modPort n f).owners = h.owners := rfl
@[simp] theorem Hub.modPort_trims : (h.modPort n f).trims = h.trims := rfl
@[simp] theorem Hub.modPort_ownerDue : (h.modPort n f).ownerDue = h.ownerDue := rfl
@[simp] theorem Hub.modPort_ins : (h.modPort n f).ins = h.ins := rfl
@[simp] theorem Hub.modPort_hms : (h.modPort n f).hms = h.hms := rfl
@[simp] theorem Hub.modPort_outs : (h.modPort n f).outs = h.outs := rfl
@[simp] theorem Hub.modPort_hps : (h.modPort n f).hps = h.hps := rfl
@[simp] theorem Hub.modPort_spk : (h.modPort n f).spk = h.spk := rfl
@[simp] theorem Hub.modPort_sinks : (h.modPort n f).sinks = h.sinks := rfl
@[simp] theorem Hub.modPort_gens : (h.modPort n f).gens = h.gens := rfl
@[simp] theorem Hub.modPort_terms : (h.modPort n f).terms = h.terms := rfl
@[simp] theorem Hub.modPort_shadow : (h.modPort n f).shadow = h.shadow := rfl
@[simp] theorem Hub.modPort_buses : (h.modPort n f).buses = h.buses := rfl
@[simp] theorem Hub.modPort_commitSeq : (h.modPort n f).commitSeq = h.commitSeq := rfl
@[simp] theorem Hub.modPort_lastCommit : (h.modPort n f).lastCommit = h.lastCommit := rfl
@[simp] theorem Hub.modPort_slots : (h.modPort n f).slots = h.slots := rfl
@[simp] theorem Hub.modPort_shorts : (h.modPort n f).shorts = h.shorts := rfl
@[simp] theorem Hub.modPort_sbClipped : (h.modPort n f).sbClipped = h.sbClipped := rfl
@[simp] theorem Hub.modPort_procs : (h.modPort n f).procs = h.procs := rfl
@[simp] theorem Hub.modPort_lanes : (h.modPort n f).lanes = h.lanes := rfl
@[simp] theorem Hub.modPort_dsp : (h.modPort n f).dsp = h.dsp := rfl
@[simp] theorem Hub.modPort_clk : (h.modPort n f).clk = h.clk := rfl
@[simp] theorem Hub.modPort_cap : (h.modPort n f).cap = h.cap := rfl
@[simp] theorem Hub.modPort_asrc : (h.modPort n f).asrc = h.asrc := rfl
@[simp] theorem Hub.modPort_twi : (h.modPort n f).twi = h.twi := rfl
@[simp] theorem Hub.modPort_tet : (h.modPort n f).tet = h.tet := rfl
@[simp] theorem Hub.modPort_store : (h.modPort n f).store = h.store := rfl
@[simp] theorem Hub.modPort_sup : (h.modPort n f).sup = h.sup := rfl
@[simp] theorem Hub.modPort_irs : (h.modPort n f).irs = h.irs := rfl
@[simp] theorem Hub.modPort_ors : (h.modPort n f).ors = h.ors := rfl
@[simp] theorem Hub.modPort_sram : (h.modPort n f).sram = h.sram := rfl
@[simp] theorem Hub.modPort_chans : (h.modPort n f).chans = h.chans := rfl
@[simp] theorem Hub.modPort_pwr : (h.modPort n f).pwr = h.pwr := rfl
@[simp] theorem Hub.modPort_boot : (h.modPort n f).boot = h.boot := rfl
@[simp] theorem Hub.modPort_upd : (h.modPort n f).upd = h.upd := rfl
@[simp] theorem Hub.modPort_ext : (h.modPort n f).ext = h.ext := rfl
@[simp] theorem Hub.modPort_supply : (h.modPort n f).supply = h.supply := rfl
@[simp] theorem Hub.modPort_draws : (h.modPort n f).draws = h.draws := rfl

end

/-! ### `Hub.modCtx` -/

section

variable (h : Hub) (n : Nat) (f : Context → Context)

@[simp] theorem Hub.modCtx_now : (h.modCtx n f).now = h.now := rfl
@[simp] theorem Hub.modCtx_sub : (h.modCtx n f).sub = h.sub := rfl
@[simp] theorem Hub.modCtx_framesRun : (h.modCtx n f).framesRun = h.framesRun := rfl
@[simp] theorem Hub.modCtx_blockDone : (h.modCtx n f).blockDone = h.blockDone := rfl
@[simp] theorem Hub.modCtx_timers : (h.modCtx n f).timers = h.timers := rfl
@[simp] theorem Hub.modCtx_objs : (h.modCtx n f).objs = h.objs := rfl
@[simp] theorem Hub.modCtx_live : (h.modCtx n f).live = h.live := rfl
@[simp] theorem Hub.modCtx_nv : (h.modCtx n f).nv = h.nv := rfl
@[simp] theorem Hub.modCtx_frameQ : (h.modCtx n f).frameQ = h.frameQ := rfl
@[simp] theorem Hub.modCtx_batches : (h.modCtx n f).batches = h.batches := rfl
@[simp] theorem Hub.modCtx_clears : (h.modCtx n f).clears = h.clears := rfl
@[simp] theorem Hub.modCtx_evDue : (h.modCtx n f).evDue = h.evDue := rfl
@[simp] theorem Hub.modCtx_evNext : (h.modCtx n f).evNext = h.evNext := rfl
@[simp] theorem Hub.modCtx_pend : (h.modCtx n f).pend = h.pend := rfl
@[simp] theorem Hub.modCtx_mask : (h.modCtx n f).mask = h.mask := rfl
@[simp] theorem Hub.modCtx_occ : (h.modCtx n f).occ = h.occ := rfl
@[simp] theorem Hub.modCtx_hosts : (h.modCtx n f).hosts = h.hosts := rfl
@[simp] theorem Hub.modCtx_mailTwi : (h.modCtx n f).mailTwi = h.mailTwi := rfl
@[simp] theorem Hub.modCtx_mailTether : (h.modCtx n f).mailTether = h.mailTether := rfl
@[simp] theorem Hub.modCtx_owners : (h.modCtx n f).owners = h.owners := rfl
@[simp] theorem Hub.modCtx_trims : (h.modCtx n f).trims = h.trims := rfl
@[simp] theorem Hub.modCtx_ownerDue : (h.modCtx n f).ownerDue = h.ownerDue := rfl
@[simp] theorem Hub.modCtx_ins : (h.modCtx n f).ins = h.ins := rfl
@[simp] theorem Hub.modCtx_hms : (h.modCtx n f).hms = h.hms := rfl
@[simp] theorem Hub.modCtx_outs : (h.modCtx n f).outs = h.outs := rfl
@[simp] theorem Hub.modCtx_hps : (h.modCtx n f).hps = h.hps := rfl
@[simp] theorem Hub.modCtx_spk : (h.modCtx n f).spk = h.spk := rfl
@[simp] theorem Hub.modCtx_sinks : (h.modCtx n f).sinks = h.sinks := rfl
@[simp] theorem Hub.modCtx_gens : (h.modCtx n f).gens = h.gens := rfl
@[simp] theorem Hub.modCtx_terms : (h.modCtx n f).terms = h.terms := rfl
@[simp] theorem Hub.modCtx_shadow : (h.modCtx n f).shadow = h.shadow := rfl
@[simp] theorem Hub.modCtx_buses : (h.modCtx n f).buses = h.buses := rfl
@[simp] theorem Hub.modCtx_commitSeq : (h.modCtx n f).commitSeq = h.commitSeq := rfl
@[simp] theorem Hub.modCtx_lastCommit : (h.modCtx n f).lastCommit = h.lastCommit := rfl
@[simp] theorem Hub.modCtx_slots : (h.modCtx n f).slots = h.slots := rfl
@[simp] theorem Hub.modCtx_shorts : (h.modCtx n f).shorts = h.shorts := rfl
@[simp] theorem Hub.modCtx_sbClipped : (h.modCtx n f).sbClipped = h.sbClipped := rfl
@[simp] theorem Hub.modCtx_procs : (h.modCtx n f).procs = h.procs := rfl
@[simp] theorem Hub.modCtx_lanes : (h.modCtx n f).lanes = h.lanes := rfl
@[simp] theorem Hub.modCtx_dsp : (h.modCtx n f).dsp = h.dsp := rfl
@[simp] theorem Hub.modCtx_clk : (h.modCtx n f).clk = h.clk := rfl
@[simp] theorem Hub.modCtx_ports : (h.modCtx n f).ports = h.ports := rfl
@[simp] theorem Hub.modCtx_cap : (h.modCtx n f).cap = h.cap := rfl
@[simp] theorem Hub.modCtx_twi : (h.modCtx n f).twi = h.twi := rfl
@[simp] theorem Hub.modCtx_tet : (h.modCtx n f).tet = h.tet := rfl
@[simp] theorem Hub.modCtx_store : (h.modCtx n f).store = h.store := rfl
@[simp] theorem Hub.modCtx_sup : (h.modCtx n f).sup = h.sup := rfl
@[simp] theorem Hub.modCtx_irs : (h.modCtx n f).irs = h.irs := rfl
@[simp] theorem Hub.modCtx_ors : (h.modCtx n f).ors = h.ors := rfl
@[simp] theorem Hub.modCtx_sram : (h.modCtx n f).sram = h.sram := rfl
@[simp] theorem Hub.modCtx_chans : (h.modCtx n f).chans = h.chans := rfl
@[simp] theorem Hub.modCtx_pwr : (h.modCtx n f).pwr = h.pwr := rfl
@[simp] theorem Hub.modCtx_boot : (h.modCtx n f).boot = h.boot := rfl
@[simp] theorem Hub.modCtx_upd : (h.modCtx n f).upd = h.upd := rfl
@[simp] theorem Hub.modCtx_ext : (h.modCtx n f).ext = h.ext := rfl
@[simp] theorem Hub.modCtx_supply : (h.modCtx n f).supply = h.supply := rfl
@[simp] theorem Hub.modCtx_draws : (h.modCtx n f).draws = h.draws := rfl

end

/-! ### `Hub.modChan` -/

section

variable (h : Hub) (n : Nat) (f : WatchChan → WatchChan)

@[simp] theorem Hub.modChan_now : (h.modChan n f).now = h.now := rfl
@[simp] theorem Hub.modChan_sub : (h.modChan n f).sub = h.sub := rfl
@[simp] theorem Hub.modChan_framesRun : (h.modChan n f).framesRun = h.framesRun := rfl
@[simp] theorem Hub.modChan_blockDone : (h.modChan n f).blockDone = h.blockDone := rfl
@[simp] theorem Hub.modChan_timers : (h.modChan n f).timers = h.timers := rfl
@[simp] theorem Hub.modChan_objs : (h.modChan n f).objs = h.objs := rfl
@[simp] theorem Hub.modChan_live : (h.modChan n f).live = h.live := rfl
@[simp] theorem Hub.modChan_nv : (h.modChan n f).nv = h.nv := rfl
@[simp] theorem Hub.modChan_frameQ : (h.modChan n f).frameQ = h.frameQ := rfl
@[simp] theorem Hub.modChan_batches : (h.modChan n f).batches = h.batches := rfl
@[simp] theorem Hub.modChan_clears : (h.modChan n f).clears = h.clears := rfl
@[simp] theorem Hub.modChan_evDue : (h.modChan n f).evDue = h.evDue := rfl
@[simp] theorem Hub.modChan_evNext : (h.modChan n f).evNext = h.evNext := rfl
@[simp] theorem Hub.modChan_pend : (h.modChan n f).pend = h.pend := rfl
@[simp] theorem Hub.modChan_mask : (h.modChan n f).mask = h.mask := rfl
@[simp] theorem Hub.modChan_occ : (h.modChan n f).occ = h.occ := rfl
@[simp] theorem Hub.modChan_hosts : (h.modChan n f).hosts = h.hosts := rfl
@[simp] theorem Hub.modChan_mailTwi : (h.modChan n f).mailTwi = h.mailTwi := rfl
@[simp] theorem Hub.modChan_mailTether : (h.modChan n f).mailTether = h.mailTether := rfl
@[simp] theorem Hub.modChan_owners : (h.modChan n f).owners = h.owners := rfl
@[simp] theorem Hub.modChan_trims : (h.modChan n f).trims = h.trims := rfl
@[simp] theorem Hub.modChan_ownerDue : (h.modChan n f).ownerDue = h.ownerDue := rfl
@[simp] theorem Hub.modChan_ins : (h.modChan n f).ins = h.ins := rfl
@[simp] theorem Hub.modChan_hms : (h.modChan n f).hms = h.hms := rfl
@[simp] theorem Hub.modChan_outs : (h.modChan n f).outs = h.outs := rfl
@[simp] theorem Hub.modChan_hps : (h.modChan n f).hps = h.hps := rfl
@[simp] theorem Hub.modChan_spk : (h.modChan n f).spk = h.spk := rfl
@[simp] theorem Hub.modChan_sinks : (h.modChan n f).sinks = h.sinks := rfl
@[simp] theorem Hub.modChan_gens : (h.modChan n f).gens = h.gens := rfl
@[simp] theorem Hub.modChan_terms : (h.modChan n f).terms = h.terms := rfl
@[simp] theorem Hub.modChan_shadow : (h.modChan n f).shadow = h.shadow := rfl
@[simp] theorem Hub.modChan_buses : (h.modChan n f).buses = h.buses := rfl
@[simp] theorem Hub.modChan_commitSeq : (h.modChan n f).commitSeq = h.commitSeq := rfl
@[simp] theorem Hub.modChan_lastCommit : (h.modChan n f).lastCommit = h.lastCommit := rfl
@[simp] theorem Hub.modChan_slots : (h.modChan n f).slots = h.slots := rfl
@[simp] theorem Hub.modChan_shorts : (h.modChan n f).shorts = h.shorts := rfl
@[simp] theorem Hub.modChan_sbClipped : (h.modChan n f).sbClipped = h.sbClipped := rfl
@[simp] theorem Hub.modChan_procs : (h.modChan n f).procs = h.procs := rfl
@[simp] theorem Hub.modChan_lanes : (h.modChan n f).lanes = h.lanes := rfl
@[simp] theorem Hub.modChan_dsp : (h.modChan n f).dsp = h.dsp := rfl
@[simp] theorem Hub.modChan_clk : (h.modChan n f).clk = h.clk := rfl
@[simp] theorem Hub.modChan_ports : (h.modChan n f).ports = h.ports := rfl
@[simp] theorem Hub.modChan_cap : (h.modChan n f).cap = h.cap := rfl
@[simp] theorem Hub.modChan_asrc : (h.modChan n f).asrc = h.asrc := rfl
@[simp] theorem Hub.modChan_twi : (h.modChan n f).twi = h.twi := rfl
@[simp] theorem Hub.modChan_tet : (h.modChan n f).tet = h.tet := rfl
@[simp] theorem Hub.modChan_store : (h.modChan n f).store = h.store := rfl
@[simp] theorem Hub.modChan_sup : (h.modChan n f).sup = h.sup := rfl
@[simp] theorem Hub.modChan_irs : (h.modChan n f).irs = h.irs := rfl
@[simp] theorem Hub.modChan_ors : (h.modChan n f).ors = h.ors := rfl
@[simp] theorem Hub.modChan_sram : (h.modChan n f).sram = h.sram := rfl
@[simp] theorem Hub.modChan_pwr : (h.modChan n f).pwr = h.pwr := rfl
@[simp] theorem Hub.modChan_boot : (h.modChan n f).boot = h.boot := rfl
@[simp] theorem Hub.modChan_upd : (h.modChan n f).upd = h.upd := rfl
@[simp] theorem Hub.modChan_ext : (h.modChan n f).ext = h.ext := rfl
@[simp] theorem Hub.modChan_supply : (h.modChan n f).supply = h.supply := rfl
@[simp] theorem Hub.modChan_draws : (h.modChan n f).draws = h.draws := rfl

end

/-! ### `Hub.modHost` -/

section

variable (h : Hub) (n : Nat) (f : HostSlot → HostSlot)

@[simp] theorem Hub.modHost_now : (h.modHost n f).now = h.now := rfl
@[simp] theorem Hub.modHost_sub : (h.modHost n f).sub = h.sub := rfl
@[simp] theorem Hub.modHost_framesRun : (h.modHost n f).framesRun = h.framesRun := rfl
@[simp] theorem Hub.modHost_blockDone : (h.modHost n f).blockDone = h.blockDone := rfl
@[simp] theorem Hub.modHost_timers : (h.modHost n f).timers = h.timers := rfl
@[simp] theorem Hub.modHost_objs : (h.modHost n f).objs = h.objs := rfl
@[simp] theorem Hub.modHost_live : (h.modHost n f).live = h.live := rfl
@[simp] theorem Hub.modHost_nv : (h.modHost n f).nv = h.nv := rfl
@[simp] theorem Hub.modHost_frameQ : (h.modHost n f).frameQ = h.frameQ := rfl
@[simp] theorem Hub.modHost_batches : (h.modHost n f).batches = h.batches := rfl
@[simp] theorem Hub.modHost_clears : (h.modHost n f).clears = h.clears := rfl
@[simp] theorem Hub.modHost_evDue : (h.modHost n f).evDue = h.evDue := rfl
@[simp] theorem Hub.modHost_evNext : (h.modHost n f).evNext = h.evNext := rfl
@[simp] theorem Hub.modHost_pend : (h.modHost n f).pend = h.pend := rfl
@[simp] theorem Hub.modHost_mask : (h.modHost n f).mask = h.mask := rfl
@[simp] theorem Hub.modHost_occ : (h.modHost n f).occ = h.occ := rfl
@[simp] theorem Hub.modHost_mailTwi : (h.modHost n f).mailTwi = h.mailTwi := rfl
@[simp] theorem Hub.modHost_mailTether : (h.modHost n f).mailTether = h.mailTether := rfl
@[simp] theorem Hub.modHost_owners : (h.modHost n f).owners = h.owners := rfl
@[simp] theorem Hub.modHost_trims : (h.modHost n f).trims = h.trims := rfl
@[simp] theorem Hub.modHost_ownerDue : (h.modHost n f).ownerDue = h.ownerDue := rfl
@[simp] theorem Hub.modHost_ins : (h.modHost n f).ins = h.ins := rfl
@[simp] theorem Hub.modHost_hms : (h.modHost n f).hms = h.hms := rfl
@[simp] theorem Hub.modHost_outs : (h.modHost n f).outs = h.outs := rfl
@[simp] theorem Hub.modHost_hps : (h.modHost n f).hps = h.hps := rfl
@[simp] theorem Hub.modHost_spk : (h.modHost n f).spk = h.spk := rfl
@[simp] theorem Hub.modHost_sinks : (h.modHost n f).sinks = h.sinks := rfl
@[simp] theorem Hub.modHost_gens : (h.modHost n f).gens = h.gens := rfl
@[simp] theorem Hub.modHost_terms : (h.modHost n f).terms = h.terms := rfl
@[simp] theorem Hub.modHost_shadow : (h.modHost n f).shadow = h.shadow := rfl
@[simp] theorem Hub.modHost_buses : (h.modHost n f).buses = h.buses := rfl
@[simp] theorem Hub.modHost_commitSeq : (h.modHost n f).commitSeq = h.commitSeq := rfl
@[simp] theorem Hub.modHost_lastCommit : (h.modHost n f).lastCommit = h.lastCommit := rfl
@[simp] theorem Hub.modHost_slots : (h.modHost n f).slots = h.slots := rfl
@[simp] theorem Hub.modHost_shorts : (h.modHost n f).shorts = h.shorts := rfl
@[simp] theorem Hub.modHost_sbClipped : (h.modHost n f).sbClipped = h.sbClipped := rfl
@[simp] theorem Hub.modHost_procs : (h.modHost n f).procs = h.procs := rfl
@[simp] theorem Hub.modHost_lanes : (h.modHost n f).lanes = h.lanes := rfl
@[simp] theorem Hub.modHost_dsp : (h.modHost n f).dsp = h.dsp := rfl
@[simp] theorem Hub.modHost_clk : (h.modHost n f).clk = h.clk := rfl
@[simp] theorem Hub.modHost_ports : (h.modHost n f).ports = h.ports := rfl
@[simp] theorem Hub.modHost_cap : (h.modHost n f).cap = h.cap := rfl
@[simp] theorem Hub.modHost_asrc : (h.modHost n f).asrc = h.asrc := rfl
@[simp] theorem Hub.modHost_twi : (h.modHost n f).twi = h.twi := rfl
@[simp] theorem Hub.modHost_tet : (h.modHost n f).tet = h.tet := rfl
@[simp] theorem Hub.modHost_store : (h.modHost n f).store = h.store := rfl
@[simp] theorem Hub.modHost_sup : (h.modHost n f).sup = h.sup := rfl
@[simp] theorem Hub.modHost_irs : (h.modHost n f).irs = h.irs := rfl
@[simp] theorem Hub.modHost_ors : (h.modHost n f).ors = h.ors := rfl
@[simp] theorem Hub.modHost_sram : (h.modHost n f).sram = h.sram := rfl
@[simp] theorem Hub.modHost_chans : (h.modHost n f).chans = h.chans := rfl
@[simp] theorem Hub.modHost_pwr : (h.modHost n f).pwr = h.pwr := rfl
@[simp] theorem Hub.modHost_boot : (h.modHost n f).boot = h.boot := rfl
@[simp] theorem Hub.modHost_upd : (h.modHost n f).upd = h.upd := rfl
@[simp] theorem Hub.modHost_ext : (h.modHost n f).ext = h.ext := rfl
@[simp] theorem Hub.modHost_supply : (h.modHost n f).supply = h.supply := rfl
@[simp] theorem Hub.modHost_draws : (h.modHost n f).draws = h.draws := rfl

end

/-! ### `Hub.startAt` -/

section

variable (h : Hub) (t : Timer) (d : Nat)

@[simp] theorem Hub.startAt_now : (h.startAt t d).now = h.now := rfl
@[simp] theorem Hub.startAt_sub : (h.startAt t d).sub = h.sub := rfl
@[simp] theorem Hub.startAt_framesRun : (h.startAt t d).framesRun = h.framesRun := rfl
@[simp] theorem Hub.startAt_blockDone : (h.startAt t d).blockDone = h.blockDone := rfl
@[simp] theorem Hub.startAt_objs : (h.startAt t d).objs = h.objs := rfl
@[simp] theorem Hub.startAt_live : (h.startAt t d).live = h.live := rfl
@[simp] theorem Hub.startAt_nv : (h.startAt t d).nv = h.nv := rfl
@[simp] theorem Hub.startAt_frameQ : (h.startAt t d).frameQ = h.frameQ := rfl
@[simp] theorem Hub.startAt_batches : (h.startAt t d).batches = h.batches := rfl
@[simp] theorem Hub.startAt_clears : (h.startAt t d).clears = h.clears := rfl
@[simp] theorem Hub.startAt_evDue : (h.startAt t d).evDue = h.evDue := rfl
@[simp] theorem Hub.startAt_evNext : (h.startAt t d).evNext = h.evNext := rfl
@[simp] theorem Hub.startAt_pend : (h.startAt t d).pend = h.pend := rfl
@[simp] theorem Hub.startAt_mask : (h.startAt t d).mask = h.mask := rfl
@[simp] theorem Hub.startAt_occ : (h.startAt t d).occ = h.occ := rfl
@[simp] theorem Hub.startAt_hosts : (h.startAt t d).hosts = h.hosts := rfl
@[simp] theorem Hub.startAt_mailTwi : (h.startAt t d).mailTwi = h.mailTwi := rfl
@[simp] theorem Hub.startAt_mailTether : (h.startAt t d).mailTether = h.mailTether := rfl
@[simp] theorem Hub.startAt_owners : (h.startAt t d).owners = h.owners := rfl
@[simp] theorem Hub.startAt_trims : (h.startAt t d).trims = h.trims := rfl
@[simp] theorem Hub.startAt_ownerDue : (h.startAt t d).ownerDue = h.ownerDue := rfl
@[simp] theorem Hub.startAt_ins : (h.startAt t d).ins = h.ins := rfl
@[simp] theorem Hub.startAt_hms : (h.startAt t d).hms = h.hms := rfl
@[simp] theorem Hub.startAt_outs : (h.startAt t d).outs = h.outs := rfl
@[simp] theorem Hub.startAt_hps : (h.startAt t d).hps = h.hps := rfl
@[simp] theorem Hub.startAt_spk : (h.startAt t d).spk = h.spk := rfl
@[simp] theorem Hub.startAt_sinks : (h.startAt t d).sinks = h.sinks := rfl
@[simp] theorem Hub.startAt_gens : (h.startAt t d).gens = h.gens := rfl
@[simp] theorem Hub.startAt_terms : (h.startAt t d).terms = h.terms := rfl
@[simp] theorem Hub.startAt_shadow : (h.startAt t d).shadow = h.shadow := rfl
@[simp] theorem Hub.startAt_buses : (h.startAt t d).buses = h.buses := rfl
@[simp] theorem Hub.startAt_commitSeq : (h.startAt t d).commitSeq = h.commitSeq := rfl
@[simp] theorem Hub.startAt_lastCommit : (h.startAt t d).lastCommit = h.lastCommit := rfl
@[simp] theorem Hub.startAt_slots : (h.startAt t d).slots = h.slots := rfl
@[simp] theorem Hub.startAt_shorts : (h.startAt t d).shorts = h.shorts := rfl
@[simp] theorem Hub.startAt_sbClipped : (h.startAt t d).sbClipped = h.sbClipped := rfl
@[simp] theorem Hub.startAt_procs : (h.startAt t d).procs = h.procs := rfl
@[simp] theorem Hub.startAt_lanes : (h.startAt t d).lanes = h.lanes := rfl
@[simp] theorem Hub.startAt_dsp : (h.startAt t d).dsp = h.dsp := rfl
@[simp] theorem Hub.startAt_clk : (h.startAt t d).clk = h.clk := rfl
@[simp] theorem Hub.startAt_ports : (h.startAt t d).ports = h.ports := rfl
@[simp] theorem Hub.startAt_cap : (h.startAt t d).cap = h.cap := rfl
@[simp] theorem Hub.startAt_asrc : (h.startAt t d).asrc = h.asrc := rfl
@[simp] theorem Hub.startAt_twi : (h.startAt t d).twi = h.twi := rfl
@[simp] theorem Hub.startAt_tet : (h.startAt t d).tet = h.tet := rfl
@[simp] theorem Hub.startAt_store : (h.startAt t d).store = h.store := rfl
@[simp] theorem Hub.startAt_sup : (h.startAt t d).sup = h.sup := rfl
@[simp] theorem Hub.startAt_irs : (h.startAt t d).irs = h.irs := rfl
@[simp] theorem Hub.startAt_ors : (h.startAt t d).ors = h.ors := rfl
@[simp] theorem Hub.startAt_sram : (h.startAt t d).sram = h.sram := rfl
@[simp] theorem Hub.startAt_chans : (h.startAt t d).chans = h.chans := rfl
@[simp] theorem Hub.startAt_pwr : (h.startAt t d).pwr = h.pwr := rfl
@[simp] theorem Hub.startAt_boot : (h.startAt t d).boot = h.boot := rfl
@[simp] theorem Hub.startAt_upd : (h.startAt t d).upd = h.upd := rfl
@[simp] theorem Hub.startAt_ext : (h.startAt t d).ext = h.ext := rfl
@[simp] theorem Hub.startAt_supply : (h.startAt t d).supply = h.supply := rfl
@[simp] theorem Hub.startAt_draws : (h.startAt t d).draws = h.draws := rfl

end

/-! ### `Hub.start` -/

section

variable (h : Hub) (t : Timer) (d : Nat)

@[simp] theorem Hub.start_now : (h.start t d).now = h.now := rfl
@[simp] theorem Hub.start_sub : (h.start t d).sub = h.sub := rfl
@[simp] theorem Hub.start_framesRun : (h.start t d).framesRun = h.framesRun := rfl
@[simp] theorem Hub.start_blockDone : (h.start t d).blockDone = h.blockDone := rfl
@[simp] theorem Hub.start_objs : (h.start t d).objs = h.objs := rfl
@[simp] theorem Hub.start_live : (h.start t d).live = h.live := rfl
@[simp] theorem Hub.start_nv : (h.start t d).nv = h.nv := rfl
@[simp] theorem Hub.start_frameQ : (h.start t d).frameQ = h.frameQ := rfl
@[simp] theorem Hub.start_batches : (h.start t d).batches = h.batches := rfl
@[simp] theorem Hub.start_clears : (h.start t d).clears = h.clears := rfl
@[simp] theorem Hub.start_evDue : (h.start t d).evDue = h.evDue := rfl
@[simp] theorem Hub.start_evNext : (h.start t d).evNext = h.evNext := rfl
@[simp] theorem Hub.start_pend : (h.start t d).pend = h.pend := rfl
@[simp] theorem Hub.start_mask : (h.start t d).mask = h.mask := rfl
@[simp] theorem Hub.start_occ : (h.start t d).occ = h.occ := rfl
@[simp] theorem Hub.start_hosts : (h.start t d).hosts = h.hosts := rfl
@[simp] theorem Hub.start_mailTwi : (h.start t d).mailTwi = h.mailTwi := rfl
@[simp] theorem Hub.start_mailTether : (h.start t d).mailTether = h.mailTether := rfl
@[simp] theorem Hub.start_owners : (h.start t d).owners = h.owners := rfl
@[simp] theorem Hub.start_trims : (h.start t d).trims = h.trims := rfl
@[simp] theorem Hub.start_ownerDue : (h.start t d).ownerDue = h.ownerDue := rfl
@[simp] theorem Hub.start_ins : (h.start t d).ins = h.ins := rfl
@[simp] theorem Hub.start_hms : (h.start t d).hms = h.hms := rfl
@[simp] theorem Hub.start_outs : (h.start t d).outs = h.outs := rfl
@[simp] theorem Hub.start_hps : (h.start t d).hps = h.hps := rfl
@[simp] theorem Hub.start_spk : (h.start t d).spk = h.spk := rfl
@[simp] theorem Hub.start_sinks : (h.start t d).sinks = h.sinks := rfl
@[simp] theorem Hub.start_gens : (h.start t d).gens = h.gens := rfl
@[simp] theorem Hub.start_terms : (h.start t d).terms = h.terms := rfl
@[simp] theorem Hub.start_shadow : (h.start t d).shadow = h.shadow := rfl
@[simp] theorem Hub.start_buses : (h.start t d).buses = h.buses := rfl
@[simp] theorem Hub.start_commitSeq : (h.start t d).commitSeq = h.commitSeq := rfl
@[simp] theorem Hub.start_lastCommit : (h.start t d).lastCommit = h.lastCommit := rfl
@[simp] theorem Hub.start_slots : (h.start t d).slots = h.slots := rfl
@[simp] theorem Hub.start_shorts : (h.start t d).shorts = h.shorts := rfl
@[simp] theorem Hub.start_sbClipped : (h.start t d).sbClipped = h.sbClipped := rfl
@[simp] theorem Hub.start_procs : (h.start t d).procs = h.procs := rfl
@[simp] theorem Hub.start_lanes : (h.start t d).lanes = h.lanes := rfl
@[simp] theorem Hub.start_dsp : (h.start t d).dsp = h.dsp := rfl
@[simp] theorem Hub.start_clk : (h.start t d).clk = h.clk := rfl
@[simp] theorem Hub.start_ports : (h.start t d).ports = h.ports := rfl
@[simp] theorem Hub.start_cap : (h.start t d).cap = h.cap := rfl
@[simp] theorem Hub.start_asrc : (h.start t d).asrc = h.asrc := rfl
@[simp] theorem Hub.start_twi : (h.start t d).twi = h.twi := rfl
@[simp] theorem Hub.start_tet : (h.start t d).tet = h.tet := rfl
@[simp] theorem Hub.start_store : (h.start t d).store = h.store := rfl
@[simp] theorem Hub.start_sup : (h.start t d).sup = h.sup := rfl
@[simp] theorem Hub.start_irs : (h.start t d).irs = h.irs := rfl
@[simp] theorem Hub.start_ors : (h.start t d).ors = h.ors := rfl
@[simp] theorem Hub.start_sram : (h.start t d).sram = h.sram := rfl
@[simp] theorem Hub.start_chans : (h.start t d).chans = h.chans := rfl
@[simp] theorem Hub.start_pwr : (h.start t d).pwr = h.pwr := rfl
@[simp] theorem Hub.start_boot : (h.start t d).boot = h.boot := rfl
@[simp] theorem Hub.start_upd : (h.start t d).upd = h.upd := rfl
@[simp] theorem Hub.start_ext : (h.start t d).ext = h.ext := rfl
@[simp] theorem Hub.start_supply : (h.start t d).supply = h.supply := rfl
@[simp] theorem Hub.start_draws : (h.start t d).draws = h.draws := rfl

end

/-! ### `Hub.cancel` -/

section

variable (h : Hub) (t : Timer)

@[simp] theorem Hub.cancel_now : (h.cancel t).now = h.now := rfl
@[simp] theorem Hub.cancel_sub : (h.cancel t).sub = h.sub := rfl
@[simp] theorem Hub.cancel_framesRun : (h.cancel t).framesRun = h.framesRun := rfl
@[simp] theorem Hub.cancel_blockDone : (h.cancel t).blockDone = h.blockDone := rfl
@[simp] theorem Hub.cancel_objs : (h.cancel t).objs = h.objs := rfl
@[simp] theorem Hub.cancel_live : (h.cancel t).live = h.live := rfl
@[simp] theorem Hub.cancel_nv : (h.cancel t).nv = h.nv := rfl
@[simp] theorem Hub.cancel_frameQ : (h.cancel t).frameQ = h.frameQ := rfl
@[simp] theorem Hub.cancel_batches : (h.cancel t).batches = h.batches := rfl
@[simp] theorem Hub.cancel_clears : (h.cancel t).clears = h.clears := rfl
@[simp] theorem Hub.cancel_evDue : (h.cancel t).evDue = h.evDue := rfl
@[simp] theorem Hub.cancel_evNext : (h.cancel t).evNext = h.evNext := rfl
@[simp] theorem Hub.cancel_pend : (h.cancel t).pend = h.pend := rfl
@[simp] theorem Hub.cancel_mask : (h.cancel t).mask = h.mask := rfl
@[simp] theorem Hub.cancel_occ : (h.cancel t).occ = h.occ := rfl
@[simp] theorem Hub.cancel_hosts : (h.cancel t).hosts = h.hosts := rfl
@[simp] theorem Hub.cancel_mailTwi : (h.cancel t).mailTwi = h.mailTwi := rfl
@[simp] theorem Hub.cancel_mailTether : (h.cancel t).mailTether = h.mailTether := rfl
@[simp] theorem Hub.cancel_owners : (h.cancel t).owners = h.owners := rfl
@[simp] theorem Hub.cancel_trims : (h.cancel t).trims = h.trims := rfl
@[simp] theorem Hub.cancel_ownerDue : (h.cancel t).ownerDue = h.ownerDue := rfl
@[simp] theorem Hub.cancel_ins : (h.cancel t).ins = h.ins := rfl
@[simp] theorem Hub.cancel_hms : (h.cancel t).hms = h.hms := rfl
@[simp] theorem Hub.cancel_outs : (h.cancel t).outs = h.outs := rfl
@[simp] theorem Hub.cancel_hps : (h.cancel t).hps = h.hps := rfl
@[simp] theorem Hub.cancel_spk : (h.cancel t).spk = h.spk := rfl
@[simp] theorem Hub.cancel_sinks : (h.cancel t).sinks = h.sinks := rfl
@[simp] theorem Hub.cancel_gens : (h.cancel t).gens = h.gens := rfl
@[simp] theorem Hub.cancel_terms : (h.cancel t).terms = h.terms := rfl
@[simp] theorem Hub.cancel_shadow : (h.cancel t).shadow = h.shadow := rfl
@[simp] theorem Hub.cancel_buses : (h.cancel t).buses = h.buses := rfl
@[simp] theorem Hub.cancel_commitSeq : (h.cancel t).commitSeq = h.commitSeq := rfl
@[simp] theorem Hub.cancel_lastCommit : (h.cancel t).lastCommit = h.lastCommit := rfl
@[simp] theorem Hub.cancel_slots : (h.cancel t).slots = h.slots := rfl
@[simp] theorem Hub.cancel_shorts : (h.cancel t).shorts = h.shorts := rfl
@[simp] theorem Hub.cancel_sbClipped : (h.cancel t).sbClipped = h.sbClipped := rfl
@[simp] theorem Hub.cancel_procs : (h.cancel t).procs = h.procs := rfl
@[simp] theorem Hub.cancel_lanes : (h.cancel t).lanes = h.lanes := rfl
@[simp] theorem Hub.cancel_dsp : (h.cancel t).dsp = h.dsp := rfl
@[simp] theorem Hub.cancel_clk : (h.cancel t).clk = h.clk := rfl
@[simp] theorem Hub.cancel_ports : (h.cancel t).ports = h.ports := rfl
@[simp] theorem Hub.cancel_cap : (h.cancel t).cap = h.cap := rfl
@[simp] theorem Hub.cancel_asrc : (h.cancel t).asrc = h.asrc := rfl
@[simp] theorem Hub.cancel_twi : (h.cancel t).twi = h.twi := rfl
@[simp] theorem Hub.cancel_tet : (h.cancel t).tet = h.tet := rfl
@[simp] theorem Hub.cancel_store : (h.cancel t).store = h.store := rfl
@[simp] theorem Hub.cancel_sup : (h.cancel t).sup = h.sup := rfl
@[simp] theorem Hub.cancel_irs : (h.cancel t).irs = h.irs := rfl
@[simp] theorem Hub.cancel_ors : (h.cancel t).ors = h.ors := rfl
@[simp] theorem Hub.cancel_sram : (h.cancel t).sram = h.sram := rfl
@[simp] theorem Hub.cancel_chans : (h.cancel t).chans = h.chans := rfl
@[simp] theorem Hub.cancel_pwr : (h.cancel t).pwr = h.pwr := rfl
@[simp] theorem Hub.cancel_boot : (h.cancel t).boot = h.boot := rfl
@[simp] theorem Hub.cancel_upd : (h.cancel t).upd = h.upd := rfl
@[simp] theorem Hub.cancel_ext : (h.cancel t).ext = h.ext := rfl
@[simp] theorem Hub.cancel_supply : (h.cancel t).supply = h.supply := rfl
@[simp] theorem Hub.cancel_draws : (h.cancel t).draws = h.draws := rfl

end

/-! ### `Hub.cause` -/

section

variable (h : Hub) (e : Nat) (c : Scope)

@[simp] theorem Hub.cause_now : (h.cause e c).now = h.now := rfl
@[simp] theorem Hub.cause_sub : (h.cause e c).sub = h.sub := rfl
@[simp] theorem Hub.cause_framesRun : (h.cause e c).framesRun = h.framesRun := rfl
@[simp] theorem Hub.cause_blockDone : (h.cause e c).blockDone = h.blockDone := rfl
@[simp] theorem Hub.cause_timers : (h.cause e c).timers = h.timers := rfl
@[simp] theorem Hub.cause_objs : (h.cause e c).objs = h.objs := rfl
@[simp] theorem Hub.cause_live : (h.cause e c).live = h.live := rfl
@[simp] theorem Hub.cause_nv : (h.cause e c).nv = h.nv := rfl
@[simp] theorem Hub.cause_frameQ : (h.cause e c).frameQ = h.frameQ := rfl
@[simp] theorem Hub.cause_batches : (h.cause e c).batches = h.batches := rfl
@[simp] theorem Hub.cause_clears : (h.cause e c).clears = h.clears := rfl
@[simp] theorem Hub.cause_evNext : (h.cause e c).evNext = h.evNext := rfl
@[simp] theorem Hub.cause_pend : (h.cause e c).pend = h.pend := rfl
@[simp] theorem Hub.cause_mask : (h.cause e c).mask = h.mask := rfl
@[simp] theorem Hub.cause_occ : (h.cause e c).occ = h.occ := rfl
@[simp] theorem Hub.cause_hosts : (h.cause e c).hosts = h.hosts := rfl
@[simp] theorem Hub.cause_mailTwi : (h.cause e c).mailTwi = h.mailTwi := rfl
@[simp] theorem Hub.cause_mailTether : (h.cause e c).mailTether = h.mailTether := rfl
@[simp] theorem Hub.cause_owners : (h.cause e c).owners = h.owners := rfl
@[simp] theorem Hub.cause_trims : (h.cause e c).trims = h.trims := rfl
@[simp] theorem Hub.cause_ownerDue : (h.cause e c).ownerDue = h.ownerDue := rfl
@[simp] theorem Hub.cause_ins : (h.cause e c).ins = h.ins := rfl
@[simp] theorem Hub.cause_hms : (h.cause e c).hms = h.hms := rfl
@[simp] theorem Hub.cause_outs : (h.cause e c).outs = h.outs := rfl
@[simp] theorem Hub.cause_hps : (h.cause e c).hps = h.hps := rfl
@[simp] theorem Hub.cause_spk : (h.cause e c).spk = h.spk := rfl
@[simp] theorem Hub.cause_sinks : (h.cause e c).sinks = h.sinks := rfl
@[simp] theorem Hub.cause_gens : (h.cause e c).gens = h.gens := rfl
@[simp] theorem Hub.cause_terms : (h.cause e c).terms = h.terms := rfl
@[simp] theorem Hub.cause_shadow : (h.cause e c).shadow = h.shadow := rfl
@[simp] theorem Hub.cause_buses : (h.cause e c).buses = h.buses := rfl
@[simp] theorem Hub.cause_commitSeq : (h.cause e c).commitSeq = h.commitSeq := rfl
@[simp] theorem Hub.cause_lastCommit : (h.cause e c).lastCommit = h.lastCommit := rfl
@[simp] theorem Hub.cause_slots : (h.cause e c).slots = h.slots := rfl
@[simp] theorem Hub.cause_shorts : (h.cause e c).shorts = h.shorts := rfl
@[simp] theorem Hub.cause_sbClipped : (h.cause e c).sbClipped = h.sbClipped := rfl
@[simp] theorem Hub.cause_procs : (h.cause e c).procs = h.procs := rfl
@[simp] theorem Hub.cause_lanes : (h.cause e c).lanes = h.lanes := rfl
@[simp] theorem Hub.cause_dsp : (h.cause e c).dsp = h.dsp := rfl
@[simp] theorem Hub.cause_clk : (h.cause e c).clk = h.clk := rfl
@[simp] theorem Hub.cause_ports : (h.cause e c).ports = h.ports := rfl
@[simp] theorem Hub.cause_cap : (h.cause e c).cap = h.cap := rfl
@[simp] theorem Hub.cause_asrc : (h.cause e c).asrc = h.asrc := rfl
@[simp] theorem Hub.cause_twi : (h.cause e c).twi = h.twi := rfl
@[simp] theorem Hub.cause_tet : (h.cause e c).tet = h.tet := rfl
@[simp] theorem Hub.cause_store : (h.cause e c).store = h.store := rfl
@[simp] theorem Hub.cause_sup : (h.cause e c).sup = h.sup := rfl
@[simp] theorem Hub.cause_irs : (h.cause e c).irs = h.irs := rfl
@[simp] theorem Hub.cause_ors : (h.cause e c).ors = h.ors := rfl
@[simp] theorem Hub.cause_sram : (h.cause e c).sram = h.sram := rfl
@[simp] theorem Hub.cause_chans : (h.cause e c).chans = h.chans := rfl
@[simp] theorem Hub.cause_pwr : (h.cause e c).pwr = h.pwr := rfl
@[simp] theorem Hub.cause_boot : (h.cause e c).boot = h.boot := rfl
@[simp] theorem Hub.cause_upd : (h.cause e c).upd = h.upd := rfl
@[simp] theorem Hub.cause_ext : (h.cause e c).ext = h.ext := rfl
@[simp] theorem Hub.cause_supply : (h.cause e c).supply = h.supply := rfl
@[simp] theorem Hub.cause_draws : (h.cause e c).draws = h.draws := rfl

end

/-! ### `Hub.causeNext` -/

section

variable (h : Hub) (e : Nat) (c : Scope)

@[simp] theorem Hub.causeNext_now : (h.causeNext e c).now = h.now := rfl
@[simp] theorem Hub.causeNext_sub : (h.causeNext e c).sub = h.sub := rfl
@[simp] theorem Hub.causeNext_framesRun : (h.causeNext e c).framesRun = h.framesRun := rfl
@[simp] theorem Hub.causeNext_blockDone : (h.causeNext e c).blockDone = h.blockDone := rfl
@[simp] theorem Hub.causeNext_timers : (h.causeNext e c).timers = h.timers := rfl
@[simp] theorem Hub.causeNext_objs : (h.causeNext e c).objs = h.objs := rfl
@[simp] theorem Hub.causeNext_live : (h.causeNext e c).live = h.live := rfl
@[simp] theorem Hub.causeNext_nv : (h.causeNext e c).nv = h.nv := rfl
@[simp] theorem Hub.causeNext_frameQ : (h.causeNext e c).frameQ = h.frameQ := rfl
@[simp] theorem Hub.causeNext_batches : (h.causeNext e c).batches = h.batches := rfl
@[simp] theorem Hub.causeNext_clears : (h.causeNext e c).clears = h.clears := rfl
@[simp] theorem Hub.causeNext_evDue : (h.causeNext e c).evDue = h.evDue := rfl
@[simp] theorem Hub.causeNext_pend : (h.causeNext e c).pend = h.pend := rfl
@[simp] theorem Hub.causeNext_mask : (h.causeNext e c).mask = h.mask := rfl
@[simp] theorem Hub.causeNext_occ : (h.causeNext e c).occ = h.occ := rfl
@[simp] theorem Hub.causeNext_hosts : (h.causeNext e c).hosts = h.hosts := rfl
@[simp] theorem Hub.causeNext_mailTwi : (h.causeNext e c).mailTwi = h.mailTwi := rfl
@[simp] theorem Hub.causeNext_mailTether : (h.causeNext e c).mailTether = h.mailTether := rfl
@[simp] theorem Hub.causeNext_owners : (h.causeNext e c).owners = h.owners := rfl
@[simp] theorem Hub.causeNext_trims : (h.causeNext e c).trims = h.trims := rfl
@[simp] theorem Hub.causeNext_ownerDue : (h.causeNext e c).ownerDue = h.ownerDue := rfl
@[simp] theorem Hub.causeNext_ins : (h.causeNext e c).ins = h.ins := rfl
@[simp] theorem Hub.causeNext_hms : (h.causeNext e c).hms = h.hms := rfl
@[simp] theorem Hub.causeNext_outs : (h.causeNext e c).outs = h.outs := rfl
@[simp] theorem Hub.causeNext_hps : (h.causeNext e c).hps = h.hps := rfl
@[simp] theorem Hub.causeNext_spk : (h.causeNext e c).spk = h.spk := rfl
@[simp] theorem Hub.causeNext_sinks : (h.causeNext e c).sinks = h.sinks := rfl
@[simp] theorem Hub.causeNext_gens : (h.causeNext e c).gens = h.gens := rfl
@[simp] theorem Hub.causeNext_terms : (h.causeNext e c).terms = h.terms := rfl
@[simp] theorem Hub.causeNext_shadow : (h.causeNext e c).shadow = h.shadow := rfl
@[simp] theorem Hub.causeNext_buses : (h.causeNext e c).buses = h.buses := rfl
@[simp] theorem Hub.causeNext_commitSeq : (h.causeNext e c).commitSeq = h.commitSeq := rfl
@[simp] theorem Hub.causeNext_lastCommit : (h.causeNext e c).lastCommit = h.lastCommit := rfl
@[simp] theorem Hub.causeNext_slots : (h.causeNext e c).slots = h.slots := rfl
@[simp] theorem Hub.causeNext_shorts : (h.causeNext e c).shorts = h.shorts := rfl
@[simp] theorem Hub.causeNext_sbClipped : (h.causeNext e c).sbClipped = h.sbClipped := rfl
@[simp] theorem Hub.causeNext_procs : (h.causeNext e c).procs = h.procs := rfl
@[simp] theorem Hub.causeNext_lanes : (h.causeNext e c).lanes = h.lanes := rfl
@[simp] theorem Hub.causeNext_dsp : (h.causeNext e c).dsp = h.dsp := rfl
@[simp] theorem Hub.causeNext_clk : (h.causeNext e c).clk = h.clk := rfl
@[simp] theorem Hub.causeNext_ports : (h.causeNext e c).ports = h.ports := rfl
@[simp] theorem Hub.causeNext_cap : (h.causeNext e c).cap = h.cap := rfl
@[simp] theorem Hub.causeNext_asrc : (h.causeNext e c).asrc = h.asrc := rfl
@[simp] theorem Hub.causeNext_twi : (h.causeNext e c).twi = h.twi := rfl
@[simp] theorem Hub.causeNext_tet : (h.causeNext e c).tet = h.tet := rfl
@[simp] theorem Hub.causeNext_store : (h.causeNext e c).store = h.store := rfl
@[simp] theorem Hub.causeNext_sup : (h.causeNext e c).sup = h.sup := rfl
@[simp] theorem Hub.causeNext_irs : (h.causeNext e c).irs = h.irs := rfl
@[simp] theorem Hub.causeNext_ors : (h.causeNext e c).ors = h.ors := rfl
@[simp] theorem Hub.causeNext_sram : (h.causeNext e c).sram = h.sram := rfl
@[simp] theorem Hub.causeNext_chans : (h.causeNext e c).chans = h.chans := rfl
@[simp] theorem Hub.causeNext_pwr : (h.causeNext e c).pwr = h.pwr := rfl
@[simp] theorem Hub.causeNext_boot : (h.causeNext e c).boot = h.boot := rfl
@[simp] theorem Hub.causeNext_upd : (h.causeNext e c).upd = h.upd := rfl
@[simp] theorem Hub.causeNext_ext : (h.causeNext e c).ext = h.ext := rfl
@[simp] theorem Hub.causeNext_supply : (h.causeNext e c).supply = h.supply := rfl
@[simp] theorem Hub.causeNext_draws : (h.causeNext e c).draws = h.draws := rfl

end

end Sys2Proof.Machine
end

