-- ==== Sys2Proof/Laws/Tables.lean ====
section
/-! SUPPORT. Tables, deadlines and instances: what a read finds after an update. -/

namespace Sys2Proof.Machine

/-! ## Tables -/

@[simp] theorem tget_tput {α : Type} (t : Table α) (k : Nat) (a : α) : tget (tput t k a) k = some a := by
  induction t with
  | nil => simp [tput, tget]
  | cons e r ih =>
    obtain ⟨j, b⟩ := e
    simp only [tput]
    split
    · simp [tget]
    · split <;> simp [tget, *]

theorem tget_tput_other {α : Type} (t : Table α) {k j : Nat} (a : α) (hj : j ≠ k) : tget (tput t k a) j = tget t j := by
  induction t with
  | nil => simp [tput, tget, Ne.symm hj]
  | cons e r ih =>
    obtain ⟨i, b⟩ := e
    simp only [tput]
    split
    · subst_vars; simp [tget, Ne.symm hj]
    · split <;> simp [tget, Ne.symm hj, ih]

@[simp] theorem tgetD_tput {α : Type} (t : Table α) (k : Nat) (a d : α) : tgetD (tput t k a) k d = a := by simp [tgetD]

theorem tgetD_tput_other {α : Type} (t : Table α) {k j : Nat} (a d : α) (hj : j ≠ k) : tgetD (tput t k a) j d = tgetD t j d := by
  simp [tgetD, tget_tput_other t a hj]

/-! ## Deadlines -/

theorem timerOf_filter_same (l : List (Timer × Nat)) (t : Timer) : timerOf (l.filter (fun e => decide (e.1 ≠ t))) t = none := by
  induction l with
  | nil => rfl
  | cons e r ih =>
    rw [List.filter_cons]
    split
    · next h => rw [timerOf, if_neg (of_decide_eq_true h)]; exact ih
    · exact ih

theorem timerOf_filter_other (l : List (Timer × Nat)) {t u : Timer} (hu : u ≠ t) :
    timerOf (l.filter (fun e => decide (e.1 ≠ t))) u = timerOf l u := by
  induction l with
  | nil => rfl
  | cons e r ih =>
    rw [List.filter_cons]
    split
    · rw [timerOf, timerOf, ih]
    · next h =>
      have he : e.1 = t := by simpa using h
      rw [timerOf, if_neg (he ▸ Ne.symm hu), ih]

@[simp] theorem Hub.startAt_deadline (h : Hub) (t : Timer) (d : Nat) : (h.startAt t d).deadline t = some d := by
  simp [Hub.startAt, Hub.deadline, timerOf]

theorem Hub.startAt_deadline_other (h : Hub) {t u : Timer} (d : Nat) (hu : u ≠ t) : (h.startAt t d).deadline u = h.deadline u := by
  simp only [Hub.startAt, Hub.deadline, timerOf, if_neg (Ne.symm hu)]
  exact timerOf_filter_other _ hu

@[simp] theorem Hub.start_deadline (h : Hub) (t : Timer) (d : Nat) : (h.start t d).deadline t = some (h.now + d) := by simp [Hub.start]

theorem Hub.start_deadline_other (h : Hub) {t u : Timer} (d : Nat) (hu : u ≠ t) : (h.start t d).deadline u = h.deadline u :=
  Hub.startAt_deadline_other h _ hu

@[simp] theorem Hub.cancel_deadline (h : Hub) (t : Timer) : (h.cancel t).deadline t = none := timerOf_filter_same _ t

theorem Hub.cancel_deadline_other (h : Hub) {t u : Timer} (hu : u ≠ t) : (h.cancel t).deadline u = h.deadline u := timerOf_filter_other _ hu

/-- The effect of a deadline happens exactly when the deadline has come, with the deadline cancelled. -/
theorem Hub.whenDue_due {h : Hub} {t : Timer} {f : Hub → Hub} (hd : h.due t = true) : h.whenDue t f = f (h.cancel t) := if_pos hd

theorem Hub.whenDue_early {h : Hub} {t : Timer} {f : Hub → Hub} (hd : h.due t = false) : h.whenDue t f = h := by simp [Hub.whenDue, hd]

/-! ## Instances -/

@[simp] theorem Hub.modInput_input (h : Hub) (n : Nat) (f : Input → Input) : (h.modInput n f).input n = f (h.input n) := by
  simp [Hub.modInput, Hub.setInput, Hub.input]

theorem Hub.modInput_input_other (h : Hub) {n m : Nat} (f : Input → Input) (hm : m ≠ n) : (h.modInput n f).input m = h.input m := by
  simp [Hub.modInput, Hub.setInput, Hub.input, tget_tput_other _ _ hm]

@[simp] theorem Hub.modHeadMic_headMic (h : Hub) (n : Nat) (f : HeadMic → HeadMic) : (h.modHeadMic n f).headMic n = f (h.headMic n) := by
  simp [Hub.modHeadMic, Hub.setHeadMic, Hub.headMic]

theorem Hub.modHeadMic_headMic_other (h : Hub) {n m : Nat} (f : HeadMic → HeadMic) (hm : m ≠ n) : (h.modHeadMic n f).headMic m = h.headMic m := by
  simp [Hub.modHeadMic, Hub.setHeadMic, Hub.headMic, tget_tput_other _ _ hm]

@[simp] theorem Hub.modOutput_output (h : Hub) (n : Nat) (f : Output → Output) : (h.modOutput n f).output n = f (h.output n) := by
  simp [Hub.modOutput, Hub.setOutput, Hub.output]

theorem Hub.modOutput_output_other (h : Hub) {n m : Nat} (f : Output → Output) (hm : m ≠ n) : (h.modOutput n f).output m = h.output m := by
  simp [Hub.modOutput, Hub.setOutput, Hub.output, tget_tput_other _ _ hm]

@[simp] theorem Hub.modHeadphone_headphone (h : Hub) (n : Nat) (f : Headphone → Headphone) :
    (h.modHeadphone n f).headphone n = f (h.headphone n) := by
  simp [Hub.modHeadphone, Hub.setHeadphone, Hub.headphone]

theorem Hub.modHeadphone_headphone_other (h : Hub) {n m : Nat} (f : Headphone → Headphone) (hm : m ≠ n) :
    (h.modHeadphone n f).headphone m = h.headphone m := by
  simp [Hub.modHeadphone, Hub.setHeadphone, Hub.headphone, tget_tput_other _ _ hm]

@[simp] theorem Hub.modPort_port (h : Hub) (n : Nat) (f : Port → Port) : (h.modPort n f).port n = f (h.port n) := by
  simp [Hub.modPort, Hub.setPort, Hub.port]

theorem Hub.modPort_port_other (h : Hub) {n m : Nat} (f : Port → Port) (hm : m ≠ n) : (h.modPort n f).port m = h.port m := by
  simp [Hub.modPort, Hub.setPort, Hub.port, tget_tput_other _ _ hm]

@[simp] theorem Hub.modHost_host (h : Hub) (n : Nat) (f : HostSlot → HostSlot) : (h.modHost n f).host n = f (h.host n) := by
  simp [Hub.modHost, Hub.setHost, Hub.host]

theorem Hub.modHost_host_other (h : Hub) {n m : Nat} (f : HostSlot → HostSlot) (hm : m ≠ n) : (h.modHost n f).host m = h.host m := by
  simp [Hub.modHost, Hub.setHost, Hub.host, tget_tput_other _ _ hm]

@[simp] theorem Hub.modSink_sink (h : Hub) (n : Nat) (f : Sink → Sink) : (h.modSink n f).sink n = f (h.sink n) := by
  simp [Hub.modSink, Hub.setSink, Hub.sink]

@[simp] theorem Hub.modGen_gen (h : Hub) (n : Nat) (f : Generator → Generator) : (h.modGen n f).gen n = f (h.gen n) := by
  simp [Hub.modGen, Hub.gen]

@[simp] theorem Hub.modTerm_term (h : Hub) (n : Nat) (f : Term → Term) : (h.modTerm n f).term n = f (h.term n) := by
  simp [Hub.modTerm, Hub.term]

@[simp] theorem Hub.modBus_bus (h : Hub) (n : Nat) (f : Bus → Bus) : (h.modBus n f).bus n = f (h.bus n) := by
  simp [Hub.modBus, Hub.bus]

@[simp] theorem Hub.modProc_proc (h : Hub) (n : Nat) (f : Process → Process) : (h.modProc n f).proc n = f (h.proc n) := by
  simp [Hub.modProc, Hub.proc]

@[simp] theorem Hub.modLane_lane (h : Hub) (n : Nat) (f : Lane → Lane) : (h.modLane n f).lane n = f (h.lane n) := by
  simp [Hub.modLane, Hub.lane]

@[simp] theorem Hub.modCtx_ctx (h : Hub) (n : Nat) (f : Context → Context) : (h.modCtx n f).ctx n = f (h.ctx n) := by
  simp [Hub.modCtx, Hub.ctx]

@[simp] theorem Hub.modChan_chan (h : Hub) (n : Nat) (f : WatchChan → WatchChan) : (h.modChan n f).chan n = f (h.chan n) := by
  simp [Hub.modChan, Hub.chan]

@[simp] theorem Hub.modRelief_relief (h : Hub) (u : ReliefUnit) (f : Relief → Relief) : (h.modRelief u f).relief u = f (h.relief u) := by
  cases u <;> simp [Hub.modRelief, Hub.relief]

@[simp] theorem Hub.modSlice_slice (h : Hub) (sl : SliceId) (f : Slice → Slice) : (h.modSlice sl f).slice sl = f (h.slice sl) := by
  cases sl <;> simp [Hub.modSlice, Hub.slice]

@[simp] theorem Hub.modMailbox_mailbox (h : Hub) (w : Who) (f : Mailbox → Mailbox) : (h.modMailbox w f).mailbox w = f (h.mailbox w) := by
  obtain ⟨via, k⟩ := w
  cases via <;> simp [Hub.modMailbox, Hub.mailbox]

/-! ## Running a command -/

/-- `run` answers a next state exactly for operands the part has: the hub changed by the effect, snapshot and queue as they stand. -/
theorem run_next {ok : Bool} {f : Hub → Hub} {s t : State} : run ok f s = .next t ↔ ok = true ∧ t = s.mapHub f := by
  cases ok <;> simp [run, eq_comm]

theorem run_true {f : Hub → Hub} {s : State} : run true f s = .next (s.mapHub f) := rfl

/-- `run` never faults, and refuses only for operands the part does not have. -/
theorem run_refused {ok : Bool} {f : Hub → Hub} {s : State} {r : Refusal} : run ok f s = .refused r ↔ ok = false ∧ r = .noSuchInstance := by
  cases ok <;> simp [run, eq_comm]

theorem always_next {f : Hub → Hub} {s t : State} : always f s = .next t ↔ t = s.mapHub f := by simp [always, eq_comm]

end Sys2Proof.Machine
end

