-- ==== Sys2Proof/WellFormed.lean ====
section
/-! DEFINITION. Well-formed commands: the instances exist (R1, R10) and every value fits the field that carries it (R11, R262). -/

namespace Sys2Proof

open Machine

/-- A value fits a field of `bits` bits. -/
def fits (bits v : Nat) : Bool := decide (v < 2 ^ bits)

/-- The operands of a command are ones the part can be given. -/
def Instr.wf (i : Instr) : Bool :=
  match i with
  | .frameBoundary _ => true
  | .blockBoundary _ => true
  | .healthJudgement sl _ => isSlice sl
  | .sliceReferenceFault sl => isSlice sl
  | .sliceTotalLoss sl => isSlice sl
  | .reliefSettled u => isUnit u
  | .reliefCrossfadeEnd u => isUnit u
  | .reliefRequest w sl v => isWho w && isSlice sl && fits 8 v
  | .retireClear w sl v => isWho w && isSlice sl && fits 8 v
  | .reliefSelfTest u _ => isUnit u
  | .phantomLeak n => isInput n
  | .sramError bank _ => decide (bank < 12)
  | .sramBankCopyDone bank => decide (bank < 12)
  | .tsDisagree k => decide (k < 4)
  | .supervisorWatchdogExpiry _ => true
  | .supervisorRestartComplete => true
  | .dspLaneFault k _ => isLane k
  | .reliefLaneLoadComplete => true
  | .dspTakeoverComplete => true
  | .l8PatrolPeriodEnd => true
  | .l8PatrolMismatch => true
  | .l8RecheckComplete _ => true
  | .instantiate w p v => isWho w && isProcess p && fits 8 v
  | .remove w p v => isWho w && isProcess p && fits 8 v
  | .processEnable w p v => isWho w && isProcess p && fits 8 v
  | .phantomWrite w n v => isWho w && isInput n && fits 8 v
  | .phantomRampOnEnd n => isInput n
  | .phantomRampOffEnd n => isInput n
  | .phantomFaultTimerArm n => isInput n
  | .phantomFault n => isInput n
  | .vphLoss => true
  | .vphReturn => true
  | .phantomGroupRampStart k => decide (k < 12)
  | .polarityWrite w src v => isWho w && isTrimSource src && fits 8 v
  | .polarityInvert src => isTrimSource src
  | .modulatorOverload n _ => isInput n
  | .pathUsable n _ => isInput n
  | .episodeEnd e => isEpisode e
  | .frontEndSettled n => isTrimSource n
  | .hmuteAssert k => isMuteGroup k
  | .hmuteRelease k => isMuteGroup k
  | .hmuteSettled k => isMuteGroup k
  | .muteMaskWrite w k v => isWho w && isMuteGroup k && fits 64 v
  | .biasFault m => isHeadMic m
  | .combinerSample _ => true
  | .combinerFadeEnd n _ _ => isInput n
  | .matchCommitRequest n _ _ _ refs => isInput n && decide (refs.length ≤ 3)
  | .matchStale n => isInput n
  | .pathExclude n _ => isInput n
  | .pathRestore w n v => isWho w && isInput n && fits 8 v
  | .resetMatch w n v => isWho w && isInput n && fits 8 v
  | .matchSetStore n => isInput n
  | .outputModeChange w n mode range wiring => isWho w && isOutput n && [mode, range, wiring].all (fun x => match x with | some v => fits 8 v | none => true)
  | .outputChangeStep n => isOutput n
  | .outputPowerupStep n => isOutput n
  | .delayXfadeEnd n => isOutput n
  | .cvCode w n code => isWho w && isOutput n && fits 32 code
  | .cvBlock w n data => isWho w && isOutput n && decide (data.length ≤ 240)
  | .cvFlush w n v => isWho w && isOutput n && fits 8 v
  | .cvTick n => isOutput n
  | .cvCompliance n _ => isOutput n
  | .patrolScan _ => true
  | .patrolAudioWindow n _ _ _ => decide (1 ≤ n) && decide (n ≤ 36)
  | .panicMute => true
  | .panicRelease => true
  | .lampTest bits => decide (bits < 16)
  | .lampTestExpiry k => decide (k < 4)
  | .analogRailLow => true
  | .analogRailRecover => true
  | .inputRailMute => true
  | .avddLow => true
  | .avddRecover => true
  | .hpOvercurrent j => isHeadphone j
  | .spkOvercurrent => true
  | .spkRestart => true
  | .spkDcFault => true
  | .vspkOutOfRange _ => true
  | .vspkRecover => true
  | .faultClear w v => isWho w && fits 8 v
  | .spkEnable w v => isWho w && fits 8 v
  | .spkSequenceEnd => true
  | .hpPowerupStep => true
  | .jdEdge j _ => isHeadphone j
  | .jackInsertAccept j => isHeadphone j
  | .jackRemoveAccept j => isHeadphone j
  | .classifyComplete j _ => isHeadphone j
  | .reclassify w j v => isWho w && isHeadphone j && fits 8 v
  | .hmBiasSettled m => isHeadMic m
  | .buttonPress j _ => isHeadphone j
  | .buttonLongPress j => isHeadphone j
  | .buttonRelease j => isHeadphone j
  | .sinkSelect w s src => isWho w && isSink s && fits 16 src
  | .sinkXfadeEnd s => isSink s
  | .generatorType w g v => isWho w && decide (g < 8) && fits 8 v
  | .generatorSwitch g => decide (g < 8)
  | .crosspointWrite w b k entry => isWho w && isBus b && decide (1 ≤ k) && decide (k ≤ 64) && fits 64 entry
  | .xpFadeZero b k => isBus b && decide (1 ≤ k) && decide (k ≤ 64)
  | .scaleRecomputeDone b => isBus b
  | .bankMode w h v => isWho w && isHost h && fits 8 v
  | .commit w v => isWho w && fits 8 v
  | .discard w v => isWho w && fits 8 v
  | .hostClaim w tag => isWho w && fits 16 tag
  | .hostRelease w tag => isWho w && fits 16 tag
  | .roleWrite w h v => isWho w && isHost h && fits 8 v
  | .sessionTimeoutWrite w h v => isWho w && isHost h && fits 16 v
  | .sessionTimerExpiry h => isHost h
  | .forceRelease w h v => isWho w && isHost h && fits 8 v
  | .take w h key => isWho w && isHost h && fits 32 key
  | .release w h key => isWho w && isHost h && fits 32 key
  | .assign w h key => isWho w && isHost h && fits 32 key
  | .trimWrite w _ src h v => isWho w && isTrimSource src && isHost h && fits 32 v
  | .clkXinStartTimeout => true
  | .storedHoldStore _ => true
  | .reinPhaseSample _ _ => true
  | .reinLock => true
  | .reinLimitEntry => true
  | .anchorWrite w _ v => isWho w && fits 8 v
  | .anchorLoss => true
  | .wckinEdge e => decide (e.tick < 1024)
  | .wckinPeriodMissed => true
  | .wckinRateFound _ => true
  | .xtalFailure => true
  | .xinRecovered => true
  | .start w p v => isWho w && isPort p && fits 8 v
  | .stop w p v => isWho w && isPort p && fits 8 v
  | .portClockLock p => isPort p
  | .portPreambleEnd p => isPort p
  | .portFadeInEnd p => isPort p
  | .portFlushEnd p => isPort p
  | .portClockLoss p => isPort p
  | .portRateChange p _ => isPort p
  | .portFrame p _ => isPort p
  | .rawWordSlip p _ _ => isPort p
  | .maskWrite w p sub v => isWho w && isPort p && (decide (sub = 0x0E) || decide (sub = 0x0F) || decide (sub = 0x10)) && fits (if sub = 0x10 then 64 else 32) v
  | .maskApply p => isPort p
  | .capArm w => isWho w
  | .capStop w => isWho w
  | .capData w => isWho w
  | .asrcContextLock k => isCtx k
  | .asrcRelock k => isCtx k
  | .asrcHandoverEnd p => isPort p
  | .read w idx sub => isWho w && fits 16 idx && fits 8 sub
  | .write w idx sub ty data => isWho w && fits 16 idx && fits 8 sub && fits 8 ty && decide (data.length ≤ 240)
  | .writeHeld w idx sub ty data => isWho w && fits 16 idx && fits 8 sub && fits 8 ty && decide (data.length ≤ 240)
  | .releaseBatch w => isWho w
  | .discardBatch w => isWho w
  | .readInfo w idx sub => isWho w && fits 16 idx && fits 8 sub
  | .objectWrite w idx sub data => isWho w && fits 16 idx && fits 8 sub && decide (data.length ≤ 240)
  | .commandComplete w => isWho w
  | .autoStore idx sub => fits 16 idx && fits 8 sub
  | .store w v => isWho w && fits 8 v
  | .storeRowWritten _ _ => true
  | .factoryReset w v => isWho w && fits 8 v
  | .occurClear w v => isWho w && fits 8 v
  | .eventPendingClear w _ => isWho w
  | .eventMaskWrite w _ => isWho w
  | .timerExpiry i => decide (i < 2)
  | .twiAddressMatch addr _ _ => fits 7 addr
  | .twiStopCommit _ => true
  | .twiProtocolError code => decide (1 ≤ code) && decide (code ≤ 3)
  | .brstNReset => true
  | .busTimeout => true
  | .alertResponse _ => true
  | .alertRepeat => true
  | .watchHostAccess => true
  | .watchClockRegate => true
  | .tetherLinkChange _ _ => true
  | .tetherFrameReceive _ f => fits 16 f.arrival
  | .tetherCommandFrame _ _ => true
  | .sync _ _ t => fits 16 t.arrival
  | .tetherTimeLockChange => true
  | .echoReq _ => true
  | .echoRsp _ _ => true
  | .rollcall _ _ => true
  | .confirm _ _ => true
  | .rollcallTimeout => true
  | .reset _ dest src host seq payload => isHost host && fits 6 dest && fits 6 src && fits 8 seq && decide (payload.length ≤ 240)
  | .bulk _ dest src host seq offset data => isHost host && fits 6 dest && fits 6 src && fits 8 seq && fits 32 offset && decide (data.length ≤ 236)
  | .notifyRepeat h => isHost h
  | .wakeDown w v => isWho w && fits 8 v
  | .request w v => isWho w && fits 8 v
  | .quiesceEnd => true
  | .watchEntryComplete => true
  | .watchExitStep => true
  | .stableEntryComplete => true
  | .stableWake c => match c with | .comparator k => isChannel k | _ => true
  | .wakeTimerExpiry => true
  | .wakeComparatorFire c => isChannel c
  | .domainEnable w v => isWho w && fits 32 v
  | .watchInputWrite w c v => isWho w && isChannel c && fits 8 v
  | .signatureTick c _ _ => isChannel c
  | .readerPlay w c => isWho w && isChannel c
  | .readerStop w c => isWho w && isChannel c
  | .padRelease w v => isWho w && fits 16 v
  | .wakeOutWrite w v => isWho w && fits 8 v
  | .powerOnReset => true
  | .resetN => true
  | .coreBrownOut _ => true
  | .lowPowerBrownOut => true
  | .thermalReset => true
  | .bringUpStep _ _ => true
  | .reducedServiceStart => true
  | .bootImageChecked _ _ _ => true
  | .fullService => true
  | .imageData w offset data => isWho w && fits 32 offset && decide (data.length ≤ 236)
  | .flashProgramDone _ => true
  | .updateVerifyComplete _ _ => true
  | .abort w => isWho w
  | .activate w => isWho w
  | .schedule w => isWho w
  | .cancel w => isWho w
  | .activationDue => true
  | .activationStepEnd _ => true
  | .makerKey w data => isWho w && decide (data.length ≤ 240)
  | .supplyDipStart _ => true
  | .supplyDipEnd => true
  | .vioWarn _ => true
  | .thermalWarn => true
  | .thermalCrit => true
  | .thermalRecover _ => true
  | .vioRecover => true
  | .brstNRelease => true
  | .flushIncomplete => true
  | .tapDelayXfadeEnd p t => isProcess p && decide (t < 8)

end Sys2Proof
end

