-- ==== Sys2Proof/Safety.lean ====
section
/-! DEFINITION. What claims are stated in: which states are sound, what it means that a command completes, and when the managing layer takes a
command and admits its write. -/

namespace Sys2Proof.Machine

/-- The capture ring is in its canonical form (R195). -/
def State.memoryWf (s : State) : Bool := Memory.wf s.hub.cap.mem

/-- A command completes in a state: it answers a next state. -/
def Completes (i : Instr) (s : State) : Prop := ∃ t, exec i s = .next t

/-- The rows that may renew what status reads return (R266): the block boundary, and the rows that can end in a reset. A frame boundary ends in one
after a RESET frame (R323), a two-wire START in Stable (R370). -/
def renewsStatus (i : Instr) : Bool :=
  match i with
  | .blockBoundary _ | .frameBoundary _ | .powerOnReset | .resetN | .coreBrownOut _ | .lowPowerBrownOut | .thermalReset | .stableEntryComplete
  | .stableWake _ | .wakeTimerExpiry | .wakeComparatorFire _ | .twiAddressMatch _ _ _ => true
  | _ => false

/-- A command answers a next state whose queue and snapshot are those before, and whose hub is as `P` says. -/
def Answers (i : Instr) (s : State) (P : Hub → Prop) : Prop :=
  ∃ t, exec i s = .next t ∧ t.snap = s.snap ∧ t.pending = s.pending ∧ P t.hub

/-- A cause of event `e` stands for the next block boundary (R328). -/
def Hub.causes (h : Hub) (e : Nat) (sc : Scope := .all) : Prop := (⟨e, sc⟩ : Cause) ∈ h.evDue

/-- The managing layer takes a command of `w` now: outside Stable, none running, and service (R270, R322). -/
def Hub.takes (h : Hub) (w : Who) : Prop :=
  isWho w = true ∧ h.pwr.stable = false ∧ (h.mailbox w).result ≠ 1 ∧ h.serviceBusy = false ∧ (w.via = .tether → h.tetherHeld = false)

/-- The hub as a command that is taken finds it: session timer restarted (R166), clocks ungated (R302), the request in the mailbox. -/
def Hub.opened (h : Hub) (w : Who) (r : Request) : Hub :=
  ((h.touch w.host).ungate).modMailbox w (fun m => m.take r (h.mailbox w).seq (h.mailbox w).fromDown false)

/-- The request fields of a command (R268). -/
def requestOf (cmd idx sub ty : Nat) (data : List Byte) : Request := { cmd := cmd, idx := idx, sub := sub, ty := ty, data := data }

/-- The write of a row to one object is taken and passes every check of R264. -/
def Hub.admits (h : Hub) (w : Who) (idx sub v : Nat) : Prop :=
  h.takes w ∧ (h.opened w (writeOf idx sub v)).writeAbort w.host idx sub 0 (objectBytes idx sub v) = 0

/-- A write of bytes is taken, and the checks of R264 answer `code`. -/
def Hub.refuses (h : Hub) (w : Who) (idx sub ty : Nat) (data : List Byte) (code : Nat) : Prop :=
  h.takes w ∧ (h.opened w (requestOf 2 idx sub ty data)).writeAbort w.host idx sub ty data = code

/-- A write of bytes passes every check of R264. -/
def Hub.admitsBytes (h : Hub) (w : Who) (idx sub ty : Nat) (data : List Byte) : Prop :=
  h.refuses w idx sub ty data 0

/-- The command of `w` runs with the outcome of success and `data`; COMMAND_COMPLETE shows it (R271). -/
def Hub.succeeded (h : Hub) (w : Who) (ty : Nat := 0) (data : List Byte := []) : Prop :=
  (h.mailbox w).result = 1 ∧ (h.mailbox w).outcome = some (0, ty, data)

/-- The hub after a command with what every command touches put back: the mailboxes, the alert line and the deadlines. -/
def Hub.besideCommand (h o : Hub) : Hub := { h with mailTwi := o.mailTwi, mailTether := o.mailTether, twi := o.twi, timers := o.timers }

/-- A row accepts `v` for a setting of the block class: the accepted value stands, the write is a batch of its own that waits for the next block
boundary, and nothing is in force yet (R266, R267). -/
def WritesAsBatch (i : Instr) (w : Who) (idx sub v : Nat) (s : State) : Prop :=
  Answers i s fun h =>
    h.succeeded w ∧ h.objs = tput s.hub.objs (key idx sub) v ∧ h.batches = s.hub.batches ++ [[⟨key idx sub, v⟩]] ∧
    { h.besideCommand (s.hub.opened w (writeOf idx sub v)) with objs := s.hub.objs, batches := s.hub.batches } = s.hub.opened w (writeOf idx sub v)

/-- A row accepts `v` for a setting of the frame class: it waits for the next frame boundary (R266, R267). -/
def WritesForFrame (i : Instr) (w : Who) (idx sub v : Nat) (s : State) : Prop :=
  Answers i s fun h =>
    h.succeeded w ∧ h.objs = tput s.hub.objs (key idx sub) v ∧ h.frameQ = s.hub.frameQ ++ [⟨key idx sub, v⟩] ∧
    { h.besideCommand (s.hub.opened w (writeOf idx sub v)) with objs := s.hub.objs, frameQ := s.hub.frameQ } = s.hub.opened w (writeOf idx sub v)

/-- A row accepts a command of the block class: a batch of its own, no setting changes (R266, R267). -/
def CommandsAsBatch (i : Instr) (w : Who) (idx sub v : Nat) (s : State) : Prop :=
  Answers i s fun h =>
    h.succeeded w ∧ h.batches = s.hub.batches ++ [[⟨key idx sub, v⟩]] ∧
    { h.besideCommand (s.hub.opened w (writeOf idx sub v)) with batches := s.hub.batches } = s.hub.opened w (writeOf idx sub v)

/-- A row acts at once: it succeeds, with `P` of the hub that took the command and the hub after it. -/
def ActsAtOnce (i : Instr) (w : Who) (r : Request) (s : State) (P : Hub → Hub → Prop) : Prop :=
  Answers i s fun h => h.succeeded w ∧ P (s.hub.opened w r) h

/-- The same for a command that answers data of type `ty`. -/
def AnswersData (i : Instr) (w : Who) (r : Request) (s : State) (ty : Nat) (data : List Byte) (P : Hub → Hub → Prop) : Prop :=
  Answers i s fun h => h.succeeded w ty data ∧ P (s.hub.opened w r) h

/-- A row resets the hub (R398): status reads find the new state at once, no core frame has run, bring-up starts, no host is claimed, nothing is accepted
or in force or pending, the store is kept unless FACTORY_RESET armed its clearing (R280), and RESET_FLAGS is `flags`. -/
def Restarts (i : Instr) (s : State) (flags : Nat) (P : Hub → Prop) : Prop :=
  ∃ t, exec i s = .next t ∧ t.snap = t.hub ∧ t.pending = s.pending ∧ t.hub.now = 0 ∧ t.hub.framesRun = false ∧
    t.hub.boot = { resetFlags := flags ||| (if s.hub.store.resetArmed then 512 else 0) } ∧
    t.hub.hosts = [] ∧ t.hub.objs = [] ∧ t.hub.live = [] ∧ t.hub.batches = [] ∧ t.hub.pend = [] ∧ t.hub.mask = [] ∧
    t.hub.nv = (if s.hub.store.resetArmed then [] else s.hub.nv) ∧ t.hub.ext = (if s.hub.store.resetArmed then s.hub.ext.factory else s.hub.ext) ∧
    P t.hub

/-- What a reset other than a power-on keeps of the always-on part (R398): WAKE_CAUSE, WAKE_OUT, the supply and temperature judgements, and the phantom
voltages, which ramp down. -/
def Hub.alwaysOnKept (o h : Hub) : Prop :=
  h.pwr.wakeCause = o.pwr.wakeCause ∧ h.pwr.wakeOut = o.pwr.wakeOut ∧ h.supply = { o.supply with lastDip := 0, minVcore := 0xFFFF, e3Due := false, tempMax := none, levels := [] } ∧
  (∀ n, isInput n = true → o.pfMv n ≠ 0 →
    (h.input n).phantom.state = .rampOff ∧ (h.input n).phantom.closed = false ∧ (h.input n).phantom.pf.v0 = o.pfMv n ∧
    h.deadline (.phantomRamp n) = some (h.input n).phantom.pf.len)

end Sys2Proof.Machine
end

