-- ==== Sys2Proof/Certificates/Slice0/Obligations.lean ====
section
/-! DEFINITION. What the provers are asked: statements of what each command does, from the numbered rules of the spec. In each clause the last equation
says what else stays: every field of the hub but those it names. -/

open Sys2Proof Sys2Proof.Machine

/-! ## Inputs (02) -/

/-- R33, R35: the ends of the phantom ramps and the arming of the fault timer. The turn-on ramp ends in ON and the timer arms 50 ms later; the turn-off
ramp ends with PFn at 0 V in OFF, or starts a held turn-on in the same frame; the timer arms while the state is ON. The model's choices: the end row
acts only at its deadline (log 4), and the ramp lasts to the next measure of VPH at the least (log 46). -/
def Obligations.PhantomRampsAndArming : Prop :=
  (∀ s n, isInput n = true → (s.hub.input n).phantom.state = .rampOn → s.hub.due (.phantomRamp n) = true →
    Answers (.phantomRampOnEnd n) s fun h =>
      h.input n = { s.hub.input n with phantom := { (s.hub.input n).phantom with state := .on } } ∧
      h.deadline (.phantomRamp n) = none ∧ h.deadline (.phantomArm n) = some (s.hub.now + 50 * 96) ∧
      (∀ u, u ≠ .phantomRamp n → u ≠ .phantomArm n → h.deadline u = s.hub.deadline u) ∧
      (∀ m, m ≠ n → h.input m = s.hub.input m) ∧ { h with ins := s.hub.ins, timers := s.hub.timers } = s.hub) ∧
  (∀ s n, isInput n = true → (s.hub.input n).phantom.state = .rampOff → s.hub.due (.phantomRamp n) = true →
    (s.hub.input n).phantom.onAfter = false →
    Answers (.phantomRampOffEnd n) s fun h =>
      h.input n = { s.hub.input n with phantom := { (s.hub.input n).phantom with state := .off, pf := { v0 := 0, v1 := 0 } } } ∧
      h.deadline (.phantomRamp n) = none ∧ (∀ u, u ≠ .phantomRamp n → h.deadline u = s.hub.deadline u) ∧
      (∀ m, m ≠ n → h.input m = s.hub.input m) ∧ { h with ins := s.hub.ins, timers := s.hub.timers } = s.hub) ∧
  (∀ s n, isInput n = true → (s.hub.input n).phantom.state = .rampOff → s.hub.due (.phantomRamp n) = true →
    (s.hub.input n).phantom.onAfter = true → s.hub.ext.vphLow = false →
    Answers (.phantomRampOffEnd n) s fun h =>
      (h.input n).phantom.state = .rampOn ∧ (h.input n).phantom.closed = true ∧ (h.input n).phantom.onAfter = false ∧
      (h.input n).phantom.pf.v0 = 0 ∧ (h.input n).phantom.pf.v1 = 10 * s.hub.ext.vph ∧ (h.input n).phantom.pf.t0 = s.hub.now ∧
      h.deadline (.phantomRamp n) = some (s.hub.now + (h.input n).phantom.pf.len) ∧
      (∀ m, m ≠ n → h.input m = s.hub.input m) ∧ { h with ins := s.hub.ins, timers := s.hub.timers } = s.hub) ∧
  (∀ s n, isInput n = true → (s.hub.input n).phantom.state = .on → s.hub.due (.phantomArm n) = true →
    Answers (.phantomFaultTimerArm n) s fun h =>
      h.input n = { s.hub.input n with phantom := { (s.hub.input n).phantom with armed := true } } ∧ h.deadline (.phantomArm n) = none ∧
      (∀ m, m ≠ n → h.input m = s.hub.input m) ∧ { h with ins := s.hub.ins, timers := s.hub.timers } = s.hub)

/-- R34: a fault found with the timer armed opens the switch and starts the turn-off ramp at VPH per 200 ms; PHANTOM reads 0, the cause bit is set, the
counter rises and stays at 255, and E(40 + k) is due at the start of an episode. -/
def Obligations.PhantomFaultTurnsOff : Prop :=
  ∀ s n, isInput n = true → (s.hub.input n).phantom.state = .on → (s.hub.input n).phantom.armed = true →
    Answers (.phantomFault n) s fun h =>
      (h.input n).phantom =
        { (s.hub.input n).phantom with
          state := .fault, closed := false, armed := false, onAfter := false, offAfter := false, readsZero := true, want := false
          pf := { v0 := s.hub.pfMv n, v1 := 0, t0 := s.hub.now, len := if s.hub.vphMv = 0 then 0 else (200 * 96 * s.hub.pfMv n + s.hub.vphMv - 1) / s.hub.vphMv } } ∧
      (h.input n).phantomFaults = (if (s.hub.input n).phantomFaults < 255 then (s.hub.input n).phantomFaults + 1 else 255) ∧
      (h.input n).cause = (s.hub.input n).cause ||| 4 ∧
      h.deadline (.phantomRamp n) = some (s.hub.now + (h.input n).phantom.pf.len) ∧ h.deadline (.phantomArm n) = none ∧
      (s.hub.armed (.episode (.inputPhantom n)) = false → h.causes (40 + (n - 1) / 4)) ∧
      h.deadline (.episode (.inputPhantom n)) = some (s.hub.now + 100 * 96) ∧
      (∀ m, m ≠ n → h.input m = s.hub.input m) ∧ { h with ins := s.hub.ins, timers := s.hub.timers, evDue := s.hub.evDue } = s.hub

/-- R35 to R37: below 10 V every input that wants phantom and has it stands in NO_SUPPLY with its switch closed, and the others keep their state; above
10.5 V each of those starts the turn-on ramp towards VPH; after a reset a group starts the ramps of its inputs with PHANTOM 1 at its own time. The
model's choices: a ramp's end is set by the next measure of VPH (log 46), and FRAME_COUNT starts at 45 ms under BOOT_HOLD (log 31). -/
def Obligations.PhantomFollowsItsSupply : Prop :=
  (∀ s : State, Answers .vphLoss s fun h =>
      h.ext = { s.hub.ext with vphLow := true } ∧
      (∀ n, isInput n = true → (s.hub.input n).phantom.want = true →
        (s.hub.input n).phantom.state = .on ∨ (s.hub.input n).phantom.state = .rampOn →
        (h.input n).phantom.state = .noSupply ∧ (h.input n).phantom.closed = true ∧ (h.input n).phantom.armed = false ∧
        h.deadline (.phantomRamp n) = none ∧ h.deadline (.phantomArm n) = none) ∧
      (∀ n, (s.hub.input n).phantom.state ≠ .on → (s.hub.input n).phantom.state ≠ .rampOn → h.input n = s.hub.input n) ∧
      { h with ext := s.hub.ext, ins := s.hub.ins, timers := s.hub.timers } = s.hub) ∧
  (∀ s : State, Answers .vphReturn s fun h =>
      h.ext = { s.hub.ext with vphLow := false, vph := max s.hub.ext.vph 1050 } ∧
      (∀ n, isInput n = true → (s.hub.input n).phantom.state = .noSupply →
        (h.input n).phantom.state = .rampOn ∧ (h.input n).phantom.closed = true ∧
        (h.input n).phantom.pf.v1 = 10 * max s.hub.ext.vph 1050 ∧ (h.input n).phantom.pf.t0 = s.hub.now) ∧
      (∀ n, (s.hub.input n).phantom.state ≠ .noSupply → h.input n = s.hub.input n) ∧
      { h with ext := s.hub.ext, ins := s.hub.ins, timers := s.hub.timers } = s.hub) ∧
  (∀ s k n, k < 12 → 1 ≤ s.hub.boot.service → (35 + 25 * k) * 96 ≤ s.hub.now + (if s.hub.clk.bootHold then 20 * 96 else 0) →
    4 * k + 1 ≤ n → n ≤ 4 * k + 4 → s.hub.live? (inFrontIdx n) 1 = 1 → s.hub.groupOn n = true → s.hub.ext.vphLow = false →
    (s.hub.input n).phantom.state = .off → (s.hub.input n).phantom.want = false → (s.hub.input n).phantom.readsZero = false →
    (s.hub.input n).phantom.held = none →
    Answers (.phantomGroupRampStart k) s fun h =>
      (h.input n).phantom.state = .rampOn ∧ (h.input n).phantom.closed = true ∧ (h.input n).phantom.pf.v0 = s.hub.pfMv n ∧
      (h.input n).phantom.pf.v1 = 10 * s.hub.ext.vph ∧
      (∀ m, (m < 4 * k + 1 ∨ 4 * k + 4 < m) → h.input m = s.hub.input m) ∧ { h with ins := s.hub.ins, timers := s.hub.timers } = s.hub)

/-- R38, R41, R43, R45: the polarity inverts at the zero point of its fade and the 10 ms fade-in starts; a settled front end fades in over 10 ms, its held
PHANTOM applied; the quiet interval ends an episode; a bias fault turns the bias off and reports it on its jack. -/
def Obligations.InputSettlesInvertsAndFaults : Prop :=
  (∀ s src, isTrimSource src = true → s.hub.due (.polarity src) = true →
    Answers (.polarityInvert src) s fun h =>
      h.stream src = { s.hub.stream src with
        inverted := (s.hub.stream src).polTarget, polPhase := .fadingIn, polFade := { m0 := 0, m1 := unity, t0 := s.hub.now, len := 960 } } ∧
      h.deadline (.polarity src) = none ∧ (∀ m, isTrimSource m = true → m ≠ src → h.stream m = s.hub.stream m) ∧
      { h with ins := s.hub.ins, hms := s.hub.hms, timers := s.hub.timers } = s.hub) ∧
  (∀ s src, isTrimSource src = true → s.hub.inputsMuted = false → s.hub.due (.settle src) = true → s.hub.fe src = .settling →
    (s.hub.stream src).privacy = false → s.hub.sourceWanted src = true → (src ≤ 48 → (s.hub.input src).phantom.held = none) →
    Answers (.frontEndSettled src) s fun h =>
      h.fe src = (if src ≤ 48 ∧ (s.hub.input src).slice.state = .relieved then FeState.onRelief else .running) ∧
      (h.stream src).gate = (s.hub.stream src).gate.to unity s.hub.now 960 ∧ h.deadline (.settle src) = none ∧
      (∀ m, isTrimSource m = true → m ≠ src → h.stream m = s.hub.stream m ∧ h.fe m = s.hub.fe m) ∧
      { h with ins := s.hub.ins, hms := s.hub.hms, timers := s.hub.timers } = s.hub) ∧
  (∀ s n, isInput n = true → s.hub.due (.settle n) = true → s.hub.groupOn n = true → s.hub.ext.vphLow = false →
    (s.hub.input n).phantom.held = some true → (s.hub.input n).phantom.state = .off →
    Answers (.frontEndSettled n) s fun h => (h.input n).phantom.state = .rampOn ∧ (h.input n).phantom.held = none) ∧
  (∀ s e, isEpisode e = true → s.hub.due (.episode e) = true →
    Answers (.episodeEnd e) s fun h =>
      h.deadline (.episode e) = none ∧ (∀ u, u ≠ .episode e → h.deadline u = s.hub.deadline u) ∧ { h with timers := s.hub.timers } = s.hub) ∧
  (∀ s m, isHeadMic m = true → (s.hub.headMic m).bias = .on → (s.hub.headphone m).jack.buttons = 0 →
    Answers (.biasFault m) s fun h =>
      h.headMic m = { s.hub.headMic m with bias := .fault } ∧
      h.headphone m = { s.hub.headphone m with cause := (s.hub.headphone m).cause ||| 4 } ∧ h.causes (56 + (m - 1)) ∧
      (∀ k, k ≠ m → h.headMic k = s.hub.headMic k ∧ h.headphone k = s.hub.headphone k) ∧
      { h with hms := s.hub.hms, hps := s.hub.hps, evDue := s.hub.evDue } = s.hub)

/-! ## Tandem conversion (03) -/

/-- R54 to R57, R61: one sample of the converters passes every powered input: the short-path clock advances, each path's sample enters its delay line,
what the matching makes of the three enters the window, and with M and H out of use the short path carries the matched L unchanged. With no correction
the matched L is its sample of 8 samples ago. A finished fade closes at its target. A path that leaves its stable range is out of use at once, and in
use again after 64 stable samples. -/
def Obligations.ConvertersCarryTheirSamples : Prop :=
  (∀ s xs, s.hub.framesRun = true → s.hub.sub < 8 →
    Answers (.combinerSample xs) s fun h =>
      h.sub = s.hub.sub + 1 ∧
      (∀ n, isInput n = true → s.hub.fe n = .unpowered ∨ s.hub.fe n = .hwMuted → h.input n = s.hub.input n) ∧
      (∀ n, isInput n = true → s.hub.fe n ≠ .unpowered → s.hub.fe n ≠ .hwMuted →
        (s.hub.input n).slice.failingSet = none → (s.hub.input n).slice.replaced = false →
        (h.input n).tandem.prev =
          ((s.hub.input n).tandem.matchPaths ((s.hub.input n).tandem.coefficient s.hub.now s.hub.sub) (sampleOf xs n)).2 ∧
        (h.input n).tandem.window = (s.hub.input n).tandem.windowed (h.input n).tandem.prev ∧
        (h.input n).tandem.l.stable = (if (s.hub.input n).tandem.l.stable < 64 then (s.hub.input n).tandem.l.stable + 1 else 64)) ∧
      (∀ n, isInput n = true → s.hub.fe n ≠ .unpowered → s.hub.fe n ≠ .hwMuted → (s.hub.input n).slice.failingSet = none →
        (s.hub.input n).slice.replaced = false → (s.hub.input n).tandem.movingFrom = none → (s.hub.input n).tandem.active.lOffset = 0 →
        satS32 (sampleOf xs n).l = (sampleOf xs n).l →
        (h.input n).tandem.l.line = ((sampleOf xs n).l :: (s.hub.input n).tandem.l.line).take 33 ∧
        (h.input n).tandem.prev.l = (s.hub.input n).tandem.l.line.getD 7 0) ∧
      (∀ n, isInput n = true → s.hub.fe n ≠ .unpowered → s.hub.fe n ≠ .hwMuted → (s.hub.input n).tandem.pred.fixedM = false →
        (s.hub.input n).tandem.l.excluded = false → (s.hub.input n).tandem.m.usable = false → (s.hub.input n).tandem.h.usable = false →
        (s.hub.input n).tandem.pred.m.g = 0 → (s.hub.input n).tandem.pred.m.fade = none → (s.hub.input n).tandem.pred.h.g = 0 →
        (s.hub.input n).tandem.pred.h.fade = none → (h.input n).tandem.pred.y = (h.input n).tandem.prev.l) ∧
      { h with sub := s.hub.sub, ins := s.hub.ins } = s.hub) ∧
  (∀ s n f, isInput n = true → (s.hub.input n).tandem.look.m.fade = some f → 16 ≤ f.i →
    Answers (.combinerFadeEnd n .m false) s fun h =>
      (h.input n).tandem.look = { (s.hub.input n).tandem.look with m := { (s.hub.input n).tandem.look.m with g := f.g1, fade := none } } ∧
      (h.input n).tandem.pred = (s.hub.input n).tandem.pred ∧ (∀ m, m ≠ n → h.input m = s.hub.input m) ∧ { h with ins := s.hub.ins } = s.hub) ∧
  (∀ s n f, isInput n = true → (s.hub.input n).tandem.pred.h.fade = some f → 8 ≤ f.i →
    Answers (.combinerFadeEnd n .h true) s fun h =>
      (h.input n).tandem.pred = { (s.hub.input n).tandem.pred with h := { (s.hub.input n).tandem.pred.h with g := f.g1, fade := none } } ∧
      (h.input n).tandem.look = (s.hub.input n).tandem.look ∧ (∀ m, m ≠ n → h.input m = s.hub.input m) ∧ { h with ins := s.hub.ins } = s.hub) ∧
  (∀ s n p, isInput n = true →
    Answers (.modulatorOverload n p) s fun h =>
      ((h.input n).tandem.path p).usable = false ∧ ((h.input n).tandem.path p).stable = 0 ∧
      (p = .l → (h.input n).cause = (s.hub.input n).cause ||| 2 ∧ h.deadline (.episode (.inputOverload n)) = some (s.hub.now + 100 * 96)) ∧
      (p = .l → s.hub.armed (.episode (.inputOverload n)) = false → h.causes (40 + (n - 1) / 4) ∧
        (h.input n).overloadCount = (if (s.hub.input n).overloadCount < 65535 then (s.hub.input n).overloadCount + 1 else 65535)) ∧
      (∀ m, m ≠ n → h.input m = s.hub.input m) ∧ { h with ins := s.hub.ins, timers := s.hub.timers, evDue := s.hub.evDue } = s.hub) ∧
  (∀ s n p, isInput n = true → 64 ≤ ((s.hub.input n).tandem.path p).stable →
    Answers (.pathUsable n p) s fun h =>
      (h.input n).tandem.path p = { (s.hub.input n).tandem.path p with usable := true } ∧
      (∀ q, q ≠ p → (h.input n).tandem.path q = (s.hub.input n).tandem.path q) ∧
      (∀ m, m ≠ n → h.input m = s.hub.input m) ∧ { h with ins := s.hub.ins } = s.hub)

/-- R64 to R69, R72: the estimator judges its pairs by their standard errors, writes a set into the bank that is not active and requests the swap, at most
every 64 blocks; 10 minutes of qualifying material without a commit raise MATCH_STALE with E88; the path a fault is attributed to is marked for
exclusion at the next block boundary, with E89; the committed set is queued for the store at most every 10 minutes. -/
def Obligations.MatchTableCommits : Prop :=
  (∀ s n lm mh lh refs, isInput n = true → (s.hub.input n).slice.state ≠ .matching → s.hub.estimating = true →
    (s.hub.input n).tandem.est.lm.gain.weight ≠ 0 → (s.hub.input n).tandem.m.excluded = false →
    s.hub.live? (inTandemIdx n) 3 ≤ 1000 - max lm.gain (max lm.delay lm.offset) →
    1000 - max mh.gain (max mh.delay mh.offset) < s.hub.live? (inTandemIdx n) 3 →
    ((s.hub.input n).tandem.lastCommit = 0 ∨ (s.hub.input n).tandem.lastCommit + 64 * 32 ≤ s.hub.now) →
    Answers (.matchCommitRequest n lm mh lh refs) s fun h =>
      (h.input n).tandem.inactive =
        { (s.hub.input n).tandem.active with
          lmGain := clampInt (-5000) 5000 (s.hub.input n).tandem.est.lm.gain.value
          lmDelay := clampInt (-32768) 32768 (s.hub.input n).tandem.est.lm.delay.value
          lOffset := clampInt (-1000000) 1000000 ((s.hub.input n).tandem.est.offset .l)
          mOffset := clampInt (-1000000) 1000000 ((s.hub.input n).tandem.est.offset .m) } ∧
      (h.input n).tandem.est.lm = { (s.hub.input n).tandem.est.lm with conf := 1000 - max lm.gain (max lm.delay lm.offset) } ∧
      (h.input n).tandem.active = (s.hub.input n).tandem.active ∧ (h.input n).tandem.swapReq = true ∧ (h.input n).tandem.swapFactory = false ∧
      (∀ m, m ≠ n → h.input m = s.hub.input m) ∧ { h with ins := s.hub.ins } = s.hub) ∧
  (∀ s n, isInput n = true → (s.hub.input n).tandem.stale = false → 1800000 ≤ (s.hub.input n).tandem.staleBlocks →
    Answers (.matchStale n) s fun h =>
      h.input n = { s.hub.input n with tandem := { (s.hub.input n).tandem with stale := true } } ∧ h.causes 88 ∧
      (∀ m, m ≠ n → h.input m = s.hub.input m) ∧ { h with ins := s.hub.ins, evDue := s.hub.evDue } = s.hub) ∧
  (∀ s n p, isInput n = true → (s.hub.input n).slice.state ≠ .matching → s.hub.estimating = true → (s.hub.input n).tandem.attributed = some p →
    (((s.hub.input n).tandem.path p).excluded = false ∨ ((s.hub.input n).tandem.path p).probation = true) →
    Answers (.pathExclude n p) s fun h =>
      (h.input n).tandem.path p = { (s.hub.input n).tandem.path p with excludeDue := true } ∧
      (∀ q, q ≠ p → (h.input n).tandem.path q = (s.hub.input n).tandem.path q) ∧ h.causes 89 ∧
      (∀ m, m ≠ n → h.input m = s.hub.input m) ∧ { h with ins := s.hub.ins, evDue := s.hub.evDue } = s.hub) ∧
  (∀ s n, isInput n = true → (s.hub.input n).tandem.factory = false → s.hub.armed (.matchStore n) = false → s.hub.supply.dip = false →
    Answers (.matchSetStore n) s fun h =>
      h.store = { s.hub.store with queue := s.hub.store.queue ++ [.matchSet n], e5Done := false } ∧
      h.deadline (.matchStore n) = some (s.hub.now + 600 * 96000) ∧ { h with store := s.hub.store, timers := s.hub.timers } = s.hub)

/-! ## Outputs (04) -/

/-- R91: the power-up sequence of an output: the mute switch opens over 1 ms in a CV mode and 20 ms in AUDIO; a CV output takes POWERUP_CODE where event
service has not begun; an AUDIO output waits 3 ms more and fades in over MUTE_TIME. -/
def Obligations.OutputPowersUpInSteps : Prop :=
  (∀ s n, isOutput n = true → (s.hub.output n).powerup = 2 → s.hub.due (.outputPowerup n) = true → (s.hub.output n).fast = false →
    Answers (.outputPowerupStep n) s fun h =>
      h.output n = { s.hub.output n with
        powerup := 3, openAt := some (s.hub.now + if isCv (s.hub.output n).cfg.mode then 96 else 20 * 96) } ∧
      h.deadline (.outputPowerup n) = some (s.hub.now + if isCv (s.hub.output n).cfg.mode then 96 else 20 * 96) ∧
      (∀ m, m ≠ n → h.output m = s.hub.output m) ∧ { h with outs := s.hub.outs, timers := s.hub.timers } = s.hub) ∧
  (∀ s n, isOutput n = true → (s.hub.output n).powerup = 3 → s.hub.due (.outputPowerup n) = true → isCv (s.hub.output n).cfg.mode = true →
    s.hub.boot.service = 0 → (s.hub.output n).fault = false →
    Answers (.outputPowerupStep n) s fun h =>
      h.output n = { s.hub.output n with
        powerup := 0, cv := { (s.hub.output n).cv with target := BitVec.ofNat 20 (s.hub.live? (outIdx n) 4), powerupHold := true } } ∧
      (∀ m, m ≠ n → h.output m = s.hub.output m) ∧ { h with outs := s.hub.outs, timers := s.hub.timers } = s.hub) ∧
  (∀ s n, isOutput n = true → (s.hub.output n).powerup = 3 → s.hub.due (.outputPowerup n) = true → isCv (s.hub.output n).cfg.mode = false →
    Answers (.outputPowerupStep n) s fun h =>
      h.output n = { s.hub.output n with powerup := 4 } ∧ h.deadline (.outputPowerup n) = some (s.hub.now + 3 * 96) ∧
      (∀ m, m ≠ n → h.output m = s.hub.output m) ∧ { h with outs := s.hub.outs, timers := s.hub.timers } = s.hub) ∧
  (∀ s n, isOutput n = true → (s.hub.output n).powerup = 4 → s.hub.due (.outputPowerup n) = true → 1 ≤ s.hub.boot.service →
    (s.hub.output n).fast = false → (s.hub.output n).fault = false →
    Answers (.outputPowerupStep n) s fun h =>
      h.output n = { s.hub.output n with
        powerup := 0
        audio := { (s.hub.output n).audio with protect := (s.hub.output n).audio.protect.to unity s.hub.now (s.hub.outMuteTime n) } } ∧
      (∀ m, m ≠ n → h.output m = s.hub.output m) ∧ { h with outs := s.hub.outs, timers := s.hub.timers } = s.hub)

/-- R93, R94: the change sequence of an output: after step 1 the mute switch closes for 1 ms; then the new configuration loads with code 0; an output that
becomes OFF is done, any other opens its switch over 1 ms; at the end of step 4 CHANGE_DONE is due with the group event. -/
def Obligations.OutputChangesInSteps : Prop :=
  (∀ s n, isOutput n = true → (s.hub.output n).step = 1 → s.hub.due (.outputChange n) = true →
    (isCv (s.hub.output n).cfg.mode = true → (s.hub.output n).cv.present = 0) →
    Answers (.outputChangeStep n) s fun h =>
      h.output n = { s.hub.output n with step := 2, openAt := none } ∧ h.deadline (.outputChange n) = some (s.hub.now + 96) ∧
      (∀ m, m ≠ n → h.output m = s.hub.output m) ∧ { h with outs := s.hub.outs, timers := s.hub.timers } = s.hub) ∧
  (∀ s n c, isOutput n = true → (s.hub.output n).step = 2 → (s.hub.output n).goal = some c → s.hub.due (.outputChange n) = true →
    Answers (.outputChangeStep n) s fun h =>
      h.output n = { s.hub.output n with step := 3 } ∧
      (∀ m, m ≠ n → h.output m = s.hub.output m) ∧ { h with outs := s.hub.outs, timers := s.hub.timers } = s.hub) ∧
  (∀ s n c, isOutput n = true → (s.hub.output n).step = 3 → (s.hub.output n).goal = some c → c.mode ≠ 0 → (s.hub.output n).fast = false →
    s.hub.railsLow = false →
    Answers (.outputChangeStep n) s fun h =>
      (h.output n).cfg = c ∧ (h.output n).step = 4 ∧ (h.output n).cv.present = 0 ∧ (h.output n).compliance = false ∧
      (h.output n).cv.target = (if (s.hub.output n).fault = true ∧ isCv c.mode = true then BitVec.ofNat 20 (s.hub.live? (outIdx n) 5) else 0) ∧
      (h.output n).openAt = some (s.hub.now + 96) ∧ h.deadline (.outputChange n) = some (s.hub.now + 96) ∧
      (∀ m, m ≠ n → h.output m = s.hub.output m) ∧ { h with outs := s.hub.outs, timers := s.hub.timers } = s.hub) ∧
  (∀ s n c, isOutput n = true → (s.hub.output n).step = 3 → (s.hub.output n).goal = some c → c.mode = 0 → (s.hub.output n).goingDown = false →
    Answers (.outputChangeStep n) s fun h =>
      (h.output n).cfg = c ∧ (h.output n).step = 0 ∧ (h.output n).goal = none ∧ (h.output n).doneDue = true ∧ h.causes (64 + (n - 1) / 4) ∧
      (∀ u, u ≠ .episode (.compliance n) → h.deadline u = s.hub.deadline u) ∧ (∀ m, m ≠ n → h.output m = s.hub.output m) ∧
      { h with outs := s.hub.outs, timers := s.hub.timers, evDue := s.hub.evDue } = s.hub) ∧
  (∀ s n, isOutput n = true → (s.hub.output n).step = 4 → (s.hub.output n).goingDown = false → s.hub.due (.outputChange n) = true →
    (s.hub.output n).fast = false →
    Answers (.outputChangeStep n) s fun h =>
      (h.output n).step = 5 ∧ (h.output n).goal = none ∧ (h.output n).doneDue = true ∧ (h.output n).cv.stepLimited = true ∧
      (h.output n).cfg = (s.hub.output n).cfg ∧ h.causes (64 + (n - 1) / 4) ∧
      (∀ m, m ≠ n → h.output m = s.hub.output m) ∧ { h with outs := s.hub.outs, timers := s.hub.timers, evDue := s.hub.evDue } = s.hub)

/-- R86, R88, R89: a CV tick takes the oldest code as the new target and slews there by at most SLEW_STEP; an empty queue keeps the target and raises E73
once. A compliance report stands in STATUS and raises the group event at the start of an episode; the episode ends 100 ms after the condition. -/
def Obligations.CvTickDrainsAndSlews : Prop :=
  (∀ s n c rest, isOutput n = true → s.hub.tickNow n = true → (s.hub.output n).powered = true → isCv (s.hub.output n).cfg.mode = true →
    s.hub.outState n = .running → (s.hub.output n).cv.queue = c :: rest → s.hub.slewDiv n ≤ (s.hub.output n).cv.divCount + 1 →
    (s.hub.output n).cv.stepLimited = false →
    (codeValue (s.hub.output n).cfg c - codeValue (s.hub.output n).cfg (s.hub.output n).cv.present).natAbs ≤ s.hub.slewStep n →
    Answers (.cvTick n) s fun h =>
      (h.output n).cv.target = c ∧ (h.output n).cv.present = c ∧ (h.output n).cv.queue = rest ∧ (h.output n).cv.divCount = 0 ∧
      (h.output n).cv.previous = (s.hub.output n).cv.present ∧ (h.output n).cv.tickAt = some s.hub.now ∧
      { h.output n with cv := (s.hub.output n).cv } = s.hub.output n ∧
      (∀ m, m ≠ n → h.output m = s.hub.output m) ∧ { h with outs := s.hub.outs } = s.hub) ∧
  (∀ s n, isOutput n = true → s.hub.tickNow n = true → (s.hub.output n).powered = true → isCv (s.hub.output n).cfg.mode = true →
    s.hub.outState n = .running → (s.hub.output n).cv.queue = [] → (s.hub.output n).cv.everQueued = true →
    (s.hub.output n).cv.emptyReported = false →
    Answers (.cvTick n) s fun h =>
      (h.output n).cv.target = (s.hub.output n).cv.target ∧ (h.output n).cv.emptyReported = true ∧
      (h.output n).cause = (s.hub.output n).cause ||| 2 ^ 5 ∧ h.causes 73 ∧
      (∀ m, m ≠ n → h.output m = s.hub.output m) ∧ { h with outs := s.hub.outs, evDue := s.hub.evDue } = s.hub) ∧
  (∀ s n present, isOutput n = true → (s.hub.output n).cfg.mode = 3 → (s.hub.output n).powered = true →
    Answers (.cvCompliance n present) s fun h =>
      (h.output n).compliance = present ∧ (h.output n).cv = (s.hub.output n).cv ∧
      (present = true → s.hub.armed (.episode (.compliance n)) = false →
        (s.hub.output n).compliance = false → h.causes (64 + (n - 1) / 4) ∧ (h.output n).cause = (s.hub.output n).cause ||| 2 ^ 3) ∧
      (present = true → (s.hub.output n).compliance = false → h.deadline (.episode (.compliance n)) = none) ∧
      (present = false → h.output n = { s.hub.output n with compliance := false }) ∧
      (present = false → (s.hub.output n).compliance = true → h.deadline (.episode (.compliance n)) = some (s.hub.now + 100 * 96)) ∧
      (∀ m, m ≠ n → h.output m = s.hub.output m) ∧ { h with outs := s.hub.outs, timers := s.hub.timers, evDue := s.hub.evDue } = s.hub)

/-- R82, R100 to R102: a delay crossfade ends at its tap, and a delay written meanwhile starts its own of 10 ms; a scan records the reading of a CV output
and clears its flag within the limits; an audio window records level, deviation and residual. That READBACK of an audio window is the level with the
deviation is the model's choice (log 28). -/
def Obligations.DelayAndPatrol : Prop :=
  (∀ s n, isOutput n = true → s.hub.due (.delayXfade n) = true → (s.hub.output n).audio.delayHeld = none →
    Answers (.delayXfadeEnd n) s fun h =>
      h.output n = { s.hub.output n with audio := { (s.hub.output n).audio with delayXfade := none, delayHeld := none } } ∧
      h.deadline (.delayXfade n) = none ∧
      (∀ m, m ≠ n → h.output m = s.hub.output m) ∧ { h with outs := s.hub.outs, timers := s.hub.timers } = s.hub) ∧
  (∀ s n d, isOutput n = true → s.hub.due (.delayXfade n) = true → (s.hub.output n).audio.delayHeld = some d →
    d ≠ (s.hub.output n).audio.delay →
    Answers (.delayXfadeEnd n) s fun h =>
      (h.output n).audio = { (s.hub.output n).audio with
        delay := d, delayHeld := none, delayXfade := some { old := (s.hub.output n).audio.delay, new := d, t0 := s.hub.now, len := 960 } } ∧
      h.deadline (.delayXfade n) = some (s.hub.now + 960) ∧
      (∀ m, m ≠ n → h.output m = s.hub.output m) ∧ { h with outs := s.hub.outs, timers := s.hub.timers } = s.hub) ∧
  (∀ s n v, isOutput n = true → isCv (s.hub.output n).cfg.mode = true → s.hub.patrolSuspended n = false →
    cvFlagged (s.hub.output n).cfg (s.hub.output n).cv.present (s.hub.live? (outIdx n + 3) 1) v = false →
    Answers (.patrolScan [(n, v)]) s fun h =>
      (h.output n).patrol.readback = v ∧ (h.output n).patrol.flag = false ∧ (h.output n).patrol.consec = 0 ∧
      (h.output n).cv = (s.hub.output n).cv ∧ (h.output n).cause = (s.hub.output n).cause) ∧
  (∀ s n rms dev res, isOutput n = true → (s.hub.output n).cfg.mode = 1 → s.hub.patrolSuspended n = false → -6000 ≤ rms →
    Answers (.patrolAudioWindow n rms dev res) s fun h =>
      (h.output n).patrol.readback = rms + dev ∧ (h.output n).patrol.deviation = dev ∧ (h.output n).patrol.residual = some res ∧
      (h.output n).patrol.flag =
        (decide (toS32 (s.hub.live? (outIdx n + 3) 2) < (dev.natAbs : Int)) || decide (toS32 (s.hub.live? (outIdx n + 3) 3) < res)) ∧
      (h.output n).audio = (s.hub.output n).audio)

/-! ## Hardware mute, lamps and panic (02, 13) -/

/-- R48, R49: a falling HMUTEk cuts every member: its streams carry zero with the privacy flag and its front end stands muted, and E(52 + k) is due. At
the rise members that no other group holds are powered, still at zero, and take the writes that waited; 20 ms later the privacy flag clears and the
fade-in of 10 ms starts. -/
def Obligations.HardwareMuteCutsItsMembers : Prop :=
  (∀ s k, isMuteGroup k = true → s.hub.hmuteLow k = false →
    Answers (.hmuteAssert k) s fun h =>
      h.hmuteLow k = true ∧ h.causes (52 + k) ∧
      (∀ src, isTrimSource src = true → s.hub.member k src = true →
        (h.stream src).privacy = true ∧ (h.stream src).gate = Fade.steady 0 ∧
        h.fe src = (if s.hub.fe src = .unpowered then FeState.unpowered else .hwMuted)) ∧
      (∀ src, isTrimSource src = true → s.hub.member k src = false → h.stream src = s.hub.stream src ∧ h.fe src = s.hub.fe src) ∧
      { h with ext := s.hub.ext, ins := s.hub.ins, hms := s.hub.hms, timers := s.hub.timers, evDue := s.hub.evDue, irs := s.hub.irs } = s.hub) ∧
  (∀ s k, isMuteGroup k = true → s.hub.hmuteLow k = true →
    Answers (.hmuteRelease k) s fun h =>
      h.hmuteLow k = false ∧ h.causes (52 + k) ∧ h.deadline (.hmute k) = some (s.hub.now + 20 * 96) ∧
      (∀ src, isTrimSource src = true → s.hub.member k src = false ∨ (s.hub.stream src).heldFront = [] → h.stream src = s.hub.stream src) ∧
      (∀ src, isTrimSource src = true → (h.stream src).gate = (s.hub.stream src).gate ∧ (h.stream src).privacy = (s.hub.stream src).privacy) ∧
      (∀ src, isTrimSource src = true → s.hub.member k src = true → s.hub.fe src = .hwMuted → h.hwMuted src = false → h.fe src = .settling) ∧
      (∀ src, isTrimSource src = true → s.hub.member k src = false → h.fe src = s.hub.fe src) ∧
      { h with ext := s.hub.ext, ins := s.hub.ins, hms := s.hub.hms, timers := s.hub.timers, evDue := s.hub.evDue } = s.hub) ∧
  (∀ s k, isMuteGroup k = true → s.hub.due (.hmute k) = true → s.hub.inputsMuted = false →
    Answers (.hmuteSettled k) s fun h =>
      h.deadline (.hmute k) = none ∧
      (∀ src, isTrimSource src = true → s.hub.member k src = true → s.hub.heldByOther k src = false → s.hub.hwMuted src = false →
        s.hub.fe src = .settling → s.hub.armed (.settle src) = false → s.hub.sourceWanted src = true →
        (h.stream src).privacy = false ∧ (h.stream src).gate = (s.hub.stream src).gate.to unity s.hub.now 960 ∧
        h.deadline (.fullLevel src) = some (s.hub.now + 960)) ∧
      (∀ src, isTrimSource src = true → s.hub.member k src = false → h.stream src = s.hub.stream src) ∧
      { h with ins := s.hub.ins, hms := s.hub.hms, timers := s.hub.timers } = s.hub)

/-- R97, R116, R299: PANIC_MUTE fades every line output, headphone and the speaker to zero over its MUTE_TIME, and its release fades them back; LAMP_TEST
sinks its lamps for 5 s, each bit clearing itself. -/
def Obligations.PanicMutesAndLampsTest : Prop :=
  (∀ s : State, s.hub.twi.panic = false → Answers .panicMute s fun h =>
      h.twi = { s.hub.twi with panic := true } ∧
      (∀ n, isOutput n = true → h.output n = { s.hub.output n with audio := { (s.hub.output n).audio with
        panicFade := (s.hub.output n).audio.panicFade.to 0 s.hub.now (s.hub.outMuteTime n) } }) ∧
      (∀ j, isHeadphone j = true → h.headphone j = { s.hub.headphone j with
        panicFade := (s.hub.headphone j).panicFade.to 0 s.hub.now (s.hub.hpMuteTime j) }) ∧
      h.spk = { s.hub.spk with panicFade := s.hub.spk.panicFade.to 0 s.hub.now s.hub.spkMuteTime } ∧
      { h with twi := s.hub.twi, outs := s.hub.outs, hps := s.hub.hps, spk := s.hub.spk } = s.hub) ∧
  (∀ s : State, s.hub.twi.panic = true → Answers .panicRelease s fun h =>
      h.twi = { s.hub.twi with panic := false } ∧
      (∀ n, isOutput n = true →
        (h.output n).audio.panicFade = (s.hub.output n).audio.panicFade.to unity s.hub.now (s.hub.outMuteTime n) ∧
        (h.output n).cv = { (s.hub.output n).cv with stepLimited := true }) ∧
      h.spk = { s.hub.spk with panicFade := s.hub.spk.panicFade.to unity s.hub.now s.hub.spkMuteTime } ∧
      { h with twi := s.hub.twi, outs := s.hub.outs, hps := s.hub.hps, spk := s.hub.spk } = s.hub) ∧
  (∀ s bits, bits < 16 → Answers (.lampTest bits) s fun h =>
      h.twi = { s.hub.twi with lampTest := bits } ∧
      (∀ k, k < 4 → h.deadline (.lampTest k) = if bits.testBit k then some (s.hub.now + 5 * 96000) else none) ∧
      (∀ u, (∀ k, u ≠ .lampTest k) → h.deadline u = s.hub.deadline u) ∧ { h with twi := s.hub.twi, timers := s.hub.timers } = s.hub) ∧
  (∀ s k, k < 4 → s.hub.due (.lampTest k) = true → Answers (.lampTestExpiry k) s fun h =>
      h.twi = { s.hub.twi with lampTest := s.hub.twi.lampTest - (s.hub.twi.lampTest &&& 2 ^ k) } ∧ h.deadline (.lampTest k) = none ∧
      { h with twi := s.hub.twi, timers := s.hub.timers } = s.hub)

/-! ## Supplies and heat (20) -/

/-- R435 to R437: a low analogue rail closes the mute switch of every powered line output that is not OFF and of every powered headphone and silences the
speaker; a low AVDD does the same but for the speaker; a rail mute of the inputs puts the running ones into settling. The recovery takes them back,
the combiners on L (R55). -/
def Obligations.LowRailsMute : Prop :=
  (∀ s : State, s.hub.supply.fastMute = false → Answers .analogRailLow s fun h =>
      h.supply = { s.hub.supply with fastMute := true } ∧
      (∀ n, isOutput n = true → (s.hub.output n).powered = true → (s.hub.output n).cfg.mode ≠ 0 →
        (h.output n).fast = true ∧ (h.output n).openAt = none ∧ (h.output n).audio.protect = Fade.steady 0) ∧
      (∀ n, isOutput n = true → (s.hub.output n).cfg.mode = 0 → h.output n = s.hub.output n) ∧
      (∀ j, isHeadphone j = true → (s.hub.headphone j).powered = true → (h.headphone j).fast = true ∧ (h.headphone j).openAt = none) ∧
      h.spk = { s.hub.spk with fast := true, fade := Fade.steady 0 } ∧
      { h with supply := s.hub.supply, outs := s.hub.outs, hps := s.hub.hps, spk := s.hub.spk } = s.hub) ∧
  (∀ s : State, s.hub.supply.avddFault = false → s.hub.supply.inputMute = false → Answers .analogRailRecover s fun h =>
      h.supply = { s.hub.supply with fastMute := false, inputMute := false } ∧
      (∀ n, isOutput n = true → (h.output n).fast = false) ∧ (∀ j, isHeadphone j = true → (h.headphone j).fast = false) ∧ h.spk.fast = false ∧
      { h with supply := s.hub.supply, outs := s.hub.outs, hps := s.hub.hps, spk := s.hub.spk, timers := s.hub.timers } = s.hub) ∧
  (∀ s : State, s.hub.supply.inputMute = false → Answers .inputRailMute s fun h =>
      h.supply = { s.hub.supply with inputMute := true } ∧
      (∀ n, isInput n = true → s.hub.fe n = .running ∨ s.hub.fe n = .onRelief ∨ s.hub.fe n = .settling →
        h.fe n = .settling ∧ (h.stream n).gate = (s.hub.stream n).gate.to 0 (s.hub.now + 1) 96 ∧ h.deadline (.settle n) = none) ∧
      (∀ n, isInput n = true → s.hub.fe n = .unpowered ∨ s.hub.fe n = .hwMuted → h.input n = s.hub.input n) ∧
      { h with supply := s.hub.supply, ins := s.hub.ins, timers := s.hub.timers } = s.hub) ∧
  (∀ s : State, s.hub.supply.avddFault = false → Answers .avddLow s fun h =>
      h.supply = { s.hub.supply with avddFault := true } ∧
      (∀ n, isOutput n = true → (s.hub.output n).powered = true → (s.hub.output n).cfg.mode ≠ 0 → (h.output n).fast = true) ∧
      (∀ n, isInput n = true → s.hub.fe n = .running → h.fe n = .settling) ∧
      { h with supply := s.hub.supply, ins := s.hub.ins, outs := s.hub.outs, hps := s.hub.hps, timers := s.hub.timers } = s.hub) ∧
  (∀ s : State, s.hub.supply.avddFault = true → s.hub.supply.fastMute = false → s.hub.supply.inputMute = false → Answers .avddRecover s fun h =>
      h.supply = { s.hub.supply with avddFault := false } ∧ (∀ n, isOutput n = true → (h.output n).fast = false) ∧
      (∀ n, isInput n = true → s.hub.fe n = .settling → s.hub.sourceWanted n = true →
        h.input n = { s.hub.input n with tandem := (s.hub.input n).tandem.restart s.hub.boot.full } ∧
        ((s.hub.stream n).privacy = false → h.deadline (.settle n) = some (s.hub.now + 20 * 96))) ∧
      (∀ n, isInput n = true → s.hub.fe n ≠ .settling ∨ s.hub.sourceWanted n = false → h.input n = s.hub.input n) ∧
      { h with supply := s.hub.supply, ins := s.hub.ins, outs := s.hub.outs, hps := s.hub.hps, timers := s.hub.timers } = s.hub)

/-- R430, R432, R434: a rail below its warning begins a dip, held until both rails have stood above it for 5 ms; its end raises E4; a low VIO warns,
without E3, until 5 ms above 3.00 V. R115, R358, R438: 110 °C raises E6; 130 °C raises E7 and fades a running speaker out over 1 ms as THERMAL, with
E72; cooling below 120 °C starts it again; a sensor that disagrees is reported once with E83. -/
def Obligations.DipsAndHeatAreReported : Prop :=
  (∀ s : State, s.hub.supply.dip = false → Answers (.supplyDipStart .vcoreIn) s fun h =>
      h.supply = { s.hub.supply with vcoreWarn := true, dip := true, e3Due := true } ∧
      h.deadline .dip = some (s.hub.now + 5 * 96) ∧ h.evDue = s.hub.evDue ∧
      h.store = { s.hub.store with e5Done := false, started := !s.hub.store.queue.isEmpty && !s.hub.sup.restarting } ∧
      { h with supply := s.hub.supply, store := s.hub.store, timers := s.hub.timers } = s.hub) ∧
  (∀ s : State, s.hub.supply.dip = true → Answers (.supplyDipStart .vaon) s fun h =>
      h.supply = { s.hub.supply with vaonWarn := true } ∧ h.deadline .dip = some (s.hub.now + 5 * 96) ∧
      { h with supply := s.hub.supply, timers := s.hub.timers } = s.hub) ∧
  (∀ s : State, s.hub.supply.dip = true → s.hub.due .dip = true → Answers .supplyDipEnd s fun h =>
      h.supply = { s.hub.supply with dip := false, recovering := false, vcoreWarn := false, vaonWarn := false } ∧ h.causes 4 ∧
      h.deadline .dip = none ∧ { h with supply := s.hub.supply, timers := s.hub.timers, evDue := s.hub.evDue } = s.hub) ∧
  (∀ s fault, Answers (.vioWarn fault) s fun h =>
      h.supply = { s.hub.supply with vioWarn := true, vioFault := s.hub.supply.vioFault || fault } ∧
      h.deadline .vio = some (s.hub.now + 5 * 96) ∧ { h with supply := s.hub.supply, timers := s.hub.timers } = s.hub) ∧
  (∀ s : State, s.hub.due .vio = true → Answers .vioRecover s fun h =>
      h.supply = { s.hub.supply with vioWarn := false, vioFault := false } ∧ h.deadline .vio = none ∧
      { h with supply := s.hub.supply, timers := s.hub.timers } = s.hub) ∧
  (∀ s : State, s.hub.supply.thermalWarn = false → Answers .thermalWarn s fun h =>
      h.supply = { s.hub.supply with thermalWarn := true } ∧ h.causes 6 ∧ { h with supply := s.hub.supply, evDue := s.hub.evDue } = s.hub) ∧
  (∀ s : State, s.hub.supply.thermalCrit = false → s.hub.spk.state = .running → s.hub.spk.bridgeOn = true →
    Answers .thermalCrit s fun h =>
      h.supply = { s.hub.supply with thermalCrit := true } ∧ h.causes 7 ∧ h.causes 72 ∧
      h.spk = { s.hub.spk with state := .thermal, seq := 3, fade := s.hub.spk.fade.to 0 s.hub.now 96, cause := s.hub.spk.cause ||| 2 ^ 2 } ∧
      h.deadline .spkSequence = some (s.hub.now + 96) ∧ h.deadline .spkRestart = none ∧
      { h with supply := s.hub.supply, spk := s.hub.spk, timers := s.hub.timers, evDue := s.hub.evDue } = s.hub) ∧
  (∀ s : State, s.hub.supply.thermalCrit = true → s.hub.spk.state = .thermal → s.hub.spk.enable = true → s.hub.vspkOk = true →
    Answers (.thermalRecover false) s fun h =>
      h.supply = { s.hub.supply with thermalCrit := false } ∧ h.spk.state = .powering ∧ h.deadline .spkSequence = some (s.hub.now + 52 * 96) ∧
      { h with supply := s.hub.supply, spk := s.hub.spk, timers := s.hub.timers } = s.hub) ∧
  (∀ s : State, s.hub.supply.thermalCrit = false → Answers (.thermalRecover true) s fun h =>
      h.supply = { s.hub.supply with thermalWarn := false } ∧ { h with supply := s.hub.supply } = s.hub) ∧
  (∀ s k, k < 4 → s.hub.supply.tsDisagree = false → Answers (.tsDisagree k) s fun h =>
      h.supply = { s.hub.supply with tsDisagree := true } ∧ h.causes 83 ∧ { h with supply := s.hub.supply, evDue := s.hub.evDue } = s.hub)


/-! ## Headphones, speaker and jacks (05) -/

/-- R111, R117: a channel at its current limit closes the mute switches, sets the cause and has the jack classified again; the power-up reaches its steps
at 35, 37, 57 and 60 ms and ends 27 ms later: the switches open over 20 ms, then the signal fades in over MUTE_TIME. -/
def Obligations.HeadphonesProtectAndPowerUp : Prop :=
  (∀ s j, isHeadphone j = true → (s.hub.headphone j).powered = true → (s.hub.headphone j).jack.classifying = false →
    Answers (.hpOvercurrent j) s fun h =>
      (h.headphone j).protect = true ∧ (h.headphone j).openAt = none ∧ (h.headphone j).cause = (s.hub.headphone j).cause ||| 2 ∧
      (h.headphone j).jack = { (s.hub.headphone j).jack with
        before := (s.hub.headphone j).jack.accessory, accessory := 1, classifying := true, buttons := 0, micSwapped := false } ∧
      (h.headphone j).gate = (s.hub.headphone j).gate.to 0 s.hub.now 96 ∧ h.deadline (.classify j) = some (s.hub.now + 40 * 96) ∧
      (∀ k, k ≠ j → h.headphone k = s.hub.headphone k ∧ h.headMic k = s.hub.headMic k) ∧
      { h with hps := s.hub.hps, hms := s.hub.hms, timers := s.hub.timers } = s.hub) ∧
  (∀ s : State, s.hub.spk.powerup = 2 → s.hub.due .hpPowerup = true → Answers .hpPowerupStep s fun h =>
      (∀ j, isHeadphone j = true →
        (h.headphone j).openAt = if (s.hub.headphone j).fast then none else some (s.hub.now + 20 * 96)) ∧
      h.spk = { s.hub.spk with powerup := 3 } ∧ h.deadline .hpPowerup = some (s.hub.now + 20 * 96) ∧
      h.deadline .spkSequence = s.hub.deadline .spkSequence ∧
      { h with hps := s.hub.hps, spk := s.hub.spk, timers := s.hub.timers } = s.hub) ∧
  (∀ s : State, s.hub.spk.powerup = 3 → s.hub.due .hpPowerup = true → Answers .hpPowerupStep s fun h =>
      h.spk = { s.hub.spk with powerup := 4 } ∧ h.deadline .hpPowerup = some (s.hub.now + 3 * 96) ∧
      { h with spk := s.hub.spk, timers := s.hub.timers } = s.hub) ∧
  (∀ s : State, s.hub.spk.powerup = 4 → s.hub.due .hpPowerup = true → 1 ≤ s.hub.boot.service → Answers .hpPowerupStep s fun h =>
      (∀ j, isHeadphone j = true → (s.hub.headphone j).fast = false →
        (h.headphone j).fade = (s.hub.headphone j).fade.to unity s.hub.now (s.hub.hpMuteTime j)) ∧
      h.spk = { s.hub.spk with powerup := 5 } ∧ h.deadline .hpPowerup = some (s.hub.now + 27 * 96) ∧
      { h with hps := s.hub.hps, hms := s.hub.hms, spk := s.hub.spk, timers := s.hub.timers } = s.hub) ∧
  (∀ s : State, s.hub.spk.powerup = 5 → s.hub.due .hpPowerup = true → Answers .hpPowerupStep s fun h =>
      h.spk.powerup = 6 ∧ h.deadline .hpPowerup = none ∧ { h with spk := s.hub.spk, timers := s.hub.timers } = s.hub)

/-- R115: an over-current turns the bridge off and restarts it after 500 ms, the fifth within 10 s latches it; DC for 200 ms latches it; VSPK too high
turns the bridge off, too low zeroes the output; each reports E72 and its cause bit. The restart and the return of VSPK start the bridge again. R119:
the turn-on sequence ends with PWM running and the fade-in over MUTE_TIME, the turn-off sequence with the bridge off, the fade-out of a hot junction
as THERMAL. -/
def Obligations.SpeakerProtectsAndStarts : Prop :=
  (∀ s : State, s.hub.spk.bridgeOn = true → (s.hub.spk.restarts.filter (fun t => decide (s.hub.now < t + 960000))).length < 4 →
    Answers .spkOvercurrent s fun h =>
      h.spk = { s.hub.spk with
        restarts := s.hub.spk.restarts.filter (fun t => decide (s.hub.now < t + 960000)), cause := s.hub.spk.cause ||| 1, bridgeOn := false
        seq := 0, state := .restarting, fade := Fade.steady 0 } ∧
      h.deadline .spkRestart = some (s.hub.now + 500 * 96) ∧ h.deadline .spkSequence = none ∧ h.causes 72 ∧
      { h with spk := s.hub.spk, timers := s.hub.timers, evDue := s.hub.evDue } = s.hub) ∧
  (∀ s : State, s.hub.spk.bridgeOn = true → 4 ≤ (s.hub.spk.restarts.filter (fun t => decide (s.hub.now < t + 960000))).length →
    Answers .spkOvercurrent s fun h =>
      h.spk.state = .latched ∧ h.spk.bridgeOn = false ∧ h.spk.cause = s.hub.spk.cause ||| 1 ∧ h.causes 72 ∧
      h.deadline .spkRestart = s.hub.deadline .spkRestart ∧
      { h with spk := s.hub.spk, timers := s.hub.timers, evDue := s.hub.evDue } = s.hub) ∧
  (∀ s : State, s.hub.spk.state = .restarting → s.hub.due .spkRestart = true → s.hub.spk.enable = true → s.hub.vspkOk = true →
    s.hub.supply.thermalCrit = false →
    Answers .spkRestart s fun h =>
      h.spk = { s.hub.spk with restarts := s.hub.spk.restarts ++ [s.hub.now], state := .powering, seq := 2, fade := Fade.steady 0 } ∧
      h.deadline .spkSequence = some (s.hub.now + 52 * 96) ∧ h.deadline .spkRestart = none ∧
      { h with spk := s.hub.spk, timers := s.hub.timers } = s.hub) ∧
  (∀ s : State, s.hub.spk.bridgeOn = true → Answers .spkDcFault s fun h =>
      h.spk = { s.hub.spk with cause := s.hub.spk.cause ||| 2, bridgeOn := false, seq := 0, state := .latched, fade := Fade.steady 0 } ∧
      h.deadline .spkRestart = none ∧ h.causes 72 ∧ { h with spk := s.hub.spk, timers := s.hub.timers, evDue := s.hub.evDue } = s.hub) ∧
  (∀ s : State, s.hub.spk.state = .running → s.hub.spk.vspkHigh = false → Answers (.vspkOutOfRange true) s fun h =>
      h.spk = { s.hub.spk with
        vspkHigh := true, cause := s.hub.spk.cause ||| 8, bridgeOn := false, seq := 0, state := .vspkOut, fade := Fade.steady 0 } ∧
      h.causes 72 ∧ { h with spk := s.hub.spk, timers := s.hub.timers, evDue := s.hub.evDue } = s.hub) ∧
  (∀ s : State, s.hub.spk.state = .running → s.hub.spk.bridgeOn = true → s.hub.spk.vspkLow = false → Answers (.vspkOutOfRange false) s fun h =>
      h.spk = { s.hub.spk with vspkLow := true, cause := s.hub.spk.cause ||| 8, state := .vspkOut, fade := Fade.steady 0 } ∧
      h.causes 72 ∧ { h with spk := s.hub.spk, evDue := s.hub.evDue } = s.hub) ∧
  (∀ s : State, s.hub.spk.state = .vspkOut → s.hub.spk.bridgeOn = true → s.hub.spk.enable = true → s.hub.spk.fast = false →
    Answers .vspkRecover s fun h =>
      h.spk = { s.hub.spk with
        vspkHigh := false, vspkLow := false, state := .running, fade := s.hub.spk.fade.to unity s.hub.now s.hub.spkMuteTime } ∧
      { h with spk := s.hub.spk } = s.hub) ∧
  (∀ s : State, s.hub.spk.state = .vspkOut → s.hub.spk.bridgeOn = false → s.hub.spk.enable = true → s.hub.supply.thermalCrit = false →
    Answers .vspkRecover s fun h =>
      h.spk = { s.hub.spk with vspkHigh := false, vspkLow := false, state := .powering, seq := 2, fade := Fade.steady 0 } ∧
      h.deadline .spkSequence = some (s.hub.now + 52 * 96) ∧ { h with spk := s.hub.spk, timers := s.hub.timers } = s.hub) ∧
  (∀ s : State, s.hub.due .spkSequence = true → s.hub.spk.seq = 2 → s.hub.spk.fast = false → Answers .spkSequenceEnd s fun h =>
      h.spk = { s.hub.spk with
        seq := 0, bridgeOn := true, state := .running, fade := s.hub.spk.fade.to unity s.hub.now s.hub.spkMuteTime } ∧
      h.deadline .spkSequence = none ∧ { h with spk := s.hub.spk, timers := s.hub.timers } = s.hub) ∧
  (∀ s : State, s.hub.due .spkSequence = true → s.hub.spk.seq = 1 → Answers .spkSequenceEnd s fun h =>
      h.spk = { s.hub.spk with seq := 0, bridgeOn := false, state := .off } ∧ h.deadline .spkSequence = none ∧
      { h with spk := s.hub.spk, timers := s.hub.timers } = s.hub) ∧
  (∀ s : State, s.hub.due .spkSequence = true → s.hub.spk.seq = 3 → Answers .spkSequenceEnd s fun h =>
      h.spk = { s.hub.spk with seq := 0, bridgeOn := false, state := .thermal, fade := Fade.steady 0 } ∧ h.deadline .spkSequence = none ∧
      { h with spk := s.hub.spk, timers := s.hub.timers } = s.hub) ∧
  (∀ s : State, s.hub.due .spkSequence = false → Answers .spkSequenceEnd s fun h => h = s.hub)

/-- R122, R123: an edge of JDj starts 50 ms of debounce of an insertion or 5 ms of a removal, in which the gate closes over 1 ms with JACK_GATE 1; an
accepted insertion sets its cause, raises E(55 + j) and starts the classification of 40 ms; an accepted removal reads NONE at once. -/
def Obligations.JackEdgesAreDebounced : Prop :=
  (∀ s j level, isHeadphone j = true → (s.hub.headphone j).jack.pin ≠ level → s.hub.jackSensing = true → s.hub.jackSetting j 1 ≠ 0 →
    s.hub.rawInserted j level = true → (s.hub.headphone j).jack.inserted = false → (s.hub.headphone j).jack.removing = false →
    Answers (.jdEdge j level) s fun h =>
      h.headphone j = { s.hub.headphone j with jack := { (s.hub.headphone j).jack with pin := level } } ∧
      h.deadline (.jdDebounce j) = some (s.hub.now + 50 * 96) ∧
      (∀ k, k ≠ j → h.headphone k = s.hub.headphone k) ∧ { h with hps := s.hub.hps, timers := s.hub.timers } = s.hub) ∧
  (∀ s j level, isHeadphone j = true → (s.hub.headphone j).jack.pin ≠ level → s.hub.jackSensing = true → s.hub.jackSetting j 1 ≠ 0 →
    s.hub.rawInserted j level = false → (s.hub.headphone j).jack.inserted = true → (s.hub.headphone j).jack.removing = false →
    Answers (.jdEdge j level) s fun h =>
      (h.headphone j).jack = { (s.hub.headphone j).jack with pin := level, removing := true } ∧
      (h.headphone j).gate =
        (if s.hub.jackSetting j 3 = 1 then (s.hub.headphone j).gate.to 0 s.hub.now 96 else (s.hub.headphone j).gate) ∧
      h.deadline (.jackRemove j) = some (s.hub.now + 5 * 96) ∧
      (∀ k, k ≠ j → h.headphone k = s.hub.headphone k) ∧ { h with hps := s.hub.hps, timers := s.hub.timers } = s.hub) ∧
  (∀ s j, isHeadphone j = true → s.hub.due (.jdDebounce j) = true → Answers (.jackInsertAccept j) s fun h =>
      (h.headphone j).jack = { (s.hub.headphone j).jack with
        inserted := true, before := (s.hub.headphone j).jack.accessory, accessory := 1, classifying := true, buttons := 0, micSwapped := false } ∧
      (h.headphone j).cause = (s.hub.headphone j).cause ||| 8 ∧ (h.headphone j).gate = (s.hub.headphone j).gate.to 0 s.hub.now 96 ∧
      h.deadline (.classify j) = some (s.hub.now + 40 * 96) ∧ h.deadline (.jdDebounce j) = none ∧ h.causes (56 + (j - 1)) ∧
      (∀ k, k ≠ j → h.headphone k = s.hub.headphone k ∧ h.headMic k = s.hub.headMic k) ∧
      { h with hps := s.hub.hps, hms := s.hub.hms, timers := s.hub.timers, evDue := s.hub.evDue } = s.hub) ∧
  (∀ s j, isHeadphone j = true → s.hub.due (.jackRemove j) = true → (s.hub.headphone j).protect = false →
    Answers (.jackRemoveAccept j) s fun h =>
      (h.headphone j).jack = { (s.hub.headphone j).jack with
        inserted := false, removing := false, classifying := false, accessory := 0, buttons := 0, micSwapped := false
        tip := 0xFFFFFFFF, ring := 0xFFFFFFFF } ∧
      (h.headphone j).cause = (s.hub.headphone j).cause ||| 16 ∧ h.deadline (.jackRemove j) = none ∧ h.deadline (.classify j) = none ∧
      h.deadline (.longPress j) = none ∧ h.causes (56 + (j - 1)) ∧
      (∀ k, k ≠ j → h.headphone k = s.hub.headphone k ∧ h.headMic k = s.hub.headMic k) ∧
      { h with hps := s.hub.hps, hms := s.hub.hms, timers := s.hub.timers, evDue := s.hub.evDue } = s.hub)

/-- R124, R125: a classification records its class, its loads and its cause and raises E(55 + j); with AUTO_BIAS 1 a headset gets its bias, not out of
FAULT (R45), and after 20 ms its stream fades in. A press of a button in a headset is reported with E(59 + j), again as a long press after LONG_PRESS,
and its release. -/
def Obligations.HeadsetsAndButtons : Prop :=
  (∀ s j m, isHeadphone j = true → s.hub.due (.classify j) = true →
    Answers (.classifyComplete j m) s fun h =>
      (h.headphone j).jack = { (s.hub.headphone j).jack with
        accessory := classify (s.hub.jackSetting j 2) m, classifying := false, tip := loadWord m.tip, ring := loadWord m.ring
        micSwapped := decide (classify (s.hub.jackSetting j 2) m = 4) } ∧
      (h.headphone j).cause = (s.hub.headphone j).cause ||| 32 ∧ h.causes (56 + (j - 1)) ∧ h.deadline (.classify j) = none ∧
      (isHeadset (classify (s.hub.jackSetting j 2) m) = true → s.hub.jackSetting j 4 = 1 →
        (h.headMic j).bias = (if (s.hub.headMic j).bias = .fault then .fault else .on) ∧ (h.headMic j).autoBias = true ∧ (h.headMic j).key = Fade.steady 0 ∧
        h.deadline (.hmBias j) = some (s.hub.now + 20 * 96)) ∧
      (∀ k, k ≠ j → h.headphone k = s.hub.headphone k ∧ h.headMic k = s.hub.headMic k) ∧
      { h with hps := s.hub.hps, hms := s.hub.hms, timers := s.hub.timers, evDue := s.hub.evDue } = s.hub) ∧
  (∀ s m, isHeadMic m = true → s.hub.due (.hmBias m) = true → s.hub.buttonMutes m = false → Answers (.hmBiasSettled m) s fun h =>
      h.headMic m = { s.hub.headMic m with key := (s.hub.headMic m).key.to unity s.hub.now 960 } ∧ h.deadline (.hmBias m) = none ∧
      (∀ k, k ≠ m → h.headMic k = s.hub.headMic k) ∧ { h with hms := s.hub.hms, timers := s.hub.timers } = s.hub) ∧
  (∀ s j ohms k, isHeadphone j = true → buttonOf ohms = some k → isHeadset (s.hub.headphone j).jack.accessory = true →
    (s.hub.headMic j).bias = .on → (s.hub.headphone j).jack.buttons = 0 →
    Answers (.buttonPress j ohms) s fun h =>
      h.headphone j = { s.hub.headphone j with jack := { (s.hub.headphone j).jack with
        buttons := 2 ^ k, buttonCause := (s.hub.headphone j).jack.buttonCause ||| 2 ^ k } } ∧
      (h.headMic j).key = (if s.hub.jackSetting j 6 = 1 then (s.hub.headMic j).key.to 0 s.hub.now 192 else (s.hub.headMic j).key) ∧
      h.deadline (.longPress j) = some (s.hub.now + us (s.hub.jackSetting j 5)) ∧ h.causes (60 + (j - 1)) ∧
      (∀ i, i ≠ j → h.headphone i = s.hub.headphone i ∧ h.headMic i = s.hub.headMic i) ∧
      { h with hps := s.hub.hps, hms := s.hub.hms, timers := s.hub.timers, evDue := s.hub.evDue } = s.hub) ∧
  (∀ s j, isHeadphone j = true → s.hub.due (.longPress j) = true → Answers (.buttonLongPress j) s fun h =>
      h.headphone j = { s.hub.headphone j with jack := { (s.hub.headphone j).jack with
        buttons := (s.hub.headphone j).jack.buttons ||| 16 * ((s.hub.headphone j).jack.buttons &&& 15)
        buttonCause := (s.hub.headphone j).jack.buttonCause ||| 16 * ((s.hub.headphone j).jack.buttons &&& 15) } } ∧
      h.deadline (.longPress j) = none ∧ h.causes (60 + (j - 1)) ∧
      (∀ i, i ≠ j → h.headphone i = s.hub.headphone i) ∧
      { h with hps := s.hub.hps, timers := s.hub.timers, evDue := s.hub.evDue } = s.hub) ∧
  (∀ s j, isHeadphone j = true → (s.hub.headphone j).jack.buttons ≠ 0 → Answers (.buttonRelease j) s fun h =>
      h.headphone j = { s.hub.headphone j with jack := { (s.hub.headphone j).jack with buttons := 0 } } ∧
      h.deadline (.longPress j) = none ∧ h.causes (60 + (j - 1)) ∧
      (h.headMic j).key = (if (s.hub.headMic j).key.m1 = 0 ∧ s.hub.armed (.hmBias j) = false then (s.hub.headMic j).key.to unity s.hub.now 960
        else (s.hub.headMic j).key) ∧
      (∀ i, i ≠ j → h.headphone i = s.hub.headphone i ∧ h.headMic i = s.hub.headMic i) ∧
      { h with hps := s.hub.hps, hms := s.hub.hms, timers := s.hub.timers, evDue := s.hub.evDue } = s.hub)

/-! ## Harness (06) -/

/-- R135: a selector crossfade ends at its source. A SOURCE write taken while it runs is held, and only the last is kept; at the running crossfade's end
the held source starts its own crossfade from the source then in force, over the XFADE_TIME read then, or is dropped where it equals that source; a
change to XFADE_TIME alters no running crossfade. R137, R142, R145, R186: a generator switches at the zero point of its fade and fades in over 10 ms;
a crosspoint takes its waiting fields at the zero of its fade; a scale recomputation ends; a tap takes its delay. -/
def Obligations.HarnessFadesEnd : Prop :=
  (∀ s k, isSink k = true → s.hub.due (.sinkXfade k) = true → (s.hub.sink k).held = none →
    Answers (.sinkXfadeEnd k) s fun h =>
      h.sink k = { s.hub.sink k with xfade := none, held := none, fbGain := none } ∧ h.deadline (.sinkXfade k) = none ∧
      (∀ m, m ≠ k → h.sink m = s.hub.sink m) ∧ { h with sinks := s.hub.sinks, timers := s.hub.timers } = s.hub) ∧
  (∀ s k v, isSink k = true → s.hub.due (.sinkXfade k) = true → (s.hub.sink k).held = some v → v ≠ (s.hub.sink k).source →
    0 < us (s.hub.live? (selIdx k) 2) →
    Answers (.sinkXfadeEnd k) s fun h =>
      h.sink k = { s.hub.sink k with
        source := v, held := none, fbGain := none
        xfade := some { old := (s.hub.sink k).source, new := v, t0 := s.hub.now, len := us (s.hub.live? (selIdx k) 2) } } ∧
      h.deadline (.sinkXfade k) = some (s.hub.now + us (s.hub.live? (selIdx k) 2)) ∧
      (∀ m, m ≠ k → h.sink m = s.hub.sink m) ∧ { h with sinks := s.hub.sinks, timers := s.hub.timers } = s.hub) ∧
  (∀ s k v, isSink k = true → s.hub.due (.sinkXfade k) = true → (s.hub.sink k).held = some v → v = (s.hub.sink k).source →
    Answers (.sinkXfadeEnd k) s fun h =>
      h.sink k = { s.hub.sink k with xfade := none, held := none, fbGain := none } ∧ h.deadline (.sinkXfade k) = none ∧
      (∀ m, m ≠ k → h.sink m = s.hub.sink m) ∧ { h with sinks := s.hub.sinks, timers := s.hub.timers } = s.hub) ∧
  (∀ (h : Hub) k v, isSink k = true → (h.sink k).xfade.isSome = true → h.due (.sinkXfade k) = false →
    ((h.sinkApply k v).sink k = { h.sink k with held := some v } ∧ (∀ m, m ≠ k → (h.sinkApply k v).sink m = h.sink m) ∧
      { h.sinkApply k v with sinks := h.sinks } = h)) ∧
  (∀ (h : Hub) k v, isSink k = true →
    ((h.applyWr ⟨key (selIdx k) 2, v⟩).sinks = h.sinks ∧ (h.applyWr ⟨key (selIdx k) 2, v⟩).timers = h.timers)) ∧
  (∀ s g, g < 8 → s.hub.due (.generator g) = true → Answers (.generatorSwitch g) s fun h =>
      h.gen g = { s.hub.gen g with
        type := (s.hub.gen g).target, phase := .fadingIn, fade := { m0 := 0, m1 := unity, t0 := s.hub.now, len := 960 } } ∧
      h.deadline (.generator g) = none ∧ (∀ m, m ≠ g → h.gen m = s.hub.gen m) ∧
      { h with gens := s.hub.gens, timers := s.hub.timers } = s.hub) ∧
  (∀ s b k e, isBus b = true → 1 ≤ k → k ≤ 64 → s.hub.due (.xpFade (64 * b + k)) = true → (s.hub.term (64 * b + k)).atZero = some e →
    Answers (.xpFadeZero b k) s fun h =>
      h.term (64 * b + k) = { s.hub.term (64 * b + k) with
        source := e / 2 ^ 48 % 1024, invert := e.testBit 34, muted := e.testBit 33, enabled := e.testBit 32, atZero := none
        mute := Fade.steady (if e.testBit 33 then 0 else unity)
        fade := if e.testBit 32 then { m0 := 0, m1 := unity, t0 := s.hub.now, len := s.hub.busMuteTime b } else Fade.steady 0 } ∧
      h.deadline (.xpFade (64 * b + k)) = none ∧ (∀ m, m ≠ 64 * b + k → h.term m = s.hub.term m) ∧
      { h with terms := s.hub.terms, timers := s.hub.timers } = s.hub) ∧
  (∀ s b, isBus b = true → Answers (.scaleRecomputeDone b) s fun h =>
      h.bus b = { s.hub.bus b with recomputing := false } ∧ (∀ m, m ≠ b → h.bus m = s.hub.bus m) ∧ { h with buses := s.hub.buses } = s.hub) ∧
  (∀ s p t, isProcess p = true → t < 8 → s.hub.due (.tap p t) = true → tget (s.hub.proc p).tapHeld t = none →
    Answers (.tapDelayXfadeEnd p t) s fun h =>
      h.proc p = { s.hub.proc p with taps := tdel (s.hub.proc p).taps t } ∧ h.deadline (.tap p t) = none ∧
      (∀ m, m ≠ p → h.proc m = s.hub.proc m) ∧ { h with procs := s.hub.procs, timers := s.hub.timers } = s.hub) ∧
  (∀ s p t d c, isProcess p = true → t < 8 → s.hub.due (.tap p t) = true → tget (s.hub.proc p).tapHeld t = some d →
    tget (s.hub.proc p).taps t = some c → c.new ≠ d →
    Answers (.tapDelayXfadeEnd p t) s fun h =>
      tget (h.proc p).taps t = some { old := c.new, new := d, t0 := s.hub.now, len := 960 } ∧ tget (h.proc p).tapHeld t = none ∧
      h.deadline (.tap p t) = some (s.hub.now + 960) ∧
      (∀ m, m ≠ p → h.proc m = s.hub.proc m) ∧ { h with procs := s.hub.procs, timers := s.hub.timers } = s.hub)

/-! ## DSP lanes (08) -/

/-- R189 to R193: a lane that misses its deadline enters bypass and, with the relief lane free, is taken over: L8 loads the image of its position, and 5
ms after the resumption L8 serves the position and the lane is retired. A shadow period counts a cycle, and the next lane is loaded. A mismatch is
rechecked from the checkpoints of its block, and a recheck decides between the lane, the patrol and L8. -/
def Obligations.ReliefLaneTakesOver : Prop :=
  (∀ s k, k < 8 → (s.hub.lane k).retired = false → (s.hub.lane k).faulty = false → s.hub.reportOnly = false → s.hub.dsp.takeover = none →
    s.hub.dsp.relief = 0xFF →
    Answers (.dspLaneFault k .missedDeadline) s fun h =>
      h.lane k = { s.hub.lane k with faulty := true, faultDue := false } ∧
      (∀ p, p ∈ s.hub.onPosition k → h.proc p = { s.hub.proc p with wet := Fade.steady 0, restore := (s.hub.proc p).newest }) ∧ (∀ p, p ∉ s.hub.onPosition k → h.proc p = s.hub.proc p) ∧
      h.dsp = { s.hub.dsp with takeover := some k, loaded := false, resumed := false, recheck := false } ∧ h.deadline .l8Patrol = none ∧
      (∀ m, m ≠ k → h.lane m = s.hub.lane m) ∧
      { h with procs := s.hub.procs, lanes := s.hub.lanes, dsp := s.hub.dsp, timers := s.hub.timers } = s.hub) ∧
  (∀ s : State, (s.hub.lane 8).retired = false → (s.hub.lane 8).faulty = false → s.hub.dsp.takeover = none → 8 ≤ s.hub.dsp.relief →
    s.hub.dsp.relief ≠ 0xFE →
    Answers (.dspLaneFault 8 .missedDeadline) s fun h =>
      h.dsp = { s.hub.dsp with relief := 0xFE, loaded := false, resumed := false, recheck := false } ∧ h.causes 83 ∧ h.deadline .l8Patrol = none ∧
      { h with dsp := s.hub.dsp, timers := s.hub.timers, evDue := s.hub.evDue } = s.hub) ∧
  (∀ s k, s.hub.dsp.takeover = some k → s.hub.dsp.resumed = false → Answers .reliefLaneLoadComplete s fun h =>
      h.dsp = { s.hub.dsp with loaded := true } ∧ h.lane 8 = { s.hub.lane 8 with microcode := tgetD s.hub.dsp.images k [] } ∧
      (∀ m, m ≠ 8 → h.lane m = s.hub.lane m) ∧ { h with lanes := s.hub.lanes, dsp := s.hub.dsp } = s.hub) ∧
  (∀ s k, s.hub.dsp.takeover = some k → s.hub.due .takeover = true → Answers .dspTakeoverComplete s fun h =>
      h.dsp = { s.hub.dsp with relief := k, takeover := none, loaded := false, resumed := false } ∧
      h.lane k = { s.hub.lane k with retired := true, faulty := false } ∧ h.deadline .takeover = none ∧
      (∀ m, m ≠ k → h.lane m = s.hub.lane m) ∧ { h with lanes := s.hub.lanes, dsp := s.hub.dsp, timers := s.hub.timers } = s.hub) ∧
  (∀ s k, s.hub.patrolling = true → s.hub.dsp.recheck = false → s.hub.due .l8Patrol = true → s.hub.nextPatrol s.hub.dsp.patrolLane = some k →
    Answers .l8PatrolPeriodEnd s fun h =>
      h.dsp = { s.hub.dsp with cycles := if s.hub.dsp.cycles < 4294967295 then s.hub.dsp.cycles + 1 else 4294967295, patrolLane := k } ∧
      h.deadline .l8Patrol = some (s.hub.now + 96000) ∧ h.lane 8 = { s.hub.lane 8 with microcode := tgetD s.hub.dsp.images k [] } ∧
      (∀ m, m ≠ 8 → h.lane m = s.hub.lane m) ∧ { h with lanes := s.hub.lanes, dsp := s.hub.dsp, timers := s.hub.timers } = s.hub) ∧
  (∀ s : State, s.hub.patrolling = true → s.hub.armed .l8Patrol = true → s.hub.dsp.recheck = false → Answers .l8PatrolMismatch s fun h =>
      h.dsp = { s.hub.dsp with
        recheck := true, mismatchAt := (s.hub.onPosition s.hub.dsp.patrolLane).map (fun p => (p, (s.hub.proc p).newest)) } ∧
      { h with dsp := s.hub.dsp } = s.hub) ∧
  (∀ s : State, s.hub.dsp.recheck = true → Answers (.l8RecheckComplete .agreesWithLane) s fun h =>
      h.dsp = { s.hub.dsp with recheck := false, errors := if s.hub.dsp.errors < 65535 then s.hub.dsp.errors + 1 else 65535 } ∧
      { h with dsp := s.hub.dsp } = s.hub) ∧
  (∀ s : State, s.hub.dsp.recheck = true → Answers (.l8RecheckComplete .resultsDiffer) s fun h =>
      h.dsp = { s.hub.dsp with recheck := false, relief := 0xFE } ∧ h.causes 83 ∧ h.deadline .l8Patrol = none ∧
      { h with dsp := s.hub.dsp, timers := s.hub.timers, evDue := s.hub.evDue } = s.hub) ∧
  (∀ s : State, s.hub.dsp.recheck = true → s.hub.dsp.patrolLane < 8 → (s.hub.lane s.hub.dsp.patrolLane).retired = false →
    (s.hub.lane s.hub.dsp.patrolLane).faulty = false → s.hub.reportOnly = false → s.hub.dsp.takeover = none → s.hub.dsp.relief = 0xFF →
    Answers (.l8RecheckComplete .differsFromLane) s fun h =>
      (h.lane s.hub.dsp.patrolLane).faulty = true ∧ h.dsp.takeover = some s.hub.dsp.patrolLane ∧ h.dsp.recheck = false ∧
      { h with procs := s.hub.procs, lanes := s.hub.lanes, dsp := s.hub.dsp, timers := s.hub.timers } = s.hub)

/-! ## Relief slices and health (16) -/

/-- R343, R344, R346, R350: a window that meets a criterion marks the slice for its declaration at the next block boundary, with the cause of R360; a
reference fault and a total loss do so at once, and a lost input carries digital zero from that frame. -/
def Obligations.CriteriaMarkTheSlice : Prop :=
  (∀ s n l m x, isInput n = true → s.hub.judging (.input n) = true → Config.factoryNoise n 0 + s.hub.noiseMargin < l →
    Answers (.healthJudgement (.input n) (.noise (some l) m x)) s fun h =>
      { (h.input n).slice with dueCause := 0, noiseRunM := 0, noiseRunH := 0 } =
        { (s.hub.input n).slice with
          dueCause := 0, noiseRunM := 0, noiseRunH := 0, noiseL := l, noiseM := m.getD (s.hub.input n).slice.noiseM
          noiseH := x.getD (s.hub.input n).slice.noiseH, noiseRunL := (s.hub.input n).slice.noiseRunL + 1 } ∧
      (m = none → (h.input n).slice.noiseRunM = (s.hub.input n).slice.noiseRunM) ∧
      (∀ v, m = some v → (h.input n).slice.noiseRunM =
        if Config.factoryNoise n 1 + s.hub.noiseMargin < v then (s.hub.input n).slice.noiseRunM + 1 else 0) ∧
      (x = none → (h.input n).slice.noiseRunH = (s.hub.input n).slice.noiseRunH) ∧
      (∀ v, x = some v → (h.input n).slice.noiseRunH =
        if Config.factoryNoise n 2 + s.hub.noiseMargin < v then (s.hub.input n).slice.noiseRunH + 1 else 0) ∧
      (h.input n).slice.dueCause =
        (if 10 ≤ (h.input n).slice.noiseRunL ∨ 10 ≤ (h.input n).slice.noiseRunM ∨ 10 ≤ (h.input n).slice.noiseRunH
          then (s.hub.input n).slice.dueCause ||| 8 else (s.hub.input n).slice.dueCause) ∧
      { h.input n with slice := (s.hub.input n).slice } = s.hub.input n ∧
      (∀ k, k ≠ n → h.input k = s.hub.input k) ∧ { h with ins := s.hub.ins } = s.hub) ∧
  (∀ s n line, isInput n = true → s.hub.judging (.input n) = true → -14500 < line →
    Answers (.healthJudgement (.input n) (.tone line)) s fun h =>
      (h.input n).slice = { (s.hub.input n).slice with
        toneRun := (s.hub.input n).slice.toneRun + 1
        dueCause := if 2 ≤ (s.hub.input n).slice.toneRun then (s.hub.input n).slice.dueCause ||| 32 else (s.hub.input n).slice.dueCause } ∧
      (∀ k, k ≠ n → h.input k = s.hub.input k) ∧ { h with ins := s.hub.ins } = s.hub) ∧
  (∀ s n uv, isOutput n = true → s.hub.judging (.output n) = true → (s.hub.output n).cfg.mode = 1 →
    Answers (.healthJudgement (.output n) (.dc uv)) s fun h =>
      (h.output n).slice.dueCause =
        (if 5000 < uv.natAbs then (s.hub.output n).slice.dueCause ||| 8 else (s.hub.output n).slice.dueCause) ∧
      (∀ k, k ≠ n → h.output k = s.hub.output k) ∧ { h with outs := s.hub.outs } = s.hub) ∧
  (∀ s sl, isSlice sl = true → s.hub.judgeable sl = true → Answers (.sliceReferenceFault sl) s fun h =>
      h.slice sl = { s.hub.slice sl with dueCause := (s.hub.slice sl).dueCause ||| 2 } ∧
      (∀ k, k ≠ sl → h.slice k = s.hub.slice k) ∧ { h with ins := s.hub.ins, outs := s.hub.outs } = s.hub) ∧
  (∀ s n, isInput n = true → Answers (.sliceTotalLoss (.input n)) s fun h =>
      (h.input n).slice = { (s.hub.input n).slice with dueCause := (s.hub.input n).slice.dueCause ||| 256, totalLoss := true } ∧
      (h.input n).stream.gate = Fade.steady 0 ∧ (h.input n).lossZero = true ∧
      (∀ k, k ≠ n → h.input k = s.hub.input k) ∧ { h with ins := s.hub.ins } = s.hub) ∧
  (∀ s n, isOutput n = true → Answers (.sliceTotalLoss (.output n)) s fun h =>
      (h.output n).slice = { (s.hub.output n).slice with dueCause := (s.hub.output n).slice.dueCause ||| 256, totalLoss := true } ∧
      (∀ k, k ≠ n → h.output k = s.hub.output k) ∧ { h with outs := s.hub.outs } = s.hub) ∧
  (∀ s n, isInput n = true → (s.hub.input n).phantom.state = .off → Answers (.phantomLeak n) s fun h =>
      h.input n = { s.hub.input n with
        leak := true, slice := { (s.hub.input n).slice with cause := (s.hub.input n).slice.cause ||| 128 } } ∧ h.causes 83 ∧
      (∀ k, k ≠ n → h.input k = s.hub.input k) ∧ { h with ins := s.hub.ins, evDue := s.hub.evDue } = s.hub)

/-- R349 to R353: the relief front end of an input settles and its match runs 2 s, at most RELIEF_TIMEOUT; after a total loss the stream fades in at once;
the crossfade ends with the unit serving, the slice relieved and retired, its record queued and E80 or E81; a self-test passes or makes the unit
faulty. -/
def Obligations.ReliefRunsItsCourse : Prop :=
  (∀ s k n, k < 6 → (s.hub.relief (.irs k)).state = 1 → (s.hub.relief (.irs k)).serves = n → (s.hub.relief (.irs k)).direct = false →
    s.hub.due (.reliefSettle (.irs k)) = true →
    Answers (.reliefSettled (.irs k)) s fun h =>
      h.relief (.irs k) = { s.hub.relief (.irs k) with settled := true } ∧
      (h.input n).slice = { (s.hub.input n).slice with matchSince := some s.hub.now } ∧
      h.deadline (.reliefMatch (.irs k)) = some (s.hub.now + 2 * 96000) ∧
      h.deadline (.reliefTimeout (.irs k)) = some (s.hub.now + us (s.hub.live? 0xC000 3)) ∧ h.deadline (.reliefSettle (.irs k)) = none ∧
      (∀ m, m ≠ n → h.input m = s.hub.input m) ∧ { h with ins := s.hub.ins, irs := s.hub.irs, timers := s.hub.timers } = s.hub) ∧
  (∀ s k n, k < 6 → (s.hub.relief (.irs k)).state = 1 → (s.hub.relief (.irs k)).serves = n → (s.hub.relief (.irs k)).direct = true →
    isInput n = true → s.hub.due (.reliefSettle (.irs k)) = true →
    Answers (.reliefSettled (.irs k)) s fun h =>
      (h.relief (.irs k)).state = 2 ∧ (h.input n).slice.state = .crossfading ∧ (h.input n).lossZero = false ∧
      (h.input n).tandem.inactive = reliefFactory n ∧ (h.input n).tandem.swapReq = true ∧ (h.input n).tandem.swapFactory = true ∧
      (h.input n).stream.gate = (Fade.steady 0).to unity s.hub.now 960 ∧
      h.deadline (.reliefXfade (.irs k)) = some (s.hub.now + 10 * 96) ∧
      (∀ m, m ≠ n → h.input m = s.hub.input m) ∧ { h with ins := s.hub.ins, irs := s.hub.irs, timers := s.hub.timers } = s.hub) ∧
  (∀ s k n, k < 4 → (s.hub.relief (.ors k)).state = 1 → (s.hub.relief (.ors k)).serves = n → s.hub.due (.reliefSettle (.ors k)) = true →
    Answers (.reliefSettled (.ors k)) s fun h =>
      h.relief (.ors k) = { s.hub.relief (.ors k) with settled := true } ∧
      (h.output n).slice = { (s.hub.output n).slice with matchSince := some s.hub.now } ∧
      h.deadline (.reliefMatch (.ors k)) = some (s.hub.now + 2 * 96000) ∧
      (∀ m, m ≠ n → h.output m = s.hub.output m) ∧ { h with outs := s.hub.outs, ors := s.hub.ors, timers := s.hub.timers } = s.hub) ∧
  (∀ s k n, k < 6 → (s.hub.relief (.irs k)).state = 2 → (s.hub.relief (.irs k)).serves = n → isInput n = true →
    s.hub.due (.reliefXfade (.irs k)) = true →
    Answers (.reliefCrossfadeEnd (.irs k)) s fun h =>
      (h.relief (.irs k)).state = 3 ∧ (h.relief (.irs k)).since = s.hub.now ∧ (h.input n).slice.state = .relieved ∧
      (h.input n).slice.retired = true ∧ (h.input n).fe = .onRelief ∧ h.causes 80 ∧
      h.store.queue = s.hub.store.queue ++ (if (s.hub.input n).tandem.exclusions = 0 then [.retired false n] else [.exclusion n, .retired false n]) ∧
      (h.input n).tandem.exclusions = 0 ∧
      (∀ m, m ≠ n → h.input m = s.hub.input m) ∧
      { h with ins := s.hub.ins, irs := s.hub.irs, timers := s.hub.timers, evDue := s.hub.evDue, store := s.hub.store } = s.hub) ∧
  (∀ s k n, k < 4 → (s.hub.relief (.ors k)).state = 2 → (s.hub.relief (.ors k)).serves = n → s.hub.due (.reliefXfade (.ors k)) = true →
    Answers (.reliefCrossfadeEnd (.ors k)) s fun h =>
      (h.relief (.ors k)).state = 3 ∧ (h.output n).slice.state = .relieved ∧ (h.output n).slice.retired = true ∧ (h.output n).onRelief = true ∧
      h.causes 81 ∧ h.store.queue = s.hub.store.queue ++ [.retired true n] ∧
      (∀ m, m ≠ n → h.output m = s.hub.output m) ∧
      { h with outs := s.hub.outs, ors := s.hub.ors, timers := s.hub.timers, evDue := s.hub.evDue, store := s.hub.store } = s.hub) ∧
  (∀ s u, isUnit u = true → (s.hub.relief u).state = 6 → s.hub.due (.reliefTest u) = true → Answers (.reliefSelfTest u true) s fun h =>
      h.relief u = { s.hub.relief u with state := 0 } ∧ (∀ v, v ≠ u → h.relief v = s.hub.relief v) ∧
      { h with irs := s.hub.irs, ors := s.hub.ors, timers := s.hub.timers } = s.hub) ∧
  (∀ s u, isUnit u = true → (s.hub.relief u).state = 6 → s.hub.due (.reliefTest u) = true → Answers (.reliefSelfTest u false) s fun h =>
      h.relief u = { s.hub.relief u with state := 4, serves := 0 } ∧ h.causes 83 ∧ (∀ v, v ≠ u → h.relief v = s.hub.relief v) ∧
      { h with irs := s.hub.irs, ors := s.hub.ors, timers := s.hub.timers, evDue := s.hub.evDue } = s.hub)

/-- R27, R28, R356: an uncorrectable error raises E85, its word reads as zero in that frame, and its bank is retired, with E84, to a spare; a corrected
one raises E84 and is counted for an hour; the copy's end makes the switch due at the next block boundary. -/
def Obligations.SampleMemoryBanksRetire : Prop :=
  (∀ s b word, b < 12 → s.hub.sram.retired.testBit b = false → b ∉ s.hub.sram.copying → b ∉ s.hub.sram.switchDue → s.hub.sram.spares ≠ 0 →
    Answers (.sramError b (.uncorrectable word)) s fun h =>
      h.sram = { s.hub.sram with zeroed := withOne s.hub.sram.zeroed word, spares := s.hub.sram.spares - 1, copying := s.hub.sram.copying ++ [b] } ∧ h.causes 85 ∧ h.causes 84 ∧
      { h with sram := s.hub.sram, evDue := s.hub.evDue } = s.hub) ∧
  (∀ s b, b < 12 → ((tgetD s.hub.sram.corrected b []).filter (fun f => decide (s.hub.now < f + 345600000))).length < 16 →
    Answers (.sramError b .corrected) s fun h =>
      tgetD h.sram.corrected b [] = (tgetD s.hub.sram.corrected b []).filter (fun f => decide (s.hub.now < f + 345600000)) ++ [s.hub.now] ∧
      { h.sram with corrected := s.hub.sram.corrected } = s.hub.sram ∧ h.causes 84 ∧
      { h with sram := s.hub.sram, evDue := s.hub.evDue } = s.hub) ∧
  (∀ s b, b < 12 → b ∈ s.hub.sram.copying → Answers (.sramBankCopyDone b) s fun h =>
      h.sram.copying = s.hub.sram.copying.filter (fun x => decide (x ≠ b)) ∧ h.sram.switchDue = s.hub.sram.switchDue ++ [b] ∧ h.sram.retired = s.hub.sram.retired ∧
      { h with sram := s.hub.sram } = s.hub)

/-! ## Clocks (09) -/

/-- R204, R211 to R213, R218, R219: the loop. A phase sample of the detector goes through the loop filter and moves the steering at most at SLEW_LIMIT; a
second within the window locks the loop with E33; the eighth sample beyond five windows, a lost anchor, ten seconds at a limit and a failing crystal
take LOCKED away with E32. -/
def Obligations.ReinLoopFollowsItsAnchor : Prop :=
  (∀ s e port, s.hub.clk.sample = some e → s.hub.followed s.hub.clk.anchor port = true → s.hub.clk.running = true →
    s.hub.clk.xtalFail = false → s.hub.pwr.state = 0 → s.hub.anchorUsable = true →
    s.hub.clk.rein = 1 →
    Answers (.reinPhaseSample s.hub.clk.anchor port) s fun h =>
      h.clk.phaseError = e ∧ h.clk.rein = 1 ∧ h.clk.sample = none ∧ h.clk.steer = (s.hub.slewTo (s.hub.loopFilter e).1).clk.steer ∧
      { h with clk := s.hub.clk, timers := s.hub.timers } = s.hub) ∧
  (∀ s e port, s.hub.clk.sample = some e → s.hub.followed s.hub.clk.anchor port = true → s.hub.clk.running = true →
    s.hub.clk.xtalFail = false → s.hub.pwr.state = 0 → s.hub.anchorUsable = true →
    s.hub.clk.rein = 2 → phaseWithin e (5 * s.hub.lockWindow) = false → s.hub.clk.badSamples = 7 →
    Answers (.reinPhaseSample s.hub.clk.anchor port) s fun h =>
      h.clk.rein = 1 ∧ h.clk.phaseError = e ∧ h.clk.sample = none ∧ h.causes 32 ∧
      { h with clk := s.hub.clk, timers := s.hub.timers, evDue := s.hub.evDue } = s.hub) ∧
  (∀ s e port, s.hub.clk.sample = some e → s.hub.followed s.hub.clk.anchor port = true → s.hub.clk.running = true →
    s.hub.clk.xtalFail = false → s.hub.pwr.state = 0 → s.hub.anchorUsable = true →
    s.hub.clk.rein = 2 → phaseWithin e (5 * s.hub.lockWindow) = true →
    Answers (.reinPhaseSample s.hub.clk.anchor port) s fun h =>
      h.clk.rein = 2 ∧ h.clk.badSamples = 0 ∧ h.clk.phaseError = e ∧ h.clk.sample = none ∧
      h.clk.steer = (s.hub.slewTo (s.hub.loopFilter e).1).clk.steer ∧
      { h with clk := s.hub.clk, timers := s.hub.timers } = s.hub) ∧
  (∀ s anchor port, s.hub.clk.sample = none ∨ s.hub.followed anchor port = false →
    Answers (.reinPhaseSample anchor port) s fun h => h = s.hub) ∧
  (∀ s : State, s.hub.clk.rein = 1 → s.hub.due .reinLock = true → Answers .reinLock s fun h =>
      h.clk = { s.hub.clk with rein := 2, badSamples := 0, lockTime := s.hub.frameCount } ∧ h.causes 33 ∧ h.deadline .reinLock = none ∧
      { h with clk := s.hub.clk, timers := s.hub.timers, evDue := s.hub.evDue } = s.hub) ∧
  (∀ s : State, s.hub.clk.rein = 2 → s.hub.anchorUsable = true → s.hub.due .reinLimit = true → Answers .reinLimitEntry s fun h =>
      h.clk = { s.hub.clk with rein := 4, badSamples := 0, nearSince := none, narrowAt := none } ∧ h.causes 32 ∧ h.deadline .reinLimit = none ∧
      { h with clk := s.hub.clk, timers := s.hub.timers, evDue := s.hub.evDue } = s.hub) ∧
  (∀ s : State, s.hub.clk.rein = 2 → s.hub.anchorUsable = false → Answers .anchorLoss s fun h =>
      h.clk = { s.hub.clk with rein := 3, badSamples := 0, nearSince := none, narrowAt := none } ∧ h.causes 32 ∧
      { h with clk := s.hub.clk, timers := s.hub.timers, evDue := s.hub.evDue } = s.hub) ∧
  (∀ s : State, s.hub.clk.pllLocked = true → s.hub.clk.rein = 2 → Answers .xtalFailure s fun h =>
      h.clk = { s.hub.clk with xtalFail := true, pllLocked := false, rein := 3, badSamples := 0, nearSince := none, narrowAt := none } ∧ h.causes 32 ∧
      h.ext = { s.hub.ext with xinOk := false } ∧ h.deadline .storedHold = none ∧
      { h with clk := s.hub.clk, ext := s.hub.ext, timers := s.hub.timers, evDue := s.hub.evDue } = s.hub)

/-- R204, R219: without a crystal by 45 ms the PLL runs on STORED_HOLD and the loop stands in HOLDOVER with E32; once XIN is valid the loop starts again
towards its anchor and the hold value is stored after 60 s, then at most once an hour. That FRAME_COUNT starts at 45 ms in that case is the model's
reading (log 31). -/
def Obligations.CrystalAndHoldValue : Prop :=
  (∀ s : State, s.hub.boot.step = 3 → s.hub.framesRun = false → s.hub.ext.xinOk = false → Answers .clkXinStartTimeout s fun h =>
      h.clk = { s.hub.clk with bootHold := true, xtalFail := true, rein := 3 } ∧ h.causes 32 ∧
      { h with clk := s.hub.clk, evDue := s.hub.evDue } = s.hub) ∧
  (∀ s v, s.hub.clk.pllLocked = true → s.hub.due .storedHold = true → s.hub.supply.dip = false → Answers (.storedHoldStore v) s fun h =>
      h.clk = { s.hub.clk with storedHold := v, holdStoredAt := some s.hub.now } ∧
      h.store = { s.hub.store with queue := s.hub.store.queue ++ [.storedHold], e5Done := false } ∧
      h.deadline .storedHold = some (s.hub.now + 3600 * 96000) ∧
      { h with clk := s.hub.clk, store := s.hub.store, timers := s.hub.timers } = s.hub) ∧
  (∀ s : State, s.hub.clk.xtalFail = true → s.hub.clk.running = true → s.hub.clk.rein = 3 → Answers .xinRecovered s fun h =>
      h.clk = { s.hub.clk with
        xtalFail := false, bootHold := false, pllLocked := true, slewAt := s.hub.now, slewCredit := 0, sample := none, badSamples := 0
        nearSince := none, narrowAt := none, rein := if s.hub.clk.anchor = 0 then 0 else 1
        loop := if s.hub.clk.anchor = 0 then s.hub.clk.loop else Config.loopStart s.hub.clk.steer
        loopBw := if s.hub.clk.anchor = 0 then s.hub.clk.loopBw else max (s.hub.clockSetting 6) 500 } ∧
      h.ext = { s.hub.ext with xinOk := true } ∧
      h.deadline .storedHold = some (match s.hub.clk.holdStoredAt with
        | some f => max (s.hub.now + 60 * 96000) (f + 3600 * 96000)
        | none => s.hub.now + 60 * 96000) ∧
      { h with clk := s.hub.clk, ext := s.hub.ext, timers := s.hub.timers } = s.hub)

/-- R209, R216, R217: a period of WCKIN within 0.5 % of the mean of the last 16 joins them, and its edge gives the phase detector a sample; the fourth
period discarded in a row loses the clock with E34; a missed edge is a discarded period; a rate is found from 32 consistent periods and takes the
class within 1,000 ppm. -/
def Obligations.WordClockIsTracked : Prop :=
  (∀ s since tick, s.hub.wckinSeen = true → s.hub.clk.wck.present = false → Answers (.wckinEdge ⟨since, tick⟩) s fun h =>
      h.clk = { s.hub.clk with wck := { s.hub.clk.wck with periods := (since :: s.hub.clk.wck.periods).take 32 } } ∧
      { h with clk := s.hub.clk } = s.hub) ∧
  (∀ s since tick, s.hub.wckinSeen = true → s.hub.clk.wck.present = true → s.hub.clk.wck.spoiled = false →
    (2 * since * s.hub.clk.wck.periods.length + s.hub.clk.wck.periods.sum) / (2 * s.hub.clk.wck.periods.sum) = 1 →
    ((since * s.hub.clk.wck.periods.length : Nat) - (s.hub.clk.wck.periods.sum : Nat) : Int).natAbs * 200 ≤ s.hub.clk.wck.periods.sum →
    Answers (.wckinEdge ⟨since, tick⟩) s fun h =>
      h.clk = { s.hub.clk with
        wck := { s.hub.clk.wck with periods := (since :: s.hub.clk.wck.periods).take 16, run := s.hub.clk.wck.run + 1, missed := 0, spoiled := false }
        wckGlitched := s.hub.clk.wckGlitched || s.hub.clk.wckFresh, wckFresh := false
        wckNear := 4096 * s.hub.now + 4 * nearestTick s.hub.clk.wck.cls tick
        sample := if s.hub.clk.anchor = 1 then some (128 * ((nearestTick s.hub.clk.wck.cls tick : Int) - tick)) else s.hub.clk.sample } ∧
      { h with clk := s.hub.clk } = s.hub) ∧
  (∀ s : State, s.hub.clk.wck.present = true → s.hub.clk.wck.spoiled = false → s.hub.clk.wck.missed < 3 → s.hub.wckinSeen = true →
    Answers .wckinPeriodMissed s fun h =>
      h.clk = { s.hub.clk with wckFresh := true, wck := { s.hub.clk.wck with missed := s.hub.clk.wck.missed + 1 } } ∧
      { h with clk := s.hub.clk } = s.hub) ∧
  (∀ s : State, s.hub.clk.wck.present = true → s.hub.clk.wck.spoiled = false → 3 ≤ s.hub.clk.wck.missed → s.hub.clk.anchor = 1 →
    s.hub.clk.rein = 2 → s.hub.wckinSeen = true →
    Answers .wckinPeriodMissed s fun h =>
      h.clk.wck = {} ∧ h.clk.rein = 3 ∧ h.clk.steer = s.hub.clk.steer ∧ h.causes 34 ∧ h.causes 32 ∧
      { h with clk := s.hub.clk, timers := s.hub.timers, evDue := s.hub.evDue } = s.hub) ∧
  (∀ s rate, s.hub.clk.wck.present = false → consistent s.hub.clk.wck.periods = true → s.hub.clk.anchor ≠ 1 → s.hub.wckinSeen = true →
    Answers (.wckinRateFound rate) s fun h =>
      h.clk.wck.present = true ∧ h.clk.wck.rate = rate ∧ h.clk.wck.cls = classOf rate ∧
      (∀ c, h.clk.wck.cls = c → 1 ≤ c → c ≤ 7 → inClass rate c = true) ∧
      h.clk.repeatClass = (if isHouseClass (classOf rate) then classOf rate else s.hub.clk.repeatClass) ∧ { h with clk := s.hub.clk } = s.hub)

/-! ## Serial ports (10) -/

/-- R235 to R238: a slave locks on its second exact frame and begins its preamble; the fade-in of 2 ms starts once the preamble has run and the contexts
are locked, and ends in RUNNING; after the 16th flush frame the port stops and a START held meanwhile begins; a mask takes effect at its second frame.
-/
def Obligations.PortsStartAndStop : Prop :=
  (∀ s p, isPort p = true → (s.hub.port p).state = .waitClock → (s.hub.port p).measClass ≠ 0 → 2 ≤ (s.hub.port p).exactFrames →
    s.hub.padsHeld p = false → s.hub.boot.full = false →
    Answers (.portClockLock p) s fun h =>
      h.port p = { s.hub.port p with
        state := .preamble, preambleLeft := s.hub.portCfg p 0x0B, fade := Fade.steady 0, maskFrames := 0, synchronous := true
        pins := { (s.hub.port p).pins with phase := 0 }, din := { (s.hub.port p).din with fill := 131072 }
        dout := { (s.hub.port p).dout with fill := 131072 } } ∧
      (∀ q, q ≠ p → h.port q = s.hub.port q) ∧ { h with ports := s.hub.ports } = s.hub) ∧
  (∀ s p, isPort p = true → (s.hub.port p).state = .waitClock → (s.hub.port p).measClass ≠ 0 → 2 ≤ (s.hub.port p).exactFrames →
    s.hub.padsHeld p = false → s.hub.isSyncSlave p = true → s.hub.syncAllowed p = true → (s.hub.port p).reserve = false →
    Answers (.portClockLock p) s fun h =>
      (h.port p).state = .preamble ∧ (h.port p).synchronous = true ∧ (h.port p).onAsrc = false ∧
      (∀ q, q ≠ p → h.port q = s.hub.port q) ∧ { h with ports := s.hub.ports, asrc := s.hub.asrc, timers := s.hub.timers } = s.hub) ∧
  (∀ s p, isPort p = true → (s.hub.port p).state = .preamble → (s.hub.port p).preambleLeft = 0 → s.hub.allLocked p = true →
    (s.hub.port p).rateFault = false →
    Answers (.portPreambleEnd p) s fun h =>
      h.port p = { s.hub.port p with state := .fadeIn, fade := { m0 := 0, m1 := unity, t0 := s.hub.now, len := 192 } } ∧
      h.deadline (.portFade p) = some (s.hub.now + 192) ∧
      (∀ q, q ≠ p → h.port q = s.hub.port q) ∧ { h with ports := s.hub.ports, timers := s.hub.timers } = s.hub) ∧
  (∀ s p, isPort p = true → (s.hub.port p).state = .fadeIn → s.hub.due (.portFade p) = true → Answers (.portFadeInEnd p) s fun h =>
      h.port p = { s.hub.port p with state := .running } ∧ h.deadline (.portFade p) = none ∧
      (∀ q, q ≠ p → h.port q = s.hub.port q) ∧ { h with ports := s.hub.ports, timers := s.hub.timers } = s.hub) ∧
  (∀ s p, isPort p = true → (s.hub.port p).state = .flush → (s.hub.port p).flushLeft = 0 → s.hub.cap.state ≠ 2 → s.hub.isAnchorPort p = false →
    Answers (.portFlushEnd p) s fun h =>
      (h.port p).state = .stopped ∧ (h.port p).startDue = ((s.hub.port p).startDue || (s.hub.port p).startHeld) ∧ (h.port p).startHeld = false ∧
      (h.port p).onAsrc = false ∧ h.deadline (.portFade p) = none ∧ h.ctxsOf p = [] ∧
      (∀ q, q ≠ p → h.port q = s.hub.port q) ∧ { h with ports := s.hub.ports, asrc := s.hub.asrc, timers := s.hub.timers } = s.hub) ∧
  (∀ s p, isPort p = true → (s.hub.port p).maskPending = true → 1 ≤ (s.hub.port p).maskFrames → Answers (.maskApply p) s fun h =>
      (h.port p).din.mask = s.hub.accepted (portIdx p) 0x0E ∧ (h.port p).dout.mask = s.hub.accepted (portIdx p) 0x0F ∧
      (h.port p).maskPending = false ∧ (h.port p).maskEventDue = true ∧ (h.port p).state = (s.hub.port p).state ∧
      (∀ q, q ≠ p → h.port q = s.hub.port q) ∧ { h with ports := s.hub.ports } = s.hub)

/-- R226, R232, R238 to R241: a slave port that loses its clock fades out over 1 ms and waits; a new rate class is recorded and raises E(16 + p); in
WAIT_CLOCK exact frames are counted; an exact frame brings its captured words into the FIFO; a raw slip turns the channels, raising E38 once. -/
def Obligations.PortsFollowTheirPins : Prop :=
  (∀ s p, isPort p = true → s.hub.isMaster p = false → (s.hub.port p).state = .running → (s.hub.port p).measClass ≠ 0 → s.hub.cap.state ≠ 2 →
    s.hub.isAnchorPort p = false →
    Answers (.portClockLoss p) s fun h =>
      (h.port p).state = .waitClock ∧ (h.port p).fade = (s.hub.port p).fade.to 0 s.hub.now 96 ∧ (h.port p).measClass = 0 ∧
      (h.port p).rateMeas = 0 ∧ (h.port p).cause = (s.hub.port p).cause ||| 1 ∧ (h.port p).dout.frames = [] ∧ h.causes (16 + p) ∧
      (∀ q, q ≠ p → h.port q = s.hub.port q) ∧ { h with ports := s.hub.ports, timers := s.hub.timers, evDue := s.hub.evDue } = s.hub) ∧
  (∀ s p rate, isPort p = true → s.hub.padsHeld p = false → s.hub.isMaster p = false → rate ≠ 0 → (s.hub.port p).state = .stopped →
    (s.hub.port p).track.ready = true → classOf rate ≠ (s.hub.port p).measClass →
    Answers (.portRateChange p rate) s fun h =>
      h.port p = { s.hub.port p with
        rateMeas := rate, measClass := classOf rate, cause := (s.hub.port p).cause ||| 1, track := (s.hub.port p).track.found rate } ∧ h.causes (16 + p) ∧
      (∀ q, q ≠ p → h.port q = s.hub.port q) ∧ { h with ports := s.hub.ports, evDue := s.hub.evDue } = s.hub) ∧
  (∀ s p rate, isPort p = true → s.hub.padsHeld p = false → s.hub.isMaster p = false → rate ≠ 0 → (s.hub.port p).state = .running →
    (s.hub.port p).track.ready = true → classOf rate = (s.hub.port p).measClass → s.hub.rateFaulty p rate (classOf rate) = true →
    Answers (.portRateChange p rate) s fun h =>
      h.port p = { s.hub.port p with
        rateMeas := rate, rateFault := true, fade := Fade.steady 0, track := (s.hub.port p).track.found rate } ∧
      (∀ q, q ≠ p → h.port q = s.hub.port q) ∧ { h with ports := s.hub.ports } = s.hub) ∧
  (∀ s p f frame, isPort p = true → s.hub.padsHeld p = false → s.hub.isMaster p = false → (s.hub.port p).state = .waitClock →
    (s.hub.port p).measClass ≠ 0 → (s.hub.port p).track.present = false →
    (s.hub.format p).aligned (s.hub.port p).pins.fsBefore (f.periods.map (s.hub.format p).sampled) = frame → frame ≠ [] →
    Answers (.portFrame p f) s fun h =>
      (h.port p).exactFrames =
        (if (s.hub.format p).whole (s.hub.port p).pins.fsBefore frame ((s.hub.format p).sampled f.after).1 then (s.hub.port p).exactFrames + 1 else 0) ∧
      (h.port p).track = ((s.hub.port p).track.edge f.sinceNs).1 ∧ (h.port p).din = (s.hub.port p).din ∧ (h.port p).dout = (s.hub.port p).dout ∧
      (h.port p).state = .waitClock ∧
      (∀ q, q ≠ p → h.port q = s.hub.port q) ∧ { h with ports := s.hub.ports } = s.hub) ∧
  (∀ s p f frame, isPort p = true → s.hub.padsHeld p = false → s.hub.isMaster p = false → (s.hub.port p).state = .running →
    s.hub.portCfg p 0x0A = 0 → (s.hub.port p).synchronous = false → (s.hub.port p).track.present = false → (s.hub.port p).maskPending = false →
    s.hub.isAnchorPort p = false → s.hub.cap.state = 0 →
    (s.hub.format p).aligned (s.hub.port p).pins.fsBefore (f.periods.map (s.hub.format p).sampled) = frame → frame ≠ [] →
    (s.hub.format p).whole (s.hub.port p).pins.fsBefore frame ((s.hub.format p).sampled f.after).1 = true →
    32768 < (s.hub.port p).din.fill → (s.hub.port p).din.fill < 229376 → (s.hub.port p).dout.mask = 0 →
    Answers (.portFrame p f) s fun h =>
      (h.port p).din = { (s.hub.port p).din with
        frames := pushFrame ((channelsOf (s.hub.compact p) (s.hub.port p).din.mask).map (fun e => (e.2, (s.hub.format p).word
          ((frame ++ [(s.hub.format p).sampled f.after]).map (·.2)) (shifted (s.hub.portCfg p 4) e.1 (s.hub.port p).din.shift)))) (s.hub.port p).din.frames } ∧
      (h.port p).state = .running ∧ (h.port p).dout.fill = (s.hub.port p).dout.fill ∧ h.draws = s.hub.draws + 1 ∧
      (∀ q, q ≠ p → h.port q = s.hub.port q) ∧ { h with ports := s.hub.ports, draws := s.hub.draws } = s.hub) ∧
  (∀ s p dropped, isPort p = true → s.hub.portCfg p 0x0A = 1 → (s.hub.port p).state = .running → (s.hub.port p).din.mask ≠ 0 →
    (s.hub.port p).alignLost = false → (s.hub.port p).din.slips < 65534 → s.hub.cap.port ≠ p →
    (if dropped then 229376 ≤ (s.hub.port p).din.fill else (s.hub.port p).din.fill ≤ 32768) →
    Answers (.rawWordSlip p false dropped) s fun h =>
      (h.port p).din = { (s.hub.port p).din with
        slips := (s.hub.port p).din.slips + 1, slippedNow := true
        shift := if dropped then (s.hub.port p).din.shift + 1 else (s.hub.port p).din.shift - 1
        fill := if dropped then (s.hub.port p).din.fill - 65536 / s.hub.portCfg p 4 else (s.hub.port p).din.fill + 65536 / s.hub.portCfg p 4 } ∧
      (h.port p).alignLost = true ∧ (h.port p).cause = (s.hub.port p).cause ||| 8 ∧ h.causes 38 ∧
      (∀ q, q ≠ p → h.port q = s.hub.port q) ∧ { h with ports := s.hub.ports, evDue := s.hub.evDue } = s.hub)

/-! ## Rate conversion (11) -/

/-- R253, R254, R258: a claimed context locks and its channel fades in over 2 ms; a relock fades out over 1 ms and carries zero for 20 ms more, but waits
for the end of a hand-over; a hand-over toward the contexts leaves them locked, one back to the fixed-ratio path releases them. -/
def Obligations.ContextsLockAndRelock : Prop :=
  (∀ s k, isCtx k = true → (s.hub.ctx k).state = .acquiring → s.hub.due (.contextLock k) = true → s.hub.lockable (s.hub.ctx k).port = true →
    (s.hub.port (s.hub.ctx k).port).state = .running → (s.hub.port (s.hub.ctx k).port).synchronous = false →
    (s.hub.port (s.hub.ctx k).port).chanFade = [] →
    Answers (.asrcContextLock k) s fun h =>
      h.ctx k = { s.hub.ctx k with
        state := .locked, fade := { m0 := (s.hub.ctx k).fade.at (s.hub.now - 1), m1 := unity, t0 := s.hub.now, len := 192 } } ∧
      h.deadline (.contextLock k) = none ∧ (∀ j, j ≠ k → h.ctx j = s.hub.ctx j) ∧
      { h with asrc := s.hub.asrc, timers := s.hub.timers } = s.hub) ∧
  (∀ s k, isCtx k = true → (s.hub.ctx k).state = .relocking → s.hub.due (.contextLock k) = true → s.hub.lockable (s.hub.ctx k).port = true →
    Answers (.asrcContextLock k) s fun h =>
      (h.ctx k).state = .locked ∧ (∀ j, j ≠ k → h.ctx j = s.hub.ctx j) ∧
      { h with asrc := s.hub.asrc, ports := s.hub.ports, timers := s.hub.timers } = s.hub) ∧
  (∀ s k, isCtx k = true → (s.hub.ctx k).state = .locked → Answers (.asrcRelock k) s fun h =>
      h.ctx k = { s.hub.ctx k with state := .relocking, relockDue := false, fade := (s.hub.ctx k).fade.to 0 s.hub.now 96 } ∧
      h.deadline (.contextLock k) = some (s.hub.now + 21 * 96) ∧ (∀ j, j ≠ k → h.ctx j = s.hub.ctx j) ∧
      { h with asrc := s.hub.asrc, timers := s.hub.timers } = s.hub) ∧
  (∀ s k, isCtx k = true → (s.hub.ctx k).state = .handover → Answers (.asrcRelock k) s fun h =>
      h.ctx k = { s.hub.ctx k with relockDue := true } ∧ (∀ j, j ≠ k → h.ctx j = s.hub.ctx j) ∧ { h with asrc := s.hub.asrc } = s.hub) ∧
  (∀ s p, isPort p = true → s.hub.due (.handover p) = true → s.hub.towardAsrc p = true →
    Answers (.asrcHandoverEnd p) s fun h =>
      (h.port p).handover = false ∧ h.deadline (.handover p) = none ∧
      (∀ k, k ∈ s.hub.ctxsOf p → (s.hub.ctx k).state = .handover → (s.hub.ctx k).relockDue = false →
        h.ctx k = { s.hub.ctx k with state := .locked, weight := Fade.steady unity }) ∧
      (∀ q, q ≠ p → h.port q = s.hub.port q) ∧ { h with ports := s.hub.ports, asrc := s.hub.asrc, timers := s.hub.timers } = s.hub) ∧
  (∀ s p, isPort p = true → s.hub.due (.handover p) = true → s.hub.towardAsrc p = false → (s.hub.port p).reserve = false →
    Answers (.asrcHandoverEnd p) s fun h =>
      h.port p = { s.hub.port p with handover := false, onAsrc := false, chanFade := [] } ∧ h.ctxsOf p = [] ∧ h.asrc.contexts = s.hub.asrc.contexts ∧
      (∀ q, q ≠ p → h.port q = s.hub.port q) ∧ { h with ports := s.hub.ports, asrc := s.hub.asrc, timers := s.hub.timers } = s.hub)

/-! ## The non-volatile store (12) -/

/-- R276 to R278, R357: an auto-store joins the queue; a verified row of its object makes the accepted value the stored one and frees the queue; a row
that fails its verification, or has been written nine tenths of its rating, moves to a spare with E86, and without a spare is not written; the last
row of a STORE readies its result. That each object has one row is the model's choice (log 32). -/
def Obligations.StoreWritesItsRows : Prop :=
  (∀ s idx sub, (idx ≠ 0xA000 ∨ sub ≠ 2) → s.hub.autoReady (key idx sub) = true → s.hub.supply.dip = false → Answers (.autoStore idx sub) s fun h =>
      h.store = { s.hub.store with queue := s.hub.store.queue ++ [.auto (key idx sub)], e5Done := false } ∧ { h with store := s.hub.store } = s.hub) ∧
  (∀ s spareFails k rest, s.hub.rowsRun = true → s.hub.store.queue = .auto k :: rest → s.hub.upd.armWait = false →
    tgetD s.hub.ext.rowWrites k 0 + 1 < 900000000 →
    Answers (.storeRowWritten true spareFails) s fun h =>
      h.nv = tput s.hub.nv k (s.hub.valueOf k) ∧
      h.ext = { s.hub.ext with rowWrites := tput s.hub.ext.rowWrites k (tgetD s.hub.ext.rowWrites k 0 + 1) } ∧
      h.store = { s.hub.store with
        queue := rest, rows := none, headFailed := false, started := false, lastStore := s.hub.frameCount
        storedAt := tput s.hub.store.storedAt k s.hub.now } ∧
      { h with nv := s.hub.nv, store := s.hub.store, ext := s.hub.ext } = s.hub) ∧
  (∀ s verified spareFails k rest, s.hub.rowsRun = true → s.hub.store.queue = .auto k :: rest → s.hub.upd.armWait = false →
    9 + spareFails < s.hub.store.spareRows →
    (verified = false ∨ 900000000 ≤ tgetD s.hub.ext.rowWrites k 0 + 1) →
    Answers (.storeRowWritten verified spareFails) s fun h =>
      h.nv = tput s.hub.nv k (s.hub.valueOf k) ∧ h.store.spareRows = s.hub.store.spareRows - 1 - spareFails ∧ h.store.queue = rest ∧ h.causes 86 ∧
      h.ext = { s.hub.ext with rowWrites := tput s.hub.ext.rowWrites k 1 } ∧
      { h with nv := s.hub.nv, store := s.hub.store, evDue := s.hub.evDue, ext := s.hub.ext } = s.hub) ∧
  (∀ s spareFails k rest, s.hub.rowsRun = true → s.hub.store.queue = .auto k :: rest → s.hub.upd.armWait = false →
    s.hub.store.spareRows ≤ spareFails →
    Answers (.storeRowWritten false spareFails) s fun h =>
      h.nv = s.hub.nv ∧ h.store.fails = (if s.hub.store.fails < 65535 then s.hub.store.fails + 1 else 65535) ∧ h.store.queue = rest ∧
      h.store.spareRows = 0 ∧ (s.hub.store.spareRows = 0 → h.evDue = s.hub.evDue) ∧
      { h with store := s.hub.store, ext := s.hub.ext, evDue := s.hub.evDue } = s.hub) ∧
  (∀ s spareFails w k rest, s.hub.rowsRun = true → s.hub.store.queue = .command w :: rest → s.hub.store.rows = some [k] → s.hub.store.headFailed = false →
    s.hub.upd.armWait = false → (s.hub.mailbox w).waiting = .store → tgetD s.hub.ext.rowWrites k 0 + 1 < 900000000 →
    Answers (.storeRowWritten true spareFails) s fun h =>
      h.nv = tput s.hub.nv k (s.hub.valueOf k) ∧ h.store.queue = rest ∧
      h.mailbox w = { s.hub.mailbox w with waiting := .none, outcome := some (0, 0, []) } ∧
      { h with nv := s.hub.nv, store := s.hub.store, ext := s.hub.ext, mailTwi := s.hub.mailTwi, mailTether := s.hub.mailTether } = s.hub)

/-! ## The supervisor (01) -/

/-- R23, R24: the watchdog stops the managing layer: commands begun end with abort 0x08, held batches are lost and the sessions pause; a restart serves
the claims held meanwhile, drops edits outside an accepted commit, runs the sessions on and raises E12. The audio state stays as it is. -/
def Obligations.SupervisorRestarts : Prop :=
  (∀ s : State, s.hub.sup.running = true → s.hub.sup.restarting = false → s.hub.upd.state = 0 → s.hub.pwr.state = 0 → s.hub.pwr.stable = false →
    Answers (.supervisorWatchdogExpiry true) s fun h =>
      h.sup.restarting = true ∧ h.boot = { s.hub.boot with resetFlags := s.hub.boot.resetFlags ||| 256 } ∧ (∀ k, k < 8 → (h.host k).held = []) ∧
      (∀ k, k < 8 → h.deadline (.session k) = none) ∧
      (∀ w, isWho w = true → (s.hub.mailbox w).result = 1 → (s.hub.mailbox w).outcome = none → (s.hub.mailbox w).waiting = .none →
        (h.mailbox w).result = 3 ∧ (h.mailbox w).abort = 8) ∧
      (∀ w, isWho w = true → (s.hub.mailbox w).result ≠ 1 → h.mailbox w = s.hub.mailbox w) ∧
      { h with sup := s.hub.sup, boot := s.hub.boot, hosts := s.hub.hosts, timers := s.hub.timers, mailTwi := s.hub.mailTwi
               mailTether := s.hub.mailTether, tet := s.hub.tet } = s.hub) ∧
  (∀ s : State, s.hub.sup.restarting = true → s.hub.upd.state ≠ 6 → s.hub.upd.everything = false → s.hub.sup.heldClaims = [] →
    Answers .supervisorRestartComplete s fun h =>
      h.sup = { s.hub.sup with restarting := false, heldClaims := [] } ∧ h.causes 12 ∧
      (∀ e, e ∈ h.shadow ↔ e ∈ s.hub.shadow ∧ (s.hub.host e.2.2).commitState ≠ 0) ∧
      (s.hub.pwr.state ≠ 1 → s.hub.pwr.progress ≠ 3 → s.hub.pwr.stable = false → ∀ k n, k < 8 → (s.hub.host k).pausedLeft = some n →
        h.deadline (.session k) = some (s.hub.now + n)) ∧
      { h with sup := s.hub.sup, shadow := s.hub.shadow, hosts := s.hub.hosts, timers := s.hub.timers, twi := s.hub.twi
               evDue := s.hub.evDue } = s.hub)

/-! ## The two-wire port (13) -/

/-- R286, R287, R290, R297 to R299: a START with the hub's address opens its view, and a read of n bytes sends n and moves the pointer by n inside the
view; a STOP after a pointer alone moves the pointer, after one byte alone is a protocol error; a commit of 0xA5 or of LAMP_TEST acts; CLAIM acts
whole. That one row stands for the START and one for the STOP is the model's choice (log 39). -/
def Obligations.TwoWireTransactions : Prop :=
  (∀ s n, s.hub.twi.brstLow = false → s.hub.pwr.stable = false → 6 ≤ s.hub.boot.step → s.hub.pwr.progress ≠ 3 → s.hub.twi.adr < 8 →
    s.hub.boot.factoryTest = false →
    Answers (.twiAddressMatch (0x30 + s.hub.twi.adr) false n) s fun h =>
      h.twi.open_ = .main ∧ h.twi.reading = false ∧ h.twi.sent = [] ∧ h.twi.pointer = s.hub.twi.pointer ∧
      { h with twi := s.hub.twi, pwr := s.hub.pwr, timers := s.hub.timers } = s.hub) ∧
  (∀ s n, s.hub.twi.brstLow = false → s.hub.pwr.stable = false → 6 ≤ s.hub.boot.step → s.hub.pwr.progress ≠ 3 → s.hub.twi.adr < 8 →
    s.hub.boot.factoryTest = false →
    Answers (.twiAddressMatch (0x30 + s.hub.twi.adr) true n) s fun h =>
      h.twi.open_ = .main ∧ h.twi.reading = true ∧ h.twi.sent.length = n ∧
      h.twi.pointer = 8192 * (s.hub.twi.pointer / 8192) + (s.hub.twi.pointer % 8192 + n) % 8192 ∧
      { h with twi := s.hub.twi, pwr := s.hub.pwr, timers := s.hub.timers, hosts := s.hub.hosts } = s.hub) ∧
  (∀ s n, s.hub.twi.brstLow = false → s.hub.pwr.stable = false → 6 ≤ s.hub.boot.step → s.hub.pwr.progress ≠ 3 → s.hub.twi.adr < 8 →
    s.hub.boot.factoryTest = false →
    Answers (.twiAddressMatch (0x38 + s.hub.twi.adr) true n) s fun h =>
      h.twi.open_ = .quick ∧ h.twi.sent.length = n ∧ h.twi.quickPointer = (s.hub.twi.quickPointer + n) % 64 ∧
      { h with twi := s.hub.twi, pwr := s.hub.pwr, timers := s.hub.timers } = s.hub) ∧
  (∀ s a b, s.hub.twoWireServes = true → s.hub.twi.open_ = .main → s.hub.twi.reading = false → Answers (.twiStopCommit [a, b]) s fun h =>
      h.twi.open_ = .none ∧ h.twi.pointer = 8192 * (a.toNat / 32) + (256 * (a.toNat % 32) + b.toNat) ∧
      { h with twi := s.hub.twi, pwr := s.hub.pwr, timers := s.hub.timers, hosts := s.hub.hosts } = s.hub) ∧
  (∀ s a, s.hub.twoWireServes = true → s.hub.twi.open_ = .main → s.hub.twi.reading = false → Answers (.twiStopCommit [a]) s fun h =>
      h.twi.open_ = .none ∧ h.twi.lastError = 3 ∧ h.twi.pointer = s.hub.twi.pointer ∧ h.causes 96 .twoWire ∧
      { h with twi := s.hub.twi, pwr := s.hub.pwr, timers := s.hub.timers, evDue := s.hub.evDue } = s.hub) ∧
  (∀ s : State, s.hub.twoWireServes = true → s.hub.twi.open_ = .quick → s.hub.twi.reading = false → s.hub.twi.panic = false →
    Answers (.twiStopCommit [0x30#8, 0xA5#8]) s fun h =>
      h.twi.panic = true ∧ h.twi.quickPointer = 0x31 ∧
      { h with twi := s.hub.twi, pwr := s.hub.pwr, timers := s.hub.timers, outs := s.hub.outs, hps := s.hub.hps, spk := s.hub.spk } = s.hub) ∧
  (∀ s k hi lo, s.hub.twoWireServes = true → s.hub.twi.open_ = .main → s.hub.twi.reading = false → k < 8 →
    (s.hub.host k).claimed = false → s.hub.sup.restarting = false → 256 * hi.toNat + lo.toNat ≠ 0 →
    Answers (.twiStopCommit [BitVec.ofNat 8 (32 * k), 0x10#8, hi, lo, 0#8, 1#8]) s fun h =>
      (h.host k).claimed = true ∧ (h.host k).tag = 256 * hi.toNat + lo.toNat ∧ (h.host k).result = 1 ∧ (h.host k).onTwoWire = true ∧
      (∀ j, j ≠ k → h.host j = s.hub.host j) ∧
      { h with twi := s.hub.twi, pwr := s.hub.pwr, timers := s.hub.timers, hosts := s.hub.hosts } = s.hub)

/-- R290, R292, R293: a protocol error discards what was staged, sets LAST_ERROR, counts and raises E96 for the two-wire hosts; BRST_N low and a bus
timeout reset the port state machine, set its pointers to 0 and raise E97; the rise of BRST_N lets it serve again. R300, R302: on a won alert response
the hub sends its address and releases ALERT_N until ALERT_REPEAT, when it asserts it again while unmasked events remain; on a lost one ALERT_N stays
asserted; a host access in Watch ungates the clocks until 50 ms after it with no command running. -/
def Obligations.TwoWireFaultsAndAlerts : Prop :=
  (∀ s code, 1 ≤ code → code ≤ 3 → s.hub.twoWireServes = true → Answers (.twiProtocolError code) s fun h =>
      h.twi = { s.hub.twi with
        open_ := .none, reading := false, lastError := code
        protocolErrors := if s.hub.twi.protocolErrors < 65535 then s.hub.twi.protocolErrors + 1 else 65535 } ∧
      h.causes 96 .twoWire ∧ { h with twi := s.hub.twi, pwr := s.hub.pwr, timers := s.hub.timers, evDue := s.hub.evDue } = s.hub) ∧
  (∀ s : State, s.hub.twi.brstLow = false → Answers .brstNReset s fun h =>
      h.twi = { s.hub.twi with
        open_ := .none, reading := false, stretched := none, pointer := 0, quickPointer := 0, lastError := 5, brstLow := true
        busResets := if s.hub.twi.busResets < 65535 then s.hub.twi.busResets + 1 else 65535 } ∧
      h.causes 97 .twoWire ∧ { h with twi := s.hub.twi, evDue := s.hub.evDue } = s.hub) ∧
  (∀ s : State, Answers .brstNRelease s fun h =>
      h.twi = { s.hub.twi with brstLow := false } ∧ { h with twi := s.hub.twi } = s.hub) ∧
  (∀ s : State, s.hub.timeoutOn = true → s.hub.twoWireServes = true → Answers .busTimeout s fun h =>
      h.twi = { s.hub.twi with
        open_ := .none, reading := false, stretched := none, pointer := 0, quickPointer := 0, lastError := 4
        busResets := if s.hub.twi.busResets < 65535 then s.hub.twi.busResets + 1 else 65535 } ∧
      h.causes 97 .twoWire ∧ { h with twi := s.hub.twi, evDue := s.hub.evDue } = s.hub) ∧
  (∀ s : State, s.hub.twoWireServes = true → s.hub.twi.alertState = 1 → Answers (.alertResponse false) s fun h =>
      h.twi = { s.hub.twi with
        sent := [BitVec.ofNat 8 (2 * (0x30 + s.hub.twi.adr))], alertState := 2, araWins := (s.hub.twi.araWins + 1) % 4294967296 } ∧
      h.deadline .alertRepeat =
        (if s.hub.live? 0xE000 4 = 0 then none else some (s.hub.now + us (s.hub.live? 0xE000 4))) ∧
      { h with twi := s.hub.twi, timers := s.hub.timers } = s.hub) ∧
  (∀ s : State, s.hub.twoWireServes = true → s.hub.twi.alertState = 1 → Answers (.alertResponse true) s fun h =>
      h.twi = { s.hub.twi with sent := [BitVec.ofNat 8 (2 * (0x30 + s.hub.twi.adr))] } ∧ { h with twi := s.hub.twi } = s.hub) ∧
  (∀ s : State, s.hub.due .alertRepeat = true → Answers .alertRepeat s fun h =>
      h.twi = { s.hub.twi with alertState := if s.hub.twoWireAlerting then 1 else 0 } ∧ h.deadline .alertRepeat = none ∧
      { h with twi := s.hub.twi, timers := s.hub.timers } = s.hub) ∧
  (∀ s : State, s.hub.pwr.state = 1 → Answers .watchHostAccess s fun h =>
      h.pwr = { s.hub.pwr with hostGate := true } ∧ h.deadline .watchRegate = some (s.hub.now + 50 * 96) ∧
      { h with pwr := s.hub.pwr, timers := s.hub.timers } = s.hub) ∧
  (∀ s : State, s.hub.commandRuns = false → s.hub.due .watchRegate = true → Answers .watchClockRegate s fun h =>
      h.pwr = { s.hub.pwr with hostGate := false } ∧ h.deadline .watchRegate = none ∧
      { h with pwr := s.hub.pwr, timers := s.hub.timers } = s.hub)

/-! ## The Tether link (14) -/

/-- R306 to R308, R311: a link that comes up or goes down is recorded with E100 or E101; a whole frame for another hub goes on out of the other port; a
faulty frame for this hub is dropped and counted; one that ends in ABORT_END changes nothing; an ordered echo request is answered ahead of every
frame. That FRAME_RECEIVE handles a frame in full is the model's choice (log 41). -/
def Obligations.TetherLinksAndFrames : Prop :=
  (∀ s p, s.hub.tet.on = true → s.hub.pwr.stable = false → 6 ≤ s.hub.boot.step → s.hub.linkUp p = false → s.hub.tet.address = 0xFF →
    Answers (.tetherLinkChange p true) s fun h =>
      h.linkUp p = true ∧ h.linkUp (otherPort p) = s.hub.linkUp (otherPort p) ∧ h.tet.tx = s.hub.tet.tx ∧
      h.causes (if p = .up then 100 else 101) ∧ { h with tet := s.hub.tet, evDue := s.hub.evDue } = s.hub) ∧
  (∀ s p, s.hub.linkUp p = true → s.hub.tet.address = 0xFF → Answers (.tetherLinkChange p false) s fun h =>
      h.linkUp p = false ∧ (∀ f, f ∈ h.tet.tx ↔ f ∈ s.hub.tet.tx ∧ f.port ≠ p) ∧
      h.causes (if p = .up then 100 else 101) ∧ { h with tet := s.hub.tet, evDue := s.hub.evDue } = s.hub) ∧
  (∀ s p bs a, s.hub.receives p = true → frameOk bs = true → isHeldRoll p bs = false → frameAt bs 0 ≠ 63 → s.hub.isOwn (frameAt bs 0) = false →
    s.hub.linkUp (otherPort p) = true → s.hub.transmits = true → s.hub.tet.tx = [] → s.hub.bursting = false →
    Answers (.tetherFrameReceive p ⟨bs, .eof, a⟩) s fun h =>
      h.tet = { s.hub.tet with
        tx := [{ port := otherPort p, kind := .forwarded, bytes := bs, left := 24 * (bs.length + 2), started := true }] } ∧
      { h with tet := s.hub.tet } = s.hub) ∧
  (∀ s p bs a, s.hub.receives p = true → s.hub.isOwn (frameAt bs 0) = true → Answers (.tetherFrameReceive p ⟨bs, .violation, a⟩) s fun h =>
      h.tet = { s.hub.tet with
        crcErrors := if s.hub.tet.crcErrors < 4294967295 then s.hub.tet.crcErrors + 1 else 4294967295 } ∧
      h.deadline (.episode .tetherCrc) = some (s.hub.now + 96000) ∧ (s.hub.armed (.episode .tetherCrc) = false → h.causes 105) ∧
      { h with tet := s.hub.tet, timers := s.hub.timers, evDue := s.hub.evDue } = s.hub) ∧
  (∀ s p bs a, Answers (.tetherFrameReceive p ⟨bs, .abortEnd, a⟩) s fun h => h = s.hub) ∧
  (∀ s p, s.hub.receives p = true → s.hub.transmits = true → Answers (.echoReq p) s fun h =>
      h.tet = { s.hub.tet with tx := { port := p, kind := .echoRsp, bytes := [], left := 48, started := true } :: s.hub.tet.tx } ∧
      { h with tet := s.hub.tet } = s.hub)

/-- R322, R323: a READ or WRITE frame for this hub starts the command of its host number; a RESET of an Installer's session resets the hub 1 ms later, one
of another session does not; the first data of an image by BULK opens a transfer; an events NOTIFY repeats while events remain. That a NOTIFY has SEQ
0 and that a broadcast RESET comes as late as the others are the model's choices (logs 33, 42). -/
def Obligations.TetherCommandsAndResets : Prop :=
  (∀ s p bs, s.hub.receives p = true → frameOk bs = true → (frameAt bs 3 = 1 ∨ frameAt bs 3 = 2) → s.hub.isOwn (frameAt bs 0) = true →
    s.hub.tet.address ≠ 63 → (s.hub.mailbox ⟨.tether, frameAt bs 2⟩).result ≠ 1 → (s.hub.mailbox ⟨.tether, frameAt bs 2⟩).lastSeq = none →
    Answers (.tetherCommandFrame p bs) s fun h =>
      h = ((s.hub.touch (frameAt bs 2)).ungate).startCommand ⟨.tether, frameAt bs 2⟩ (frameRequest bs) (frameAt bs 4) (decide (p = .down)) false id) ∧
  (∀ s p bs, s.hub.receives p = true → frameOk bs = true → frameAt bs 3 = 1 → s.hub.isOwn (frameAt bs 0) = true → s.hub.tet.address ≠ 63 →
    (s.hub.mailbox ⟨.tether, frameAt bs 2⟩).result ≠ 1 → (s.hub.mailbox ⟨.tether, frameAt bs 2⟩).lastSeq = none → s.hub.serviceBusy = false →
    s.hub.tetherHeld = false →
    Answers (.tetherCommandFrame p bs) s fun h =>
      (h.mailbox ⟨.tether, frameAt bs 2⟩).result = 1 ∧ (h.mailbox ⟨.tether, frameAt bs 2⟩).seq = frameAt bs 4 ∧
      (h.mailbox ⟨.tether, frameAt bs 2⟩).cmd = frameAt bs 10 ∧ (h.mailbox ⟨.tether, frameAt bs 2⟩).index = field bs 6 2 ∧
      (h.mailbox ⟨.tether, frameAt bs 2⟩).sub = frameAt bs 8 ∧ (h.mailbox ⟨.tether, frameAt bs 2⟩).fromDown = decide (p = .down)) ∧
  (∀ s p src k seq, isHost k = true → s.hub.receives p = true → s.hub.isOwn s.hub.tet.address = true → s.hub.tet.address ≠ 63 →
    (s.hub.host k).claimed = true → s.hub.role k = 2 →
    Answers (.reset p s.hub.tet.address src k seq [0xA5#8, 0x5A#8]) s fun h =>
      h.deadline .reset = some (s.hub.now + 96) ∧
      { h with timers := s.hub.timers, hosts := s.hub.hosts, tet := s.hub.tet } = s.hub) ∧
  (∀ s p src k seq, isHost k = true → s.hub.receives p = true → s.hub.isOwn s.hub.tet.address = true → s.hub.tet.address ≠ 63 →
    (s.hub.host k).claimed = true → s.hub.role k ≠ 2 →
    Answers (.reset p s.hub.tet.address src k seq [0xA5#8, 0x5A#8]) s fun h => h.deadline .reset = s.hub.deadline .reset) ∧
  (∀ s p src k seq data, isHost k = true → s.hub.receives p = true → s.hub.isOwn s.hub.tet.address = true → s.hub.tet.address ≠ 63 →
    s.hub.serviceBusy = false → ((s.hub.touch k).ungate).writeAbort k 0xB000 2 0 (toBytes 4 0 ++ data) = 0 → data.length < 320 →
    Answers (.bulk p s.hub.tet.address src k seq 0 data) s fun h =>
      h.upd = { s.hub.upd with
        state := 1, next := data.length, size := 0, written := 0, lastError := 0, host := k, staged := data, waiting := [], header := []
        ops := none, retried := false, activateDue := false, everything := false, flags := 0 } ∧
      { h with upd := s.hub.upd, timers := s.hub.timers, hosts := s.hub.hosts, tet := s.hub.tet, pwr := s.hub.pwr } = s.hub) ∧
  (∀ s k, isHost k = true → s.hub.due (.notifyRepeat k) = true → (s.hub.host k).claimed = true → (s.hub.host k).onTether = true →
    s.hub.alerting k = true → s.hub.live? 0xD000 0x0B ≠ 0 →
    Answers (.notifyRepeat k) s fun h =>
      h.deadline (.notifyRepeat k) = some (s.hub.now + us (s.hub.live? 0xD000 0x0B)) ∧
      { h with timers := s.hub.timers, tet := s.hub.tet } = s.hub) ∧
  (∀ s k, isHost k = true → s.hub.due (.notifyRepeat k) = true → s.hub.alerting k = false → Answers (.notifyRepeat k) s fun h =>
      h.deadline (.notifyRepeat k) = none ∧ { h with timers := s.hub.timers } = s.hub)

/-- R315, R316, R318, R320, R321: a roll call gives a provisional address for 100 ms; the CONFIRM that has it at its place makes it the hub's, with E102,
and without one it is lost; a SYNC frame carries the Tether time of its arrival, and its phase for the anchor (R209); 64 round trips give a link
delay; TIME_LOCKED changes with E104 once a condition of R321 holds. The time kept between SYNC frames and the ports' averages are the model's
readings (logs 35, 43, 44). -/
def Obligations.TetherAddressesAndTime : Prop :=
  (∀ s r a, s.hub.receives .up = true → r.returning = false → s.hub.provisionalFor r = some a → Answers (.rollcall .up r) s fun h =>
      h.tet.provisional = some (a, r.counter + 1) ∧ h.tet.address = s.hub.tet.address ∧ h.deadline .rollcall = some (s.hub.now + 100 * 96) ∧
      { h with tet := s.hub.tet, timers := s.hub.timers } = s.hub) ∧
  (∀ s p r a place, s.hub.receives p = true → s.hub.tet.provisional = some (a, place) → r.list[place - 1]? = some a → s.hub.supply.dip = false →
    Answers (.confirm p r) s fun h =>
      h.tet.address = a ∧ h.tet.position = place ∧ h.tet.provisional = none ∧ h.deadline .rollcall = none ∧ h.causes 102 ∧
      h.store.queue = s.hub.store.queue ++ [.address] ∧
      { h with tet := s.hub.tet, timers := s.hub.timers, store := s.hub.store, evDue := s.hub.evDue } = s.hub) ∧
  (∀ s : State, s.hub.due .rollcall = true → Answers .rollcallTimeout s fun h =>
      h.tet = { s.hub.tet with provisional := none } ∧ h.deadline .rollcall = none ∧ { h with tet := s.hub.tet, timers := s.hub.timers } = s.hub) ∧
  (∀ s p f arrival residence, s.hub.receives p = true → s.hub.tet.lastSync = none → s.hub.tet.syncs = [] → s.hub.tet.timeLocked = false →
    Answers (.sync p f ⟨arrival, residence⟩) s fun h =>
      h.tet.time = f.time + f.delayAcc + s.hub.delayOf p ∧ h.tet.timeAt = 65536 * s.hub.now + arrival ∧ h.tet.lastSync = some s.hub.now ∧
      h.tet.syncs = [(65536 * s.hub.now + arrival, f.time + f.delayAcc + s.hub.delayOf p)] ∧
      h.tet.goodSyncs = 0 ∧ h.tet.badSyncs = 0 ∧ h.tet.timeValid = f.timeValid ∧ h.tet.generation = f.generation % 256 ∧
      h.tet.pathDelay = f.delayAcc + s.hub.delayOf p ∧ (s.hub.tet.ringBroken ≠ f.ringBroken → h.causes 103) ∧
      h.clk.sample =
        (if s.hub.clk.anchor = 3 then some (tetherPhase (f.time + f.delayAcc + s.hub.delayOf p) (65536 * s.hub.now + arrival)) else s.hub.clk.sample) ∧
      { h with tet := s.hub.tet, evDue := s.hub.evDue, clk := s.hub.clk } = s.hub) ∧
  (∀ s p f arrival residence l, s.hub.receives p = true → s.hub.tet.lastSync = some l → l + 95 ≤ s.hub.now → s.hub.now < l + 4 * 96 →
    s.hub.tet.syncs ≠ [] → s.hub.tet.timeLocked = false → f.timeValid = true → s.hub.tet.goodSyncs < 7 →
    syncWithin ((f.time + f.delayAcc + s.hub.delayOf p : Nat) - (s.hub.tetherAt (65536 * s.hub.now + arrival) : Int)) 100 = true →
    Answers (.sync p f ⟨arrival, residence⟩) s fun h =>
      h.tet.goodSyncs = s.hub.tet.goodSyncs + 1 ∧ h.tet.badSyncs = 0 ∧ h.tet.timeLocked = false ∧
      { h with tet := s.hub.tet, evDue := s.hub.evDue, clk := s.hub.clk } = s.hub) ∧
  (∀ s ns, s.hub.tet.upEcho = true → s.hub.tet.upTrips = 63 → Answers (.echoRsp .up ns) s fun h =>
      h.tet = { s.hub.tet with upEcho := false, upTrips := 0, upSum := 0, upDelay := linkDelay (s.hub.tet.upSum + ns) } ∧
      { h with tet := s.hub.tet } = s.hub) ∧
  (∀ s ns, s.hub.tet.downEcho = true → s.hub.tet.downTrips < 63 → Answers (.echoRsp .down ns) s fun h =>
      h.tet = { s.hub.tet with downEcho := false, downTrips := s.hub.tet.downTrips + 1, downSum := s.hub.tet.downSum + ns } ∧
      { h with tet := s.hub.tet } = s.hub) ∧
  (∀ s : State, s.hub.tet.timeLocked = false → s.hub.tet.timeValid = true → 8 ≤ s.hub.tet.goodSyncs → Answers .tetherTimeLockChange s fun h =>
      h.tet = { s.hub.tet with timeLocked := true, goodSyncs := 0 } ∧ h.causes 104 ∧ { h with tet := s.hub.tet, evDue := s.hub.evDue } = s.hub) ∧
  (∀ s : State, s.hub.tet.timeLocked = true → (s.hub.tet.timeValid = false ∨ s.hub.syncRecent = false ∨ 3 ≤ s.hub.tet.badSyncs) →
    Answers .tetherTimeLockChange s fun h =>
      h.tet = { s.hub.tet with timeLocked := false, goodSyncs := 0 } ∧ h.causes 104 ∧
      (s.hub.clk.anchor = 3 → s.hub.clk.rein = 2 → h.clk.rein = 3 ∧ h.clk.steer = s.hub.clk.steer ∧ h.causes 32) ∧
      { h with tet := s.hub.tet, evDue := s.hub.evDue, clk := s.hub.clk, timers := s.hub.timers } = s.hub) ∧
  (∀ s : State, s.hub.tet.timeLocked = true → s.hub.tet.timeValid = true → s.hub.syncRecent = true → s.hub.tet.badSyncs < 3 →
    Answers .tetherTimeLockChange s fun h => h = s.hub)

/-! ## Power states (17) -/

/-- R366 to R368: with quiesce over, the switched domains are off, the inputs that are not watched are unpowered and the loop holds; 3 ms later STATE
reads WATCH with E8; leaving Watch runs in its steps and ends in RUN with E8. -/
def Obligations.WatchIsEnteredAndLeft : Prop :=
  (∀ s : State, s.hub.pwr.state = 2 → s.hub.pwr.progress = 2 → s.hub.pwr.quiesced = false → (∀ k, s.hub.armed (.igOff k) = false) →
    s.hub.armed .hpsOff = false → s.hub.quiesceOver = true → s.hub.dsp.on = false →
    Answers .quiesceEnd s fun h =>
      h.pwr = { s.hub.pwr with quiesced := true, domains := s.hub.pwr.domains - (s.hub.pwr.domains &&& 0x3FF000) } ∧
      h.clk = { s.hub.clk with beforeWatch := s.hub.clk.rein, rein := 5 } ∧ h.deadline .watchEntry = some (s.hub.now + 3 * 96) ∧
      (∀ n, isInput n = true → s.hub.isWatchInput n = true → h.input n = s.hub.input n) ∧
      (∀ n, isInput n = true → s.hub.isWatchInput n = false → (h.input n).fe = .unpowered ∧ (h.input n).stream.gate = Fade.steady 0) ∧
      { h with pwr := s.hub.pwr, clk := s.hub.clk, ins := s.hub.ins, timers := s.hub.timers } = s.hub) ∧
  (∀ s : State, s.hub.pwr.progress = 2 → s.hub.pwr.quiesced = true → s.hub.due .watchEntry = true → s.hub.pwr.pendingReq = 0 →
    Answers .watchEntryComplete s fun h =>
      h.pwr = { s.hub.pwr with state := 1, progress := 0, exitStep := 0, lastResult := 1 } ∧ h.causes 8 ∧
      (∀ k, k < 8 → h.deadline (.session k) = none) ∧
      { h with pwr := s.hub.pwr, timers := s.hub.timers, hosts := s.hub.hosts, evDue := s.hub.evDue } = s.hub) ∧
  (∀ s : State, s.hub.pwr.progress = 1 → s.hub.due .watchExit = true → s.hub.pwr.exitStep = 1 → Answers .watchExitStep s fun h =>
      h.pwr.exitStep = 2 ∧ h.deadline .watchExit = some (h.now + 96)) ∧
  (∀ s : State, s.hub.pwr.progress = 1 → s.hub.due .watchExit = true → s.hub.pwr.exitStep = 2 → Answers .watchExitStep s fun h =>
      h.pwr = { s.hub.pwr with exitStep := 3 } ∧ h.deadline .watchExit = some (s.hub.now + 10 * 96) ∧
      (∀ n, isInput n = true → s.hub.isWatchInput n = true →
        (h.input n).tandem.l.usable = true ∧ (h.input n).tandem.h.usable = true ∧
        (h.input n).tandem.toM = (s.hub.input n).tandem.toM.to 0 s.hub.now 960) ∧
      { h with pwr := s.hub.pwr, ins := s.hub.ins, timers := s.hub.timers } = s.hub) ∧
  (∀ s : State, s.hub.pwr.progress = 1 → s.hub.due .watchExit = true → s.hub.pwr.exitStep = 3 → s.hub.pwr.pendingReq = 0 →
    Answers .watchExitStep s fun h =>
      h.pwr = { s.hub.pwr with state := 0, progress := 0, exitStep := 0, lastResult := 1 } ∧ h.causes 8 ∧ h.deadline .watchExit = none ∧
      { h with pwr := s.hub.pwr, timers := s.hub.timers, evDue := s.hub.evDue } = s.hub)

/-- R369 to R371: in Stable only the always-on domain runs and no frame; a wake source that is armed resets the hub with its bit in WAKE_CAUSE and
WAKE_STABLE in RESET_FLAGS, stored values kept; during the entry a firing is latched; a flush held by a dip gives up with FLUSH_INCOMPLETE and latches
the pads (R381). -/
def Obligations.StableAndItsWakes : Prop :=
  (∀ s : State, s.hub.pwr.progress = 3 → s.hub.pwr.quiesced = true → s.hub.pwr.flushHeld = false → s.hub.due .stableEntry = true →
    s.hub.pwr.latchedWake = [] →
    Answers .stableEntryComplete s fun h =>
      h.pwr = { s.hub.pwr with stable := true, domains := 0, progress := 0, state := 2 } ∧ h.framesRun = false ∧
      h.tet = { s.hub.tet with tx := [], upLink := false, downLink := false } ∧ h.twi = { s.hub.twi with alertState := 0 } ∧
      h.clk = { s.hub.clk with pllLocked := false, running := false } ∧ h.sup = { s.hub.sup with running := false } ∧
      (∀ src, isTrimSource src = true → h.stream src = { s.hub.stream src with gate := Fade.steady 0 } ∧ h.fe src = .unpowered) ∧
      { h with pwr := s.hub.pwr, tet := s.hub.tet, twi := s.hub.twi, timers := s.hub.timers, framesRun := s.hub.framesRun, clk := s.hub.clk
               sup := s.hub.sup, ins := s.hub.ins, hms := s.hub.hms } = s.hub) ∧
  (∀ s c, s.hub.wakeArmed c = true → s.hub.pwr.stable = true → s.hub.store.resetArmed = false →
    ∃ t, exec (.stableWake c) s = .next t ∧ t.snap = t.hub ∧ t.pending = s.pending ∧ t.hub.pwr.stable = false ∧ t.hub.boot.step = 0 ∧
      t.hub.boot.resetFlags = (s.hub.boot.resetFlags &&& 256) ||| 128 ∧ t.hub.pwr.wakeCause = s.hub.pwr.wakeCause ||| 2 ^ wakeBitOf c ∧
      t.hub.nv = s.hub.nv ∧ t.hub.ext = s.hub.ext) ∧
  (∀ s : State, s.hub.wakeArmed .timer = true → s.hub.pwr.stable = true → s.hub.store.resetArmed = false →
    ∃ t, exec .wakeTimerExpiry s = .next t ∧ t.snap = t.hub ∧ t.pending = s.pending ∧ t.hub.pwr.stable = false ∧
      t.hub.pwr.wakeCause = s.hub.pwr.wakeCause ||| 64 ∧ t.hub.boot.resetFlags = (s.hub.boot.resetFlags &&& 256) ||| 128 ∧ t.hub.nv = s.hub.nv) ∧
  (∀ s c, isChannel c = true → s.hub.wakeArmed (.comparator c) = true → s.hub.pwr.stable = true → s.hub.store.resetArmed = false →
    ∃ t, exec (.wakeComparatorFire c) s = .next t ∧ t.snap = t.hub ∧ t.pending = s.pending ∧ t.hub.pwr.stable = false ∧
      t.hub.pwr.wakeCause = s.hub.pwr.wakeCause ||| 2 ^ c ∧ t.hub.boot.resetFlags = (s.hub.boot.resetFlags &&& 256) ||| 128 ∧
      t.hub.nv = s.hub.nv) ∧
  (∀ s c, isChannel c = true → s.hub.wakeArmed (.comparator c) = true → s.hub.pwr.stable = false → s.hub.pwr.progress = 3 →
    Answers (.wakeComparatorFire c) s fun h =>
      WakeSource.comparator c ∈ h.pwr.latchedWake ∧ h.pwr.wakeOut = (s.hub.pwr.wakeOut || decide (s.hub.live? 0x9000 0x0B = 1)) ∧
      { h.pwr with latchedWake := s.hub.pwr.latchedWake, wakeOut := s.hub.pwr.wakeOut } = s.hub.pwr ∧
      { h with pwr := s.hub.pwr } = s.hub) ∧
  (∀ s : State, s.hub.pwr.flushHeld = true → s.hub.supply.dip = true → s.hub.due .stableFlush = true → Answers .flushIncomplete s fun h =>
      h.pwr = { s.hub.pwr with
        flushHeld := false, wakeCause := s.hub.pwr.wakeCause ||| 2048, padHeld := 0xFF
        latch := some { wckout := s.hub.pad .wckout (4096 * s.hub.now) 0, mclk0 := s.hub.pad .mclko0 (4096 * s.hub.now) 0
                        mclk1 := s.hub.pad .mclko1 (4096 * s.hub.now) 0 } } ∧
      h.deadline .stableEntry = some (s.hub.now + 5 * 96) ∧ { h with pwr := s.hub.pwr, timers := s.hub.timers } = s.hub)

/-- R376 to R378: a tick of a signature detector begins a run where its band is loud enough; a tick of a level detector fires E118 once its threshold has
held for LEVEL_HOLD, with the mark of the pre-roll and E119; a detector that is not enabled counts anew (log 142). -/
def Obligations.DetectorsTick : Prop :=
  (∀ s c bands rms, isChannel c = true → s.hub.watchInput c ≠ 0 → s.hub.boot.full = true → s.hub.pwr.stable = false → s.hub.pwr.progress ≠ 3 →
    s.hub.upd.state ≠ 6 → s.hub.watchFlag c 0 = true → s.hub.watchFlag c 1 = false → s.hub.watchSetting 0x34 c ≠ 0 → (s.hub.chan c).inRun = false →
    (s.hub.stream (s.hub.watchInput c)).gate.at s.hub.now ≠ 0 →
    stepMin (s.hub.watchStep c (s.hub.chan c).progress) ≤ (bands[stepBand (s.hub.watchStep c (s.hub.chan c).progress)]?).getD silence →
    Answers (.signatureTick c bands rms) s fun h =>
      h.chan c = { s.hub.chan c with inRun := true, runLen := 1, above := 0, below := 0 } ∧
      (∀ d, d ≠ c → h.chan d = s.hub.chan d) ∧ { h with chans := s.hub.chans } = s.hub) ∧
  (∀ s c bands rms, isChannel c = true → s.hub.watchInput c ≠ 0 → s.hub.boot.full = true → s.hub.pwr.stable = false → s.hub.pwr.progress ≠ 3 →
    s.hub.upd.state ≠ 6 → s.hub.watchFlag c 0 = false → s.hub.watchFlag c 1 = true → s.hub.watchFlag c 5 = false → s.hub.watchFlag c 7 = false →
    (s.hub.stream (s.hub.watchInput c)).gate.at s.hub.now ≠ 0 → (s.hub.chan c).armed = true → (s.hub.chan c).reader = 0 →
    toS32 (s.hub.watchSetting 0x2C c) ≤ rms → s.hub.live? 0x9000 0x0E ≤ 10000 * ((s.hub.chan c).above + 1) →
    Answers (.signatureTick c bands rms) s fun h =>
      (h.chan c).armed = false ∧ (h.chan c).reader = 1 ∧ (h.chan c).above = (s.hub.chan c).above + 1 ∧
      (h.chan c).mark = (s.hub.frameCount + 18446744073709551616 - us (s.hub.watchSetting 0x28 c)) % 18446744073709551616 ∧
      h.causes 118 ∧ h.causes 119 ∧
      (∀ d, d ≠ c → h.chan d = s.hub.chan d) ∧ { h with chans := s.hub.chans, evDue := s.hub.evDue } = s.hub) ∧
  (∀ s c bands rms, isChannel c = true → s.hub.watchInput c ≠ 0 → s.hub.boot.full = true → s.hub.pwr.stable = false → s.hub.pwr.progress ≠ 3 →
    s.hub.upd.state ≠ 6 → s.hub.watchFlag c 0 = false → s.hub.watchFlag c 1 = false →
    Answers (.signatureTick c bands rms) s fun h =>
      h.chan c = { s.hub.chan c with progress := 0, inRun := false, runLen := 0, gap := 0, above := 0, below := 0 } ∧
      (∀ d, d ≠ c → h.chan d = s.hub.chan d) ∧ { h with chans := s.hub.chans } = s.hub) ∧
  (∀ s c bands rms, isChannel c = true → s.hub.watchInput c = 0 → Answers (.signatureTick c bands rms) s fun h => h = s.hub)

/-! ## Resets and bring-up (18) -/

/-- R398 to R400, R431: each reset returns the hub to its reset state and sets its cause in RESET_FLAGS beside SUP_RESTARTED; a power-on clears the
always-on part, every other reset keeps it, and RESET_N also releases held pads. A low-power brown-out comes only in low-power mode. -/
def Obligations.ResetsRestart : Prop :=
  (∀ s, Restarts .powerOnReset s 2 fun h => h.pwr = {} ∧ h.supply = {} ∧ h.ins = [] ∧ h.timers = []) ∧
  (∀ s, Restarts .resetN s ((s.hub.boot.resetFlags &&& 256) ||| 4) fun h => s.hub.alwaysOnKept h ∧ h.pwr.padHeld = 0) ∧
  (∀ s c, Restarts (.coreBrownOut c) s ((s.hub.boot.resetFlags &&& 256) ||| 8) fun h => s.hub.alwaysOnKept h ∧ h.pwr.padHeld = s.hub.pwr.padHeld) ∧
  (∀ s, Restarts .thermalReset s ((s.hub.boot.resetFlags &&& 256) ||| 32) fun h => s.hub.alwaysOnKept h ∧ h.pwr.padHeld = s.hub.pwr.padHeld) ∧
  (∀ s : State, s.hub.lowPower = true →
    Restarts .lowPowerBrownOut s ((s.hub.boot.resetFlags &&& 256) ||| 16) fun h => s.hub.alwaysOnKept h ∧ h.pwr.padHeld = s.hub.pwr.padHeld) ∧
  (∀ s : State, s.hub.lowPower = false → exec .lowPowerBrownOut s = .next s)

/-- R387, R389, R204, R455, R469: bring-up takes its steps in order. Step 1 samples the straps; step 3 reads the store, and a row that fails leaves its
object at the default and sets STORE_BAD; step 4 starts the core frames at FRAME_COUNT 0 once XIN is good, and STORED_HOLD is stored no sooner than an
hour after the last time; the next two steps wait for their times, and the last sets QSPI_CLK to the highest speed the flash declares. That
FRAME_COUNT starts at 45 ms without a crystal is the model's reading (log 31). -/
def Obligations.BringUpTakesItsSteps : Prop :=
  (∀ s u f, s.hub.boot.factoryTest = false → s.hub.pwr.stable = false → s.hub.boot.step = 0 →
    Answers (.bringUpStep u f) s fun h =>
      h = { s.hub with twi := { s.hub.twi with adr := s.hub.ext.adrPins }, boot := { s.hub.boot with step := 1, factoryTest := !s.hub.ext.testN } }) ∧
  (∀ s u f, s.hub.boot.factoryTest = false → s.hub.pwr.stable = false → s.hub.boot.step = 1 →
    Answers (.bringUpStep u f) s fun h => h = { s.hub with boot := { s.hub.boot with step := 2 } }) ∧
  (∀ s f, s.hub.boot.factoryTest = false → s.hub.pwr.stable = false → s.hub.boot.step = 2 →
    Answers (.bringUpStep true f) s fun h =>
      h.boot.step = 3 ∧ h.nv = [] ∧ h.objs = [] ∧ h.live = [] ∧ h.owners = [] ∧ h.store.failed = true ∧
      h.boot.resetFlags = s.hub.boot.resetFlags ||| 1024) ∧
  (∀ s f, s.hub.boot.factoryTest = false → s.hub.pwr.stable = false → s.hub.boot.step = 2 →
    Answers (.bringUpStep false f) s fun h =>
      h.boot.step = 3 ∧ h.nv = s.hub.nv.filter (fun e => !(f.map (fun x => key x.1 x.2)).contains e.1) ∧
      h.objs = h.nv.filter (fun e => decide (e.1 < 0x1000000)) ∧
      h.live = h.objs.filter (fun e => actsReduced (tgetD h.objs (key 0x1210 1) 0) e.1) ∧ h.owners = s.hub.ext.owners ∧
      h.boot.resetFlags = (if f = [] then s.hub.boot.resetFlags else s.hub.boot.resetFlags ||| 1024)) ∧
  (∀ s u f, s.hub.boot.factoryTest = false → s.hub.pwr.stable = false → s.hub.boot.step = 3 → s.hub.ext.xinOk = true → s.hub.clk.bootHold = false →
    Answers (.bringUpStep u f) s fun h =>
      h.boot = { s.hub.boot with step := 4 } ∧ h.now = 0 ∧ h.sub = 0 ∧ h.framesRun = true ∧ h.blockDone = false ∧ h.clk.pllLocked = true ∧
      h.deadline .storedHold = some (match s.hub.clk.holdStoredAt with | some f => max (60 * 96000) (f + 3600 * 96000) | none => 60 * 96000)) ∧
  (∀ s u f, s.hub.boot.step = 3 → s.hub.ext.xinOk = false → s.hub.clk.bootHold = false →
    Answers (.bringUpStep u f) s fun h => h = s.hub) ∧
  (∀ s u f, s.hub.boot.factoryTest = false → s.hub.pwr.stable = false → s.hub.boot.step = 4 → s.hub.clk.bootHold = false → 10 * 96 ≤ s.hub.now →
    Answers (.bringUpStep u f) s fun h =>
      h.boot = { s.hub.boot with step := 5 } ∧ (∀ k, k < 8 → bit h.pwr.enable (12 + k) = s.hub.groupUsed k) ∧ h.pwr.domains = h.pwr.enable ∧
      h.accepted 0x9000 7 = h.pwr.enable ∧ (∀ n, isTrimSource n = true → h.deadline (.settle n) = some (s.hub.now + 20 * 96)) ∧
      h.deadline .hpPowerup = some (s.hub.now + 2 * 96)) ∧
  (∀ s u f, s.hub.boot.factoryTest = false → s.hub.pwr.stable = false → s.hub.boot.step = 5 → s.hub.clk.bootHold = false → s.hub.twi.stretched = none →
    Answers (.bringUpStep u f) s fun h =>
      h =
        if 15 * 96 ≤ s.hub.now then
          { s.hub with boot := { s.hub.boot with
              step := 6
              qspiDiv := if 98304000 ≤ s.hub.ext.flashQuadHz then 1 else if 49152000 ≤ s.hub.ext.flashQuadHz then 2 else 4 } }
        else s.hub)

/-- R387, R395 to R397, R422: 60 ms after the reset the hub is in reduced service with its routes, clocks and fallback ports and E0 due; a checked image
hands over at the next block boundary or, where the check fails, leaves BOOT_RESULT, E2 and E116; 20 ms after the handover full service begins with
E1. -/
def Obligations.ServiceBegins : Prop :=
  (∀ s : State, s.hub.boot.step = 6 → s.hub.clk.bootHold = false → 35 * 96 ≤ s.hub.now →
    Answers .reducedServiceStart s fun h =>
      h.boot = { s.hub.boot with step := 7, service := 1 } ∧ h.clk.running = true ∧ h.pwr = { s.hub.pwr with latch := none } ∧ h.causes 0 ∧
      (s.hub.pwr.padHeld ≠ 0 → h.causes 11) ∧ (∀ p, p < 8 → s.hub.fallbackPort p = true → (h.port p).startDue = true) ∧
      (∀ k, k ∉ (s.hub.routes.filter s.hub.routeKept).map routeSink → h.sink k = s.hub.sink k) ∧
      { h with boot := s.hub.boot, clk := s.hub.clk, sinks := s.hub.sinks, ports := s.hub.ports, timers := s.hub.timers, evDue := s.hub.evDue,
               pwr := s.hub.pwr, draws := s.hub.draws } = s.hub) ∧
  (∀ s : State, s.hub.boot.step ≠ 6 → Answers .reducedServiceStart s fun h => h = s.hub) ∧
  (∀ s image recs sig, 6 ≤ s.hub.boot.step → s.hub.boot.bootResult = 0 → s.hub.boot.full = false → s.hub.pwr.progress ≠ 3 → s.hub.pwr.stable = false →
    s.hub.supply.vioFault = false →
    Answers (.bootImageChecked image recs sig) s fun h =>
      if s.hub.bootResultOf image recs sig = 1 then
        h = { s.hub with
                boot := { s.hub.boot with bootResult := 1, thDue := true, header := image.take 320, versions := imageVersions image }
                sup := { s.hub.sup with running := true } }
      else
        h.boot = { s.hub.boot with bootResult := s.hub.bootResultOf image recs sig } ∧ h.causes 2 ∧ h.causes 116 ∧
        { h with boot := s.hub.boot, evDue := s.hub.evDue } = s.hub) ∧
  (∀ (h : Hub) image recs sig, h.ext.updatePending = true → h.bootResultOf image recs sig = 2) ∧
  (∀ s : State, s.hub.boot.full = true → s.hub.boot.service = 1 → s.hub.now % 32 = 0 → s.hub.due .handoverService = true →
    Answers .fullService s fun h =>
      h.boot = { s.hub.boot with service := 2, fullAt := s.hub.now % 18446744073709551616 } ∧ h.causes 1 ∧ h.deadline .handoverService = none ∧
      { h with boot := s.hub.boot, evDue := s.hub.evDue, timers := s.hub.timers } = s.hub) ∧
  (∀ s : State, s.hub.boot.service ≠ 1 → Answers .fullService s fun h => h = s.hub)

/-! ## Firmware update (19) -/

/-- R413, R415, R418, R419: an erase or page program that reads back right leaves one fewer; a wrong one is rewritten once and then fails its record;
verification refuses a bad vendor or maker signature with its LAST_ERROR and E116, and otherwise asks for the rows of an arming, but waits while VIO
is too low for the flash; an activation that is due starts at a block boundary with its first step, ends at once with E115 where nothing changes, or
is a handover in reduced service; a step that ends sets its component's version, and one that fails stops the activation. The outcome of the
cryptography is an operand of the row (log 21). -/
def Obligations.ImagesAreWrittenAndActivated : Prop :=
  (∀ s n, s.hub.upd.ops = some n → 1 < n → s.hub.flashRuns = true →
    Answers (.flashProgramDone true) s fun h => h = { s.hub with upd := { s.hub.upd with ops := some (n - 1), retried := false } }) ∧
  (∀ s n, s.hub.upd.ops = some n → s.hub.flashRuns = true → s.hub.upd.retried = false →
    Answers (.flashProgramDone false) s fun h => h = { s.hub with upd := { s.hub.upd with retried := true } }) ∧
  (∀ s n, s.hub.upd.ops = some n → s.hub.flashRuns = true → s.hub.upd.retried = true →
    Answers (.flashProgramDone false) s fun h =>
      h.upd = { s.hub.upd with ops := none, retried := false, lastError := 15, next := 320 + 4112 * s.hub.upd.written, staged := [], waiting := []
                               blockErrors := if s.hub.upd.blockErrors < 65535 then s.hub.upd.blockErrors + 1 else 65535 } ∧
      h.causes 113 ∧ { h with upd := s.hub.upd, evDue := s.hub.evDue } = s.hub) ∧
  (∀ s ok, s.hub.upd.ops.isSome = true → s.hub.flashRuns = false → Answers (.flashProgramDone ok) s fun h => h = s.hub) ∧
  (∀ s c, s.hub.upd.state = 3 → s.hub.upd.armWait = false → s.hub.supply.vioFault = false →
    Answers (.updateVerifyComplete false c) s fun h =>
      h.upd.state = 7 ∧ h.upd.lastError = 13 ∧ h.upd.host = 0xFF ∧ h.upd.armed = s.hub.upd.armed ∧ h.causes 116 ∧
      { h with upd := s.hub.upd, evDue := s.hub.evDue } = s.hub) ∧
  (∀ s : State, s.hub.upd.state = 3 → s.hub.upd.armWait = false → s.hub.supply.vioFault = false → countersigned s.hub.upd.header = true →
    Answers (.updateVerifyComplete true false) s fun h =>
      h.upd.state = 7 ∧ h.upd.lastError = 14 ∧ h.causes 116 ∧ { h with upd := s.hub.upd, evDue := s.hub.evDue } = s.hub) ∧
  (∀ s v c, s.hub.upd.state = 3 → s.hub.supply.vioFault = true → Answers (.updateVerifyComplete v c) s fun h => h = s.hub) ∧
  (∀ s : State, s.hub.upd.state = 3 → s.hub.upd.armWait = false → s.hub.supply.vioFault = false → s.hub.supply.dip = false →
    Answers (.updateVerifyComplete true true) s fun h =>
      h.upd = { s.hub.upd with armWait := true } ∧
      h.store.queue = s.hub.store.queue ++
        (if s.hub.ext.counter < imageSecurity s.hub.upd.header then [.counter (imageSecurity s.hub.upd.header)] else []) ++ [.updatePending false] ∧
      { h with upd := s.hub.upd, store := s.hub.store } = s.hub) ∧
  (∀ s : State, s.hub.upd.activateDue = true → s.hub.activationFree = true → s.hub.sup.restarting = false → s.hub.boot.full = true → s.hub.now % 32 = 0 →
    s.hub.upd.stepWaits = false → s.hub.nextStep 1 = some 4 →
    Answers .activationDue s fun h =>
      h = { s.hub with upd := { s.hub.upd with activateDue := false, state := 6, step := 4, stepOver := false } }) ∧
  (∀ s : State, s.hub.upd.activateDue = true → s.hub.activationFree = true → s.hub.sup.restarting = false → s.hub.boot.full = true → s.hub.now % 32 = 0 →
    s.hub.upd.stepWaits = false → s.hub.nextStep 1 = some 1 →
    Answers .activationDue s fun h =>
      h.upd = { s.hub.upd with activateDue := false, state := 6, step := 1, stepOver := false } ∧
      (∀ c, c < 4 → h.chan c = { s.hub.chan c with progress := 0, inRun := false, runLen := 0, gap := 0, above := 0, below := 0 }) ∧
      { h with upd := s.hub.upd, chans := s.hub.chans } = s.hub) ∧
  (∀ s : State, s.hub.upd.activateDue = true → s.hub.activationFree = true → s.hub.sup.restarting = false → s.hub.boot.full = true → s.hub.now % 32 = 0 →
    s.hub.upd.stepWaits = false → s.hub.nextStep 1 = none →
    Answers .activationDue s fun h =>
      h.upd = { s.hub.upd with activateDue := false, state := 0, step := 0, stepOver := false, everything := false, armed := [0, 0, 0, 0] } ∧
      h.boot = { s.hub.boot with header := s.hub.upd.header } ∧ h.causes 115 ∧
      { h with upd := s.hub.upd, boot := s.hub.boot, evDue := s.hub.evDue } = s.hub) ∧
  (∀ s : State, s.hub.upd.activateDue = true → s.hub.activationFree = true → s.hub.sup.restarting = false → s.hub.boot.full = false → s.hub.now % 32 = 0 →
    Answers .activationDue s fun h =>
      h = { s.hub with
              upd := { s.hub.upd with activateDue := false, state := 0, everything := false, armed := [0, 0, 0, 0] }
              boot := { s.hub.boot with bootResult := 1, thDue := true, header := s.hub.upd.header, versions := imageVersions s.hub.upd.header }
              sup := { s.hub.sup with running := true } }) ∧
  (∀ s : State, s.hub.activationFree = false ∨ s.hub.now % 32 ≠ 0 → Answers .activationDue s fun h =>
      h = { s.hub with upd := { s.hub.upd with
        activateDue := s.hub.upd.activateDue || (decide (s.hub.upd.state = 5) && s.hub.activationTime && s.hub.tet.timeLocked) } }) ∧
  (∀ s k, (k = 1 ∨ k = 4) → s.hub.upd.state = 6 → s.hub.upd.stepOver = false → s.hub.upd.stepWaits = false → s.hub.upd.step = k →
    Answers (.activationStepEnd true) s fun h =>
      h = { s.hub with upd := { s.hub.upd with stepOver := true }
                       boot := { s.hub.boot with versions := s.hub.boot.versions.set (k - 1) (componentVersion s.hub.upd.header k)
                                                 header := withEntry s.hub.boot.header s.hub.upd.header k } }) ∧
  (∀ s k, (k = 1 ∨ k = 4) → s.hub.upd.state = 6 → s.hub.upd.stepOver = false → s.hub.upd.stepWaits = false → s.hub.upd.step = k →
    Answers (.activationStepEnd false) s fun h =>
      h.upd.state = 7 ∧ h.upd.lastError = 16 ∧ h.upd.step = 0 ∧ h.boot = s.hub.boot ∧ h.causes 116 ∧
      { h with upd := s.hub.upd, evDue := s.hub.evDue } = s.hub) ∧
  (∀ s : State, s.hub.upd.state = 6 → s.hub.upd.stepOver = false → s.hub.upd.stepWaits = false → s.hub.upd.step = 3 →
    Answers (.activationStepEnd true) s fun h =>
      h.sup.restarting = false ∧ h.sup.loaderOnly = false ∧ h.sup.heldClaims = [] ∧ h.upd = { s.hub.upd with stepOver := true } ∧
      h.boot = { s.hub.boot with versions := s.hub.boot.versions.set 2 (componentVersion s.hub.upd.header 3)
                                 header := withEntry s.hub.boot.header s.hub.upd.header 3 })

/-! ## Frames, blocks and timers (01, 15) -/

/-- R6, R7, R266: a core frame advances FRAME_COUNT by one and a frame-class selection that waits comes into force with it; a block boundary comes once in
a frame whose count is a multiple of 32, takes every batch that waits, and is the state that status reads return; with no core frames neither comes.
-/
def Obligations.FramesAndBlocksFollow : Prop :=
  (∀ s src, s.hub.framesRun = true → s.hub.deadline .reset = none →
    Answers (.frameBoundary src) s fun h =>
      h.now = s.hub.now + 1 ∧ h.sub = 0 ∧ h.framesRun = true ∧ h.blockDone = (if (s.hub.now + 1) % 32 = 0 then false else s.hub.blockDone) ∧
      h.frameQ = [] ∧ h.batches = s.hub.batches ∧ h.objs = s.hub.objs ∧ h.nv = s.hub.nv) ∧
  (∀ s src k v, s.hub.framesRun = true → s.hub.deadline .reset = none → isSink k = true → s.hub.frameQ = [⟨key (selIdx k) 1, v⟩] →
    Answers (.frameBoundary src) s fun h => h.live = tput s.hub.live (key (selIdx k) 1) v) ∧
  (∀ s src, s.hub.framesRun = false → exec (.frameBoundary src) s = .next s) ∧
  (∀ s m, s.hub.framesRun = true → s.hub.now % 32 = 0 → s.hub.blockDone = false →
    ∃ t, exec (.blockBoundary m) s = .next t ∧ t.snap = t.hub ∧ t.pending = s.pending ∧ t.hub.blockDone = true ∧ t.hub.now = s.hub.now ∧
      t.hub.batches = [] ∧ t.hub.clears = [] ∧ t.hub.ownerDue = []) ∧
  (∀ s m, s.hub.framesRun = false ∨ s.hub.now % 32 ≠ 0 ∨ s.hub.blockDone = true → exec (.blockBoundary m) s = .next s)

/-- R337, R166: a timer of nonzero period raises its event each period, counted from the last; a session whose timer runs out ends with E99 for its own
host and the claimed Installers, and with TIMEOUT_POLICY 0 keeps what it owns. -/
def Obligations.TimersAndSessionsExpire : Prop :=
  (∀ s i d, i < 2 → s.hub.deadline (.timer i) = some d → s.hub.due (.timer i) = true → s.hub.live? 0xA000 (8 + i) ≠ 0 →
    Answers (.timerExpiry i) s fun h =>
      h.deadline (.timer i) = some (d + (us (s.hub.live? 0xA000 (8 + i)) + 31) / 32 * 32) ∧ h.causes (121 + i) ∧
      (∀ u, u ≠ .timer i → h.deadline u = s.hub.deadline u) ∧ { h with timers := s.hub.timers, evDue := s.hub.evDue } = s.hub) ∧
  (∀ s i, i < 2 → s.hub.due (.timer i) = false → Answers (.timerExpiry i) s fun h => h = s.hub) ∧
  (∀ s k, k < 8 → (s.hub.host k).claimed = true → s.hub.sessionsPaused = false → s.hub.due (.session k) = true → s.hub.live? (hostIdx k) 7 = 0 →
    Answers (.sessionTimerExpiry k) s fun h =>
      h.host k = { s.hub.host k with claimed := false, tag := 0, onTwoWire := false, onTether := false, pausedLeft := none, held := [] } ∧
      h.causes 99 (.hostAndInstallers k) ∧ h.deadline (.session k) = none ∧ h.owners = s.hub.owners ∧ (∀ j, j ≠ k → h.host j = s.hub.host j) ∧
      { h with hosts := s.hub.hosts, timers := s.hub.timers, twi := s.hub.twi, evDue := s.hub.evDue } = s.hub) ∧
  (∀ s k, k < 8 → (s.hub.host k).claimed = true → s.hub.sessionsPaused = false → s.hub.due (.session k) = true → s.hub.live? (hostIdx k) 7 = 1 →
    Answers (.sessionTimerExpiry k) s fun h => (h.host k).claimed = false ∧ (∀ o, s.hub.ownerComing o = some k → h.ownerComing o = none))

/-- R328, R329: at a block boundary a cause becomes pending for every host number its scope names whose mask lets it, counts one occurrence for each of
those, whatever the mask, leaves every other host number alone, and is gone; causes of the next boundary stand then. -/
def Obligations.EventsBecomePending : Prop :=
  ∀ (h : Hub) e sc, h.evDue = [⟨e, sc⟩] → isReservedEvent e = false → 1 ≤ h.boot.service → h.sup.restarting = false →
    (∀ k, k < 8 →
      (sc = .all ∨ (sc = .twoWire ∧ (h.host k).claimed = true ∧ (h.host k).onTwoWire = true) ∨
        (∃ j, sc = .hostAndInstallers j ∧ (j = k ∨ ((h.host k).claimed = true ∧ h.role k = 2))) ∨ sc = .command k) →
      h.raiseDue.pending k = (if (h.eventMask k).getLsbD e then h.pending k else h.pending k ||| BitVec.twoPow 128 e) ∧
      h.raiseDue.occurrences k e = (if h.occurrences k e < 255 then h.occurrences k e + 1 else 255) ∧
      (∀ d, d ≠ e → h.raiseDue.occurrences k d = h.occurrences k d)) ∧
    (∀ k, k < 8 →
      ¬(sc = .all ∨ (sc = .twoWire ∧ (h.host k).claimed = true ∧ (h.host k).onTwoWire = true) ∨
        (∃ j, sc = .hostAndInstallers j ∧ (j = k ∨ ((h.host k).claimed = true ∧ h.role k = 2))) ∨ sc = .command k) →
      h.raiseDue.pending k = h.pending k ∧ (∀ d, h.raiseDue.occurrences k d = h.occurrences k d)) ∧
    h.raiseDue.evDue = h.evNext ∧ h.raiseDue.evNext = [] ∧
    { h.raiseDue with pend := h.pend, occ := h.occ, evDue := h.evDue, evNext := h.evNext } = h

/-! ## The mailbox (12) -/

/-- R264, R266, R269, R273, R245: a read that passes its checks answers the object's type and bytes from the last block boundary, and one that does not
answers its abort code; READ_INFO answers ten bytes; reading CAP_DATA advances CAP_READ_POS around the ring. Nothing else of the hub changes. That the
row stands at the moment of processing is the model's choice (log 37). -/
def Obligations.ReadsAnswer : Prop :=
  (∀ s w idx sub, s.hub.takes w → (s.hub.opened w (requestOf 1 idx sub 0 [])).readAbort w.host idx sub = 0 → ¬(idx = 0x4200 ∧ sub = 0x0C) → ¬(idx = 0xD000 ∧ sub = 5) →
    AnswersData (.read w idx sub) w (requestOf 1 idx sub 0 []) s (typeOf idx sub)
      ((s.hub.opened w (requestOf 1 idx sub 0 [])).readBytes s.snap w.host idx sub) fun o h => h.besideCommand o = o) ∧
  (∀ s w idx sub, s.hub.takes w → (s.hub.opened w (requestOf 1 idx sub 0 [])).readAbort w.host idx sub ≠ 0 →
    Answers (.read w idx sub) s fun h =>
      (h.mailbox w).result = 1 ∧ (h.mailbox w).outcome = some ((s.hub.opened w (requestOf 1 idx sub 0 [])).readAbort w.host idx sub, 0, []) ∧
      h.besideCommand (s.hub.opened w (requestOf 1 idx sub 0 [])) =
        s.hub.opened w (requestOf 1 idx sub 0 [])) ∧
  (∀ s w idx sub b r, s.hub.takes w → (s.hub.opened w (requestOf 6 idx sub 0 [])).infoAbort w.host idx sub = 0 → describe idx sub = some (b, r) →
    AnswersData (.readInfo w idx sub) w (requestOf 6 idx sub 0 []) s (typeOf idx sub) ((s.hub.opened w (requestOf 6 idx sub 0 [])).info b r)
      fun o h => h.besideCommand o = o) ∧
  (∀ s w, s.hub.takes w → (s.hub.opened w (requestOf 1 0x4200 0x0C 0 [])).readAbort w.host 0x4200 0x0C = 0 → s.hub.cap.ringBytes ≠ 0 →
    AnswersData (.capData w) w (requestOf 1 0x4200 0x0C 0 []) s (typeOf 0x4200 0x0C)
      ((Memory.readRing s.hub.cap.ringBytes s.hub.cap.mem s.hub.cap.readPos (min 240 s.hub.cap.ringBytes)).zipIdx.map
        (fun e => s.hub.capByte ((s.hub.cap.readPos + e.2) % s.hub.cap.ringBytes) e.1)) fun o h =>
      h.cap = { o.cap with readPos := (o.cap.readPos + min 240 s.hub.cap.ringBytes) % s.hub.cap.ringBytes } ∧
      { h.besideCommand o with cap := o.cap } = o) ∧
  (∀ (h : Hub) host idx sub, h.claimed host = false → ¬(0x1000 ≤ idx ∧ idx ≤ 0x1018) → ¬(0x1100 ≤ idx ∧ idx < 0x1108 ∧ sub = 1) →
    h.readAbort host idx sub = 0x0C ∧ ∀ ty data, h.writeAbort host idx sub ty data = 0x0C)

/-- R264 to R267: a WRITE to an input's settings is accepted when it passes every check: the dictionary holds it and it waits as a batch for the next
block boundary, by either row that names the object; one that fails a check ends with that check's abort code and changes nothing. That the row stands
at the moment of processing is the model's choice (log 37). -/
def Obligations.WritesAreCheckedThenHeldForTheBlock : Prop :=
  (∀ s w n sub data, isInput n = true → sub = 1 ∨ sub = 2 ∨ sub = 3 ∨ sub = 4 → s.hub.admitsBytes w (inFrontIdx n) sub 0 data →
    ActsAtOnce (.objectWrite w (inFrontIdx n) sub data) w (requestOf 2 (inFrontIdx n) sub 0 data) s fun o h =>
      h.objs = tput o.objs (key (inFrontIdx n) sub) (ofBytes data) ∧ h.batches = o.batches ++ [[⟨key (inFrontIdx n) sub, ofBytes data⟩]] ∧
      { h.besideCommand o with objs := o.objs, batches := o.batches } = o) ∧
  (∀ s w n sub ty data, isInput n = true → sub = 1 ∨ sub = 2 ∨ sub = 3 ∨ sub = 4 → s.hub.admitsBytes w (inFrontIdx n) sub ty data →
    ActsAtOnce (.write w (inFrontIdx n) sub ty data) w (requestOf 2 (inFrontIdx n) sub ty data) s fun o h =>
      h.objs = tput o.objs (key (inFrontIdx n) sub) (ofBytes data) ∧ h.batches = o.batches ++ [[⟨key (inFrontIdx n) sub, ofBytes data⟩]] ∧
      { h.besideCommand o with objs := o.objs, batches := o.batches } = o) ∧
  (∀ s w idx sub ty data code, s.hub.refuses w idx sub ty data code → code ≠ 0 → (∀ n, blockOf idx ≠ some (.outCv n)) →
    (∀ p, blockOf idx ≠ some (.process p)) → (∀ p, blockOf idx ≠ some (.port p)) →
    Answers (.write w idx sub ty data) s fun h =>
      (h.mailbox w).result = 1 ∧ (h.mailbox w).outcome = some (code, 0, []) ∧
      h.besideCommand (s.hub.opened w (requestOf 2 idx sub ty data)) =
        s.hub.opened w (requestOf 2 idx sub ty data))

/-- R272: a held write joins its host's batch, taking the place of an earlier one to the same object; a release accepts the batch for one block boundary
and answers how many writes it released, or discards it with the abort code of the first that fails; a discard empties it. -/
def Obligations.HeldBatchesAreReleasedOrDiscarded : Prop :=
  (∀ s w idx sub ty data, s.hub.takes w → (s.hub.opened w (requestOf 3 idx sub ty data)).heldAbort w.host idx sub ty data = 0 →
    (holdWrite (s.hub.host w.host).held ⟨idx, sub, data⟩).length ≤ 32 → heldBytes (holdWrite (s.hub.host w.host).held ⟨idx, sub, data⟩) ≤ 1024 →
    ActsAtOnce (.writeHeld w idx sub ty data) w (requestOf 3 idx sub ty data) s fun o h =>
      h.host w.host = { o.host w.host with held := holdWrite (s.hub.host w.host).held ⟨idx, sub, data⟩ } ∧
      (∀ j, j ≠ w.host → h.host j = o.host j) ∧ { h.besideCommand o with hosts := o.hosts } = o) ∧
  (∀ s w, s.hub.takes w → s.hub.claimed w.host = true → (s.hub.host w.host).held = [] →
    AnswersData (.releaseBatch w) w (requestOf 4 0 0 0 []) s 0 [0] fun o h =>
      (∀ j, h.host j = o.host j) ∧ { h.besideCommand o with hosts := o.hosts } = o) ∧
  (∀ s w n data, isInput n = true → s.hub.takes w → s.hub.claimed w.host = true → (s.hub.host w.host).held = [⟨inFrontIdx n, 4, data⟩] →
    ((s.hub.opened w (requestOf 4 0 0 0 [])).discardBatch w).releaseCheck w.host ⟨inFrontIdx n, 4, data⟩ = 0 →
    AnswersData (.releaseBatch w) w (requestOf 4 0 0 0 []) s 0 [1] fun o h =>
      (h.host w.host).held = [] ∧ h.objs = tput o.objs (key (inFrontIdx n) 4) (ofBytes data) ∧
      h.batches = o.batches ++ [[⟨key (inFrontIdx n) 4, ofBytes data⟩]] ∧
      { h.besideCommand o with hosts := o.hosts, objs := o.objs, batches := o.batches } = o) ∧
  (∀ s w n data c, isInput n = true → s.hub.takes w → s.hub.claimed w.host = true → (s.hub.host w.host).held = [⟨inFrontIdx n, 4, data⟩] →
    ((s.hub.opened w (requestOf 4 0 0 0 [])).discardBatch w).releaseCheck w.host ⟨inFrontIdx n, 4, data⟩ = c → c ≠ 0 →
    Answers (.releaseBatch w) s fun h =>
      (h.mailbox w).outcome = some (c, 0, []) ∧ (h.host w.host).held = [] ∧ h.objs = s.hub.objs ∧ h.batches = s.hub.batches) ∧
  (∀ s w, s.hub.takes w → s.hub.claimed w.host = true →
    ActsAtOnce (.discardBatch w) w (requestOf 5 0 0 0 []) s fun o h =>
      h.host w.host = { o.host w.host with held := [] } ∧ (∀ j, j ≠ w.host → h.host j = o.host j) ∧
      { h.besideCommand o with hosts := o.hosts } = o)

/-- R268, R271, R322: a command that is processed completes: RESULT is 2 or, with its abort code and length 0, 3; on the two-wire port E106 is due for its
host alone, on the Tether link its SEQ is remembered. A command not yet processed stays as it is. That the row of a command stands at the moment of
its processing is the model's choice (log 37). -/
def Obligations.CommandsComplete : Prop :=
  (∀ s k a ty data, k < 8 → (s.hub.mailbox ⟨.twoWire, k⟩).outcome = some (a, ty, data) →
    Answers (.commandComplete ⟨.twoWire, k⟩) s fun h =>
      (h.mailbox ⟨.twoWire, k⟩).result = (if a = 0 then 2 else 3) ∧ (h.mailbox ⟨.twoWire, k⟩).abort = a ∧ (h.mailbox ⟨.twoWire, k⟩).outcome = none ∧
      (a ≠ 0 → (h.mailbox ⟨.twoWire, k⟩).len = 0) ∧
      (a = 0 → (s.hub.mailbox ⟨.twoWire, k⟩).cmd = 1 → (h.mailbox ⟨.twoWire, k⟩).data = data ∧ (h.mailbox ⟨.twoWire, k⟩).len = data.length) ∧
      h.causes 106 (.command k) ∧ (∀ j, j ≠ k → h.mailbox ⟨.twoWire, j⟩ = s.hub.mailbox ⟨.twoWire, j⟩) ∧
      { h with mailTwi := s.hub.mailTwi, evDue := s.hub.evDue } = s.hub) ∧
  (∀ s k a ty data, k < 8 → (s.hub.mailbox ⟨.tether, k⟩).outcome = some (a, ty, data) → (s.hub.mailbox ⟨.tether, k⟩).silent = false →
    Answers (.commandComplete ⟨.tether, k⟩) s fun h =>
      (h.mailbox ⟨.tether, k⟩).result = (if a = 0 then 2 else 3) ∧ (h.mailbox ⟨.tether, k⟩).abort = a ∧ (h.mailbox ⟨.tether, k⟩).outcome = none ∧
      (h.mailbox ⟨.tether, k⟩).lastSeq = some ((s.hub.mailbox ⟨.tether, k⟩).seq, s.hub.now) ∧
      { h with mailTether := s.hub.mailTether, tet := s.hub.tet } = s.hub) ∧
  (∀ s w, isWho w = true → (s.hub.mailbox w).outcome = none → (s.hub.mailbox w).result ≠ 1 ∨ (s.hub.mailbox w).waiting ≠ .none →
    Answers (.commandComplete w) s fun h => h = s.hub)

/-! ## Settings by rows of their own -/

/-- R266, R267: rows that write one setting of the block class. Each accepts the value, which then waits as a batch for the next block boundary, and
changes nothing else; a port's masks are staged as well, a changed output mode flushes its queue at once, and an output in FAULT refuses its
configuration with abort 0x08 (R99). That a row stands at the moment of processing is the model's choice (log 37). -/
def Obligations.BlockSettingsWait : Prop :=
  (∀ s w n v, isInput n = true → v ≤ 1 → s.hub.admits w (inFrontIdx n) 1 v → WritesAsBatch (.phantomWrite w n v) w (inFrontIdx n) 1 v s) ∧
  (∀ s w n v, isTrimSource n = true → v ≤ 1 → s.hub.admits w (frontIdx n) 3 v → WritesAsBatch (.polarityWrite w n v) w (frontIdx n) 3 v s) ∧
  (∀ s w p v, isProcess p = true → v ≤ 1 → s.hub.admits w (procIdx p) 0x0C v → WritesAsBatch (.processEnable w p v) w (procIdx p) 0x0C v s) ∧
  (∀ s w v, v ≤ 1 → s.hub.admits w spkIdx 6 v → WritesAsBatch (.spkEnable w v) w spkIdx 6 v s) ∧
  (∀ s w v, v < 256 → s.hub.admits w 0x8000 4 v → WritesAsBatch (.anchorWrite w false v) w 0x8000 4 v s) ∧
  (∀ s w v, v < 256 → s.hub.admits w 0x8000 5 v → WritesAsBatch (.anchorWrite w true v) w 0x8000 5 v s) ∧
  (∀ s w v, v < 2 ^ 32 → s.hub.admits w 0x9000 7 v → WritesAsBatch (.domainEnable w v) w 0x9000 7 v s) ∧
  (∀ s w c v, isChannel c = true → v < 256 → s.hub.admits w 0x9000 (0x20 + c) v → WritesAsBatch (.watchInputWrite w c v) w 0x9000 (0x20 + c) v s) ∧
  (∀ s w p sub v, isPort p = true → sub = 0x0E ∨ sub = 0x0F → v < 2 ^ 32 → s.hub.admits w (portIdx p) sub v →
    ActsAtOnce (.maskWrite w p sub v) w (writeOf (portIdx p) sub v) s fun o h =>
      h.objs = tput o.objs (key (portIdx p) sub) v ∧ h.batches = o.batches ++ [[⟨key (portIdx p) sub, v⟩]] ∧
      h.port p = (if (o.port p).state = .stopped then o.port p else { o.port p with maskPending := true, maskFrames := 0 }) ∧
      (∀ q, q ≠ p → h.port q = o.port q) ∧ { h.besideCommand o with objs := o.objs, batches := o.batches, ports := o.ports } = o) ∧
  (∀ s w p i u, isPort p = true → i < 2 ^ 32 → u < 2 ^ 32 → s.hub.admits w (portIdx p) 0x10 (i * 2 ^ 32 + u) →
    ActsAtOnce (.maskWrite w p 0x10 (i * 2 ^ 32 + u)) w (writeOf (portIdx p) 0x10 (i * 2 ^ 32 + u)) s fun o h =>
      h.accepted (portIdx p) 0x0E = i ∧ h.accepted (portIdx p) 0x0F = u ∧
      h.batches = o.batches ++ [[⟨key (portIdx p) 0x0E, i⟩, ⟨key (portIdx p) 0x0F, u⟩]] ∧
      { h.besideCommand o with objs := o.objs, batches := o.batches, ports := o.ports } = o) ∧
  (∀ s w n v, isOutput n = true → v < 256 → s.hub.admits w (outIdx n) 1 v →
    ActsAtOnce (.outputModeChange w n (some v) none none) w (writeOf (outIdx n) 1 v) s fun o h =>
      h.objs = tput o.objs (key (outIdx n) 1) v ∧ h.batches = o.batches ++ [[⟨key (outIdx n) 1, v⟩]] ∧
      (h.output n).cv.queue = (if (o.acceptedCfg n).with_ 1 v = o.acceptedCfg n then (o.output n).cv.queue else []) ∧
      { h.besideCommand o with objs := o.objs, batches := o.batches, outs := o.outs } = o) ∧
  (∀ s w n m r c, isOutput n = true → s.hub.takes w → s.hub.claimed w.host = true → s.hub.role w.host = 2 → s.hub.boot.full = true →
    s.hub.sup.loaderOnly = false → s.hub.pwr.state = 0 → m ≤ 3 → r ≤ 3 → c ≤ 1 → cfgOk ⟨m, r, c⟩ = true →
    (s.hub.output n).fault = false → Answers (.outputModeChange w n (some m) (some r) (some c)) s fun h =>
      h.succeeded w 0 [3] ∧ h.accepted (outIdx n) 1 = m ∧ h.accepted (outIdx n) 2 = r ∧ h.accepted (outIdx n) 3 = c ∧
      h.batches = s.hub.batches ++ [[⟨key (outIdx n) 1, m⟩, ⟨key (outIdx n) 2, r⟩, ⟨key (outIdx n) 3, c⟩]] ∧
      (h.host w.host).held = (s.hub.host w.host).held ∧ h.live = s.hub.live) ∧
  (∀ s w n m r c, isOutput n = true → s.hub.takes w → s.hub.claimed w.host = true → s.hub.role w.host = 2 → s.hub.boot.full = true →
    s.hub.sup.loaderOnly = false → s.hub.pwr.state = 0 → m ≤ 3 → r ≤ 3 → c ≤ 1 → cfgOk ⟨m, r, c⟩ = true →
    (s.hub.output n).fault = true → Answers (.outputModeChange w n (some m) (some r) (some c)) s fun h =>
      (h.mailbox w).outcome.map (·.1) = some 0x08 ∧ h.objs = s.hub.objs ∧ h.batches = s.hub.batches ∧ h.outs = s.hub.outs ∧
      (h.host w.host).held = (s.hub.host w.host).held ∧ h.live = s.hub.live)

/-- R266, R267, R272: rows that write one setting of the frame class wait for the next frame boundary; a trim through the host view of its host takes the
same way without a mailbox; a crosspoint of a host in bank mode becomes a pending edit instead. START, STOP and REMOVE wait for a block boundary as
commands. That a row stands at the moment of processing is the model's choice (log 37). -/
def Obligations.FrameSettingsAndBlockCommandsWait : Prop :=
  (∀ s w k v, isSink k = true → v < 65536 → s.hub.admits w (selIdx k) 1 v → WritesForFrame (.sinkSelect w k v) w (selIdx k) 1 v s) ∧
  (∀ s w g v, g < 8 → v < 256 → s.hub.admits w (genIdx g) 1 v → WritesForFrame (.generatorType w g v) w (genIdx g) 1 v s) ∧
  (∀ s w n k v, isTrimSource n = true → k < 8 → v < 2 ^ 32 → s.hub.admits w (trimIdx n) (k + 1) v →
    WritesForFrame (.trimWrite w false n k v) w (trimIdx n) (k + 1) v s) ∧
  (∀ s w n k v, isTrimSource n = true → k < 8 → isWho w = true → v < 2 ^ 32 → -2000 ≤ toS32 v → toS32 v ≤ 9000 → s.hub.twoWireServes = true →
    s.hub.claimed w.host = true → 1 ≤ s.hub.role w.host →
    Answers (.trimWrite w true n k v) s fun h =>
      h.objs = tput s.hub.objs (key (trimIdx n) (w.host + 1)) v ∧ h.frameQ = s.hub.frameQ ++ [⟨key (trimIdx n) (w.host + 1), v⟩] ∧
      { h with objs := s.hub.objs, frameQ := s.hub.frameQ, hosts := s.hub.hosts, timers := s.hub.timers, pwr := s.hub.pwr } = s.hub) ∧
  (∀ s w b k v, isBus b = true → 1 ≤ k → k ≤ 64 → v < 2 ^ 64 → s.hub.bankMode w.host = false → s.hub.admits w (busIdx b) k v →
    WritesForFrame (.crosspointWrite w b k v) w (busIdx b) k v s) ∧
  (∀ s w b k v, isBus b = true → 1 ≤ k → k ≤ 64 → v < 2 ^ 64 → s.hub.bankMode w.host = true → s.hub.admits w (busIdx b) k v →
    ActsAtOnce (.crosspointWrite w b k v) w (writeOf (busIdx b) k v) s fun o h =>
      h.shadow = tput o.shadow (key (busIdx b) k) (v, w.host) ∧ h.bus b = { o.bus b with recomputing := true } ∧
      (∀ c, c ≠ b → h.bus c = o.bus c) ∧ { h.besideCommand o with shadow := o.shadow, buses := o.buses } = o) ∧
  (∀ s w p, isProcess p = true → s.hub.admits w (procIdx p) 6 1 → CommandsAsBatch (.remove w p 1) w (procIdx p) 6 1 s) ∧
  (∀ s w p, isPort p = true → s.hub.admits w (portIdx p) 0x11 1 → CommandsAsBatch (.start w p 1) w (portIdx p) 0x11 1 s) ∧
  (∀ s w p, isPort p = true → s.hub.admits w (portIdx p) 0x12 1 → CommandsAsBatch (.stop w p 1) w (portIdx p) 0x12 1 s) ∧
  (∀ s w k v, isMuteGroup k = true → v < 2 ^ 64 → s.hub.admits w 0x2700 (k + 1) v →
    ActsAtOnce (.muteMaskWrite w k v) w (writeOf 0x2700 (k + 1) v) s fun o h =>
      h.objs = tput o.objs (key 0x2700 (k + 1)) v ∧ h.store.queue = o.store.queue ++ [.muteMask k] ∧
      { h.besideCommand o with objs := o.objs, store := o.store } = o)

/-! ## Rows that act at once (R267, class 0) -/

/-- R164, R162, R166, R167, R170, R151 to R154: hosts. A claim of a free host number, or again with its tag, joins the session; with another tag it
conflicts; a release ends the session. Roles and timeouts stand at once; TAKE, RELEASE and ASSIGN name the coming owner; FORCE_RELEASE ends a session;
BANK_MODE, COMMIT and DISCARD control the shadow bank. That a row stands at the moment of processing is the model's choice (log 37). -/
def Obligations.HostsClaimOwnAndCommit : Prop :=
  (∀ s k tag, k < 8 → 1 ≤ tag → tag < 65536 → s.hub.twoWireServes = true → s.hub.sup.restarting = false → s.hub.claimed k = false →
    Answers (.hostClaim ⟨.twoWire, k⟩ tag) s fun h =>
      (h.host k).claimed = true ∧ (h.host k).tag = tag ∧ (h.host k).result = 1 ∧ (h.host k).onTwoWire = true ∧
      (∀ j, j ≠ k → h.host j = s.hub.host j) ∧
      { h with hosts := s.hub.hosts, timers := s.hub.timers, twi := s.hub.twi, pwr := s.hub.pwr } = s.hub) ∧
  (∀ s k tag, k < 8 → 1 ≤ tag → tag < 65536 → s.hub.twoWireServes = true → s.hub.sup.restarting = false → s.hub.claimed k = true →
    (s.hub.host k).tag ≠ tag →
    Answers (.hostClaim ⟨.twoWire, k⟩ tag) s fun h =>
      (h.host k).claimed = true ∧ (h.host k).tag = (s.hub.host k).tag ∧ (h.host k).result = 3 ∧ h.causes 98 (.hostAndInstallers k)) ∧
  (∀ s k tag, k < 8 → 1 ≤ tag → tag < 65536 → s.hub.admits ⟨.tether, k⟩ (hostIdx k) 1 (tag * 65536 + 1) → s.hub.sup.restarting = false →
    s.hub.claimed k = false →
    ActsAtOnce (.hostClaim ⟨.tether, k⟩ tag) ⟨.tether, k⟩ (writeOf (hostIdx k) 1 (tag * 65536 + 1)) s fun o h =>
      (h.host k).claimed = true ∧ (h.host k).tag = tag ∧ (h.host k).result = 1 ∧ (h.host k).onTether = true ∧
      (∀ j, j ≠ k → h.host j = o.host j) ∧ { h.besideCommand o with hosts := o.hosts } = o) ∧
  (∀ s k tag, k < 8 → tag < 65536 → s.hub.twoWireServes = true → s.hub.sup.restarting = false → s.hub.claimed k = true → (s.hub.host k).tag = tag → tag ≠ 0 →
    Answers (.hostRelease ⟨.twoWire, k⟩ tag) s fun h =>
      (h.host k).claimed = false ∧ (h.host k).tag = 0 ∧ (h.host k).result = 6 ∧ (h.host k).held = [] ∧ h.deadline (.session k) = none ∧
      h.owners = s.hub.owners ∧ (∀ j, j ≠ k → h.host j = s.hub.host j)) ∧
  (∀ s w k v, k < 8 → 1 ≤ v → v ≤ 2 → s.hub.admits w (hostIdx k) 2 v →
    ActsAtOnce (.roleWrite w k v) w (writeOf (hostIdx k) 2 v) s fun o h =>
      h.objs = tput o.objs (key (hostIdx k) 2) v ∧ h.live = tput o.live (key (hostIdx k) 2) v ∧
      { h.besideCommand o with objs := o.objs, live := o.live } = o) ∧
  (∀ s w k v, k < 8 → v < 65536 → s.hub.admits w (hostIdx k) 6 v →
    ActsAtOnce (.sessionTimeoutWrite w k v) w (writeOf (hostIdx k) 6 v) s fun o h =>
      h.objs = tput o.objs (key (hostIdx k) 6) v ∧ h.live = tput o.live (key (hostIdx k) 6) v ∧
      (s.hub.claimed k = true → v ≠ 0 → s.hub.sessionsPaused = false → h.deadline (.session k) = some (s.hub.now + 96000 * v)) ∧
      { h.besideCommand o with objs := o.objs, live := o.live, hosts := o.hosts } = o) ∧
  (∀ s w k, k < 8 → s.hub.admits w (hostIdx k) 0x0D 1 → s.hub.claimed k = true → s.hub.live? (hostIdx k) 7 = 0 →
    ActsAtOnce (.forceRelease w k 1) w (writeOf (hostIdx k) 0x0D 1) s fun o h =>
      (h.host k).claimed = false ∧ h.causes 99 (.hostAndInstallers k) ∧ h.deadline (.session k) = none ∧
      (∀ j, j ≠ k → h.host j = o.host j) ∧ { h.besideCommand o with hosts := o.hosts, evDue := o.evDue } = o) ∧
  (∀ s w k y, k < 8 → y < 2 ^ 32 → s.hub.admits w (hostIdx k) 0x0A y →
    ActsAtOnce (.take w k y) w (writeOf (hostIdx k) 0x0A y) s fun o h =>
      h.ownerComing y = some k ∧ (∀ z, z ≠ y → h.ownerComing z = o.ownerComing z) ∧ { h.besideCommand o with ownerDue := o.ownerDue } = o) ∧
  (∀ s w k y, k < 8 → y < 2 ^ 32 → s.hub.admits w (hostIdx k) 0x0B y →
    ActsAtOnce (.release w k y) w (writeOf (hostIdx k) 0x0B y) s fun o h =>
      h.ownerComing y = none ∧ (∀ z, z ≠ y → h.ownerComing z = o.ownerComing z) ∧ { h.besideCommand o with ownerDue := o.ownerDue } = o) ∧
  (∀ s w k y, k < 8 → y < 2 ^ 32 → s.hub.admits w (hostIdx k) 0x0C y →
    ActsAtOnce (.assign w k y) w (writeOf (hostIdx k) 0x0C y) s fun o h =>
      h.ownerComing y = some k ∧ (∀ z, z ≠ y → h.ownerComing z = o.ownerComing z) ∧ { h.besideCommand o with ownerDue := o.ownerDue } = o) ∧
  (∀ s w k v, k < 8 → v ≤ 1 → s.hub.admits w 0x5F00 (k + 1) v →
    ActsAtOnce (.bankMode w k v) w (writeOf 0x5F00 (k + 1) v) s fun o h =>
      h.objs = tput o.objs (key 0x5F00 (k + 1)) v ∧ h.live = tput o.live (key 0x5F00 (k + 1)) v ∧
      { h.besideCommand o with objs := o.objs, live := o.live } = o) ∧
  (∀ s w, s.hub.admits w 0x5F00 9 1 →
    Answers (.commit w 1) s fun h =>
      (h.mailbox w).result = 1 ∧ (h.mailbox w).waiting = .commit ∧ (h.mailbox w).outcome = none ∧ (h.host w.host).commitState = 1 ∧
      h.commitSeq = s.hub.commitSeq + 1 ∧ h.objs = s.hub.objs ∧ h.live = s.hub.live ∧ h.shadow = s.hub.shadow) ∧
  (∀ s w, s.hub.admits w 0x5F00 0x0A 1 →
    ActsAtOnce (.discard w 1) w (writeOf 0x5F00 0x0A 1) s fun o h =>
      h.shadow = o.shadow.filter (fun e => decide (e.2.2 ≠ w.host)) ∧ { h.besideCommand o with shadow := o.shadow } = o)

/-- R88, R115, R122, R71, R72, R347, R354, R183, R198, R245: commands of the audio units at the moment they are accepted. A CV code or a block of two
joins the queue of its output, a full queue answers 0x08 with E74, and a flush empties it; FAULT_CLEAR starts a latched speaker again; RECLASSIFY
starts a classification; PATH_RESTORE puts the excluded paths it names on probation; RESET_MATCH asks for the factory set; a manual relief and a
cleared retirement are due; INSTANTIATE places a process or leaves its PLACE_RESULT; CAP_CONTROL arms or stops the capture. That a row stands at the
moment of processing is the model's choice (log 37). -/
def Obligations.UnitCommandsActAtOnce : Prop :=
  (∀ s w n v, isOutput n = true → v < 2 ^ 20 → s.hub.admits w (outIdx n + 2) 1 v →
    ActsAtOnce (.cvCode w n v) w (writeOf (outIdx n + 2) 1 v) s fun o h =>
      (h.output n).cv = { (o.output n).cv with queue := (o.output n).cv.queue ++ [BitVec.ofNat 20 v], everQueued := true } ∧
      (∀ m, m ≠ n → h.output m = o.output m) ∧ { h.besideCommand o with outs := o.outs } = o) ∧
  (∀ s w n v, isOutput n = true → s.hub.refuses w (outIdx n + 2) 1 0 (toBytes 4 v) 0x08 → (s.hub.output n).fault = false →
    Answers (.cvCode w n v) s fun h =>
      (h.mailbox w).outcome = some (0x08, 0, []) ∧ h.causes 74 ∧ (h.output n).cause = (s.hub.output n).cause ||| 16 ∧
      (h.output n).cv = (s.hub.output n).cv) ∧
  (∀ s w n a b, isOutput n = true → a < 2 ^ 20 → b < 2 ^ 20 → s.hub.admitsBytes w (outIdx n + 2) 2 0 (toBytes 4 a ++ toBytes 4 b) →
    ActsAtOnce (.cvBlock w n (toBytes 4 a ++ toBytes 4 b)) w
      (requestOf 2 (outIdx n + 2) 2 0 (toBytes 4 a ++ toBytes 4 b)) s fun o h =>
      (h.output n).cv =
        { (o.output n).cv with queue := (o.output n).cv.queue ++ [BitVec.ofNat 20 a, BitVec.ofNat 20 b], everQueued := true } ∧
      (∀ m, m ≠ n → h.output m = o.output m) ∧ { h.besideCommand o with outs := o.outs } = o) ∧
  (∀ s w n, isOutput n = true → s.hub.admits w (outIdx n + 2) 3 1 →
    ActsAtOnce (.cvFlush w n 1) w (writeOf (outIdx n + 2) 3 1) s fun o h =>
      (h.output n).cv = { (o.output n).cv with queue := [] } ∧ (∀ m, m ≠ n → h.output m = o.output m) ∧
      { h.besideCommand o with outs := o.outs } = o) ∧
  (∀ s w, s.hub.admits w spkIdx 9 1 → s.hub.spk.state = .latched → s.hub.spk.enable = true → s.hub.vspkOk = true → s.hub.supply.thermalCrit = false →
    ActsAtOnce (.faultClear w 1) w (writeOf spkIdx 9 1) s fun o h =>
      h.spk.state = .powering ∧ h.spk.restarts = [] ∧ h.deadline .spkSequence = some (s.hub.now + 52 * 96) ∧
      { h.besideCommand o with spk := o.spk } = o) ∧
  (∀ s w, s.hub.admits w spkIdx 9 1 → s.hub.spk.state ≠ .latched →
    ActsAtOnce (.faultClear w 1) w (writeOf spkIdx 9 1) s fun o h => h.besideCommand o = o) ∧
  (∀ s w j, isHeadphone j = true → s.hub.admits w (hpIdx j + 1) 7 1 → (s.hub.headphone j).jack.classifying = false →
    (s.hub.headphone j).jack.inserted = true → s.hub.jackSetting j 1 ≠ 0 → s.hub.jackSensing = true →
    ActsAtOnce (.reclassify w j 1) w (writeOf (hpIdx j + 1) 7 1) s fun o h =>
      (h.headphone j).jack.accessory = 1 ∧ (h.headphone j).jack.classifying = true ∧ h.deadline (.classify j) = some (s.hub.now + 40 * 96) ∧
      (∀ i, i ≠ j → h.headphone i = o.headphone i ∧ h.headMic i = o.headMic i) ∧ { h.besideCommand o with hps := o.hps, hms := o.hms } = o) ∧
  (∀ s w n v, isInput n = true → v < 8 → s.hub.admits w (inTandemIdx n) 0x14 v →
    ActsAtOnce (.pathRestore w n v) w (writeOf (inTandemIdx n) 0x14 v) s fun o h =>
      (h.input n).tandem.l = (if bit v 0 && (o.input n).tandem.l.excluded then { (o.input n).tandem.l with probation := true } else (o.input n).tandem.l) ∧
      (h.input n).tandem.m = (if bit v 1 && (o.input n).tandem.m.excluded then { (o.input n).tandem.m with probation := true } else (o.input n).tandem.m) ∧
      (h.input n).tandem.h = (if bit v 2 && (o.input n).tandem.h.excluded then { (o.input n).tandem.h with probation := true } else (o.input n).tandem.h) ∧
      (∀ m, m ≠ n → h.input m = o.input m) ∧ { h.besideCommand o with ins := o.ins } = o) ∧
  (∀ s w n, isInput n = true → s.hub.admits w (inTandemIdx n) 0x15 1 →
    ActsAtOnce (.resetMatch w n 1) w (writeOf (inTandemIdx n) 0x15 1) s fun o h =>
      h.input n = { o.input n with tandem := { (o.input n).tandem.setInactive (Config.factoryMatch n) with swapReq := true, swapFactory := true } } ∧
      h.store.queue = o.store.queue ++ [.matchSet n] ∧ (∀ m, m ≠ n → h.input m = o.input m) ∧
      { h.besideCommand o with ins := o.ins, store := o.store, evDue := o.evDue } = o) ∧
  (∀ s w sl, isSlice sl = true → s.hub.admits w (reliefIdx sl) 8 1 →
    ActsAtOnce (.reliefRequest w sl 1) w (writeOf (reliefIdx sl) 8 1) s fun o h =>
      h.slice sl = { o.slice sl with dueCause := (o.slice sl).dueCause ||| 2 ^ causeManual } ∧ (∀ x, x ≠ sl → h.slice x = o.slice x) ∧
      { h.besideCommand o with ins := o.ins, outs := o.outs } = o) ∧
  (∀ s w sl, isSlice sl = true → s.hub.admits w (reliefIdx sl) 0x0A 1 → (s.hub.slice sl).retired = true →
    ActsAtOnce (.retireClear w sl 1) w (writeOf (reliefIdx sl) 0x0A 1) s fun o h =>
      h.slice sl = { o.slice sl with clearDue := true } ∧ (∀ x, x ≠ sl → h.slice x = o.slice x) ∧
      h.store.queue = o.store.queue ++ [match sl with | .input n => .retired false n | .output n => .retired true n] ∧
      { h.besideCommand o with ins := o.ins, outs := o.outs, store := o.store, evDue := o.evDue } = o) ∧
  (∀ s w p, isProcess p = true → s.hub.admits w (procIdx p) 5 1 → s.hub.placeResult p = 0 →
    ActsAtOnce (.instantiate w p 1) w (writeOf (procIdx p) 5 1) s fun o h =>
      (h.proc p).type = (o.staged p).type ∧ (h.proc p).channels = (o.staged p).channels ∧ (h.proc p).slot = (o.staged p).slot ∧
      (h.proc p).placeResult = 0 ∧ (h.proc p).runDue = true ∧ h.dsp.sequence = o.dsp.sequence + 1 ∧
      h.owner (8 * 2 ^ 24 + p) = some ((o.owner (8 * 2 ^ 24 + p)).getD w.host) ∧
      (∀ q, q ≠ p → h.proc q = o.proc q) ∧
      { h.besideCommand o with procs := o.procs, dsp := o.dsp, objs := o.objs, live := o.live, owners := o.owners, store := o.store, evDue := o.evDue } = o) ∧
  (∀ s w p r, isProcess p = true → s.hub.refuses w (procIdx p) 5 0 [1] 0x06 → s.hub.placeResult p = r → r ≠ 0 →
    Answers (.instantiate w p 1) s fun h =>
      (h.mailbox w).outcome = some (0x06, 0, []) ∧ h.proc p = { s.hub.proc p with placeResult := r } ∧
      (r = 1 ∨ r = 2 → h.causes 78) ∧ (∀ q, q ≠ p → h.proc q = s.hub.proc q)) ∧
  (∀ s w, s.hub.admits w 0x4200 5 1 →
    ActsAtOnce (.capArm w) w (writeOf 0x4200 5 1) s fun o h => h.besideCommand o = { o with cap := { o.cap with armDue := true } }) ∧
  (∀ s w, s.hub.admits w 0x4200 5 2 →
    ActsAtOnce (.capStop w) w (writeOf 0x4200 5 2) s fun o h =>
      h.besideCommand o =
        { o with cap := { o.cap with armDue := false, state := if o.cap.state = 1 ∨ o.cap.state = 2 then 4 else o.cap.state } })

/-- R277, R280, R341, R332, R333, R326, R365, R380 to R382, R411, R414, R418, R408: commands of the store, the events, the power modes and the update at
the moment they are accepted. STORE joins the queue and waits for its rows; FACTORY_RESET is armed for the next reset; OCCUR_CLEAR, PENDING and MASK
act for the host numbers they concern; WAKE_DOWN starts its burst; a request is taken, or replaces one that waits with E9; a reader plays or stops;
pads are released; WAKE_OUT follows its write; image data is staged, and ABORT, ACTIVATE, SCHEDULE and CANCEL move the update's state; MAKER_KEY is
taken once. That a row stands at the moment of processing is the model's choice (log 37). -/
def Obligations.SystemCommandsActAtOnce : Prop :=
  (∀ s w, s.hub.admits w 0x1200 1 1 → s.hub.supply.dip = false →
    Answers (.store w 1) s fun h =>
      (h.mailbox w).result = 1 ∧ (h.mailbox w).waiting = .store ∧ (h.mailbox w).outcome = none ∧ h.store.queue = s.hub.store.queue ++ [.command w] ∧
      { h.besideCommand (s.hub.opened w (writeOf 0x1200 1 1)) with store := s.hub.store } = s.hub.opened w (writeOf 0x1200 1 1)) ∧
  (∀ s w, s.hub.admits w 0x1200 3 0xA5 →
    ActsAtOnce (.factoryReset w 0xA5) w (writeOf 0x1200 3 0xA5) s fun o h => h.besideCommand o = { o with store := { o.store with resetArmed := true } }) ∧
  (∀ s w k, k < 8 → s.hub.admits w 0xA000 6 k →
    ActsAtOnce (.occurClear w k) w (writeOf 0xA000 6 k) s fun o h =>
      (∀ e, h.occurrences k e = 0) ∧ (∀ j e, j ≠ k → h.occurrences j e = o.occurrences j e) ∧ { h.besideCommand o with occ := o.occ } = o) ∧
  (∀ s w, s.hub.admits w 0xA000 6 0xFF →
    ActsAtOnce (.occurClear w 0xFF) w (writeOf 0xA000 6 0xFF) s fun o h =>
      (∀ k e, k < 8 → h.occurrences k e = 0) ∧ { h.besideCommand o with occ := o.occ } = o) ∧
  (∀ s w bits, s.hub.admitsBytes w 0xA000 1 0 (toBytes 16 bits.toNat) →
    ActsAtOnce (.eventPendingClear w bits) w (requestOf 2 0xA000 1 0 (toBytes 16 bits.toNat)) s fun o h =>
      h.pending w.host = o.pending w.host &&& ~~~ bits ∧ (∀ j, j ≠ w.host → h.pending j = o.pending j) ∧
      { h.besideCommand o with pend := o.pend } = o) ∧
  (∀ s w bits, s.hub.admitsBytes w 0xA000 2 0 (toBytes 16 bits.toNat) →
    ActsAtOnce (.eventMaskWrite w bits) w (requestOf 2 0xA000 2 0 (toBytes 16 bits.toNat)) s fun o h =>
      h.eventMask w.host = bits ∧ (∀ j, j ≠ w.host → h.eventMask j = o.eventMask j) ∧ { h.besideCommand o with mask := o.mask } = o) ∧
  (∀ s w, s.hub.admits w 0xD000 0x0D 1 →
    ActsAtOnce (.wakeDown w 1) w (writeOf 0xD000 0x0D 1) s fun o h =>
      h.deadline .wakeBurst = some (s.hub.now + 20 * 96) ∧ h.besideCommand o = o) ∧
  (∀ s w v, v < 256 → s.hub.admits w 0x9000 1 v → s.hub.pwr.requested = 0 → s.hub.pwr.progress = 0 → s.hub.pwr.pendingReq = 0 → s.hub.activating = false →
    ActsAtOnce (.request w v) w (writeOf 0x9000 1 v) s fun o h => h.besideCommand o = { o with pwr := { o.pwr with requested := v, reqCause := 512 } }) ∧
  (∀ s w v, v < 256 → s.hub.admits w 0x9000 1 v → s.hub.pwr.pendingReq ≠ 0 → s.hub.activating = false →
    ActsAtOnce (.request w v) w (writeOf 0x9000 1 v) s fun o h =>
      h.pwr = { o.pwr with pendingReq := v, pendCause := 512, lastResult := 4 } ∧ h.causes 9 ∧
      { h.besideCommand o with pwr := o.pwr, evDue := o.evDue } = o) ∧
  (∀ s w c, isChannel c = true → s.hub.admits w 0x9000 (0x60 + c) 1 →
    ActsAtOnce (.readerPlay w c) w (writeOf 0x9000 (0x60 + c) 1) s fun o h =>
      (h.chan c).reader = 2 ∧ (h.chan c).fade = { m0 := 0, m1 := unity, t0 := s.hub.now, len := 2 * 96 } ∧ (h.chan c).ring = (o.chan c).ring ∧
      (∀ d, d ≠ c → h.chan d = o.chan d) ∧ { h.besideCommand o with chans := o.chans } = o) ∧
  (∀ s w c, isChannel c = true → s.hub.admits w 0x9000 (0x60 + c) 2 →
    ActsAtOnce (.readerStop w c) w (writeOf 0x9000 (0x60 + c) 2) s fun o h =>
      (h.chan c).reader = 3 ∧ (h.chan c).fade.m1 = 0 ∧ h.deadline (.reader c) = some (s.hub.now + 10 * 96) ∧
      (∀ d, d ≠ c → h.chan d = o.chan d) ∧ { h.besideCommand o with chans := o.chans } = o) ∧
  (∀ s w v, v < 256 → s.hub.admits w 0x9000 0x10 v →
    ActsAtOnce (.padRelease w v) w (writeOf 0x9000 0x10 v) s fun o h =>
      h.besideCommand o = { o with pwr := { o.pwr with padHeld := clearBits o.pwr.padHeld v } }) ∧
  (∀ s w v, v ≤ 1 → s.hub.admits w 0x9000 0x0A v →
    ActsAtOnce (.wakeOutWrite w v) w (writeOf 0x9000 0x0A v) s fun o h =>
      h.pwr = { o.pwr with wakeOut := decide (v = 1) } ∧ h.accepted 0x9000 0x0A = v ∧
      { h.besideCommand o with pwr := o.pwr, objs := o.objs, live := o.live } = o) ∧
  (∀ s w data, data.length < 320 → s.hub.admitsBytes w 0xB000 2 0 (toBytes 4 0 ++ data) →
    ActsAtOnce (.imageData w 0 data) w (requestOf 2 0xB000 2 0 (toBytes 4 0 ++ data)) s fun o h =>
      h.upd.state = 1 ∧ h.upd.next = data.length ∧ h.upd.staged = data ∧ h.upd.host = w.host ∧ h.upd.lastError = 0 ∧
      { h.besideCommand o with upd := o.upd } = o) ∧
  (∀ s w data, s.hub.upd.state = 1 → s.hub.upd.next ≠ 0 → s.hub.upd.next < 2 ^ 32 → (s.hub.upd.staged ++ data).length < 320 →
    s.hub.admitsBytes w 0xB000 2 0 (toBytes 4 s.hub.upd.next ++ data) →
    ActsAtOnce (.imageData w s.hub.upd.next data) w (requestOf 2 0xB000 2 0 (toBytes 4 s.hub.upd.next ++ data)) s fun o h =>
      h.besideCommand o = { o with upd := { o.upd with staged := o.upd.staged ++ data, next := o.upd.next + data.length } }) ∧
  (∀ s w, s.hub.admits w 0xB000 1 1 →
    ActsAtOnce (.abort w) w (writeOf 0xB000 1 1) s fun o h =>
      h.upd.state = (if o.upd.state = 1 then 0 else 7) ∧ h.upd.host = 0xFF ∧ h.upd.staged = [] ∧ h.upd.waiting = [] ∧
      h.upd.lastError = (if o.upd.state = 1 then o.upd.lastError else 17) ∧ { h.besideCommand o with upd := o.upd } = o) ∧
  (∀ s w, s.hub.admits w 0xB000 1 2 →
    ActsAtOnce (.activate w) w (writeOf 0xB000 1 2) s fun o h =>
      h.besideCommand o = { o with upd := { o.upd with activateDue := true, everything := false, flags := 0 } }) ∧
  (∀ s w, s.hub.admits w 0xB000 1 3 →
    ActsAtOnce (.schedule w) w (writeOf 0xB000 1 3) s fun o h => h.besideCommand o = { o with upd := { o.upd with state := 5, flags := 0 } }) ∧
  (∀ s w, s.hub.admits w 0xB000 1 4 →
    ActsAtOnce (.cancel w) w (writeOf 0xB000 1 4) s fun o h => h.besideCommand o = { o with upd := { o.upd with state := 4, activateDue := false } }) ∧
  (∀ s w data, s.hub.takes w → s.hub.claimed w.host = true → s.hub.role w.host = 2 → s.hub.pwr.state = 0 → s.hub.makerKey? = none →
    s.hub.supply.dip = false → data.length = 233 →
    Answers (.makerKey w data) s fun h =>
      if Config.makerKeyOk data = true then
        h.succeeded w ∧ h.besideCommand (s.hub.opened w (requestOf 2 0xB000 0x13 0 data)) =
          { s.hub.opened w (requestOf 2 0xB000 0x13 0 data) with
              upd := { s.hub.upd with makerKey := some data }
              store := { s.hub.store with queue := s.hub.store.queue ++ [.makerKey], e5Done := false } }
      else
        (h.mailbox w).outcome = some (0x06, 0, []) ∧
        h.besideCommand (s.hub.opened w (requestOf 2 0xB000 0x13 0 data)) = s.hub.opened w (requestOf 2 0xB000 0x13 0 data))

/-! ## The block as a whole -/

/-- The command at the front of the queue runs on the state with the rest of the queue; on an empty queue the block idles (the model's choice, log 1). -/
def Obligations.StepRunsTheFront : Prop :=
  (∀ c (s : State) rest, step { s with pending := c :: rest } = exec c { s with pending := rest }) ∧ (∀ s : State, s.pending = [] → step s = .next s)

/-- R6, R7, R332, R387, R399: reset, and what every run starts from: no frame has run, bring-up is at its start with POWER_ON set, no host is claimed,
nothing is accepted, every event is masked, and the capture ring is in its canonical form. That State.reset is the state after a power-on reset is the
model's choice (log 47). -/
def Obligations.ResetStands : Prop :=
  State.reset.pending = [] ∧ State.reset.hub.now = 0 ∧ State.reset.hub.framesRun = false ∧ State.reset.hub.boot.step = 0 ∧
  State.reset.hub.boot.resetFlags = 2 ∧ (∀ k, State.reset.hub.claimed k = false) ∧ (∀ idx sub, State.reset.hub.accepted idx sub = defaultOf idx sub) ∧
  (∀ k, State.reset.hub.pending k = 0 ∧ State.reset.hub.eventMask k = eventBits) ∧ State.reset.snap = State.reset.hub ∧ State.reset.memoryWf = true

/-- R1, R10, R11: every command whose operands the part can be given completes in every state. Any other completes too, or is refused by name as naming no
instance. No command faults, and none touches the queue. -/
def Obligations.EveryCommandCompletes : Prop :=
  ∀ i s, (i.wf = true → Completes i s) ∧ (∀ t, exec i s = .next t → t.pending = s.pending) ∧ (∀ f, exec i s ≠ .fault f) ∧
    ((∃ t, exec i s = .next t) ∨ exec i s = .refused .noSuchInstance)

/-- R266: only a block boundary and the rows that can end in a reset renew what status reads return, and then to the hub they leave; every other command
leaves it. -/
def Obligations.StatusIsRenewedAtBoundaries : Prop :=
  (∀ i s t, exec i s = .next t → renewsStatus i = false → t.snap = s.snap) ∧
  (∀ i s t, exec i s = .next t → renewsStatus i = true → t.snap = s.snap ∨ t.snap = t.hub)

/-- R195, R245: every command keeps the capture ring in its canonical form, in every state and not only those a run reaches. -/
def Obligations.EveryStepKeepsTheRing : Prop :=
  ∀ s t : State, s.memoryWf = true → step s = .next t → t.memoryWf = true
end

