-- ==== Sys2Proof/Laws/Memory.lean ====
section
/-! SUPPORT. The capture ring: every operation keeps the canonical form, and a read finds what was written last. -/

namespace Sys2Proof.Machine

theorem Memory.wf_cons {a : Nat} {v : Byte} {r : List Host.Cell} :
    Memory.wf ((a, v) :: r) = true ↔ v ≠ Memory.blank ∧ (∀ c ∈ r, a < c.1) ∧ Memory.wf r = true := by
  simp [Memory.wf, and_assoc]

theorem Memory.mem_drop {m : List Host.Cell} {a : Nat} {c : Host.Cell} (hc : c ∈ Memory.drop m a) : c ∈ m ∧ c.1 ≠ a := by
  induction m with
  | nil => simp [Memory.drop] at hc
  | cons e r ih =>
    obtain ⟨b, v⟩ := e
    simp only [Memory.drop] at hc
    split at hc
    · exact ⟨List.mem_cons_of_mem _ (ih hc).1, (ih hc).2⟩
    · next hb =>
      rcases List.mem_cons.mp hc with h | h
      · exact ⟨h ▸ List.mem_cons_self .., by rw [h]; exact hb⟩
      · exact ⟨List.mem_cons_of_mem _ (ih h).1, (ih h).2⟩

theorem Memory.mem_insert {m : List Host.Cell} {a : Nat} {v : Byte} {c : Host.Cell} (hc : c ∈ Memory.insert m a v) : c = (a, v) ∨ c ∈ m := by
  induction m with
  | nil => simpa [Memory.insert] using hc
  | cons e r ih =>
    obtain ⟨b, w⟩ := e
    simp only [Memory.insert] at hc
    split at hc
    · simpa using hc
    · rcases List.mem_cons.mp hc with h | h
      · exact .inr (by simp [h])
      · exact (ih h).imp id (List.mem_cons_of_mem _)

theorem Memory.drop_wf {m : List Host.Cell} (a : Nat) (hm : Memory.wf m = true) : Memory.wf (Memory.drop m a) = true := by
  induction m with
  | nil => rfl
  | cons e r ih =>
    obtain ⟨b, v⟩ := e
    obtain ⟨hv, hb, hr⟩ := Memory.wf_cons.mp hm
    simp only [Memory.drop]
    split
    · exact ih hr
    · exact Memory.wf_cons.mpr ⟨hv, fun c hc => hb c (Memory.mem_drop hc).1, ih hr⟩

theorem Memory.insert_wf {m : List Host.Cell} {a : Nat} {v : Byte} (hv : v ≠ Memory.blank) (ha : ∀ c ∈ m, c.1 ≠ a) (hm : Memory.wf m = true) :
    Memory.wf (Memory.insert m a v) = true := by
  induction m with
  | nil => exact Memory.wf_cons.mpr ⟨hv, by simp, rfl⟩
  | cons e r ih =>
    obtain ⟨b, w⟩ := e
    obtain ⟨hw, hb, hr⟩ := Memory.wf_cons.mp hm
    simp only [Memory.insert]
    split
    · next hab =>
      refine Memory.wf_cons.mpr ⟨hv, fun c hc => ?_, hm⟩
      rcases List.mem_cons.mp hc with h | h
      · rw [h]; exact hab
      · exact Nat.lt_trans hab (hb c h)
    · next hab =>
      have hba : b < a := by have := ha (b, w) (List.mem_cons_self ..); simp at this; omega
      refine Memory.wf_cons.mpr ⟨hw, fun c hc => ?_, ih (fun c hc => ha c (List.mem_cons_of_mem _ hc)) hr⟩
      rcases Memory.mem_insert hc with h | h
      · rw [h]; exact hba
      · exact hb c h

theorem Memory.write_wf {m : List Host.Cell} (a : Nat) (v : Byte) (hm : Memory.wf m = true) : Memory.wf (Memory.write m a v) = true := by
  simp only [Memory.write]
  split
  · exact Memory.drop_wf a hm
  · next hv => exact Memory.insert_wf hv (fun c hc => (Memory.mem_drop hc).2) (Memory.drop_wf a hm)

theorem Memory.writeRing_wf {m : List Host.Cell} (size a : Nat) (bs : List Byte) (hm : Memory.wf m = true) :
    Memory.wf (Memory.writeRing size m a bs) = true := by
  induction bs generalizing m a with
  | nil => exact hm
  | cons b r ih => exact ih (a + 1) (Memory.write_wf _ b hm)

theorem Memory.read_drop (m : List Host.Cell) (a b : Nat) : Memory.read (Memory.drop m a) b = if b = a then Memory.blank else Memory.read m b := by
  induction m with
  | nil => simp [Memory.drop, Memory.read]
  | cons e r ih =>
    obtain ⟨c, v⟩ := e
    simp only [Memory.drop, Memory.read]
    split
    · subst_vars
      rw [ih]
      by_cases hb : b = c
      · simp [hb]
      · simp [hb, Ne.symm hb]
    · next hc =>
      simp only [Memory.read, ih]
      by_cases hb : c = b
      · subst hb; simp [hc]
      · simp [hb]

theorem Memory.read_insert {m : List Host.Cell} {a : Nat} {v : Byte} (b : Nat) (ha : ∀ c ∈ m, c.1 ≠ a) :
    Memory.read (Memory.insert m a v) b = if b = a then v else Memory.read m b := by
  induction m with
  | nil => simp [Memory.insert, Memory.read, eq_comm]
  | cons e r ih =>
    obtain ⟨c, w⟩ := e
    simp only [Memory.insert]
    split
    · simp [Memory.read, eq_comm]
    · have hc : c ≠ a := ha (c, w) (List.mem_cons_self ..)
      simp only [Memory.read, ih (fun c hc => ha c (List.mem_cons_of_mem _ hc))]
      by_cases hb : c = b
      · subst hb; simp [hc]
      · simp [hb]

/-- A read finds the byte written last at its address, and every other address as before. -/
theorem Memory.read_write (m : List Host.Cell) (a : Nat) (v : Byte) (b : Nat) :
    Memory.read (Memory.write m a v) b = if b = a then v else Memory.read m b := by
  simp only [Memory.write]
  split
  · next hv => rw [Memory.read_drop, hv]
  · rw [Memory.read_insert b (fun c hc => (Memory.mem_drop hc).2), Memory.read_drop]
    split <;> rfl

end Sys2Proof.Machine
end

