-- ==== Sys2Proof/Laws/Mailbox.lean ====
section
/-! SUPPORT. What the rows share: how a row that runs gives the next state of a claim, what a command does once the managing layer takes it, and that the
operations on the capture ring keep its canonical form. -/

namespace Sys2Proof.Machine

/-! ## Rows -/

/-- A row over `run` whose operands the part has answers what holds of its effect. -/
theorem answers_of_run {i : Instr} {s : State} {ok : Bool} {f : Hub → Hub} {P : Hub → Prop} (he : exec i s = run ok f s) (hok : ok = true)
    (hp : P (f s.hub)) : Answers i s P :=
  ⟨s.mapHub f, he.trans (run_next.2 ⟨hok, rfl⟩), rfl, rfl, hp⟩

/-- A row over `always` answers what holds of its effect. -/
theorem answers_of_always {i : Instr} {s : State} {f : Hub → Hub} {P : Hub → Prop} (he : exec i s = always f s) (hp : P (f s.hub)) : Answers i s P :=
  ⟨s.mapHub f, he, rfl, rfl, hp⟩

/-- What holds of a next state holds of any weaker property. -/
theorem Answers.weaken {i : Instr} {s : State} {P Q : Hub → Prop} (h : Answers i s P) (hpq : ∀ g, P g → Q g) : Answers i s Q :=
  let ⟨t, e, a, b, p⟩ := h
  ⟨t, e, a, b, hpq _ p⟩

/-- A row over `run` or `always` keeps the snapshot and the queue. -/
theorem run_keeps {ok : Bool} {f : Hub → Hub} {s t : State} (h : run ok f s = .next t) : t.snap = s.snap ∧ t.pending = s.pending := by
  obtain ⟨-, rfl⟩ := run_next.1 h
  exact ⟨rfl, rfl⟩

theorem always_keeps {f : Hub → Hub} {s t : State} (h : always f s = .next t) : t.snap = s.snap ∧ t.pending = s.pending := by
  rw [always_next.1 h]
  exact ⟨rfl, rfl⟩

/-! ## Commands -/

theorem Hub.ungate_mailbox (h : Hub) (w : Who) : h.ungate.mailbox w = h.mailbox w := by
  unfold Hub.ungate
  split <;> rfl

theorem Hub.restartSession_mailbox (h : Hub) (k : Nat) (w : Who) : (h.restartSession k).mailbox w = h.mailbox w := by
  unfold Hub.restartSession
  dsimp only
  repeat' split
  all_goals rfl

theorem Hub.touch_mailbox (h : Hub) (k : Nat) (w : Who) : (h.touch k).mailbox w = h.mailbox w := by
  unfold Hub.touch
  split
  · exact h.restartSession_mailbox k w
  · rfl

theorem Hub.ungate_serves (h : Hub) : h.ungate.serviceBusy = h.serviceBusy ∧ h.ungate.tetherHeld = h.tetherHeld := by
  unfold Hub.ungate
  split <;> exact ⟨rfl, rfl⟩

theorem Hub.touch_serves (h : Hub) (k : Nat) : (h.touch k).serviceBusy = h.serviceBusy ∧ (h.touch k).tetherHeld = h.tetherHeld := by
  unfold Hub.touch Hub.restartSession
  dsimp only
  repeat' split
  all_goals exact ⟨rfl, rfl⟩

theorem Hub.modMailbox_sup (h : Hub) (w : Who) (f : Mailbox → Mailbox) : (h.modMailbox w f).sup = h.sup := by
  obtain ⟨via, k⟩ := w
  cases via <;> rfl

/-- A command that the managing layer takes is processed on the hub as it finds it. -/
theorem Hub.rowCommand_of_takes {h snap : Hub} {w : Who} {r : Request} (ht : h.takes w) :
    h.rowCommand snap w r = (h.opened w r).process snap w r := by
  obtain ⟨-, hs, hm, hb, hv⟩ := ht
  have hb' : (h.touch w.host).ungate.serviceBusy = false := by rw [(Hub.ungate_serves _).1, (h.touch_serves _).1, hb]
  have hv' : (decide (w.via = .tether) && (h.touch w.host).ungate.tetherHeld) = false := by
    rw [(Hub.ungate_serves _).2, (h.touch_serves _).2]
    by_cases hw : w.via = .tether
    · simp [hv hw]
    · simp [hw]
  have hr : ((h.touch w.host).ungate.mailbox w).result ≠ 1 := by rw [Hub.ungate_mailbox, Hub.touch_mailbox]; exact hm
  have hp : (h.touch w.host).ungate.sup.restarting = false := by
    simp only [Hub.serviceBusy, Bool.or_eq_false_iff] at hb'
    exact hb'.1
  simp [Hub.rowCommand, Hub.command, Hub.startCommand, Hub.turnsAway, Hub.opened, hs, hb', hv', hr, hp, Hub.modMailbox_sup]

/-- The mailbox after a command is taken: it runs, with nothing answered yet. -/
theorem Hub.opened_mailbox (h : Hub) (w : Who) (r : Request) :
    ((h.opened w r).mailbox w).result = 1 ∧ ((h.opened w r).mailbox w).outcome = none ∧ ((h.opened w r).mailbox w).waiting = .none := by
  simp only [Hub.opened, Hub.modMailbox_mailbox]
  exact ⟨rfl, rfl, rfl⟩

theorem Hub.touch_rest (h : Hub) (k : Nat) : { h.touch k with hosts := h.hosts, timers := h.timers } = h := by
  unfold Hub.touch Hub.restartSession
  dsimp only
  repeat' split
  all_goals rfl

theorem Hub.ungate_rest (h : Hub) : { h.ungate with pwr := h.pwr, timers := h.timers } = h := by
  unfold Hub.ungate
  split <;> rfl

theorem Hub.modMailbox_rest (h : Hub) (w : Who) (f : Mailbox → Mailbox) :
    { h.modMailbox w f with mailTwi := h.mailTwi, mailTether := h.mailTether } = h := by
  obtain ⟨via, k⟩ := w
  cases via <;> rfl

/-- The hub that took a command differs from the one before only in the mailboxes, the host slots, the power state and the deadlines. -/
theorem Hub.opened_rest (h : Hub) (w : Who) (r : Request) :
    { h.opened w r with mailTwi := h.mailTwi, mailTether := h.mailTether, hosts := h.hosts, pwr := h.pwr, timers := h.timers } = h := by
  let put : Hub → Hub := fun g => { g with mailTwi := h.mailTwi, mailTether := h.mailTether, hosts := h.hosts, pwr := h.pwr, timers := h.timers }
  let a := h.touch w.host
  have m := Hub.modMailbox_rest a.ungate w (fun m => m.take r (h.mailbox w).seq (h.mailbox w).fromDown false)
  have e1 := congrArg put m
  have e2 := congrArg put (Hub.ungate_rest a)
  have e3 := congrArg put (h.touch_rest w.host)
  exact e1.trans (e2.trans e3)

/-- A command that waits for no boundary and no row completes with what it answered. -/
theorem Hub.process_outcome {h snap : Hub} {w : Who} {r : Request} (hw : (((h.answer snap w r).2.alertSettle).mailbox w).waiting = .none) :
    ((h.process snap w r).mailbox w).outcome = some (h.answer snap w r).1 := by
  simp [Hub.process, hw]

/-! ## The capture ring (R195, R245) -/

theorem Hub.capRecord_wf {h : Hub} (p : Nat) (word : Nat → Int) (hm : Memory.wf h.cap.mem = true) : Memory.wf (h.capRecord p word).cap.mem = true :=
  Memory.writeRing_wf _ _ _ hm

theorem Hub.capFrame_wf {h : Hub} (p : Nat) (out : Bool) (word : Nat → Int) (hm : Memory.wf h.cap.mem = true) :
    Memory.wf (h.capFrame p out word).cap.mem = true := by
  unfold Hub.capFrame
  split
  · exact Hub.capRecord_wf p word hm
  · exact hm

theorem Hub.capArm_wf (h : Hub) : Memory.wf h.capArm.cap.mem = true := rfl

theorem Hub.capStop_mem (h : Hub) : h.capStop.cap.mem = h.cap.mem := by
  unfold Hub.capStop
  split <;> rfl

theorem Hub.capData_mem (h : Hub) : h.capData.2.cap.mem = h.cap.mem := by
  unfold Hub.capData
  dsimp only
  split <;> rfl

end Sys2Proof.Machine
end

