-- ==== Sys2Proof/Tests/Slice0.lean ====
section
/-! SUPPORT. Tests: worked examples of the spec, an ill-formed command for each check of well-formedness, and for every obligation with hypotheses a state and
operands that meet them, clause by clause. -/

set_option maxRecDepth 100000
set_option Elab.async false

open Sys2Proof Sys2Proof.Machine

namespace Sys2Proof.Tests

/-- A hub ten seconds into full service. -/
def full : Hub :=
  { Hub.fresh with now := 960000, framesRun := true, boot := { step := 8, service := 2, full := true, bootResult := 1 }, sup := { running := true },
                   clk := { Hub.fresh.clk with running := true, pllLocked := true } }

/-- A state whose hub is that one with a change. -/
def at_ (f : Hub → Hub) : State := { hub := f full, snap := full, pending := [] }

/-- A deadline that has come. -/
def due (t : Timer) (h : Hub) : Hub := h.startAt t h.now

/-- A setting accepted and in force. -/
def put (idx sub v : Nat) (h : Hub) : Hub := { h with objs := tput h.objs (key idx sub) v, live := tput h.live (key idx sub) v }

/-- Host 7 has a session as an Installer on both transports. -/
def installer (h : Hub) : Hub :=
  put (hostIdx 7) 2 2 (h.modHost 7 (fun x => { x with claimed := true, tag := 9, onTwoWire := true, onTether := true }))

def w7 : Who := ⟨.twoWire, 7⟩
def t7 : Who := ⟨.tether, 7⟩

/-- The same with a change. -/
def served (f : Hub → Hub) : State := at_ (fun h => f (installer h))

/-- The row of an object. -/
def rowOf (i s : Nat) : Row := match describe i s with | some (_, r) => r | none => { lo := 1, hi := 1, ty := .u8, acc := .ro }

/-! ## Worked examples of the spec, one step or one value each -/

/-- Object references (00_scope, worked examples of R9; 02_input_front_end; 06_harness_and_mix_buses): IN7 and IN6, B5, and B3 for OUT9. -/
theorem test_object_references :
    trimIdx 7 = 0x20C2 ∧ inFrontIdx 6 = 0x20A0 ∧ busIdx 5 = 0x5140 ∧ busIdx 20 = 0x5500 ∧ selIdx 0x009 = 0x6009 ∧ selIdx 0x184 = 0x6184 := by decide

/-- Ownership keys (07_host_windows, R167): the front end of IN7, and channel 5 of SAP2. -/
theorem test_ownership_keys : ownerKey 1 7 = 0x01000007 ∧ ownerKey 6 (32 * 2 + 5) = 0x06000045 := by decide

/-- 16 channels at 44.1 kHz (10_serial_audio_ports): 16 slots of 24 bits give DIVIDER 0x0017384F. -/
theorem test_port_divider : portDivider 16 24 2 = 0x0017384F := by decide +kernel

/-- CRC-32C of "123456789" is its published check value. -/
theorem test_crc32c : crc32c [0x31, 0x32, 0x33, 0x34, 0x35, 0x36, 0x37, 0x38, 0x39] = 0xE3069283 := by decide +kernel

/-- The hub after one command. -/
def after (i : Instr) (s : State) : State :=
  match Machine.exec i s with
  | .next t => t
  | _ => s

/-- A two-wire write to the main address is open. -/
def opened (f : Hub → Hub) : State := at_ (fun h => f { h with twi := { h.twi with open_ := .main } })

/-- Two consoles on one stage box (07_host_windows): the bytes after the address claim H1 with tag 0x1F07. -/
theorem test_claim_over_two_wire :
    ((after (.twiStopCommit [0x20, 0x10, 0x1F, 0x07, 0x00, 0x01]) (opened id)).hub.host 1).claimed = true ∧
    ((after (.twiStopCommit [0x20, 0x10, 0x1F, 0x07, 0x00, 0x01]) (opened id)).hub.host 1).tag = 0x1F07 := by decide +kernel

/-- A mailbox read and its alert (13_two_wire_port): 0x23, 0x02, 0x04 clears E106 of H1 and nothing else. -/
theorem test_clear_over_two_wire :
    (after (.twiStopCommit [0x23, 0x02, 0x04])
      (opened (fun h => { h.modHost 1 (fun x => { x with claimed := true }) with pend := [(1, 2 ^ 106 + 2 ^ 77)] }))).hub.pending 1 = 2 ^ 77 := by
  decide +kernel

/-- A phantom short (02_input_front_end): the first fault of IN6 counts 1 and sets cause bit 2, and E41 is due. -/
theorem test_phantom_short :
    (after (.phantomFault 6) (at_ (fun h => h.modPhantom 6 (fun p => { p with state := .on, armed := true })))).hub.evDue = [⟨41, .all⟩] ∧
    ((after (.phantomFault 6) (at_ (fun h => h.modPhantom 6 (fun p => { p with state := .on, armed := true })))).hub.input 6).phantomFaults = 1 := by
  decide +kernel

/-- A range change in one batch (12_object_dictionary): RANGE 2 held for an output in CV_CURRENT is refused with abort 0x06 on release. -/
theorem test_range_of_cv_current :
    ((after (.releaseBatch ⟨.twoWire, 7⟩)
      (at_ (fun h => (put (outIdx 2) 1 3 (installer h)).modHost 7 (fun x => { x with held := [⟨outIdx 2, 2, [2]⟩] })))).hub.mailbox ⟨.twoWire, 7⟩).outcome =
      some (6, 0, []) := by decide +kernel

/-- An instance the part does not have is refused by name (R10). -/
theorem test_absent_instance : Machine.exec (.phantomFault 49) State.reset = .refused .noSuchInstance := rfl

/-- The table gives its rows no bits, so no word spells a command. -/
theorem test_no_word_decodes : decodeTableWord 16 0 = none ∧ State.reset.withFetchWord 16 0 = State.reset := ⟨rfl, rfl⟩

/-! ## The well-formedness of commands: each check refuses a term -/

def ill0 : List Instr :=
  [.healthJudgement (.output 33) .stale, .sliceReferenceFault (.output 33), .sliceTotalLoss (.output 33), .reliefSettled (.ors 4),
   .reliefCrossfadeEnd (.ors 4), .reliefRequest ⟨.tether, 8⟩ (.input 1) 1, .reliefRequest ⟨.twoWire, 1⟩ (.output 33) 1,
   .reliefRequest ⟨.twoWire, 1⟩ (.input 1) (2 ^ 8), .retireClear ⟨.tether, 8⟩ (.input 1) 1, .retireClear ⟨.twoWire, 1⟩ (.output 33) 1,
   .retireClear ⟨.twoWire, 1⟩ (.input 1) (2 ^ 8), .reliefSelfTest (.ors 4) true, .phantomLeak 49, .sramError 12 .corrected, .sramBankCopyDone 12,
   .tsDisagree 4, .dspLaneFault 9 .missedDeadline, .instantiate ⟨.tether, 8⟩ 1 1, .instantiate ⟨.twoWire, 1⟩ 64 1,
   .instantiate ⟨.twoWire, 1⟩ 1 (2 ^ 8), .remove ⟨.tether, 8⟩ 1 1, .remove ⟨.twoWire, 1⟩ 64 1, .remove ⟨.twoWire, 1⟩ 1 (2 ^ 8),
   .processEnable ⟨.tether, 8⟩ 1 1, .processEnable ⟨.twoWire, 1⟩ 64 1, .processEnable ⟨.twoWire, 1⟩ 1 (2 ^ 8), .phantomWrite ⟨.tether, 8⟩ 1 1,
   .phantomWrite ⟨.twoWire, 1⟩ 49 1, .phantomWrite ⟨.twoWire, 1⟩ 1 (2 ^ 8), .phantomRampOnEnd 49, .phantomRampOffEnd 49, .phantomFaultTimerArm 49,
   .phantomFault 49, .phantomGroupRampStart 12, .polarityWrite ⟨.tether, 8⟩ 1 1, .polarityWrite ⟨.twoWire, 1⟩ 53 1,
   .polarityWrite ⟨.twoWire, 1⟩ 1 (2 ^ 8), .polarityInvert 53, .modulatorOverload 49 .m, .pathUsable 49 .m]

theorem test_wf_refuses_0 : ill0.all (fun i => !i.wf) = true := by decide

def ill1 : List Instr :=
  [.episodeEnd (.busClip 64), .frontEndSettled 53, .hmuteAssert 4, .hmuteRelease 4, .hmuteSettled 4, .muteMaskWrite ⟨.tether, 8⟩ 1 1,
   .muteMaskWrite ⟨.twoWire, 1⟩ 4 1, .muteMaskWrite ⟨.twoWire, 1⟩ 1 (2 ^ 64), .biasFault 5, .combinerFadeEnd 49 .m true,
   .matchCommitRequest 49 ⟨0, 0, 0⟩ ⟨0, 0, 0⟩ ⟨0, 0, 0⟩ [], .matchCommitRequest 1 ⟨0, 0, 0⟩ ⟨0, 0, 0⟩ ⟨0, 0, 0⟩ (List.replicate 4 ⟨0, 0, 0⟩),
   .matchStale 49, .pathExclude 49 .m, .pathRestore ⟨.tether, 8⟩ 1 1, .pathRestore ⟨.twoWire, 1⟩ 49 1, .pathRestore ⟨.twoWire, 1⟩ 1 (2 ^ 8),
   .resetMatch ⟨.tether, 8⟩ 1 1, .resetMatch ⟨.twoWire, 1⟩ 49 1, .resetMatch ⟨.twoWire, 1⟩ 1 (2 ^ 8), .matchSetStore 49,
   .outputModeChange ⟨.tether, 8⟩ 1 none none none, .outputModeChange ⟨.twoWire, 1⟩ 33 none none none,
   .outputModeChange ⟨.twoWire, 1⟩ 1 (some 256) none none, .outputModeChange ⟨.twoWire, 1⟩ 1 none (some 256) none,
   .outputModeChange ⟨.twoWire, 1⟩ 1 none none (some 256), .outputChangeStep 33, .outputPowerupStep 33, .delayXfadeEnd 33,
   .cvCode ⟨.tether, 8⟩ 1 1, .cvCode ⟨.twoWire, 1⟩ 33 1, .cvCode ⟨.twoWire, 1⟩ 1 (2 ^ 32), .cvBlock ⟨.tether, 8⟩ 1 [],
   .cvBlock ⟨.twoWire, 1⟩ 33 [], .cvBlock ⟨.twoWire, 1⟩ 1 (List.replicate 241 0), .cvFlush ⟨.tether, 8⟩ 1 1, .cvFlush ⟨.twoWire, 1⟩ 33 1,
   .cvFlush ⟨.twoWire, 1⟩ 1 (2 ^ 8), .cvTick 33, .cvCompliance 33 true]

theorem test_wf_refuses_1 : ill1.all (fun i => !i.wf) = true := by decide

def ill2 : List Instr :=
  [.patrolAudioWindow 0 0 0 0, .patrolAudioWindow 37 0 0 0, .lampTest 16, .lampTestExpiry 4, .hpOvercurrent 5, .faultClear ⟨.tether, 8⟩ 1,
   .faultClear ⟨.twoWire, 1⟩ (2 ^ 8), .spkEnable ⟨.tether, 8⟩ 1, .spkEnable ⟨.twoWire, 1⟩ (2 ^ 8), .jdEdge 5 true, .jackInsertAccept 5,
   .jackRemoveAccept 5, .classifyComplete 5 ⟨none, none, 0, 0, 0⟩, .reclassify ⟨.tether, 8⟩ 1 1, .reclassify ⟨.twoWire, 1⟩ 5 1,
   .reclassify ⟨.twoWire, 1⟩ 1 (2 ^ 8), .hmBiasSettled 5, .buttonPress 5 1, .buttonLongPress 5, .buttonRelease 5, .sinkSelect ⟨.tether, 8⟩ 1 1,
   .sinkSelect ⟨.twoWire, 1⟩ 0x1C0 1, .sinkSelect ⟨.twoWire, 1⟩ 1 (2 ^ 16), .sinkXfadeEnd 0x1C0, .generatorType ⟨.tether, 8⟩ 1 1,
   .generatorType ⟨.twoWire, 1⟩ 8 1, .generatorType ⟨.twoWire, 1⟩ 1 (2 ^ 8), .generatorSwitch 8, .crosspointWrite ⟨.tether, 8⟩ 1 1 1,
   .crosspointWrite ⟨.twoWire, 1⟩ 64 1 1, .crosspointWrite ⟨.twoWire, 1⟩ 1 0 1, .crosspointWrite ⟨.twoWire, 1⟩ 1 65 1,
   .crosspointWrite ⟨.twoWire, 1⟩ 1 1 (2 ^ 64), .xpFadeZero 64 1, .xpFadeZero 1 0, .xpFadeZero 1 65, .scaleRecomputeDone 64,
   .bankMode ⟨.tether, 8⟩ 1 1, .bankMode ⟨.twoWire, 1⟩ 8 1, .bankMode ⟨.twoWire, 1⟩ 1 (2 ^ 8)]

theorem test_wf_refuses_2 : ill2.all (fun i => !i.wf) = true := by decide

def ill3 : List Instr :=
  [.commit ⟨.tether, 8⟩ 1, .commit ⟨.twoWire, 1⟩ (2 ^ 8), .discard ⟨.tether, 8⟩ 1, .discard ⟨.twoWire, 1⟩ (2 ^ 8), .hostClaim ⟨.tether, 8⟩ 1,
   .hostClaim ⟨.twoWire, 1⟩ (2 ^ 16), .hostRelease ⟨.tether, 8⟩ 1, .hostRelease ⟨.twoWire, 1⟩ (2 ^ 16), .roleWrite ⟨.tether, 8⟩ 1 1,
   .roleWrite ⟨.twoWire, 1⟩ 8 1, .roleWrite ⟨.twoWire, 1⟩ 1 (2 ^ 8), .sessionTimeoutWrite ⟨.tether, 8⟩ 1 1,
   .sessionTimeoutWrite ⟨.twoWire, 1⟩ 8 1, .sessionTimeoutWrite ⟨.twoWire, 1⟩ 1 (2 ^ 16), .sessionTimerExpiry 8, .forceRelease ⟨.tether, 8⟩ 1 1,
   .forceRelease ⟨.twoWire, 1⟩ 8 1, .forceRelease ⟨.twoWire, 1⟩ 1 (2 ^ 8), .take ⟨.tether, 8⟩ 1 1, .take ⟨.twoWire, 1⟩ 8 1,
   .take ⟨.twoWire, 1⟩ 1 (2 ^ 32), .release ⟨.tether, 8⟩ 1 1, .release ⟨.twoWire, 1⟩ 8 1, .release ⟨.twoWire, 1⟩ 1 (2 ^ 32),
   .assign ⟨.tether, 8⟩ 1 1, .assign ⟨.twoWire, 1⟩ 8 1, .assign ⟨.twoWire, 1⟩ 1 (2 ^ 32), .trimWrite ⟨.tether, 8⟩ true 1 1 1,
   .trimWrite ⟨.twoWire, 1⟩ true 53 1 1, .trimWrite ⟨.twoWire, 1⟩ true 1 8 1, .trimWrite ⟨.twoWire, 1⟩ true 1 1 (2 ^ 32),
   .anchorWrite ⟨.tether, 8⟩ true 1, .anchorWrite ⟨.twoWire, 1⟩ true (2 ^ 8), .wckinEdge ⟨1, 1024⟩, .start ⟨.tether, 8⟩ 1 1,
   .start ⟨.twoWire, 1⟩ 8 1, .start ⟨.twoWire, 1⟩ 1 (2 ^ 8), .stop ⟨.tether, 8⟩ 1 1, .stop ⟨.twoWire, 1⟩ 8 1, .stop ⟨.twoWire, 1⟩ 1 (2 ^ 8)]

theorem test_wf_refuses_3 : ill3.all (fun i => !i.wf) = true := by decide

def ill4 : List Instr :=
  [.portClockLock 8, .portPreambleEnd 8, .portFadeInEnd 8, .portFlushEnd 8, .portClockLoss 8, .portRateChange 8 1,
   .portFrame 8 ⟨[], ⟨false, false, false, false⟩, 0, 0, 0⟩, .rawWordSlip 8 true true, .maskWrite ⟨.tether, 8⟩ 1 0x0E 1,
   .maskWrite ⟨.twoWire, 1⟩ 8 0x0E 1, .maskWrite ⟨.twoWire, 1⟩ 1 0x0D 1, .maskWrite ⟨.twoWire, 1⟩ 1 0x0E (2 ^ 32), .maskApply 8,
   .capArm ⟨.tether, 8⟩, .capStop ⟨.tether, 8⟩, .capData ⟨.tether, 8⟩, .asrcContextLock 129, .asrcRelock 129, .asrcHandoverEnd 8,
   .read ⟨.tether, 8⟩ 1 1, .read ⟨.twoWire, 1⟩ (2 ^ 16) 1, .read ⟨.twoWire, 1⟩ 1 (2 ^ 8), .write ⟨.tether, 8⟩ 1 1 1 [],
   .write ⟨.twoWire, 1⟩ (2 ^ 16) 1 1 [], .write ⟨.twoWire, 1⟩ 1 (2 ^ 8) 1 [], .write ⟨.twoWire, 1⟩ 1 1 (2 ^ 8) [],
   .write ⟨.twoWire, 1⟩ 1 1 1 (List.replicate 241 0), .writeHeld ⟨.tether, 8⟩ 1 1 1 [], .writeHeld ⟨.twoWire, 1⟩ (2 ^ 16) 1 1 [],
   .writeHeld ⟨.twoWire, 1⟩ 1 (2 ^ 8) 1 [], .writeHeld ⟨.twoWire, 1⟩ 1 1 (2 ^ 8) [], .writeHeld ⟨.twoWire, 1⟩ 1 1 1 (List.replicate 241 0),
   .releaseBatch ⟨.tether, 8⟩, .discardBatch ⟨.tether, 8⟩, .readInfo ⟨.tether, 8⟩ 1 1, .readInfo ⟨.twoWire, 1⟩ (2 ^ 16) 1,
   .readInfo ⟨.twoWire, 1⟩ 1 (2 ^ 8), .objectWrite ⟨.tether, 8⟩ 1 1 [], .objectWrite ⟨.twoWire, 1⟩ (2 ^ 16) 1 [],
   .objectWrite ⟨.twoWire, 1⟩ 1 (2 ^ 8) []]

theorem test_wf_refuses_4 : ill4.all (fun i => !i.wf) = true := by decide

def ill5 : List Instr :=
  [.objectWrite ⟨.twoWire, 1⟩ 1 1 (List.replicate 241 0), .commandComplete ⟨.tether, 8⟩, .autoStore (2 ^ 16) 1, .autoStore 1 (2 ^ 8),
   .store ⟨.tether, 8⟩ 1, .store ⟨.twoWire, 1⟩ (2 ^ 8), .factoryReset ⟨.tether, 8⟩ 1, .factoryReset ⟨.twoWire, 1⟩ (2 ^ 8),
   .occurClear ⟨.tether, 8⟩ 1, .occurClear ⟨.twoWire, 1⟩ (2 ^ 8), .eventPendingClear ⟨.tether, 8⟩ 0, .eventMaskWrite ⟨.tether, 8⟩ 0,
   .timerExpiry 2, .twiAddressMatch (2 ^ 7) true 1, .twiProtocolError 0, .twiProtocolError 4, .tetherFrameReceive .up ⟨[], .eof, 2 ^ 16⟩,
   .sync .up ⟨0, 0, false, false, true, 0⟩ ⟨2 ^ 16, 1⟩, .reset .up 1 1 8 1 [], .reset .up (2 ^ 6) 1 1 1 [], .reset .up 1 (2 ^ 6) 1 1 [],
   .reset .up 1 1 1 (2 ^ 8) [], .reset .up 1 1 1 1 (List.replicate 241 0), .bulk .up 1 1 8 1 1 [], .bulk .up (2 ^ 6) 1 1 1 1 [],
   .bulk .up 1 (2 ^ 6) 1 1 1 [], .bulk .up 1 1 1 (2 ^ 8) 1 [], .bulk .up 1 1 1 1 (2 ^ 32) [], .bulk .up 1 1 1 1 1 (List.replicate 237 0),
   .notifyRepeat 8, .wakeDown ⟨.tether, 8⟩ 1, .wakeDown ⟨.twoWire, 1⟩ (2 ^ 8), .request ⟨.tether, 8⟩ 1, .request ⟨.twoWire, 1⟩ (2 ^ 8),
   .stableWake (.comparator 4), .wakeComparatorFire 4, .domainEnable ⟨.tether, 8⟩ 1, .domainEnable ⟨.twoWire, 1⟩ (2 ^ 32),
   .watchInputWrite ⟨.tether, 8⟩ 1 1, .watchInputWrite ⟨.twoWire, 1⟩ 4 1]

theorem test_wf_refuses_5 : ill5.all (fun i => !i.wf) = true := by decide

def ill6 : List Instr :=
  [.watchInputWrite ⟨.twoWire, 1⟩ 1 (2 ^ 8), .signatureTick 4 [] 0, .readerPlay ⟨.tether, 8⟩ 1, .readerPlay ⟨.twoWire, 1⟩ 4,
   .readerStop ⟨.tether, 8⟩ 1, .readerStop ⟨.twoWire, 1⟩ 4, .padRelease ⟨.tether, 8⟩ 1, .padRelease ⟨.twoWire, 1⟩ (2 ^ 16),
   .wakeOutWrite ⟨.tether, 8⟩ 1, .wakeOutWrite ⟨.twoWire, 1⟩ (2 ^ 8), .imageData ⟨.tether, 8⟩ 1 [], .imageData ⟨.twoWire, 1⟩ (2 ^ 32) [],
   .imageData ⟨.twoWire, 1⟩ 1 (List.replicate 237 0), .abort ⟨.tether, 8⟩, .activate ⟨.tether, 8⟩, .schedule ⟨.tether, 8⟩, .cancel ⟨.tether, 8⟩,
   .makerKey ⟨.tether, 8⟩ [], .makerKey ⟨.twoWire, 1⟩ (List.replicate 241 0), .tapDelayXfadeEnd 64 1, .tapDelayXfadeEnd 1 8]

theorem test_wf_refuses_6 : ill6.all (fun i => !i.wf) = true := by decide

/-! ## The hypotheses of the obligations are met

One theorem for each obligation with hypotheses, one conjunct for each clause that has them. -/

theorem witness_PhantomRampsAndArming :
    (∃ s : State, ∃ n : Nat, isInput n = true ∧ (s.hub.input n).phantom.state = .rampOn ∧ s.hub.due (.phantomRamp n) = true) ∧
    (∃ s : State, ∃ n : Nat, isInput n = true ∧ (s.hub.input n).phantom.state = .rampOff ∧ s.hub.due (.phantomRamp n) = true ∧ (s.hub.input n).phantom.onAfter = false) ∧
    (∃ s : State, ∃ n : Nat, isInput n = true ∧ (s.hub.input n).phantom.state = .rampOff ∧ s.hub.due (.phantomRamp n) = true ∧ (s.hub.input n).phantom.onAfter = true ∧ s.hub.ext.vphLow = false) ∧
    (∃ s : State, ∃ n : Nat, isInput n = true ∧ (s.hub.input n).phantom.state = .on ∧ s.hub.due (.phantomArm n) = true) :=
  ⟨⟨(at_ fun h => due (.phantomRamp 48) (h.modPhantom 48 fun p => { p with state := .rampOn })), 48, by decide +kernel⟩,
   ⟨(at_ fun h => due (.phantomRamp 1) (h.modPhantom 1 fun p => { p with state := .rampOff, pf := { v0 := 48000, len := 19200 } })), 1, by decide +kernel⟩,
   ⟨(at_ fun h => due (.phantomRamp 48) (h.modPhantom 48 fun p => { p with state := .rampOff, onAfter := true })), 48, by decide +kernel⟩,
   ⟨(at_ fun h => due (.phantomArm 1) (h.modPhantom 1 fun p => { p with state := .on })), 1, by decide +kernel⟩⟩

theorem witness_PhantomFaultTurnsOff :
    (∃ s : State, ∃ n : Nat, isInput n = true ∧ (s.hub.input n).phantom.state = .on ∧ (s.hub.input n).phantom.armed = true) :=
  ⟨(at_ fun h => h.modPhantom 48 fun p => { p with state := .on, armed := true, closed := true, want := true, pf := { v0 := 48000, v1 := 48000 } }), 48, by decide +kernel⟩

theorem witness_PhantomFollowsItsSupply :
    (∃ s : State, ∃ k : Nat, ∃ n : Nat, k < 12 ∧ 1 ≤ s.hub.boot.service ∧ (35 + 25 * k) * 96 ≤ s.hub.now + (if s.hub.clk.bootHold then 20 * 96 else 0) ∧ 4 * k + 1 ≤ n ∧ n ≤ 4 * k + 4 ∧ s.hub.live? (inFrontIdx n) 1 = 1 ∧ s.hub.groupOn n = true ∧ s.hub.ext.vphLow = false ∧ (s.hub.input n).phantom.state = .off ∧ (s.hub.input n).phantom.want = false ∧ (s.hub.input n).phantom.readsZero = false ∧ (s.hub.input n).phantom.held = none) :=
  ⟨(at_ fun h => put (inFrontIdx 48) 1 1 h), 11, 48, by decide +kernel⟩

theorem witness_InputSettlesInvertsAndFaults :
    (∃ s : State, ∃ src : Nat, isTrimSource src = true ∧ s.hub.due (.polarity src) = true) ∧
    (∃ s : State, ∃ src : Nat, isTrimSource src = true ∧ s.hub.inputsMuted = false ∧ s.hub.due (.settle src) = true ∧ s.hub.fe src = .settling ∧ (s.hub.stream src).privacy = false ∧ s.hub.sourceWanted src = true ∧ (src ≤ 48 → (s.hub.input src).phantom.held = none)) ∧
    (∃ s : State, ∃ n : Nat, isInput n = true ∧ s.hub.due (.settle n) = true ∧ s.hub.groupOn n = true ∧ s.hub.ext.vphLow = false ∧ (s.hub.input n).phantom.held = some true ∧ (s.hub.input n).phantom.state = .off) ∧
    (∃ s : State, ∃ e, isEpisode e = true ∧ s.hub.due (.episode e) = true) ∧
    (∃ s : State, ∃ m, isHeadMic m = true ∧ (s.hub.headMic m).bias = .on ∧ (s.hub.headphone m).jack.buttons = 0) :=
  ⟨⟨(at_ fun h => due (.polarity 52) (h.modStream 52 fun x => { x with polTarget := true, polPhase := .fadingOut })), 52, by decide +kernel⟩,
   ⟨(at_ fun h => due (.settle 52) (h.setFe 52 .settling)), 52, by decide +kernel⟩,
   ⟨(at_ fun h => due (.settle 1) ((h.setFe 1 .settling).modPhantom 1 fun p => { p with held := some true })), 1, by decide +kernel⟩,
   ⟨(at_ fun h => due (.episode .tetherCrc) (h)), .tetherCrc, by decide +kernel⟩,
   ⟨(at_ fun h => h.modHeadMic 4 fun x => { x with bias := .on, biasEnable := true }), 4, by decide +kernel⟩⟩

theorem witness_ConvertersCarryTheirSamples :
    (∃ s : State, s.hub.framesRun = true ∧ s.hub.sub < 8) ∧
    (∃ s : State, ∃ n : Nat, ∃ f, isInput n = true ∧ (s.hub.input n).tandem.look.m.fade = some f ∧ 16 ≤ f.i) ∧
    (∃ s : State, ∃ n : Nat, ∃ f, isInput n = true ∧ (s.hub.input n).tandem.pred.h.fade = some f ∧ 8 ≤ f.i) ∧
    (∃ n : Nat, isInput n = true) ∧
    (∃ s : State, ∃ n : Nat, ∃ p, isInput n = true ∧ 64 ≤ ((s.hub.input n).tandem.path p).stable) :=
  ⟨⟨(at_ fun h => { (h.modInput 48 fun x => { x with fe := .running, tandem := { x.tandem with pred := { x.tandem.pred with fixedM := false, m := {} } } }) with sub := 7 }), by decide +kernel⟩,
   ⟨(at_ fun h => h.modTandem 48 fun t => { t with look := { t.look with m := { g := 0, fade := some ⟨0, unity, 16⟩ } } }), 48, ⟨0, unity, 16⟩, by decide +kernel⟩,
   ⟨(at_ fun h => h.modTandem 1 fun t => { t with pred := { t.pred with h := { g := 0, fade := some ⟨0, unity, 8⟩ } } }), 1, ⟨0, unity, 8⟩, by decide +kernel⟩,
   ⟨48, by decide +kernel⟩,
   ⟨(at_ fun h => h.modTandem 48 fun t => { t with h := { t.h with stable := 64 } }), 48, .h, by decide +kernel⟩⟩

theorem witness_MatchTableCommits :
    (∃ s : State, ∃ n : Nat, ∃ lm : PairErrors, ∃ mh : PairErrors, isInput n = true ∧ (s.hub.input n).slice.state ≠ .matching ∧ s.hub.estimating = true ∧ (s.hub.input n).tandem.est.lm.gain.weight ≠ 0 ∧ (s.hub.input n).tandem.m.excluded = false ∧ s.hub.live? (inTandemIdx n) 3 ≤ 1000 - max lm.gain (max lm.delay lm.offset) ∧ 1000 - max mh.gain (max mh.delay mh.offset) < s.hub.live? (inTandemIdx n) 3 ∧ ((s.hub.input n).tandem.lastCommit = 0 ∨ (s.hub.input n).tandem.lastCommit + 64 * 32 ≤ s.hub.now)) ∧
    (∃ s : State, ∃ n : Nat, isInput n = true ∧ (s.hub.input n).tandem.stale = false ∧ 1800000 ≤ (s.hub.input n).tandem.staleBlocks) ∧
    (∃ s : State, ∃ n : Nat, ∃ p : Path, isInput n = true ∧ (s.hub.input n).slice.state ≠ .matching ∧ s.hub.estimating = true ∧ (s.hub.input n).tandem.attributed = some p ∧ (((s.hub.input n).tandem.path p).excluded = false ∨ ((s.hub.input n).tandem.path p).probation = true)) ∧
    (∃ s : State, ∃ n : Nat, isInput n = true ∧ (s.hub.input n).tandem.factory = false ∧ s.hub.armed (.matchStore n) = false ∧ s.hub.supply.dip = false) :=
  ⟨⟨(at_ fun h => h.modTandem 48 fun t => { t with lastCommit := 957952, est := { t.est with lm := { t.est.lm with gain := { sum := 7000, weight := 1 } } } }), 48, ⟨0, 100, 50⟩, ⟨101, 0, 0⟩, by decide +kernel⟩,
   ⟨(at_ fun h => h.modTandem 1 fun t => { t with staleBlocks := 1800000 }), 1, by decide +kernel⟩,
   ⟨(at_ fun h => h.modTandem 48 fun t => { t with est := { t.est with mh := { t.est.mh with outRun := 3000 } } }), 48, .h, by decide +kernel⟩,
   ⟨(at_ fun h => h.modTandem 48 fun t => { t with factory := false }), 48, by decide +kernel⟩⟩

theorem witness_OutputPowersUpInSteps :
    (∃ s : State, ∃ n : Nat, isOutput n = true ∧ (s.hub.output n).powerup = 2 ∧ s.hub.due (.outputPowerup n) = true ∧ (s.hub.output n).fast = false) ∧
    (∃ s : State, ∃ n : Nat, isOutput n = true ∧ (s.hub.output n).powerup = 3 ∧ s.hub.due (.outputPowerup n) = true ∧ isCv (s.hub.output n).cfg.mode = true ∧ s.hub.boot.service = 0 ∧ (s.hub.output n).fault = false) ∧
    (∃ s : State, ∃ n : Nat, isOutput n = true ∧ (s.hub.output n).powerup = 3 ∧ s.hub.due (.outputPowerup n) = true ∧ isCv (s.hub.output n).cfg.mode = false) ∧
    (∃ s : State, ∃ n : Nat, isOutput n = true ∧ (s.hub.output n).powerup = 4 ∧ s.hub.due (.outputPowerup n) = true ∧ 1 ≤ s.hub.boot.service ∧ (s.hub.output n).fast = false ∧ (s.hub.output n).fault = false) :=
  ⟨⟨(at_ fun h => due (.outputPowerup 32) (h.modOutput 32 fun x => { x with powered := true, powerup := 2, cfg := ⟨1, 0, 0⟩ })), 32, by decide +kernel⟩,
   ⟨(at_ fun h => { (due (.outputPowerup 32) (h.modOutput 32 fun x => { x with powered := true, powerup := 3, cfg := ⟨2, 0, 0⟩ })) with boot := { h.boot with service := 0 } }), 32, by decide +kernel⟩,
   ⟨(at_ fun h => due (.outputPowerup 1) (h.modOutput 1 fun x => { x with powered := true, powerup := 3, cfg := ⟨1, 0, 0⟩ })), 1, by decide +kernel⟩,
   ⟨(at_ fun h => due (.outputPowerup 32) (h.modOutput 32 fun x => { x with powered := true, powerup := 4, cfg := ⟨2, 0, 0⟩ })), 32, by decide +kernel⟩⟩

theorem witness_OutputChangesInSteps :
    (∃ s : State, ∃ n : Nat, isOutput n = true ∧ (s.hub.output n).step = 1 ∧ s.hub.due (.outputChange n) = true ∧ (isCv (s.hub.output n).cfg.mode = true → (s.hub.output n).cv.present = 0)) ∧
    (∃ s : State, ∃ n : Nat, ∃ c, isOutput n = true ∧ (s.hub.output n).step = 2 ∧ (s.hub.output n).goal = some c ∧ s.hub.due (.outputChange n) = true) ∧
    (∃ s : State, ∃ n : Nat, ∃ c, isOutput n = true ∧ (s.hub.output n).step = 3 ∧ (s.hub.output n).goal = some c ∧ c.mode ≠ 0 ∧ (s.hub.output n).fast = false ∧ s.hub.railsLow = false) ∧
    (∃ s : State, ∃ n : Nat, ∃ c, isOutput n = true ∧ (s.hub.output n).step = 3 ∧ (s.hub.output n).goal = some c ∧ c.mode = 0 ∧ (s.hub.output n).goingDown = false) ∧
    (∃ s : State, ∃ n : Nat, isOutput n = true ∧ (s.hub.output n).step = 4 ∧ (s.hub.output n).goingDown = false ∧ s.hub.due (.outputChange n) = true ∧ (s.hub.output n).fast = false) :=
  ⟨⟨(at_ fun h => due (.outputChange 32) (h.modOutput 32 fun x => { x with powered := true, step := 1, goal := some ⟨1, 0, 0⟩, cfg := ⟨2, 0, 0⟩ })), 32, by decide +kernel⟩,
   ⟨(at_ fun h => due (.outputChange 1) (h.modOutput 1 fun x => { x with powered := true, step := 2, goal := some ⟨2, 3, 0⟩ })), 1, ⟨2, 3, 0⟩, by decide +kernel⟩,
   ⟨(at_ fun h => h.modOutput 32 fun x => { x with powered := true, step := 3, goal := some ⟨2, 3, 0⟩ }), 32, ⟨2, 3, 0⟩, by decide +kernel⟩,
   ⟨(at_ fun h => h.modOutput 32 fun x => { x with powered := true, step := 3, goal := some ⟨0, 0, 0⟩ }), 32, ⟨0, 0, 0⟩, by decide +kernel⟩,
   ⟨(at_ fun h => due (.outputChange 32) (h.modOutput 32 fun x => { x with powered := true, step := 4, goal := some ⟨2, 3, 0⟩, cfg := ⟨2, 3, 0⟩ })), 32, by decide +kernel⟩⟩

theorem witness_CvTickDrainsAndSlews :
    (∃ s : State, ∃ n : Nat, ∃ c, ∃ rest, isOutput n = true ∧ s.hub.tickNow n = true ∧ (s.hub.output n).powered = true ∧ isCv (s.hub.output n).cfg.mode = true ∧ s.hub.outState n = .running ∧ (s.hub.output n).cv.queue = c :: rest ∧ s.hub.slewDiv n ≤ (s.hub.output n).cv.divCount + 1 ∧ (s.hub.output n).cv.stepLimited = false ∧ (codeValue (s.hub.output n).cfg c - codeValue (s.hub.output n).cfg (s.hub.output n).cv.present).natAbs ≤ s.hub.slewStep n) ∧
    (∃ s : State, ∃ n : Nat, isOutput n = true ∧ s.hub.tickNow n = true ∧ (s.hub.output n).powered = true ∧ isCv (s.hub.output n).cfg.mode = true ∧ s.hub.outState n = .running ∧ (s.hub.output n).cv.queue = [] ∧ (s.hub.output n).cv.everQueued = true ∧ (s.hub.output n).cv.emptyReported = false) ∧
    (∃ s : State, ∃ n : Nat, isOutput n = true ∧ (s.hub.output n).cfg.mode = 3 ∧ (s.hub.output n).powered = true) :=
  ⟨⟨(at_ fun h => h.modOutput 32 fun x => { x with powered := true, openAt := some 0, cfg := ⟨2, 1, 0⟩, cv := { queue := [5#20, 6#20], everQueued := true, divCount := 4294967295 } }), 32, 5#20, [6#20], by decide +kernel⟩,
   ⟨(at_ fun h => h.modOutput 1 fun x => { x with powered := true, openAt := some 0, cfg := ⟨2, 1, 0⟩, cv := { everQueued := true } }), 1, by decide +kernel⟩,
   ⟨(at_ fun h => h.modOutput 32 fun x => { x with powered := true, cfg := ⟨3, 0, 0⟩ }), 32, by decide +kernel⟩⟩

theorem witness_DelayAndPatrol :
    (∃ s : State, ∃ n : Nat, isOutput n = true ∧ s.hub.due (.delayXfade n) = true ∧ (s.hub.output n).audio.delayHeld = none) ∧
    (∃ s : State, ∃ n : Nat, ∃ d, isOutput n = true ∧ s.hub.due (.delayXfade n) = true ∧ (s.hub.output n).audio.delayHeld = some d ∧ d ≠ (s.hub.output n).audio.delay) ∧
    (∃ s : State, ∃ n : Nat, ∃ v, isOutput n = true ∧ isCv (s.hub.output n).cfg.mode = true ∧ s.hub.patrolSuspended n = false ∧ cvFlagged (s.hub.output n).cfg (s.hub.output n).cv.present (s.hub.live? (outIdx n + 3) 1) v = false) ∧
    (∃ s : State, ∃ n : Nat, ∃ rms, isOutput n = true ∧ (s.hub.output n).cfg.mode = 1 ∧ s.hub.patrolSuspended n = false ∧ -6000 ≤ rms) :=
  ⟨⟨(at_ fun h => due (.delayXfade 32) (h.modAudio 32 fun a => { a with delayXfade := some ⟨0, 96, 0, 960⟩, delay := 96 })), 32, by decide +kernel⟩,
   ⟨(at_ fun h => due (.delayXfade 1) (h.modAudio 1 fun a => { a with delayXfade := some ⟨0, 96, 0, 960⟩, delay := 96, delayHeld := some 0 })), 1, 0, by decide +kernel⟩,
   ⟨(at_ fun h => h.modOutput 32 fun x => { x with powered := true, openAt := some 0, cfg := ⟨2, 1, 0⟩ }), 32, 0, by decide +kernel⟩,
   ⟨(at_ fun h => h.modOutput 1 fun x => { x with powered := true, openAt := some 0, cfg := ⟨1, 0, 0⟩, audio := { x.audio with protect := Fade.steady unity } }), 1, (-6000), by decide +kernel⟩⟩

theorem witness_HardwareMuteCutsItsMembers :
    (∃ s : State, ∃ k : Nat, isMuteGroup k = true ∧ s.hub.hmuteLow k = false) ∧
    (∃ s : State, ∃ k : Nat, isMuteGroup k = true ∧ s.hub.hmuteLow k = true) ∧
    (∃ s : State, ∃ k : Nat, isMuteGroup k = true ∧ s.hub.due (.hmute k) = true ∧ s.hub.inputsMuted = false) :=
  ⟨⟨(at_ fun h => { h with boot := { h.boot with muteMask := [(3, 1)] } }), 3, by decide +kernel⟩,
   ⟨(at_ fun h => { h with ext := { h.ext with hmutePins := 1 } }), 0, by decide +kernel⟩,
   ⟨(at_ fun h => due (.hmute 3) (h)), 3, by decide +kernel⟩⟩

theorem witness_PanicMutesAndLampsTest :
    (∃ s : State, s.hub.twi.panic = false) ∧
    (∃ s : State, s.hub.twi.panic = true) ∧
    (∃ bits, bits < 16) ∧
    (∃ s : State, ∃ k : Nat, k < 4 ∧ s.hub.due (.lampTest k) = true) :=
  ⟨⟨(at_ fun h => h.modOutput 32 fun x => { x with powered := true, openAt := some 0, cfg := ⟨2, 1, 0⟩ }), by decide +kernel⟩,
   ⟨(at_ fun h => { h with twi := { h.twi with panic := true } }), by decide +kernel⟩,
   ⟨15, by decide +kernel⟩,
   ⟨(at_ fun h => due (.lampTest 3) ({ h with twi := { h.twi with lampTest := 15 } })), 3, by decide +kernel⟩⟩

theorem witness_LowRailsMute :
    (∃ s : State, s.hub.supply.fastMute = false) ∧
    (∃ s : State, s.hub.supply.avddFault = false ∧ s.hub.supply.inputMute = false) ∧
    (∃ s : State, s.hub.supply.inputMute = false) ∧
    (∃ s : State, s.hub.supply.avddFault = false) ∧
    (∃ s : State, s.hub.supply.avddFault = true ∧ s.hub.supply.fastMute = false ∧ s.hub.supply.inputMute = false) :=
  ⟨⟨(at_ fun h => h.modOutput 32 fun x => { x with powered := true, openAt := some 0, cfg := ⟨2, 1, 0⟩ }), by decide +kernel⟩,
   ⟨(at_ fun h => { h with supply := { h.supply with fastMute := true } }), by decide +kernel⟩,
   ⟨(at_ id), by decide +kernel⟩,
   ⟨(at_ id), by decide +kernel⟩,
   ⟨(at_ fun h => { h with supply := { h.supply with avddFault := true } }), by decide +kernel⟩⟩

theorem witness_DipsAndHeatAreReported :
    (∃ s : State, s.hub.supply.dip = false) ∧
    (∃ s : State, s.hub.supply.dip = true) ∧
    (∃ s : State, s.hub.supply.dip = true ∧ s.hub.due .dip = true) ∧
    (∃ s : State, s.hub.due .vio = true) ∧
    (∃ s : State, s.hub.supply.thermalWarn = false) ∧
    (∃ s : State, s.hub.supply.thermalCrit = false ∧ s.hub.spk.state = .running ∧ s.hub.spk.bridgeOn = true) ∧
    (∃ s : State, s.hub.supply.thermalCrit = true ∧ s.hub.spk.state = .thermal ∧ s.hub.spk.enable = true ∧ s.hub.vspkOk = true) ∧
    (∃ s : State, s.hub.supply.thermalCrit = false) ∧
    (∃ s : State, ∃ k : Nat, k < 4 ∧ s.hub.supply.tsDisagree = false) :=
  ⟨⟨(at_ id), by decide +kernel⟩,
   ⟨(at_ fun h => { h with supply := { h.supply with dip := true } }), by decide +kernel⟩,
   ⟨(at_ fun h => due .dip ({ h with supply := { h.supply with dip := true, recovering := true } })), by decide +kernel⟩,
   ⟨(at_ fun h => due .vio ({ h with supply := { h.supply with vioWarn := true } })), by decide +kernel⟩,
   ⟨(at_ id), by decide +kernel⟩,
   ⟨(at_ fun h => h.modSpk fun x => { x with state := .running, bridgeOn := true, enable := true }), by decide +kernel⟩,
   ⟨(at_ fun h => { (h.modSpk fun x => { x with state := .thermal, enable := true }) with supply := { h.supply with thermalWarn := true, thermalCrit := true } }), by decide +kernel⟩,
   ⟨(at_ fun h => { h with supply := { h.supply with thermalWarn := true } }), by decide +kernel⟩,
   ⟨(at_ id), 3, by decide +kernel⟩⟩

theorem witness_HeadphonesProtectAndPowerUp :
    (∃ s : State, ∃ j : Nat, isHeadphone j = true ∧ (s.hub.headphone j).powered = true ∧ (s.hub.headphone j).jack.classifying = false) ∧
    (∃ s : State, s.hub.spk.powerup = 2 ∧ s.hub.due .hpPowerup = true) ∧
    (∃ s : State, s.hub.spk.powerup = 3 ∧ s.hub.due .hpPowerup = true) ∧
    (∃ s : State, s.hub.spk.powerup = 4 ∧ s.hub.due .hpPowerup = true ∧ 1 ≤ s.hub.boot.service) ∧
    (∃ s : State, s.hub.spk.powerup = 5 ∧ s.hub.due .hpPowerup = true) :=
  ⟨⟨(at_ fun h => h.modHeadphone 4 fun x => { x with powered := true, openAt := some 0 }), 4, by decide +kernel⟩,
   ⟨(at_ fun h => due .hpPowerup (h.modSpk fun x => { x with powerup := 2, enable := true })), by decide +kernel⟩,
   ⟨(at_ fun h => due .hpPowerup (h.modSpk fun x => { x with powerup := 3 })), by decide +kernel⟩,
   ⟨(at_ fun h => due .hpPowerup (h.modSpk fun x => { x with powerup := 4 })), by decide +kernel⟩,
   ⟨(at_ fun h => due .hpPowerup (h.modSpk fun x => { x with powerup := 5 })), by decide +kernel⟩⟩

theorem witness_SpeakerProtectsAndStarts :
    (∃ s : State, s.hub.spk.bridgeOn = true ∧ (s.hub.spk.restarts.filter (fun t => decide (s.hub.now < t + 960000))).length < 4) ∧
    (∃ s : State, s.hub.spk.bridgeOn = true ∧ 4 ≤ (s.hub.spk.restarts.filter (fun t => decide (s.hub.now < t + 960000))).length) ∧
    (∃ s : State, s.hub.spk.state = .restarting ∧ s.hub.due .spkRestart = true ∧ s.hub.spk.enable = true ∧ s.hub.vspkOk = true ∧ s.hub.supply.thermalCrit = false) ∧
    (∃ s : State, s.hub.spk.bridgeOn = true) ∧
    (∃ s : State, s.hub.spk.state = .running ∧ s.hub.spk.vspkHigh = false) ∧
    (∃ s : State, s.hub.spk.state = .running ∧ s.hub.spk.bridgeOn = true ∧ s.hub.spk.vspkLow = false) ∧
    (∃ s : State, s.hub.spk.state = .vspkOut ∧ s.hub.spk.bridgeOn = true ∧ s.hub.spk.enable = true ∧ s.hub.spk.fast = false) ∧
    (∃ s : State, s.hub.spk.state = .vspkOut ∧ s.hub.spk.bridgeOn = false ∧ s.hub.spk.enable = true ∧ s.hub.supply.thermalCrit = false) ∧
    (∃ s : State, s.hub.due .spkSequence = true ∧ s.hub.spk.seq = 2 ∧ s.hub.spk.fast = false) ∧
    (∃ s : State, s.hub.due .spkSequence = true ∧ s.hub.spk.seq = 1) ∧
    (∃ s : State, s.hub.due .spkSequence = true ∧ s.hub.spk.seq = 3) ∧
    (∃ s : State, s.hub.due .spkSequence = false) :=
  ⟨⟨(at_ fun h => h.modSpk fun x => { x with state := .running, bridgeOn := true, enable := true, restarts := [0, 959990, 959991, 959992] }), by decide +kernel⟩,
   ⟨(at_ fun h => h.modSpk fun x => { x with state := .running, bridgeOn := true, enable := true, restarts := [2, 959990, 959991, 959992] }), by decide +kernel⟩,
   ⟨(at_ fun h => due .spkRestart (h.modSpk fun x => { x with state := .restarting, enable := true })), by decide +kernel⟩,
   ⟨(at_ fun h => h.modSpk fun x => { x with state := .running, bridgeOn := true, enable := true }), by decide +kernel⟩,
   ⟨(at_ fun h => h.modSpk fun x => { x with state := .running, bridgeOn := true, enable := true }), by decide +kernel⟩,
   ⟨(at_ fun h => h.modSpk fun x => { x with state := .running, bridgeOn := true, enable := true }), by decide +kernel⟩,
   ⟨(at_ fun h => h.modSpk fun x => { x with state := .vspkOut, bridgeOn := true, enable := true, vspkLow := true }), by decide +kernel⟩,
   ⟨(at_ fun h => h.modSpk fun x => { x with state := .vspkOut, enable := true, vspkHigh := true }), by decide +kernel⟩,
   ⟨(at_ fun h => due .spkSequence (h.modSpk fun x => { x with state := .powering, seq := 2, enable := true })), by decide +kernel⟩,
   ⟨(at_ fun h => due .spkSequence (h.modSpk fun x => { x with state := .off, seq := 1, bridgeOn := true })), by decide +kernel⟩,
   ⟨(at_ fun h => due .spkSequence (h.modSpk fun x => { x with state := .thermal, seq := 3, bridgeOn := true, enable := true })), by decide +kernel⟩,
   ⟨(at_ id), by decide +kernel⟩⟩

theorem witness_JackEdgesAreDebounced :
    (∃ s : State, ∃ j : Nat, ∃ level, isHeadphone j = true ∧ (s.hub.headphone j).jack.pin ≠ level ∧ s.hub.jackSensing = true ∧ s.hub.jackSetting j 1 ≠ 0 ∧ s.hub.rawInserted j level = true ∧ (s.hub.headphone j).jack.inserted = false ∧ (s.hub.headphone j).jack.removing = false) ∧
    (∃ s : State, ∃ j : Nat, ∃ level, isHeadphone j = true ∧ (s.hub.headphone j).jack.pin ≠ level ∧ s.hub.jackSensing = true ∧ s.hub.jackSetting j 1 ≠ 0 ∧ s.hub.rawInserted j level = false ∧ (s.hub.headphone j).jack.inserted = true ∧ (s.hub.headphone j).jack.removing = false) ∧
    (∃ s : State, ∃ j : Nat, isHeadphone j = true ∧ s.hub.due (.jdDebounce j) = true) ∧
    (∃ s : State, ∃ j : Nat, isHeadphone j = true ∧ s.hub.due (.jackRemove j) = true ∧ (s.hub.headphone j).protect = false) :=
  ⟨⟨(at_ fun h => put (hpIdx 4 + 1) 1 1 (h.modSpk fun x => { x with powerup := 6 })), 4, false, by decide +kernel⟩,
   ⟨(at_ fun h => put (hpIdx 4 + 1) 1 1 ((h.modSpk fun x => { x with powerup := 6 }).modJack 4 fun x => { x with pin := false, inserted := true, accessory := 2 })), 4, true, by decide +kernel⟩,
   ⟨(at_ fun h => due (.jdDebounce 4) (h.modJack 4 fun x => { x with pin := false })), 4, by decide +kernel⟩,
   ⟨(at_ fun h => due (.jackRemove 1) (h.modJack 1 fun x => { x with removing := true, inserted := true, accessory := 2 })), 1, by decide +kernel⟩⟩

theorem witness_HeadsetsAndButtons :
    (∃ s : State, ∃ j : Nat, isHeadphone j = true ∧ s.hub.due (.classify j) = true) ∧
    (∃ s : State, ∃ m, isHeadMic m = true ∧ s.hub.due (.hmBias m) = true ∧ s.hub.buttonMutes m = false) ∧
    (∃ s : State, ∃ j : Nat, ∃ ohms, ∃ k : Nat, isHeadphone j = true ∧ buttonOf ohms = some k ∧ isHeadset (s.hub.headphone j).jack.accessory = true ∧ (s.hub.headMic j).bias = .on ∧ (s.hub.headphone j).jack.buttons = 0) ∧
    (∃ s : State, ∃ j : Nat, isHeadphone j = true ∧ s.hub.due (.longPress j) = true) ∧
    (∃ s : State, ∃ j : Nat, isHeadphone j = true ∧ (s.hub.headphone j).jack.buttons ≠ 0) :=
  ⟨⟨(at_ fun h => due (.classify 4) (h.modJack 4 fun x => { x with inserted := true, classifying := true, accessory := 1 })), 4, by decide +kernel⟩,
   ⟨(at_ fun h => due (.hmBias 4) (h.modHeadMic 4 fun x => { x with bias := .on })), 4, by decide +kernel⟩,
   ⟨(at_ fun h => (h.modJack 4 fun x => { x with accessory := 3 }).modHeadMic 4 fun x => { x with bias := .on }), 4, 680, 3, by decide +kernel⟩,
   ⟨(at_ fun h => due (.longPress 4) (h.modJack 4 fun x => { x with accessory := 3, buttons := 1 })), 4, by decide +kernel⟩,
   ⟨(at_ fun h => h.modJack 4 fun x => { x with accessory := 3, buttons := 8 }), 4, by decide +kernel⟩⟩

theorem witness_HarnessFadesEnd :
    (∃ s : State, ∃ k : Nat, isSink k = true ∧ s.hub.due (.sinkXfade k) = true ∧ (s.hub.sink k).held = none) ∧
    (∃ s : State, ∃ k : Nat, ∃ v, isSink k = true ∧ s.hub.due (.sinkXfade k) = true ∧ (s.hub.sink k).held = some v ∧ v ≠ (s.hub.sink k).source ∧ 0 < us (s.hub.live? (selIdx k) 2)) ∧
    (∃ s : State, ∃ k : Nat, ∃ v, isSink k = true ∧ s.hub.due (.sinkXfade k) = true ∧ (s.hub.sink k).held = some v ∧ v = (s.hub.sink k).source) ∧
    (∃ h : Hub, ∃ k : Nat, isSink k = true ∧ (h.sink k).xfade.isSome = true ∧ h.due (.sinkXfade k) = false) ∧
    (∃ k : Nat, isSink k = true) ∧
    (∃ s : State, ∃ g : Nat, g < 8 ∧ s.hub.due (.generator g) = true) ∧
    (∃ s : State, ∃ b : Nat, ∃ k : Nat, ∃ e, isBus b = true ∧ 1 ≤ k ∧ k ≤ 64 ∧ s.hub.due (.xpFade (64 * b + k)) = true ∧ (s.hub.term (64 * b + k)).atZero = some e) ∧
    (∃ b : Nat, isBus b = true) ∧
    (∃ s : State, ∃ p, ∃ t, isProcess p = true ∧ t < 8 ∧ s.hub.due (.tap p t) = true ∧ tget (s.hub.proc p).tapHeld t = none) ∧
    (∃ s : State, ∃ p, ∃ t, ∃ d, ∃ c, isProcess p = true ∧ t < 8 ∧ s.hub.due (.tap p t) = true ∧ tget (s.hub.proc p).tapHeld t = some d ∧ tget (s.hub.proc p).taps t = some c ∧ c.new ≠ d) :=
  ⟨⟨(at_ fun h => due (.sinkXfade 0x1BF) (h.modSink 0x1BF fun x => { x with source := 3, xfade := some ⟨1, 3, 0, 960⟩ })), 0x1BF, by decide +kernel⟩,
   ⟨(at_ fun h => due (.sinkXfade 1) (put (selIdx 1) 2 20000 (h.modSink 1 fun x => { x with source := 3, xfade := some ⟨1, 3, 0, 960⟩, held := some 5 }))), 1, 5, by decide +kernel⟩,
   ⟨(at_ fun h => due (.sinkXfade 1) (h.modSink 1 fun x => { x with source := 3, xfade := some ⟨1, 3, 0, 960⟩, held := some 3 })), 1, 3, by decide +kernel⟩,
   ⟨((full.modSink 1 fun x => { x with source := 3, xfade := some ⟨1, 3, 0, 960⟩ }).start (.sinkXfade 1) 5), 1, by decide +kernel⟩,
   ⟨0x1BF, by decide +kernel⟩,
   ⟨(at_ fun h => due (.generator 7) (h.modGen 7 fun x => { x with type := 1, target := 2, phase := .fadingOut })), 7, by decide +kernel⟩,
   ⟨(at_ fun h => due (.xpFade 4096) (h.modTerm 4096 fun t => { t with enabled := true, atZero := some 5 })), 63, 64, 5, by decide +kernel⟩,
   ⟨63, by decide +kernel⟩,
   ⟨(at_ fun h => due (.tap 63 7) (h.modProc 63 fun x => { x with state := 1, type := 5, taps := [(7, ⟨1, 2, 0, 960⟩)] })), 63, 7, by decide +kernel⟩,
   ⟨(at_ fun h => due (.tap 63 0) (h.modProc 63 fun x => { x with state := 1, type := 5, taps := [(0, ⟨1, 2, 0, 960⟩)], tapHeld := [(0, 9)] })), 63, 0, 9, ⟨1, 2, 0, 960⟩, by decide +kernel⟩⟩

theorem witness_ReliefLaneTakesOver :
    (∃ s : State, ∃ k : Nat, k < 8 ∧ (s.hub.lane k).retired = false ∧ (s.hub.lane k).faulty = false ∧ s.hub.reportOnly = false ∧ s.hub.dsp.takeover = none ∧ s.hub.dsp.relief = 0xFF) ∧
    (∃ s : State, (s.hub.lane 8).retired = false ∧ (s.hub.lane 8).faulty = false ∧ s.hub.dsp.takeover = none ∧ 8 ≤ s.hub.dsp.relief ∧ s.hub.dsp.relief ≠ 0xFE) ∧
    (∃ s : State, ∃ k : Nat, s.hub.dsp.takeover = some k ∧ s.hub.dsp.resumed = false) ∧
    (∃ s : State, ∃ k : Nat, s.hub.dsp.takeover = some k ∧ s.hub.due .takeover = true) ∧
    (∃ s : State, ∃ k : Nat, s.hub.patrolling = true ∧ s.hub.dsp.recheck = false ∧ s.hub.due .l8Patrol = true ∧ s.hub.nextPatrol s.hub.dsp.patrolLane = some k) ∧
    (∃ s : State, s.hub.patrolling = true ∧ s.hub.armed .l8Patrol = true ∧ s.hub.dsp.recheck = false) ∧
    (∃ s : State, s.hub.dsp.recheck = true) ∧
    (∃ s : State, s.hub.dsp.recheck = true) ∧
    (∃ s : State, s.hub.dsp.recheck = true ∧ s.hub.dsp.patrolLane < 8 ∧ (s.hub.lane s.hub.dsp.patrolLane).retired = false ∧ (s.hub.lane s.hub.dsp.patrolLane).faulty = false ∧ s.hub.reportOnly = false ∧ s.hub.dsp.takeover = none ∧ s.hub.dsp.relief = 0xFF) :=
  ⟨⟨(at_ id), 7, by decide +kernel⟩,
   ⟨(at_ id), by decide +kernel⟩,
   ⟨(at_ fun h => { h with dsp := { h.dsp with takeover := some 7 } }), 7, by decide +kernel⟩,
   ⟨(at_ fun h => due .takeover ({ h with dsp := { h.dsp with takeover := some 7, loaded := true, resumed := true } })), 7, by decide +kernel⟩,
   ⟨(at_ fun h => due .l8Patrol ({ (h.modProc 3 fun x => { x with state := 1, type := 1, cost := 1, position := some 5 }) with dsp := { h.dsp with patrolLane := 5 } })), 5, by decide +kernel⟩,
   ⟨(at_ fun h => h.start .l8Patrol 5), by decide +kernel⟩,
   ⟨(at_ fun h => { h with dsp := { h.dsp with recheck := true } }), by decide +kernel⟩,
   ⟨(at_ fun h => { h with dsp := { h.dsp with recheck := true } }), by decide +kernel⟩,
   ⟨(at_ fun h => { h with dsp := { h.dsp with recheck := true, patrolLane := 7 } }), by decide +kernel⟩⟩

theorem witness_CriteriaMarkTheSlice :
    (∃ s : State, ∃ n : Nat, ∃ l : Int, isInput n = true ∧ s.hub.judging (.input n) = true ∧ Config.factoryNoise n 0 + s.hub.noiseMargin < l) ∧
    (∃ s : State, ∃ n : Nat, ∃ line, isInput n = true ∧ s.hub.judging (.input n) = true ∧ -14500 < line) ∧
    (∃ s : State, ∃ n : Nat, isOutput n = true ∧ s.hub.judging (.output n) = true ∧ (s.hub.output n).cfg.mode = 1) ∧
    (∃ s : State, ∃ sl : SliceId, isSlice sl = true ∧ s.hub.judgeable sl = true) ∧
    (∃ n : Nat, isInput n = true) ∧
    (∃ n : Nat, isOutput n = true) ∧
    (∃ s : State, ∃ n : Nat, isInput n = true ∧ (s.hub.input n).phantom.state = .off) :=
  ⟨⟨(at_ fun h => h.modInput 48 fun x => { x with fe := .running }), 48, (Config.factoryNoise 48 0 + 100000), by decide +kernel, by decide +kernel, by simp only [show (at_ fun h => h.modInput 48 fun x => { x with fe := .running }).hub.noiseMargin = 600 from by decide +kernel]; omega⟩,
   ⟨(at_ fun h => h.modInput 1 fun x => { x with fe := .running }), 1, (-14499), by decide +kernel⟩,
   ⟨(at_ fun h => h.modOutput 32 fun x => { x with powered := true, openAt := some 0, cfg := ⟨1, 0, 0⟩, audio := { x.audio with protect := Fade.steady unity } }), 32, by decide +kernel⟩,
   ⟨(at_ fun h => h.modOutput 32 fun x => { x with powered := true, openAt := some 0, cfg := ⟨1, 0, 0⟩, audio := { x.audio with protect := Fade.steady unity } }), (.output 32), by decide +kernel⟩,
   ⟨48, by decide +kernel⟩,
   ⟨32, by decide +kernel⟩,
   ⟨(at_ id), 48, by decide +kernel⟩⟩

theorem witness_ReliefRunsItsCourse :
    (∃ s : State, ∃ k : Nat, ∃ n : Nat, k < 6 ∧ (s.hub.relief (.irs k)).state = 1 ∧ (s.hub.relief (.irs k)).serves = n ∧ (s.hub.relief (.irs k)).direct = false ∧ s.hub.due (.reliefSettle (.irs k)) = true) ∧
    (∃ s : State, ∃ k : Nat, ∃ n : Nat, k < 6 ∧ (s.hub.relief (.irs k)).state = 1 ∧ (s.hub.relief (.irs k)).serves = n ∧ (s.hub.relief (.irs k)).direct = true ∧ isInput n = true ∧ s.hub.due (.reliefSettle (.irs k)) = true) ∧
    (∃ s : State, ∃ k : Nat, ∃ n : Nat, k < 4 ∧ (s.hub.relief (.ors k)).state = 1 ∧ (s.hub.relief (.ors k)).serves = n ∧ s.hub.due (.reliefSettle (.ors k)) = true) ∧
    (∃ s : State, ∃ k : Nat, ∃ n : Nat, k < 6 ∧ (s.hub.relief (.irs k)).state = 2 ∧ (s.hub.relief (.irs k)).serves = n ∧ isInput n = true ∧ s.hub.due (.reliefXfade (.irs k)) = true) ∧
    (∃ s : State, ∃ k : Nat, ∃ n : Nat, k < 4 ∧ (s.hub.relief (.ors k)).state = 2 ∧ (s.hub.relief (.ors k)).serves = n ∧ s.hub.due (.reliefXfade (.ors k)) = true) ∧
    (∃ s : State, ∃ u, isUnit u = true ∧ (s.hub.relief u).state = 6 ∧ s.hub.due (.reliefTest u) = true) ∧
    (∃ s : State, ∃ u, isUnit u = true ∧ (s.hub.relief u).state = 6 ∧ s.hub.due (.reliefTest u) = true) :=
  ⟨⟨(at_ fun h => due (.reliefSettle (.irs 5)) (h.modRelief (.irs 5) fun r => { r with state := 1, serves := 48 })), 5, 48, by decide +kernel⟩,
   ⟨(at_ fun h => due (.reliefSettle (.irs 5)) (h.modRelief (.irs 5) fun r => { r with state := 1, serves := 1, direct := true })), 5, 1, by decide +kernel⟩,
   ⟨(at_ fun h => due (.reliefSettle (.ors 3)) (h.modRelief (.ors 3) fun r => { r with state := 1, serves := 32 })), 3, 32, by decide +kernel⟩,
   ⟨(at_ fun h => due (.reliefXfade (.irs 0)) ((h.modRelief (.irs 0) fun r => { r with state := 2, serves := 48 }).modSlice (.input 48) fun x => { x with state := .crossfading })), 0, 48, by decide +kernel⟩,
   ⟨(at_ fun h => due (.reliefXfade (.ors 3)) ((h.modRelief (.ors 3) fun r => { r with state := 2, serves := 32 }).modSlice (.output 32) fun x => { x with state := .crossfading })), 3, 32, by decide +kernel⟩,
   ⟨(at_ fun h => due (.reliefTest (.irs 5)) (h.modRelief (.irs 5) fun r => { r with state := 6 })), (.irs 5), by decide +kernel⟩,
   ⟨(at_ fun h => due (.reliefTest (.ors 3)) (h.modRelief (.ors 3) fun r => { r with state := 6 })), (.ors 3), by decide +kernel⟩⟩

theorem witness_SampleMemoryBanksRetire :
    (∃ s : State, ∃ b : Nat, b < 12 ∧ s.hub.sram.retired.testBit b = false ∧ b ∉ s.hub.sram.copying ∧ b ∉ s.hub.sram.switchDue ∧ s.hub.sram.spares ≠ 0) ∧
    (∃ s : State, ∃ b : Nat, b < 12 ∧ ((tgetD s.hub.sram.corrected b []).filter (fun f => decide (s.hub.now < f + 345600000))).length < 16) ∧
    (∃ s : State, ∃ b : Nat, b < 12 ∧ b ∈ s.hub.sram.copying) :=
  ⟨⟨(at_ id), 11, by decide +kernel⟩,
   ⟨(at_ fun h => { h with sram := { h.sram with corrected := [(11, [1, 2])] } }), 11, by decide +kernel⟩,
   ⟨(at_ fun h => { h with sram := { h.sram with copying := [11], spares := 1 } }), 11, by decide +kernel⟩⟩

theorem witness_ReinLoopFollowsItsAnchor :
    (∃ s : State, ∃ e : Int, ∃ port, s.hub.clk.sample = some e ∧ s.hub.followed s.hub.clk.anchor port = true ∧ s.hub.clk.running = true ∧ s.hub.clk.xtalFail = false ∧ s.hub.pwr.state = 0 ∧ s.hub.anchorUsable = true ∧ s.hub.clk.rein = 1) ∧
    (∃ s : State, ∃ e : Int, ∃ port, s.hub.clk.sample = some e ∧ s.hub.followed s.hub.clk.anchor port = true ∧ s.hub.clk.running = true ∧ s.hub.clk.xtalFail = false ∧ s.hub.pwr.state = 0 ∧ s.hub.anchorUsable = true ∧ s.hub.clk.rein = 2 ∧ phaseWithin e (5 * s.hub.lockWindow) = false ∧ s.hub.clk.badSamples = 7) ∧
    (∃ s : State, ∃ e : Int, ∃ port, s.hub.clk.sample = some e ∧ s.hub.followed s.hub.clk.anchor port = true ∧ s.hub.clk.running = true ∧ s.hub.clk.xtalFail = false ∧ s.hub.pwr.state = 0 ∧ s.hub.anchorUsable = true ∧ s.hub.clk.rein = 2 ∧ phaseWithin e (5 * s.hub.lockWindow) = true) ∧
    (∃ s : State, ∃ anchor, ∃ port, (s.hub.clk.sample = none ∨ s.hub.followed anchor port = false)) ∧
    (∃ s : State, s.hub.clk.rein = 1 ∧ s.hub.due .reinLock = true) ∧
    (∃ s : State, s.hub.clk.rein = 2 ∧ s.hub.anchorUsable = true ∧ s.hub.due .reinLimit = true) ∧
    (∃ s : State, s.hub.clk.rein = 2 ∧ s.hub.anchorUsable = false) ∧
    (∃ s : State, s.hub.clk.pllLocked = true ∧ s.hub.clk.rein = 2) :=
  ⟨⟨(at_ fun h => { h with clk := { h.clk with rein := 1, anchor := 1, sample := some 10, wck := { present := true, cls := 3, rate := 48000 } } }), 10, 7, by decide +kernel⟩,
   ⟨(at_ fun h => { h with clk := { h.clk with rein := 2, anchor := 1, sample := some 100000, wck := { present := true, cls := 3, rate := 48000 }, badSamples := 7 } }), 100000, 7, by decide +kernel⟩,
   ⟨(at_ fun h => { h with clk := { h.clk with rein := 2, anchor := 1, sample := some 0, wck := { present := true, cls := 3, rate := 48000 } } }), 0, 7, by decide +kernel⟩,
   ⟨(at_ id), 2, 7, by decide +kernel⟩,
   ⟨(at_ fun h => due .reinLock ({ h with clk := { h.clk with rein := 1, anchor := 1, wck := { present := true, cls := 3, rate := 48000 } } })), by decide +kernel⟩,
   ⟨(at_ fun h => due .reinLimit ({ h with clk := { h.clk with rein := 2, anchor := 1, wck := { present := true, cls := 3, rate := 48000 } } })), by decide +kernel⟩,
   ⟨(at_ fun h => { h with clk := { h.clk with rein := 2, anchor := 1 } }), by decide +kernel⟩,
   ⟨(at_ fun h => { h with clk := { h.clk with rein := 2, anchor := 1 } }), by decide +kernel⟩⟩

theorem witness_CrystalAndHoldValue :
    (∃ s : State, s.hub.boot.step = 3 ∧ s.hub.framesRun = false ∧ s.hub.ext.xinOk = false) ∧
    (∃ s : State, s.hub.clk.pllLocked = true ∧ s.hub.due .storedHold = true ∧ s.hub.supply.dip = false) ∧
    (∃ s : State, s.hub.clk.xtalFail = true ∧ s.hub.clk.running = true ∧ s.hub.clk.rein = 3) :=
  ⟨⟨{ State.reset with hub := { State.reset.hub with boot := { step := 3 }, ext := { State.reset.hub.ext with xinOk := false } } }, by decide +kernel⟩,
   ⟨(at_ fun h => due .storedHold (h)), by decide +kernel⟩,
   ⟨(at_ fun h => { h with clk := { h.clk with xtalFail := true, rein := 3, anchor := 0 } }), by decide +kernel⟩⟩

theorem witness_WordClockIsTracked :
    (∃ s : State, s.hub.wckinSeen = true ∧ s.hub.clk.wck.present = false) ∧
    (∃ s : State, ∃ since, s.hub.wckinSeen = true ∧ s.hub.clk.wck.present = true ∧ s.hub.clk.wck.spoiled = false ∧ (2 * since * s.hub.clk.wck.periods.length + s.hub.clk.wck.periods.sum) / (2 * s.hub.clk.wck.periods.sum) = 1 ∧ ((since * s.hub.clk.wck.periods.length : Nat) - (s.hub.clk.wck.periods.sum : Nat) : Int).natAbs * 200 ≤ s.hub.clk.wck.periods.sum) ∧
    (∃ s : State, s.hub.clk.wck.present = true ∧ s.hub.clk.wck.spoiled = false ∧ s.hub.clk.wck.missed < 3 ∧ s.hub.wckinSeen = true) ∧
    (∃ s : State, s.hub.clk.wck.present = true ∧ s.hub.clk.wck.spoiled = false ∧ 3 ≤ s.hub.clk.wck.missed ∧ s.hub.clk.anchor = 1 ∧ s.hub.clk.rein = 2 ∧ s.hub.wckinSeen = true) ∧
    (∃ s : State, s.hub.clk.wck.present = false ∧ consistent s.hub.clk.wck.periods = true ∧ s.hub.clk.anchor ≠ 1 ∧ s.hub.wckinSeen = true) :=
  ⟨⟨(at_ id), by decide +kernel⟩,
   ⟨(at_ fun h => { h with clk := { h.clk with wck := { present := true, periods := List.replicate 32 20833, cls := 3, rate := 48000 } } }), 20833, by decide +kernel⟩,
   ⟨(at_ fun h => { h with clk := { h.clk with wck := { present := true, missed := 2 } } }), by decide +kernel⟩,
   ⟨(at_ fun h => { h with clk := { h.clk with anchor := 1, rein := 2, wck := { present := true, missed := 3, cls := 2 } } }), by decide +kernel⟩,
   ⟨(at_ fun h => { h with clk := { h.clk with wck := { periods := List.replicate 32 20833 } } }), by decide +kernel⟩⟩

theorem witness_PortsStartAndStop :
    (∃ s : State, ∃ p, isPort p = true ∧ (s.hub.port p).state = .waitClock ∧ (s.hub.port p).measClass ≠ 0 ∧ 2 ≤ (s.hub.port p).exactFrames ∧ s.hub.padsHeld p = false ∧ s.hub.boot.full = false) ∧
    (∃ s : State, ∃ p, isPort p = true ∧ (s.hub.port p).state = .waitClock ∧ (s.hub.port p).measClass ≠ 0 ∧ 2 ≤ (s.hub.port p).exactFrames ∧ s.hub.padsHeld p = false ∧ s.hub.isSyncSlave p = true ∧ s.hub.syncAllowed p = true ∧ (s.hub.port p).reserve = false) ∧
    (∃ s : State, ∃ p, isPort p = true ∧ (s.hub.port p).state = .preamble ∧ (s.hub.port p).preambleLeft = 0 ∧ s.hub.allLocked p = true ∧ (s.hub.port p).rateFault = false) ∧
    (∃ s : State, ∃ p, isPort p = true ∧ (s.hub.port p).state = .fadeIn ∧ s.hub.due (.portFade p) = true) ∧
    (∃ s : State, ∃ p, isPort p = true ∧ (s.hub.port p).state = .flush ∧ (s.hub.port p).flushLeft = 0 ∧ s.hub.cap.state ≠ 2 ∧ s.hub.isAnchorPort p = false) ∧
    (∃ s : State, ∃ p, isPort p = true ∧ (s.hub.port p).maskPending = true ∧ 1 ≤ (s.hub.port p).maskFrames) :=
  ⟨⟨(at_ fun h => { (h.modPort 7 fun x => { x with state := .waitClock, measClass := 2, exactFrames := 2 }) with boot := { h.boot with full := false, service := 1 } }), 7, by decide +kernel⟩,
   ⟨(at_ fun h => { (h.modPort 7 fun x => { x with state := .waitClock, cfg := [(1, 0), (3, 3), (9, 1)], measClass := 3, exactFrames := 2 }) with clk := { h.clk with rein := 2 } }), 7, by decide +kernel⟩,
   ⟨(at_ fun h => h.modPort 7 fun x => { x with state := .preamble }), 7, by decide +kernel⟩,
   ⟨(at_ fun h => due (.portFade 7) (h.modPort 7 fun x => { x with state := .fadeIn })), 7, by decide +kernel⟩,
   ⟨(at_ fun h => h.modPort 7 fun x => { x with state := .flush }), 7, by decide +kernel⟩,
   ⟨(at_ fun h => put (portIdx 7) 0x0F 3 (h.modPort 7 fun x => { x with state := .running, maskPending := true, maskFrames := 2 })), 7, by decide +kernel⟩⟩

theorem witness_PortsFollowTheirPins :
    (∃ s : State, ∃ p, isPort p = true ∧ s.hub.isMaster p = false ∧ (s.hub.port p).state = .running ∧ (s.hub.port p).measClass ≠ 0 ∧ s.hub.cap.state ≠ 2 ∧ s.hub.isAnchorPort p = false) ∧
    (∃ s : State, ∃ p, ∃ rate, isPort p = true ∧ s.hub.padsHeld p = false ∧ s.hub.isMaster p = false ∧ rate ≠ 0 ∧ (s.hub.port p).state = .stopped ∧ (s.hub.port p).track.ready = true ∧ classOf rate ≠ (s.hub.port p).measClass) ∧
    (∃ s : State, ∃ p, ∃ rate, isPort p = true ∧ s.hub.padsHeld p = false ∧ s.hub.isMaster p = false ∧ rate ≠ 0 ∧ (s.hub.port p).state = .running ∧ (s.hub.port p).track.ready = true ∧ classOf rate = (s.hub.port p).measClass ∧ s.hub.rateFaulty p rate (classOf rate) = true) ∧
    (∃ s : State, ∃ p, ∃ f : PortFrame, ∃ frame : List (Bool × Bool), isPort p = true ∧ s.hub.padsHeld p = false ∧ s.hub.isMaster p = false ∧ (s.hub.port p).state = .waitClock ∧ (s.hub.port p).measClass ≠ 0 ∧ (s.hub.port p).track.present = false ∧ (s.hub.format p).aligned (s.hub.port p).pins.fsBefore (f.periods.map (s.hub.format p).sampled) = frame ∧ frame ≠ []) ∧
    (∃ s : State, ∃ p, ∃ f : PortFrame, ∃ frame : List (Bool × Bool), isPort p = true ∧ s.hub.padsHeld p = false ∧ s.hub.isMaster p = false ∧ (s.hub.port p).state = .running ∧ s.hub.portCfg p 0x0A = 0 ∧ (s.hub.port p).synchronous = false ∧ (s.hub.port p).track.present = false ∧ (s.hub.port p).maskPending = false ∧ s.hub.isAnchorPort p = false ∧ s.hub.cap.state = 0 ∧ (s.hub.format p).aligned (s.hub.port p).pins.fsBefore (f.periods.map (s.hub.format p).sampled) = frame ∧ frame ≠ [] ∧ (s.hub.format p).whole (s.hub.port p).pins.fsBefore frame ((s.hub.format p).sampled f.after).1 = true ∧ 32768 < (s.hub.port p).din.fill ∧ (s.hub.port p).din.fill < 229376 ∧ (s.hub.port p).dout.mask = 0) ∧
    (∃ s : State, ∃ p, ∃ dropped : Bool, isPort p = true ∧ s.hub.portCfg p 0x0A = 1 ∧ (s.hub.port p).state = .running ∧ (s.hub.port p).din.mask ≠ 0 ∧ (s.hub.port p).alignLost = false ∧ (s.hub.port p).din.slips < 65534 ∧ s.hub.cap.port ≠ p ∧ (if dropped then 229376 ≤ (s.hub.port p).din.fill else (s.hub.port p).din.fill ≤ 32768)) :=
  ⟨⟨(at_ fun h => h.modPort 7 fun x => { x with state := .running, measClass := 2 }), 7, by decide +kernel⟩,
   ⟨(at_ fun h => h.modPort 7 fun x => { x with track := { periods := List.replicate 32 20833 } }), 7, 48000, by decide +kernel⟩,
   ⟨(at_ fun h => h.modPort 7 fun x => { x with state := .running, measClass := 15, track := { periods := List.replicate 32 20000 } }), 7, 50000, by decide +kernel⟩,
   ⟨(at_ fun h => h.modPort 7 fun x => { x with state := .waitClock, cfg := [(2, 0)], measClass := 3, exactFrames := 1, pins := { x.pins with fsBefore := true } }), 7, ⟨[⟨false, true, false, true⟩], ⟨true, false, true, false⟩, 20833, 0, 0⟩, [(false, true)], by decide +kernel⟩,
   ⟨(at_ fun h => h.modPort 7 fun x => { x with state := .running, cfg := [(2, 0), (3, 3), (4, 2), (5, 32), (6, 24)], din := { x.din with mask := 1, fill := 131072 }, pins := { x.pins with fsBefore := true } }), 7, ⟨List.replicate 32 (⟨false, true, false, true⟩ : BclkPeriod) ++ List.replicate 32 ⟨true, false, true, false⟩, ⟨false, false, false, false⟩, 20833, 0, 0⟩, (List.replicate 32 (false, true) ++ List.replicate 32 (true, false)), by decide +kernel⟩,
   ⟨(at_ fun h => h.modPort 7 fun x => { x with state := .running, cfg := [(0x0A, 1)], din := { x.din with mask := 1, fill := 229376 } }), 7, true, by decide +kernel⟩⟩

theorem witness_ContextsLockAndRelock :
    (∃ s : State, ∃ k : Nat, isCtx k = true ∧ (s.hub.ctx k).state = .acquiring ∧ s.hub.due (.contextLock k) = true ∧ s.hub.lockable (s.hub.ctx k).port = true ∧ (s.hub.port (s.hub.ctx k).port).state = .running ∧ (s.hub.port (s.hub.ctx k).port).synchronous = false ∧ (s.hub.port (s.hub.ctx k).port).chanFade = []) ∧
    (∃ s : State, ∃ k : Nat, isCtx k = true ∧ (s.hub.ctx k).state = .relocking ∧ s.hub.due (.contextLock k) = true ∧ s.hub.lockable (s.hub.ctx k).port = true) ∧
    (∃ s : State, ∃ k : Nat, isCtx k = true ∧ (s.hub.ctx k).state = .locked) ∧
    (∃ s : State, ∃ k : Nat, isCtx k = true ∧ (s.hub.ctx k).state = .handover) ∧
    (∃ s : State, ∃ p, isPort p = true ∧ s.hub.due (.handover p) = true ∧ s.hub.towardAsrc p = true) ∧
    (∃ s : State, ∃ p, isPort p = true ∧ s.hub.due (.handover p) = true ∧ s.hub.towardAsrc p = false ∧ (s.hub.port p).reserve = false) :=
  ⟨⟨(at_ fun h => due (.contextLock 128) ((h.modCtx 128 fun x => { x with state := .acquiring, port := 7 }).modPort 7 fun x => { x with state := .running, measClass := 3 })), 128, by decide +kernel⟩,
   ⟨(at_ fun h => due (.contextLock 1) ((h.modCtx 1 fun x => { x with state := .relocking, port := 7 }).modPort 7 fun x => { x with measClass := 3 })), 1, by decide +kernel⟩,
   ⟨(at_ fun h => h.modCtx 128 fun x => { x with state := .locked, port := 7 }), 128, by decide +kernel⟩,
   ⟨(at_ fun h => h.modCtx 128 fun x => { x with state := .handover, port := 7 }), 128, by decide +kernel⟩,
   ⟨(at_ fun h => due (.handover 7) ((h.modCtx 1 fun x => { x with state := .handover, port := 7 }).modPort 7 fun x => { x with state := .running, handover := true })), 7, by decide +kernel⟩,
   ⟨(at_ fun h => due (.handover 7) (h.modPort 7 fun x => { x with state := .running, handover := true, synchronous := true })), 7, by decide +kernel⟩⟩

theorem witness_StoreWritesItsRows :
    (∃ s : State, ∃ idx : Nat, ∃ sub : Nat, (idx ≠ 0xA000 ∨ sub ≠ 2) ∧ s.hub.autoReady (key idx sub) = true ∧ s.hub.supply.dip = false) ∧
    (∃ s : State, ∃ k : Nat, ∃ rest, s.hub.rowsRun = true ∧ s.hub.store.queue = .auto k :: rest ∧ s.hub.upd.armWait = false ∧ tgetD s.hub.ext.rowWrites k 0 + 1 < 900000000) ∧
    (∃ s : State, ∃ verified : Bool, ∃ spareFails, ∃ k : Nat, ∃ rest, s.hub.rowsRun = true ∧ s.hub.store.queue = .auto k :: rest ∧ s.hub.upd.armWait = false ∧ 9 + spareFails < s.hub.store.spareRows ∧ (verified = false ∨ 900000000 ≤ tgetD s.hub.ext.rowWrites k 0 + 1)) ∧
    (∃ s : State, ∃ spareFails, ∃ k : Nat, ∃ rest, s.hub.rowsRun = true ∧ s.hub.store.queue = .auto k :: rest ∧ s.hub.upd.armWait = false ∧ s.hub.store.spareRows ≤ spareFails) ∧
    (∃ s : State, ∃ w : Who, ∃ k : Nat, ∃ rest, s.hub.rowsRun = true ∧ s.hub.store.queue = .command w :: rest ∧ s.hub.store.rows = some [k] ∧ s.hub.store.headFailed = false ∧ s.hub.upd.armWait = false ∧ (s.hub.mailbox w).waiting = .store ∧ tgetD s.hub.ext.rowWrites k 0 + 1 < 900000000) :=
  ⟨⟨(at_ fun h => put (inFrontIdx 48) 1 1 h), (inFrontIdx 48), 1, by decide +kernel⟩,
   ⟨(at_ fun h => { put (inFrontIdx 48) 1 1 h with store := { h.store with queue := [.auto (key (inFrontIdx 48) 1)] } }), (key (inFrontIdx 48) 1), [], by decide +kernel⟩,
   ⟨(at_ fun h => { put (inFrontIdx 1) 1 1 h with store := { h.store with queue := [.auto (key (inFrontIdx 1) 1), .owner 1], spareRows := 12 } }), false, 2, (key (inFrontIdx 1) 1), [.owner 1], by decide +kernel⟩,
   ⟨(at_ fun h => { put (inFrontIdx 1) 1 1 h with store := { h.store with queue := [.auto (key (inFrontIdx 1) 1)], spareRows := 2 } }), 2, (key (inFrontIdx 1) 1), [], by decide +kernel⟩,
   ⟨(at_ fun h => { (put (inFrontIdx 1) 1 1 h).modMailbox w7 (fun m => { m with result := 1, waiting := .store }) with store := { h.store with queue := [.command w7], rows := some [key (inFrontIdx 1) 1] } }), w7, (key (inFrontIdx 1) 1), [], by decide +kernel⟩⟩

theorem witness_SupervisorRestarts :
    (∃ s : State, s.hub.sup.running = true ∧ s.hub.sup.restarting = false ∧ s.hub.upd.state = 0 ∧ s.hub.pwr.state = 0 ∧ s.hub.pwr.stable = false) ∧
    (∃ s : State, s.hub.sup.restarting = true ∧ s.hub.upd.state ≠ 6 ∧ s.hub.upd.everything = false ∧ s.hub.sup.heldClaims = []) :=
  ⟨⟨(at_ id), by decide +kernel⟩,
   ⟨(at_ fun h => { h with sup := { h.sup with restarting := true } }), by decide +kernel⟩⟩

theorem witness_TwoWireTransactions :
    (∃ s : State, s.hub.twi.brstLow = false ∧ s.hub.pwr.stable = false ∧ 6 ≤ s.hub.boot.step ∧ s.hub.pwr.progress ≠ 3 ∧ s.hub.twi.adr < 8 ∧ s.hub.boot.factoryTest = false) ∧
    (∃ s : State, s.hub.twi.brstLow = false ∧ s.hub.pwr.stable = false ∧ 6 ≤ s.hub.boot.step ∧ s.hub.pwr.progress ≠ 3 ∧ s.hub.twi.adr < 8 ∧ s.hub.boot.factoryTest = false) ∧
    (∃ s : State, s.hub.twi.brstLow = false ∧ s.hub.pwr.stable = false ∧ 6 ≤ s.hub.boot.step ∧ s.hub.pwr.progress ≠ 3 ∧ s.hub.twi.adr < 8 ∧ s.hub.boot.factoryTest = false) ∧
    (∃ s : State, s.hub.twoWireServes = true ∧ s.hub.twi.open_ = .main ∧ s.hub.twi.reading = false) ∧
    (∃ s : State, s.hub.twoWireServes = true ∧ s.hub.twi.open_ = .main ∧ s.hub.twi.reading = false) ∧
    (∃ s : State, s.hub.twoWireServes = true ∧ s.hub.twi.open_ = .quick ∧ s.hub.twi.reading = false ∧ s.hub.twi.panic = false) ∧
    (∃ s : State, ∃ k : Nat, ∃ hi : Byte, ∃ lo : Byte, s.hub.twoWireServes = true ∧ s.hub.twi.open_ = .main ∧ s.hub.twi.reading = false ∧ k < 8 ∧ (s.hub.host k).claimed = false ∧ s.hub.sup.restarting = false ∧ 256 * hi.toNat + lo.toNat ≠ 0) :=
  ⟨⟨(at_ fun h => { h with twi := { h.twi with adr := 7 } }), by decide +kernel⟩,
   ⟨(at_ fun h => { h with twi := { h.twi with adr := 7 } }), by decide +kernel⟩,
   ⟨(at_ fun h => { h with twi := { h.twi with adr := 7 } }), by decide +kernel⟩,
   ⟨(at_ fun h => { h with twi := { h.twi with open_ := .main } }), by decide +kernel⟩,
   ⟨(at_ fun h => { h with twi := { h.twi with open_ := .main } }), by decide +kernel⟩,
   ⟨(at_ fun h => { h with twi := { h.twi with open_ := .quick } }), by decide +kernel⟩,
   ⟨(at_ fun h => { h with twi := { h.twi with open_ := .main } }), 7, 0#8, 9#8, by decide +kernel⟩⟩

theorem witness_TwoWireFaultsAndAlerts :
    (∃ s : State, ∃ code, 1 ≤ code ∧ code ≤ 3 ∧ s.hub.twoWireServes = true) ∧
    (∃ s : State, s.hub.twi.brstLow = false) ∧
    (∃ s : State, s.hub.timeoutOn = true ∧ s.hub.twoWireServes = true) ∧
    (∃ s : State, s.hub.twoWireServes = true ∧ s.hub.twi.alertState = 1) ∧
    (∃ s : State, s.hub.twoWireServes = true ∧ s.hub.twi.alertState = 1) ∧
    (∃ s : State, s.hub.due .alertRepeat = true) ∧
    (∃ s : State, s.hub.pwr.state = 1) ∧
    (∃ s : State, s.hub.commandRuns = false ∧ s.hub.due .watchRegate = true) :=
  ⟨⟨(at_ fun h => { h with twi := { h.twi with open_ := .main } }), 3, by decide +kernel⟩,
   ⟨(at_ id), by decide +kernel⟩,
   ⟨(at_ fun h => { h with twi := { h.twi with busTimeout := true, busTimeoutWas := true } }), by decide +kernel⟩,
   ⟨(at_ fun h => { h with twi := { h.twi with alertState := 1 } }), by decide +kernel⟩,
   ⟨(at_ fun h => { h with twi := { h.twi with alertState := 1 } }), by decide +kernel⟩,
   ⟨(at_ fun h => due .alertRepeat ({ h with twi := { h.twi with alertState := 2 } })), by decide +kernel⟩,
   ⟨(at_ fun h => { h with pwr := { h.pwr with state := 1 } }), by decide +kernel⟩,
   ⟨(at_ fun h => due .watchRegate ({ h with pwr := { h.pwr with state := 1, hostGate := true } })), by decide +kernel⟩⟩

theorem witness_TetherLinksAndFrames :
    (∃ s : State, ∃ p, s.hub.tet.on = true ∧ s.hub.pwr.stable = false ∧ 6 ≤ s.hub.boot.step ∧ s.hub.linkUp p = false ∧ s.hub.tet.address = 0xFF) ∧
    (∃ s : State, ∃ p, s.hub.linkUp p = true ∧ s.hub.tet.address = 0xFF) ∧
    (∃ s : State, ∃ p, ∃ bs, s.hub.receives p = true ∧ frameOk bs = true ∧ isHeldRoll p bs = false ∧ frameAt bs 0 ≠ 63 ∧ s.hub.isOwn (frameAt bs 0) = false ∧ s.hub.linkUp (otherPort p) = true ∧ s.hub.transmits = true ∧ s.hub.tet.tx = [] ∧ s.hub.bursting = false) ∧
    (∃ s : State, ∃ p, ∃ bs, s.hub.receives p = true ∧ s.hub.isOwn (frameAt bs 0) = true) ∧
    (∃ s : State, ∃ p, s.hub.receives p = true ∧ s.hub.transmits = true) :=
  ⟨⟨(at_ id), .up, by decide +kernel⟩,
   ⟨(at_ fun h => { h with tet := { h.tet with downLink := true } }), .down, by decide +kernel⟩,
   ⟨(at_ fun h => { h with tet := { h.tet with upLink := true, downLink := true } }), .up, (frameBytes 3 0 7 1 5 (commandHeader 0x2000 1 1 1 0) []), by decide +kernel⟩,
   ⟨(at_ fun h => { h with tet := { h.tet with upLink := true, address := 9 } }), .up, [9#8], by decide +kernel⟩,
   ⟨(at_ fun h => { h with tet := { h.tet with downLink := true } }), .down, by decide +kernel⟩⟩

theorem witness_TetherCommandsAndResets :
    (∃ s : State, ∃ p, ∃ bs, s.hub.receives p = true ∧ frameOk bs = true ∧ (frameAt bs 3 = 1 ∨ frameAt bs 3 = 2) ∧ s.hub.isOwn (frameAt bs 0) = true ∧ s.hub.tet.address ≠ 63 ∧ (s.hub.mailbox ⟨.tether, frameAt bs 2⟩).result ≠ 1 ∧ (s.hub.mailbox ⟨.tether, frameAt bs 2⟩).lastSeq = none) ∧
    (∃ s : State, ∃ p, ∃ bs, s.hub.receives p = true ∧ frameOk bs = true ∧ frameAt bs 3 = 1 ∧ s.hub.isOwn (frameAt bs 0) = true ∧ s.hub.tet.address ≠ 63 ∧ (s.hub.mailbox ⟨.tether, frameAt bs 2⟩).result ≠ 1 ∧ (s.hub.mailbox ⟨.tether, frameAt bs 2⟩).lastSeq = none ∧ s.hub.serviceBusy = false ∧ s.hub.tetherHeld = false) ∧
    (∃ s : State, ∃ p, ∃ k : Nat, isHost k = true ∧ s.hub.receives p = true ∧ s.hub.isOwn s.hub.tet.address = true ∧ s.hub.tet.address ≠ 63 ∧ (s.hub.host k).claimed = true ∧ s.hub.role k = 2) ∧
    (∃ s : State, ∃ p, ∃ k : Nat, isHost k = true ∧ s.hub.receives p = true ∧ s.hub.isOwn s.hub.tet.address = true ∧ s.hub.tet.address ≠ 63 ∧ (s.hub.host k).claimed = true ∧ s.hub.role k ≠ 2) ∧
    (∃ s : State, ∃ p, ∃ k : Nat, ∃ data, isHost k = true ∧ s.hub.receives p = true ∧ s.hub.isOwn s.hub.tet.address = true ∧ s.hub.tet.address ≠ 63 ∧ s.hub.serviceBusy = false ∧ ((s.hub.touch k).ungate).writeAbort k 0xB000 2 0 (toBytes 4 0 ++ data) = 0 ∧ data.length < 320) ∧
    (∃ s : State, ∃ k : Nat, isHost k = true ∧ s.hub.due (.notifyRepeat k) = true ∧ (s.hub.host k).claimed = true ∧ (s.hub.host k).onTether = true ∧ s.hub.alerting k = true ∧ s.hub.live? 0xD000 0x0B ≠ 0) ∧
    (∃ s : State, ∃ k : Nat, isHost k = true ∧ s.hub.due (.notifyRepeat k) = true ∧ s.hub.alerting k = false) :=
  ⟨⟨(at_ fun h => { installer h with tet := { h.tet with address := 9, upLink := true } }), .up, (frameBytes 9 0 7 1 5 (commandHeader 0x2000 1 1 1 0) []), by decide +kernel⟩,
   ⟨(at_ fun h => { installer h with tet := { h.tet with address := 9, upLink := true } }), .up, (frameBytes 9 0 7 1 5 (commandHeader 0x2000 1 1 1 0) []), by decide +kernel⟩,
   ⟨(at_ fun h => { installer h with tet := { h.tet with address := 9, upLink := true } }), .up, 7, by decide +kernel⟩,
   ⟨(at_ fun h => put (hostIdx 7) 2 1 ({ installer h with tet := { h.tet with address := 9, upLink := true } })), .up, 7, by decide +kernel⟩,
   ⟨(at_ fun h => { installer h with tet := { h.tet with address := 9, upLink := true } }), .up, 7, [1#8, 2#8], by decide +kernel⟩,
   ⟨(at_ fun h => due (.notifyRepeat 7) (put 0xD000 0x0B 100 { installer h with pend := [(7, 1#128)], mask := [(7, 0#128)] })), 7, by decide +kernel⟩,
   ⟨(at_ fun h => due (.notifyRepeat 0) (h)), 0, by decide +kernel⟩⟩

theorem witness_TetherAddressesAndTime :
    (∃ s : State, ∃ r : RollCall, ∃ a, s.hub.receives .up = true ∧ r.returning = false ∧ s.hub.provisionalFor r = some a) ∧
    (∃ s : State, ∃ p, ∃ r : RollCall, ∃ a, ∃ place, s.hub.receives p = true ∧ s.hub.tet.provisional = some (a, place) ∧ r.list[place - 1]? = some a ∧ s.hub.supply.dip = false) ∧
    (∃ s : State, s.hub.due .rollcall = true) ∧
    (∃ s : State, ∃ p, s.hub.receives p = true ∧ s.hub.tet.lastSync = none ∧ s.hub.tet.syncs = [] ∧ s.hub.tet.timeLocked = false) ∧
    (∃ s : State, ∃ p, ∃ f : SyncFrame, ∃ arrival, ∃ l, s.hub.receives p = true ∧ s.hub.tet.lastSync = some l ∧ l + 95 ≤ s.hub.now ∧ s.hub.now < l + 4 * 96 ∧ s.hub.tet.syncs ≠ [] ∧ s.hub.tet.timeLocked = false ∧ f.timeValid = true ∧ s.hub.tet.goodSyncs < 7 ∧ syncWithin ((f.time + f.delayAcc + s.hub.delayOf p : Nat) - (s.hub.tetherAt (65536 * s.hub.now + arrival) : Int)) 100 = true) ∧
    (∃ s : State, s.hub.tet.upEcho = true ∧ s.hub.tet.upTrips = 63) ∧
    (∃ s : State, s.hub.tet.downEcho = true ∧ s.hub.tet.downTrips < 63) ∧
    (∃ s : State, s.hub.tet.timeLocked = false ∧ s.hub.tet.timeValid = true ∧ 8 ≤ s.hub.tet.goodSyncs) ∧
    (∃ s : State, s.hub.tet.timeLocked = true ∧ (s.hub.tet.timeValid = false ∨ s.hub.syncRecent = false ∨ 3 ≤ s.hub.tet.badSyncs)) ∧
    (∃ s : State, s.hub.tet.timeLocked = true ∧ s.hub.tet.timeValid = true ∧ s.hub.syncRecent = true ∧ s.hub.tet.badSyncs < 3) :=
  ⟨⟨(at_ fun h => { h with tet := { h.tet with upLink := true } }), ⟨false, 61, false, false, 0, []⟩, 62, by decide +kernel⟩,
   ⟨(at_ fun h => { h with tet := { h.tet with downLink := true, provisional := some (62, 1) } }), .down, ⟨false, 62, true, false, 0, [62]⟩, 62, 1, by decide +kernel⟩,
   ⟨(at_ fun h => due .rollcall ({ h with tet := { h.tet with provisional := some (62, 1) } })), by decide +kernel⟩,
   ⟨(at_ fun h => { h with tet := { h.tet with upLink := true } }), .up, by decide +kernel⟩,
   ⟨(at_ fun h => { h with tet := { h.tet with upLink := true, lastSync := some 959904, syncs := [(62908268544, 65536000)], time := 65536000, timeAt := 62908268544, goodSyncs := 6 } }), .up, ⟨71827456, 0, false, false, true, 0⟩, 0, 959904, by decide +kernel⟩,
   ⟨(at_ fun h => { h with tet := { h.tet with upLink := true, upEcho := true, upTrips := 63, upSum := 6300 } }), by decide +kernel⟩,
   ⟨(at_ fun h => { h with tet := { h.tet with downLink := true, downEcho := true, downTrips := 62 } }), by decide +kernel⟩,
   ⟨(at_ fun h => { h with tet := { h.tet with timeValid := true, goodSyncs := 8 } }), by decide +kernel⟩,
   ⟨(at_ fun h => { h with tet := { h.tet with timeLocked := true } }), by decide +kernel⟩,
   ⟨(at_ fun h => { h with tet := { h.tet with timeLocked := true, timeValid := true, lastSync := some 960000 } }), by decide +kernel⟩⟩

theorem witness_WatchIsEnteredAndLeft :
    (∃ s : State, s.hub.pwr.state = 2 ∧ s.hub.pwr.progress = 2 ∧ s.hub.pwr.quiesced = false ∧ (∀ k, s.hub.armed (.igOff k) = false) ∧ s.hub.armed .hpsOff = false ∧ s.hub.quiesceOver = true ∧ s.hub.dsp.on = false) ∧
    (∃ s : State, s.hub.pwr.progress = 2 ∧ s.hub.pwr.quiesced = true ∧ s.hub.due .watchEntry = true ∧ s.hub.pwr.pendingReq = 0) ∧
    (∃ s : State, s.hub.pwr.progress = 1 ∧ s.hub.due .watchExit = true ∧ s.hub.pwr.exitStep = 1) ∧
    (∃ s : State, s.hub.pwr.progress = 1 ∧ s.hub.due .watchExit = true ∧ s.hub.pwr.exitStep = 2) ∧
    (∃ s : State, s.hub.pwr.progress = 1 ∧ s.hub.due .watchExit = true ∧ s.hub.pwr.exitStep = 3 ∧ s.hub.pwr.pendingReq = 0) :=
  ⟨⟨(at_ fun h => { (due .quiesce ({ h with pwr := { h.pwr with state := 2, progress := 2 } })) with dsp := { h.dsp with on := false } }), by decide +kernel, by decide +kernel, by decide +kernel, by intro x; rfl, by decide +kernel⟩,
   ⟨(at_ fun h => due .watchEntry ({ h with pwr := { h.pwr with state := 2, progress := 2, quiesced := true } })), by decide +kernel⟩,
   ⟨(at_ fun h => due .watchExit ({ h with pwr := { h.pwr with state := 2, progress := 1, exitStep := 1 } })), by decide +kernel⟩,
   ⟨(at_ fun h => due .watchExit ({ h with pwr := { h.pwr with state := 2, progress := 1, exitStep := 2 } })), by decide +kernel⟩,
   ⟨(at_ fun h => due .watchExit ({ h with pwr := { h.pwr with state := 2, progress := 1, exitStep := 3 } })), by decide +kernel⟩⟩

theorem witness_StableAndItsWakes :
    (∃ s : State, s.hub.pwr.progress = 3 ∧ s.hub.pwr.quiesced = true ∧ s.hub.pwr.flushHeld = false ∧ s.hub.due .stableEntry = true ∧ s.hub.pwr.latchedWake = []) ∧
    (∃ s : State, ∃ c, s.hub.wakeArmed c = true ∧ s.hub.pwr.stable = true ∧ s.hub.store.resetArmed = false) ∧
    (∃ s : State, s.hub.wakeArmed .timer = true ∧ s.hub.pwr.stable = true ∧ s.hub.store.resetArmed = false) ∧
    (∃ s : State, ∃ c, isChannel c = true ∧ s.hub.wakeArmed (.comparator c) = true ∧ s.hub.pwr.stable = true ∧ s.hub.store.resetArmed = false) ∧
    (∃ s : State, ∃ c, isChannel c = true ∧ s.hub.wakeArmed (.comparator c) = true ∧ s.hub.pwr.stable = false ∧ s.hub.pwr.progress = 3) ∧
    (∃ s : State, s.hub.pwr.flushHeld = true ∧ s.hub.supply.dip = true ∧ s.hub.due .stableFlush = true) :=
  ⟨⟨(at_ fun h => due .stableEntry ({ h with pwr := { h.pwr with state := 2, progress := 3, quiesced := true } })), by decide +kernel⟩,
   ⟨(at_ fun h => put 0x9000 0x20 48 (put 0x9000 0x24 4 (put 0x9000 0x0C 5 (put 0xD000 0x0C 1 ({ h with pwr := { h.pwr with stable := true } }))))), .tether, by decide +kernel⟩,
   ⟨(at_ fun h => put 0x9000 0x20 48 (put 0x9000 0x24 4 (put 0x9000 0x0C 5 (put 0xD000 0x0C 1 ({ h with pwr := { h.pwr with stable := true } }))))), by decide +kernel⟩,
   ⟨(at_ fun h => put 0x9000 0x20 48 (put 0x9000 0x24 4 (put 0x9000 0x0C 5 (put 0xD000 0x0C 1 ({ h with pwr := { h.pwr with stable := true } }))))), 0, by decide +kernel⟩,
   ⟨(at_ fun h => put 0x9000 0x23 1 (put 0x9000 0x27 4 ({ h with pwr := { h.pwr with state := 2, progress := 3 } }))), 3, by decide +kernel⟩,
   ⟨(at_ fun h => due .stableFlush ({ h with pwr := { h.pwr with progress := 3, flushHeld := true }, supply := { h.supply with dip := true } })), by decide +kernel⟩⟩

theorem witness_DetectorsTick :
    (∃ s : State, ∃ c, ∃ bands : List Int, isChannel c = true ∧ s.hub.watchInput c ≠ 0 ∧ s.hub.boot.full = true ∧ s.hub.pwr.stable = false ∧ s.hub.pwr.progress ≠ 3 ∧ s.hub.upd.state ≠ 6 ∧ s.hub.watchFlag c 0 = true ∧ s.hub.watchFlag c 1 = false ∧ s.hub.watchSetting 0x34 c ≠ 0 ∧ (s.hub.chan c).inRun = false ∧ (s.hub.stream (s.hub.watchInput c)).gate.at s.hub.now ≠ 0 ∧ stepMin (s.hub.watchStep c (s.hub.chan c).progress) ≤ (bands[stepBand (s.hub.watchStep c (s.hub.chan c).progress)]?).getD silence) ∧
    (∃ s : State, ∃ c, ∃ rms, isChannel c = true ∧ s.hub.watchInput c ≠ 0 ∧ s.hub.boot.full = true ∧ s.hub.pwr.stable = false ∧ s.hub.pwr.progress ≠ 3 ∧ s.hub.upd.state ≠ 6 ∧ s.hub.watchFlag c 0 = false ∧ s.hub.watchFlag c 1 = true ∧ s.hub.watchFlag c 5 = false ∧ s.hub.watchFlag c 7 = false ∧ (s.hub.stream (s.hub.watchInput c)).gate.at s.hub.now ≠ 0 ∧ (s.hub.chan c).armed = true ∧ (s.hub.chan c).reader = 0 ∧ toS32 (s.hub.watchSetting 0x2C c) ≤ rms ∧ s.hub.live? 0x9000 0x0E ≤ 10000 * ((s.hub.chan c).above + 1)) ∧
    (∃ s : State, ∃ c, isChannel c = true ∧ s.hub.watchInput c ≠ 0 ∧ s.hub.boot.full = true ∧ s.hub.pwr.stable = false ∧ s.hub.pwr.progress ≠ 3 ∧ s.hub.upd.state ≠ 6 ∧ s.hub.watchFlag c 0 = false ∧ s.hub.watchFlag c 1 = false) ∧
    (∃ s : State, ∃ c, isChannel c = true ∧ s.hub.watchInput c = 0) :=
  ⟨⟨(at_ fun h => put 0x9000 0x23 48 (put 0x9000 0x27 1 (put 0x9000 0x37 1 (h.modStream 48 fun x => { x with gate := Fade.steady unity })))), 3, (List.replicate 8 100), by decide +kernel⟩,
   ⟨(at_ fun h => put 0x9000 0x20 1 (put 0x9000 0x24 2 ((h.modStream 1 fun x => { x with gate := Fade.steady unity }).modChan 0 fun x => { x with above := 4 }))), 0, 0, by decide +kernel⟩,
   ⟨(at_ fun h => put 0x9000 0x23 48 (h.modStream 48 fun x => { x with gate := Fade.steady unity })), 3, by decide +kernel⟩,
   ⟨(at_ id), 3, by decide +kernel⟩⟩

theorem witness_ResetsRestart :
    (∃ s : State, s.hub.lowPower = true) ∧
    (∃ s : State, s.hub.lowPower = false) :=
  ⟨⟨(at_ fun h => { h with pwr := { h.pwr with state := 1 } }), by decide +kernel⟩,
   ⟨(at_ id), by decide +kernel⟩⟩

theorem witness_BringUpTakesItsSteps :
    (∃ s : State, s.hub.boot.factoryTest = false ∧ s.hub.pwr.stable = false ∧ s.hub.boot.step = 0) ∧
    (∃ s : State, s.hub.boot.factoryTest = false ∧ s.hub.pwr.stable = false ∧ s.hub.boot.step = 1) ∧
    (∃ s : State, s.hub.boot.factoryTest = false ∧ s.hub.pwr.stable = false ∧ s.hub.boot.step = 2) ∧
    (∃ s : State, s.hub.boot.factoryTest = false ∧ s.hub.pwr.stable = false ∧ s.hub.boot.step = 2) ∧
    (∃ s : State, s.hub.boot.factoryTest = false ∧ s.hub.pwr.stable = false ∧ s.hub.boot.step = 3 ∧ s.hub.ext.xinOk = true ∧ s.hub.clk.bootHold = false) ∧
    (∃ s : State, s.hub.boot.step = 3 ∧ s.hub.ext.xinOk = false ∧ s.hub.clk.bootHold = false) ∧
    (∃ s : State, s.hub.boot.factoryTest = false ∧ s.hub.pwr.stable = false ∧ s.hub.boot.step = 4 ∧ s.hub.clk.bootHold = false ∧ 10 * 96 ≤ s.hub.now) ∧
    (∃ s : State, s.hub.boot.factoryTest = false ∧ s.hub.pwr.stable = false ∧ s.hub.boot.step = 5 ∧ s.hub.clk.bootHold = false ∧ s.hub.twi.stretched = none) :=
  ⟨⟨{ State.reset with hub := { State.reset.hub with boot := { step := 0 }, ext := { State.reset.hub.ext with adrPins := 7, testN := false } } }, by decide +kernel⟩,
   ⟨{ State.reset with hub := { State.reset.hub with boot := { step := 1 } } }, by decide +kernel⟩,
   ⟨{ State.reset with hub := { State.reset.hub with boot := { step := 2 }, nv := [(key 0x2000 1, 1)] } }, by decide +kernel⟩,
   ⟨{ State.reset with hub := { State.reset.hub with boot := { step := 2 }, nv := [(key 0x2000 1, 1), (key 0x2020 1, 1)] } }, by decide +kernel⟩,
   ⟨{ State.reset with hub := { State.reset.hub with boot := { step := 3 } } }, by decide +kernel⟩,
   ⟨{ State.reset with hub := { State.reset.hub with boot := { step := 3 }, ext := { State.reset.hub.ext with xinOk := false } } }, by decide +kernel⟩,
   ⟨{ State.reset with hub := { State.reset.hub with boot := { step := 4 }, now := 960, framesRun := true, live := [(key (outIdx 32) 1, 2)] } }, by decide +kernel⟩,
   ⟨{ State.reset with hub := { State.reset.hub with boot := { step := 5 }, now := 1440, framesRun := true } }, by decide +kernel⟩⟩

theorem witness_ServiceBegins :
    (∃ s : State, s.hub.boot.step = 6 ∧ s.hub.clk.bootHold = false ∧ 35 * 96 ≤ s.hub.now) ∧
    (∃ s : State, s.hub.boot.step ≠ 6) ∧
    (∃ s : State, 6 ≤ s.hub.boot.step ∧ s.hub.boot.bootResult = 0 ∧ s.hub.boot.full = false ∧ s.hub.pwr.progress ≠ 3 ∧ s.hub.pwr.stable = false ∧ s.hub.supply.vioFault = false) ∧
    (∃ h : Hub, h.ext.updatePending = true) ∧
    (∃ s : State, s.hub.boot.full = true ∧ s.hub.boot.service = 1 ∧ s.hub.now % 32 = 0 ∧ s.hub.due .handoverService = true) ∧
    (∃ s : State, s.hub.boot.service ≠ 1) :=
  ⟨⟨{ State.reset with hub := { State.reset.hub with boot := { step := 6 }, now := 3360, framesRun := true, pwr := { padHeld := 1 }, live := [(key 0x1210 1, 0)], objs := [(key 0x1210 0x10, 4198400)] } }, by decide +kernel⟩,
   ⟨(at_ id), by decide +kernel⟩,
   ⟨{ State.reset with hub := { State.reset.hub with boot := { step := 6 }, now := 3360, framesRun := true, ext := { State.reset.hub.ext with updatePending := true } } }, by decide +kernel⟩,
   ⟨{ Hub.fresh with ext := { Hub.fresh.ext with updatePending := true } }, by decide +kernel⟩,
   ⟨(at_ fun h => due .handoverService ({ h with boot := { h.boot with service := 1 } })), by decide +kernel⟩,
   ⟨(at_ id), by decide +kernel⟩⟩

theorem witness_ImagesAreWrittenAndActivated :
    (∃ s : State, ∃ n : Nat, s.hub.upd.ops = some n ∧ 1 < n ∧ s.hub.flashRuns = true) ∧
    (∃ s : State, ∃ n : Nat, s.hub.upd.ops = some n ∧ s.hub.flashRuns = true ∧ s.hub.upd.retried = false) ∧
    (∃ s : State, ∃ n : Nat, s.hub.upd.ops = some n ∧ s.hub.flashRuns = true ∧ s.hub.upd.retried = true) ∧
    (∃ s : State, s.hub.upd.ops.isSome = true ∧ s.hub.flashRuns = false) ∧
    (∃ s : State, s.hub.upd.state = 3 ∧ s.hub.upd.armWait = false ∧ s.hub.supply.vioFault = false) ∧
    (∃ s : State, s.hub.upd.state = 3 ∧ s.hub.upd.armWait = false ∧ s.hub.supply.vioFault = false ∧ countersigned s.hub.upd.header = true) ∧
    (∃ s : State, s.hub.upd.state = 3 ∧ s.hub.supply.vioFault = true) ∧
    (∃ s : State, s.hub.upd.state = 3 ∧ s.hub.upd.armWait = false ∧ s.hub.supply.vioFault = false ∧ s.hub.supply.dip = false) ∧
    (∃ s : State, s.hub.upd.activateDue = true ∧ s.hub.activationFree = true ∧ s.hub.sup.restarting = false ∧ s.hub.boot.full = true ∧ s.hub.now % 32 = 0 ∧ s.hub.upd.stepWaits = false ∧ s.hub.nextStep 1 = some 4) ∧
    (∃ s : State, s.hub.upd.activateDue = true ∧ s.hub.activationFree = true ∧ s.hub.sup.restarting = false ∧ s.hub.boot.full = true ∧ s.hub.now % 32 = 0 ∧ s.hub.upd.stepWaits = false ∧ s.hub.nextStep 1 = some 1) ∧
    (∃ s : State, s.hub.upd.activateDue = true ∧ s.hub.activationFree = true ∧ s.hub.sup.restarting = false ∧ s.hub.boot.full = true ∧ s.hub.now % 32 = 0 ∧ s.hub.upd.stepWaits = false ∧ s.hub.nextStep 1 = none) ∧
    (∃ s : State, s.hub.upd.activateDue = true ∧ s.hub.activationFree = true ∧ s.hub.sup.restarting = false ∧ s.hub.boot.full = false ∧ s.hub.now % 32 = 0) ∧
    (∃ s : State, (s.hub.activationFree = false ∨ s.hub.now % 32 ≠ 0)) ∧
    (∃ s : State, ∃ k : Nat, (k = 1 ∨ k = 4) ∧ s.hub.upd.state = 6 ∧ s.hub.upd.stepOver = false ∧ s.hub.upd.stepWaits = false ∧ s.hub.upd.step = k) ∧
    (∃ s : State, ∃ k : Nat, (k = 1 ∨ k = 4) ∧ s.hub.upd.state = 6 ∧ s.hub.upd.stepOver = false ∧ s.hub.upd.stepWaits = false ∧ s.hub.upd.step = k) ∧
    (∃ s : State, s.hub.upd.state = 6 ∧ s.hub.upd.stepOver = false ∧ s.hub.upd.stepWaits = false ∧ s.hub.upd.step = 3) :=
  ⟨⟨(at_ fun h => { h with upd := { h.upd with state := 2, waiting := [[]], ops := some 2 }, ext := { h.ext with updatePending := true } }), 2, by decide +kernel⟩,
   ⟨(at_ fun h => { h with upd := { h.upd with state := 2, waiting := [[]], ops := some 1 }, ext := { h.ext with updatePending := true } }), 1, by decide +kernel⟩,
   ⟨(at_ fun h => { h with upd := { h.upd with state := 2, waiting := [[]], ops := some 1, retried := true }, ext := { h.ext with updatePending := true } }), 1, by decide +kernel⟩,
   ⟨(at_ fun h => { h with upd := { h.upd with state := 2, ops := some 1 } }), by decide +kernel⟩,
   ⟨(at_ fun h => { h with upd := { h.upd with state := 3 }, ext := { h.ext with updatePending := true } }), by decide +kernel⟩,
   ⟨(at_ fun h => { h with upd := { h.upd with state := 3, header := List.replicate 320 255#8 }, ext := { h.ext with updatePending := true } }), by decide +kernel⟩,
   ⟨(at_ fun h => { h with upd := { h.upd with state := 3 }, supply := { h.supply with vioFault := true } }), by decide +kernel⟩,
   ⟨(at_ fun h => { h with upd := { h.upd with state := 3 }, ext := { h.ext with updatePending := true } }), by decide +kernel⟩,
   ⟨(at_ fun h => { h with upd := { h.upd with state := 4, activateDue := true, header := List.replicate 244 0#8 ++ [1#8] }, ext := { h.ext with updatePending := true } }), by decide +kernel⟩,
   ⟨(at_ fun h => { h with upd := { h.upd with state := 4, activateDue := true, everything := true }, ext := { h.ext with updatePending := true } }), by decide +kernel⟩,
   ⟨(at_ fun h => { h with upd := { h.upd with state := 4, activateDue := true }, ext := { h.ext with updatePending := true } }), by decide +kernel⟩,
   ⟨{ State.reset with hub := { State.reset.hub with upd := { state := 4, activateDue := true } } }, by decide +kernel⟩,
   ⟨(at_ fun h => { h with pwr := { h.pwr with state := 1 } }), by decide +kernel⟩,
   ⟨(at_ fun h => { h with upd := { h.upd with state := 6, step := 4 }, ext := { h.ext with updatePending := true } }), 4, by decide +kernel⟩,
   ⟨(at_ fun h => { h with upd := { h.upd with state := 6, step := 1 }, ext := { h.ext with updatePending := true } }), 1, by decide +kernel⟩,
   ⟨(at_ fun h => { h with upd := { h.upd with state := 6, step := 3 }, ext := { h.ext with updatePending := true } }), by decide +kernel⟩⟩

theorem witness_FramesAndBlocksFollow :
    (∃ s : State, s.hub.framesRun = true ∧ s.hub.deadline .reset = none) ∧
    (∃ s : State, ∃ k : Nat, ∃ v, s.hub.framesRun = true ∧ s.hub.deadline .reset = none ∧ isSink k = true ∧ s.hub.frameQ = [⟨key (selIdx k) 1, v⟩]) ∧
    (∃ s : State, s.hub.framesRun = false) ∧
    (∃ s : State, s.hub.framesRun = true ∧ s.hub.now % 32 = 0 ∧ s.hub.blockDone = false) ∧
    (∃ s : State, (s.hub.framesRun = false ∨ s.hub.now % 32 ≠ 0 ∨ s.hub.blockDone = true)) :=
  ⟨⟨(at_ fun h => { h with now := 960031 }), by decide +kernel⟩,
   ⟨(at_ fun h => { h with frameQ := [⟨key (selIdx 0x1BF) 1, 5⟩] }), 0x1BF, 5, by decide +kernel⟩,
   ⟨State.reset, by decide +kernel⟩,
   ⟨(at_ fun h => { h with blockDone := false, batches := [[⟨key (inFrontIdx 48) 2, 1⟩]] }), by decide +kernel⟩,
   ⟨(at_ id), by decide +kernel⟩⟩

theorem witness_TimersAndSessionsExpire :
    (∃ s : State, ∃ i : Nat, ∃ d, i < 2 ∧ s.hub.deadline (.timer i) = some d ∧ s.hub.due (.timer i) = true ∧ s.hub.live? 0xA000 (8 + i) ≠ 0) ∧
    (∃ s : State, ∃ i : Nat, i < 2 ∧ s.hub.due (.timer i) = false) ∧
    (∃ s : State, ∃ k : Nat, k < 8 ∧ (s.hub.host k).claimed = true ∧ s.hub.sessionsPaused = false ∧ s.hub.due (.session k) = true ∧ s.hub.live? (hostIdx k) 7 = 0) ∧
    (∃ s : State, ∃ k : Nat, k < 8 ∧ (s.hub.host k).claimed = true ∧ s.hub.sessionsPaused = false ∧ s.hub.due (.session k) = true ∧ s.hub.live? (hostIdx k) 7 = 1) :=
  ⟨⟨(at_ fun h => due (.timer 1) (put 0xA000 9 1000 h)), 1, 960000, by decide +kernel⟩,
   ⟨(at_ id), 1, by decide +kernel⟩,
   ⟨(at_ fun h => due (.session 7) (installer h)), 7, by decide +kernel⟩,
   ⟨(at_ fun h => due (.session 7) (put (hostIdx 7) 7 1 { installer h with owners := [(ownerKey 1 3, 7)] })), 7, by decide +kernel⟩⟩

theorem witness_EventsBecomePending :
    (∃ h : Hub, ∃ e, ∃ sc, h.evDue = [⟨e, sc⟩] ∧ isReservedEvent e = false ∧ 1 ≤ h.boot.service ∧ h.sup.restarting = false) :=
  ⟨{ full with evDue := [⟨122, .all⟩], mask := [(7, 0#128)] }, 122, .all, by decide +kernel⟩

theorem witness_ReadsAnswer :
    (∃ s : State, ∃ w : Who, ∃ idx : Nat, ∃ sub : Nat, s.hub.takes w ∧ (s.hub.opened w (requestOf 1 idx sub 0 [])).readAbort w.host idx sub = 0 ∧ ¬(idx = 0x4200 ∧ sub = 0x0C) ∧ ¬(idx = 0xD000 ∧ sub = 5)) ∧
    (∃ s : State, ∃ w : Who, ∃ idx : Nat, ∃ sub : Nat, s.hub.takes w ∧ (s.hub.opened w (requestOf 1 idx sub 0 [])).readAbort w.host idx sub ≠ 0) ∧
    (∃ s : State, ∃ w : Who, ∃ idx : Nat, ∃ sub : Nat, ∃ b : Blk, ∃ r : Row, s.hub.takes w ∧ (s.hub.opened w (requestOf 6 idx sub 0 [])).infoAbort w.host idx sub = 0 ∧ describe idx sub = some (b, r)) ∧
    (∃ s : State, ∃ w : Who, s.hub.takes w ∧ (s.hub.opened w (requestOf 1 0x4200 0x0C 0 [])).readAbort w.host 0x4200 0x0C = 0 ∧ s.hub.cap.ringBytes ≠ 0) ∧
    (∃ h : Hub, ∃ host : Nat, ∃ idx : Nat, ∃ sub : Nat, h.claimed host = false ∧ ¬(0x1000 ≤ idx ∧ idx ≤ 0x1018) ∧ ¬(0x1100 ≤ idx ∧ idx < 0x1108 ∧ sub = 1)) :=
  ⟨⟨(served fun h => h), w7, (inFrontIdx 48), 1, by unfold Hub.takes; decide +kernel, by decide +kernel⟩,
   ⟨(served fun h => h), t7, 0x3FFF, 1, by unfold Hub.takes; decide +kernel, by decide +kernel⟩,
   ⟨(served fun h => h), w7, (inFrontIdx 48), 1, (.inFront 48), (rowOf (inFrontIdx 48) 1), by unfold Hub.takes; decide +kernel, by decide +kernel⟩,
   ⟨(served fun h => { h with cap := { h.cap with state := 4, port := 0, recordBytes := 8, records := 100, mask := 1, mem := [(3, 7#8)], readPos := 4 } }), w7, by unfold Hub.takes; decide +kernel, by decide +kernel⟩,
   ⟨full, 7, 0x2000, 1, by decide +kernel⟩⟩

theorem witness_WritesAreCheckedThenHeldForTheBlock :
    (∃ s : State, ∃ w : Who, ∃ n : Nat, ∃ sub : Nat, ∃ data, isInput n = true ∧ (sub = 1 ∨ sub = 2 ∨ sub = 3 ∨ sub = 4) ∧ s.hub.admitsBytes w (inFrontIdx n) sub 0 data) ∧
    (∃ s : State, ∃ w : Who, ∃ n : Nat, ∃ sub : Nat, ∃ ty, ∃ data, isInput n = true ∧ (sub = 1 ∨ sub = 2 ∨ sub = 3 ∨ sub = 4) ∧ s.hub.admitsBytes w (inFrontIdx n) sub ty data) ∧
    (∃ s : State, ∃ w : Who, ∃ idx : Nat, ∃ sub : Nat, ∃ ty, ∃ data, ∃ code, s.hub.refuses w idx sub ty data code ∧ code ≠ 0 ∧ (∀ n, blockOf idx ≠ some (.outCv n)) ∧ (∀ p, blockOf idx ≠ some (.process p)) ∧ (∀ p, blockOf idx ≠ some (.port p))) :=
  ⟨⟨(served fun h => h), w7, 48, 2, [1#8], by decide +kernel, by decide +kernel, by unfold Hub.admitsBytes Hub.refuses Hub.takes; decide +kernel⟩,
   ⟨(served fun h => h), t7, 1, 1, 0x01, [1#8], by decide +kernel, by decide +kernel, by unfold Hub.admitsBytes Hub.refuses Hub.takes; decide +kernel⟩,
   ⟨(served fun h => h), w7, 0x3FFF, 1, 0, [], 0x01, by unfold Hub.refuses Hub.takes; decide +kernel, by decide +kernel, (by intro x hx; rw [show blockOf 0x3FFF = none from by decide +kernel] at hx; cases hx), (by intro x hx; rw [show blockOf 0x3FFF = none from by decide +kernel] at hx; cases hx), (by intro x hx; rw [show blockOf 0x3FFF = none from by decide +kernel] at hx; cases hx)⟩⟩

theorem witness_HeldBatchesAreReleasedOrDiscarded :
    (∃ s : State, ∃ w : Who, ∃ idx : Nat, ∃ sub : Nat, ∃ ty, ∃ data, s.hub.takes w ∧ (s.hub.opened w (requestOf 3 idx sub ty data)).heldAbort w.host idx sub ty data = 0 ∧ (holdWrite (s.hub.host w.host).held ⟨idx, sub, data⟩).length ≤ 32 ∧ heldBytes (holdWrite (s.hub.host w.host).held ⟨idx, sub, data⟩) ≤ 1024) ∧
    (∃ s : State, ∃ w : Who, s.hub.takes w ∧ s.hub.claimed w.host = true ∧ (s.hub.host w.host).held = []) ∧
    (∃ s : State, ∃ w : Who, ∃ n : Nat, ∃ data, isInput n = true ∧ s.hub.takes w ∧ s.hub.claimed w.host = true ∧ (s.hub.host w.host).held = [⟨inFrontIdx n, 4, data⟩] ∧ ((s.hub.opened w (requestOf 4 0 0 0 [])).discardBatch w).releaseCheck w.host ⟨inFrontIdx n, 4, data⟩ = 0) ∧
    (∃ s : State, ∃ w : Who, ∃ n : Nat, ∃ data, ∃ c, isInput n = true ∧ s.hub.takes w ∧ s.hub.claimed w.host = true ∧ (s.hub.host w.host).held = [⟨inFrontIdx n, 4, data⟩] ∧ ((s.hub.opened w (requestOf 4 0 0 0 [])).discardBatch w).releaseCheck w.host ⟨inFrontIdx n, 4, data⟩ = c ∧ c ≠ 0) ∧
    (∃ s : State, ∃ w : Who, s.hub.takes w ∧ s.hub.claimed w.host = true) :=
  ⟨⟨(served fun h => h), w7, (inFrontIdx 48), 4, 0, [0#8, 10#8], by unfold Hub.takes; decide +kernel, by decide +kernel⟩,
   ⟨(served fun h => h), w7, by unfold Hub.takes; decide +kernel, by decide +kernel⟩,
   ⟨(served fun h => h.modHost 7 fun x => { x with held := [⟨inFrontIdx 48, 4, [1#8, 144#8]⟩] }), w7, 48, [1#8, 144#8], by decide +kernel, by unfold Hub.takes; decide +kernel, by decide +kernel⟩,
   ⟨(served fun h => h.modHost 7 fun x => { x with held := [⟨inFrontIdx 48, 4, [1#8, 145#8]⟩] }), w7, 48, [1#8, 145#8], 0x06, by decide +kernel, by unfold Hub.takes; decide +kernel, by decide +kernel⟩,
   ⟨(served fun h => h.modHost 7 fun x => { x with held := [⟨inFrontIdx 48, 4, [1#8, 144#8]⟩] }), t7, by unfold Hub.takes; decide +kernel, by decide +kernel⟩⟩

theorem witness_CommandsComplete :
    (∃ s : State, ∃ k : Nat, ∃ a, ∃ ty, ∃ data, k < 8 ∧ (s.hub.mailbox ⟨.twoWire, k⟩).outcome = some (a, ty, data)) ∧
    (∃ s : State, ∃ k : Nat, ∃ a, ∃ ty, ∃ data, k < 8 ∧ (s.hub.mailbox ⟨.tether, k⟩).outcome = some (a, ty, data) ∧ (s.hub.mailbox ⟨.tether, k⟩).silent = false) ∧
    (∃ s : State, ∃ w : Who, isWho w = true ∧ (s.hub.mailbox w).outcome = none ∧ (s.hub.mailbox w).result ≠ 1 ∨ (s.hub.mailbox w).waiting ≠ .none) :=
  ⟨⟨(served fun h => h.modMailbox w7 fun m => { m with cmd := 1, result := 1, outcome := some (0, 4, [1#8]) }), 7, 0, 4, [1#8], by decide +kernel⟩,
   ⟨(served fun h => h.modMailbox t7 fun m => { m with cmd := 2, result := 1, seq := 5, outcome := some (6, 0, []) }), 7, 6, 0, [], by decide +kernel⟩,
   ⟨(at_ id), w7, by decide +kernel⟩⟩

theorem witness_BlockSettingsWait :
    (∃ s : State, ∃ w : Who, ∃ n : Nat, ∃ v, isInput n = true ∧ v ≤ 1 ∧ s.hub.admits w (inFrontIdx n) 1 v) ∧
    (∃ s : State, ∃ w : Who, ∃ n : Nat, ∃ v, isTrimSource n = true ∧ v ≤ 1 ∧ s.hub.admits w (frontIdx n) 3 v) ∧
    (∃ s : State, ∃ w : Who, ∃ p, ∃ v, isProcess p = true ∧ v ≤ 1 ∧ s.hub.admits w (procIdx p) 0x0C v) ∧
    (∃ s : State, ∃ w : Who, ∃ v, v ≤ 1 ∧ s.hub.admits w spkIdx 6 v) ∧
    (∃ s : State, ∃ w : Who, ∃ v, v < 256 ∧ s.hub.admits w 0x8000 4 v) ∧
    (∃ s : State, ∃ w : Who, ∃ v, v < 256 ∧ s.hub.admits w 0x8000 5 v) ∧
    (∃ s : State, ∃ w : Who, ∃ v, v < 2 ^ 32 ∧ s.hub.admits w 0x9000 7 v) ∧
    (∃ s : State, ∃ w : Who, ∃ c, ∃ v, isChannel c = true ∧ v < 256 ∧ s.hub.admits w 0x9000 (0x20 + c) v) ∧
    (∃ s : State, ∃ w : Who, ∃ p, ∃ sub : Nat, ∃ v, isPort p = true ∧ (sub = 0x0E ∨ sub = 0x0F) ∧ v < 2 ^ 32 ∧ s.hub.admits w (portIdx p) sub v) ∧
    (∃ s : State, ∃ w : Who, ∃ p, ∃ i : Nat, ∃ u, isPort p = true ∧ i < 2 ^ 32 ∧ u < 2 ^ 32 ∧ s.hub.admits w (portIdx p) 0x10 (i * 2 ^ 32 + u)) ∧
    (∃ s : State, ∃ w : Who, ∃ n : Nat, ∃ v, isOutput n = true ∧ v < 256 ∧ s.hub.admits w (outIdx n) 1 v) ∧
    (∃ s : State, ∃ w : Who, ∃ n : Nat, ∃ m, ∃ r, ∃ c, isOutput n = true ∧ s.hub.takes w ∧ s.hub.claimed w.host = true ∧ s.hub.role w.host = 2 ∧ s.hub.boot.full = true ∧ s.hub.sup.loaderOnly = false ∧ s.hub.pwr.state = 0 ∧ m ≤ 3 ∧ r ≤ 3 ∧ c ≤ 1 ∧ cfgOk ⟨m, r, c⟩ = true ∧ (s.hub.output n).fault = false) ∧
    (∃ s : State, ∃ w : Who, ∃ n : Nat, ∃ m, ∃ r, ∃ c, isOutput n = true ∧ s.hub.takes w ∧ s.hub.claimed w.host = true ∧ s.hub.role w.host = 2 ∧ s.hub.boot.full = true ∧ s.hub.sup.loaderOnly = false ∧ s.hub.pwr.state = 0 ∧ m ≤ 3 ∧ r ≤ 3 ∧ c ≤ 1 ∧ cfgOk ⟨m, r, c⟩ = true ∧ (s.hub.output n).fault = true) :=
  ⟨⟨(served fun h => h), w7, 48, 1, by decide +kernel, by decide +kernel, by unfold Hub.admits Hub.takes; decide +kernel⟩,
   ⟨(served fun h => h), t7, 52, 1, by decide +kernel, by decide +kernel, by unfold Hub.admits Hub.takes; decide +kernel⟩,
   ⟨(served fun h => (h.modProc 63 fun x => { x with state := 1, type := 1, position := some 0, cost := 1 })), w7, 63, 0, by decide +kernel, by decide +kernel, by unfold Hub.admits Hub.takes; decide +kernel⟩,
   ⟨(served fun h => h), w7, 1, by decide +kernel, by unfold Hub.admits Hub.takes; decide +kernel⟩,
   ⟨(served fun h => h), w7, 3, by decide +kernel, by unfold Hub.admits Hub.takes; decide +kernel⟩,
   ⟨(served fun h => put (portIdx 7) 3 3 h), w7, 7, by decide +kernel, by unfold Hub.admits Hub.takes; decide +kernel⟩,
   ⟨(served fun h => h), w7, 0x400000, by decide +kernel, by unfold Hub.admits Hub.takes; decide +kernel⟩,
   ⟨(served fun h => h), w7, 3, 48, by decide +kernel, by decide +kernel, by unfold Hub.admits Hub.takes; decide +kernel⟩,
   ⟨(served fun h => put (portIdx 7) 4 8 (h.modPort 7 fun x => { x with state := .running })), w7, 7, 0x0F, 255, by decide +kernel, by decide +kernel, by decide +kernel, by unfold Hub.admits Hub.takes; decide +kernel⟩,
   ⟨(served fun h => put (portIdx 7) 4 8 h), w7, 7, 1, 255, by decide +kernel, by decide +kernel, by decide +kernel, by unfold Hub.admits Hub.takes; decide +kernel⟩,
   ⟨(served fun h => h.modOutput 32 fun x => { x with cv := { queue := [5#20] } }), w7, 32, 1, by decide +kernel, by decide +kernel, by unfold Hub.admits Hub.takes; decide +kernel⟩,
   ⟨(served fun h => h), t7, 32, 2, 3, 0, by decide +kernel, by unfold Hub.takes; decide +kernel, by decide +kernel⟩,
   ⟨(served fun h => h.modOutput 32 fun x => { x with fault := true }), t7, 32, 2, 3, 0, by decide +kernel, by unfold Hub.takes; decide +kernel, by decide +kernel⟩⟩

theorem witness_FrameSettingsAndBlockCommandsWait :
    (∃ s : State, ∃ w : Who, ∃ k : Nat, ∃ v, isSink k = true ∧ v < 65536 ∧ s.hub.admits w (selIdx k) 1 v) ∧
    (∃ s : State, ∃ w : Who, ∃ g : Nat, ∃ v, g < 8 ∧ v < 256 ∧ s.hub.admits w (genIdx g) 1 v) ∧
    (∃ s : State, ∃ w : Who, ∃ n : Nat, ∃ k : Nat, ∃ v, isTrimSource n = true ∧ k < 8 ∧ v < 2 ^ 32 ∧ s.hub.admits w (trimIdx n) (k + 1) v) ∧
    (∃ s : State, ∃ w : Who, ∃ n : Nat, ∃ k : Nat, ∃ v, isTrimSource n = true ∧ k < 8 ∧ isWho w = true ∧ v < 2 ^ 32 ∧ -2000 ≤ toS32 v ∧ toS32 v ≤ 9000 ∧ s.hub.twoWireServes = true ∧ s.hub.claimed w.host = true ∧ 1 ≤ s.hub.role w.host) ∧
    (∃ s : State, ∃ w : Who, ∃ b : Nat, ∃ k : Nat, ∃ v, isBus b = true ∧ 1 ≤ k ∧ k ≤ 64 ∧ v < 2 ^ 64 ∧ s.hub.bankMode w.host = false ∧ s.hub.admits w (busIdx b) k v) ∧
    (∃ s : State, ∃ w : Who, ∃ b : Nat, ∃ k : Nat, ∃ v, isBus b = true ∧ 1 ≤ k ∧ k ≤ 64 ∧ v < 2 ^ 64 ∧ s.hub.bankMode w.host = true ∧ s.hub.admits w (busIdx b) k v) ∧
    (∃ s : State, ∃ w : Who, ∃ p, isProcess p = true ∧ s.hub.admits w (procIdx p) 6 1) ∧
    (∃ s : State, ∃ w : Who, ∃ p, isPort p = true ∧ s.hub.admits w (portIdx p) 0x11 1) ∧
    (∃ s : State, ∃ w : Who, ∃ p, isPort p = true ∧ s.hub.admits w (portIdx p) 0x12 1) ∧
    (∃ s : State, ∃ w : Who, ∃ k : Nat, ∃ v, isMuteGroup k = true ∧ v < 2 ^ 64 ∧ s.hub.admits w 0x2700 (k + 1) v) :=
  ⟨⟨(served fun h => h), w7, 0x13F, 5, by decide +kernel, by decide +kernel, by unfold Hub.admits Hub.takes; decide +kernel⟩,
   ⟨(served fun h => h), w7, 7, 3, by decide +kernel, by decide +kernel, by unfold Hub.admits Hub.takes; decide +kernel⟩,
   ⟨(served fun h => h), t7, 52, 7, 9000, by decide +kernel, by decide +kernel, by decide +kernel, by unfold Hub.admits Hub.takes; decide +kernel⟩,
   ⟨(served fun h => h), w7, 52, 7, 9000, by decide +kernel⟩,
   ⟨(served fun h => h), w7, 63, 64, 0, by decide +kernel, by decide +kernel, by decide +kernel, by decide +kernel, by decide +kernel, by unfold Hub.admits Hub.takes; decide +kernel⟩,
   ⟨(served fun h => put 0x5F00 8 1 h), w7, 63, 64, 0, by decide +kernel, by decide +kernel, by decide +kernel, by decide +kernel, by decide +kernel, by unfold Hub.admits Hub.takes; decide +kernel⟩,
   ⟨(served fun h => (h.modProc 63 fun x => { x with state := 1, type := 1, position := some 0, cost := 1 })), w7, 63, by decide +kernel, by unfold Hub.admits Hub.takes; decide +kernel⟩,
   ⟨(served fun h => put (portIdx 7) 4 3 (put (portIdx 7) 3 3 h)), w7, 7, by decide +kernel, by unfold Hub.admits Hub.takes; decide +kernel⟩,
   ⟨(served fun h => h), w7, 7, by decide +kernel, by unfold Hub.admits Hub.takes; decide +kernel⟩,
   ⟨(served fun h => h), w7, 3, (2 ^ 52 - 1), by decide +kernel, by decide +kernel, by unfold Hub.admits Hub.takes; decide +kernel⟩⟩

theorem witness_HostsClaimOwnAndCommit :
    (∃ s : State, ∃ k : Nat, ∃ tag : Nat, k < 8 ∧ 1 ≤ tag ∧ tag < 65536 ∧ s.hub.twoWireServes = true ∧ s.hub.sup.restarting = false ∧ s.hub.claimed k = false) ∧
    (∃ s : State, ∃ k : Nat, ∃ tag : Nat, k < 8 ∧ 1 ≤ tag ∧ tag < 65536 ∧ s.hub.twoWireServes = true ∧ s.hub.sup.restarting = false ∧ s.hub.claimed k = true ∧ (s.hub.host k).tag ≠ tag) ∧
    (∃ s : State, ∃ k : Nat, ∃ tag : Nat, k < 8 ∧ 1 ≤ tag ∧ tag < 65536 ∧ s.hub.admits ⟨.tether, k⟩ (hostIdx k) 1 (tag * 65536 + 1) ∧ s.hub.sup.restarting = false ∧ s.hub.claimed k = false) ∧
    (∃ s : State, ∃ k : Nat, ∃ tag : Nat, k < 8 ∧ tag < 65536 ∧ s.hub.twoWireServes = true ∧ s.hub.sup.restarting = false ∧ s.hub.claimed k = true ∧ (s.hub.host k).tag = tag ∧ tag ≠ 0) ∧
    (∃ s : State, ∃ w : Who, ∃ k : Nat, ∃ v, k < 8 ∧ 1 ≤ v ∧ v ≤ 2 ∧ s.hub.admits w (hostIdx k) 2 v) ∧
    (∃ s : State, ∃ w : Who, ∃ k : Nat, ∃ v, k < 8 ∧ v < 65536 ∧ s.hub.admits w (hostIdx k) 6 v) ∧
    (∃ s : State, ∃ w : Who, ∃ k : Nat, k < 8 ∧ s.hub.admits w (hostIdx k) 0x0D 1 ∧ s.hub.claimed k = true ∧ s.hub.live? (hostIdx k) 7 = 0) ∧
    (∃ s : State, ∃ w : Who, ∃ k : Nat, ∃ y, k < 8 ∧ y < 2 ^ 32 ∧ s.hub.admits w (hostIdx k) 0x0A y) ∧
    (∃ s : State, ∃ w : Who, ∃ k : Nat, ∃ y, k < 8 ∧ y < 2 ^ 32 ∧ s.hub.admits w (hostIdx k) 0x0B y) ∧
    (∃ s : State, ∃ w : Who, ∃ k : Nat, ∃ y, k < 8 ∧ y < 2 ^ 32 ∧ s.hub.admits w (hostIdx k) 0x0C y) ∧
    (∃ s : State, ∃ w : Who, ∃ k : Nat, ∃ v, k < 8 ∧ v ≤ 1 ∧ s.hub.admits w 0x5F00 (k + 1) v) ∧
    (∃ s : State, ∃ w : Who, s.hub.admits w 0x5F00 9 1) ∧
    (∃ s : State, ∃ w : Who, s.hub.admits w 0x5F00 0x0A 1) :=
  ⟨⟨(at_ id), 7, 65535, by decide +kernel⟩,
   ⟨(served fun h => h), 7, 65535, by decide +kernel⟩,
   ⟨(at_ id), 7, 1, by decide +kernel, by decide +kernel, by decide +kernel, by unfold Hub.admits Hub.takes; decide +kernel, by decide +kernel⟩,
   ⟨(served fun h => h), 7, 9, by decide +kernel⟩,
   ⟨(served fun h => h), w7, 0, 2, by decide +kernel, by decide +kernel, by decide +kernel, by unfold Hub.admits Hub.takes; decide +kernel⟩,
   ⟨(served fun h => h), w7, 7, 3600, by decide +kernel, by decide +kernel, by unfold Hub.admits Hub.takes; decide +kernel⟩,
   ⟨(served fun h => h.modHost 3 fun x => { x with claimed := true, tag := 3 }), w7, 3, by decide +kernel, by unfold Hub.admits Hub.takes; decide +kernel, by decide +kernel⟩,
   ⟨(served fun h => h), w7, 7, (ownerKey 1 48), by decide +kernel, by decide +kernel, by unfold Hub.admits Hub.takes; decide +kernel⟩,
   ⟨(served fun h => { h with owners := [(ownerKey 1 48, 7)] }), w7, 7, (ownerKey 1 48), by decide +kernel, by decide +kernel, by unfold Hub.admits Hub.takes; decide +kernel⟩,
   ⟨(served fun h => h), w7, 7, (ownerKey 1 48), by decide +kernel, by decide +kernel, by unfold Hub.admits Hub.takes; decide +kernel⟩,
   ⟨(served fun h => h), w7, 7, 1, by decide +kernel, by decide +kernel, by unfold Hub.admits Hub.takes; decide +kernel⟩,
   ⟨(served fun h => h), w7, by unfold Hub.admits Hub.takes; decide +kernel⟩,
   ⟨(served fun h => { h with shadow := [(key (busIdx 63) 64, (0, 7)), (key (busIdx 63) 63, (0, 3))] }), w7, by unfold Hub.admits Hub.takes; decide +kernel⟩⟩

theorem witness_UnitCommandsActAtOnce :
    (∃ s : State, ∃ w : Who, ∃ n : Nat, ∃ v, isOutput n = true ∧ v < 2 ^ 20 ∧ s.hub.admits w (outIdx n + 2) 1 v) ∧
    (∃ s : State, ∃ w : Who, ∃ n : Nat, ∃ v, isOutput n = true ∧ s.hub.refuses w (outIdx n + 2) 1 0 (toBytes 4 v) 0x08 ∧ (s.hub.output n).fault = false) ∧
    (∃ s : State, ∃ w : Who, ∃ n : Nat, ∃ a, ∃ b : Nat, isOutput n = true ∧ a < 2 ^ 20 ∧ b < 2 ^ 20 ∧ s.hub.admitsBytes w (outIdx n + 2) 2 0 (toBytes 4 a ++ toBytes 4 b)) ∧
    (∃ s : State, ∃ w : Who, ∃ n : Nat, isOutput n = true ∧ s.hub.admits w (outIdx n + 2) 3 1) ∧
    (∃ s : State, ∃ w : Who, s.hub.admits w spkIdx 9 1 ∧ s.hub.spk.state = .latched ∧ s.hub.spk.enable = true ∧ s.hub.vspkOk = true ∧ s.hub.supply.thermalCrit = false) ∧
    (∃ s : State, ∃ w : Who, s.hub.admits w spkIdx 9 1 ∧ s.hub.spk.state ≠ .latched) ∧
    (∃ s : State, ∃ w : Who, ∃ j : Nat, isHeadphone j = true ∧ s.hub.admits w (hpIdx j + 1) 7 1 ∧ (s.hub.headphone j).jack.classifying = false ∧ (s.hub.headphone j).jack.inserted = true ∧ s.hub.jackSetting j 1 ≠ 0 ∧ s.hub.jackSensing = true) ∧
    (∃ s : State, ∃ w : Who, ∃ n : Nat, ∃ v, isInput n = true ∧ v < 8 ∧ s.hub.admits w (inTandemIdx n) 0x14 v) ∧
    (∃ s : State, ∃ w : Who, ∃ n : Nat, isInput n = true ∧ s.hub.admits w (inTandemIdx n) 0x15 1) ∧
    (∃ s : State, ∃ w : Who, ∃ sl : SliceId, isSlice sl = true ∧ s.hub.admits w (reliefIdx sl) 8 1) ∧
    (∃ s : State, ∃ w : Who, ∃ sl : SliceId, isSlice sl = true ∧ s.hub.admits w (reliefIdx sl) 0x0A 1 ∧ (s.hub.slice sl).retired = true) ∧
    (∃ s : State, ∃ w : Who, ∃ p, isProcess p = true ∧ s.hub.admits w (procIdx p) 5 1 ∧ s.hub.placeResult p = 0) ∧
    (∃ s : State, ∃ w : Who, ∃ p, ∃ r, isProcess p = true ∧ s.hub.refuses w (procIdx p) 5 0 [1] 0x06 ∧ s.hub.placeResult p = r ∧ r ≠ 0) ∧
    (∃ s : State, ∃ w : Who, s.hub.admits w 0x4200 5 1) ∧
    (∃ s : State, ∃ w : Who, s.hub.admits w 0x4200 5 2) :=
  ⟨⟨(served fun h => h.modOutput 32 fun x => { x with powered := true, openAt := some 0, cfg := ⟨2, 1, 0⟩ }), w7, 32, 1048575, by decide +kernel, by decide +kernel, by unfold Hub.admits Hub.takes; decide +kernel⟩,
   ⟨(served fun h => h.modOutput 32 fun x => { x with powered := true, openAt := some 0, cfg := ⟨2, 1, 0⟩, cv := { queue := List.replicate 32 0#20 } }), w7, 32, 5, by decide +kernel, by unfold Hub.refuses Hub.takes; decide +kernel, by decide +kernel⟩,
   ⟨(served fun h => h.modOutput 32 fun x => { x with powered := true, openAt := some 0, cfg := ⟨2, 1, 0⟩ }), t7, 32, 5, 6, by decide +kernel, by decide +kernel, by decide +kernel, by unfold Hub.admitsBytes Hub.refuses Hub.takes; decide +kernel⟩,
   ⟨(served fun h => h.modOutput 32 fun x => { x with powered := true, openAt := some 0, cfg := ⟨2, 1, 0⟩ }), w7, 32, by decide +kernel, by unfold Hub.admits Hub.takes; decide +kernel⟩,
   ⟨(served fun h => h.modSpk fun x => { x with state := .latched, enable := true, restarts := [1] }), w7, by unfold Hub.admits Hub.takes; decide +kernel, by decide +kernel⟩,
   ⟨(served fun h => h), w7, by unfold Hub.admits Hub.takes; decide +kernel, by decide +kernel⟩,
   ⟨(served fun h => put (hpIdx 4 + 1) 1 1 ((h.modSpk fun x => { x with powerup := 6 }).modJack 4 fun x => { x with pin := false, inserted := true, accessory := 2 })), w7, 4, by decide +kernel, by unfold Hub.admits Hub.takes; decide +kernel, by decide +kernel⟩,
   ⟨(served fun h => h.modTandem 48 fun t => { t with h := { t.h with excluded := true } }), w7, 48, 7, by decide +kernel, by decide +kernel, by unfold Hub.admits Hub.takes; decide +kernel⟩,
   ⟨(served fun h => h), w7, 48, by decide +kernel, by unfold Hub.admits Hub.takes; decide +kernel⟩,
   ⟨(served fun h => h), w7, (.output 32), by decide +kernel, by unfold Hub.admits Hub.takes; decide +kernel⟩,
   ⟨(served fun h => h.modSlice (.input 48) fun x => { x with retired := true, state := .relieved }), w7, (.input 48), by decide +kernel, by unfold Hub.admits Hub.takes; decide +kernel, by decide +kernel⟩,
   ⟨(served fun h => put (procIdx 63) 1 1 (put (procIdx 63) 2 1 h)), w7, 63, by decide +kernel, by unfold Hub.admits Hub.takes; decide +kernel, by decide +kernel⟩,
   ⟨(served fun h => put (procIdx 63) 1 1 (put (procIdx 63) 2 200 h)), w7, 63, 4, by decide +kernel, by unfold Hub.refuses Hub.takes; decide +kernel, by decide +kernel⟩,
   ⟨(served fun h => h), w7, by unfold Hub.admits Hub.takes; decide +kernel⟩,
   ⟨(served fun h => { h with cap := { h.cap with state := 2 } }), w7, by unfold Hub.admits Hub.takes; decide +kernel⟩⟩

theorem witness_SystemCommandsActAtOnce :
    (∃ s : State, ∃ w : Who, s.hub.admits w 0x1200 1 1 ∧ s.hub.supply.dip = false) ∧
    (∃ s : State, ∃ w : Who, s.hub.admits w 0x1200 3 0xA5) ∧
    (∃ s : State, ∃ w : Who, ∃ k : Nat, k < 8 ∧ s.hub.admits w 0xA000 6 k) ∧
    (∃ s : State, ∃ w : Who, s.hub.admits w 0xA000 6 0xFF) ∧
    (∃ s : State, ∃ w : Who, ∃ bits : BitVec 128, s.hub.admitsBytes w 0xA000 1 0 (toBytes 16 bits.toNat)) ∧
    (∃ s : State, ∃ w : Who, ∃ bits : BitVec 128, s.hub.admitsBytes w 0xA000 2 0 (toBytes 16 bits.toNat)) ∧
    (∃ s : State, ∃ w : Who, s.hub.admits w 0xD000 0x0D 1) ∧
    (∃ s : State, ∃ w : Who, ∃ v, v < 256 ∧ s.hub.admits w 0x9000 1 v ∧ s.hub.pwr.requested = 0 ∧ s.hub.pwr.progress = 0 ∧ s.hub.pwr.pendingReq = 0 ∧ s.hub.activating = false) ∧
    (∃ s : State, ∃ w : Who, ∃ v, v < 256 ∧ s.hub.admits w 0x9000 1 v ∧ s.hub.pwr.pendingReq ≠ 0 ∧ s.hub.activating = false) ∧
    (∃ s : State, ∃ w : Who, ∃ c, isChannel c = true ∧ s.hub.admits w 0x9000 (0x60 + c) 1) ∧
    (∃ s : State, ∃ w : Who, ∃ c, isChannel c = true ∧ s.hub.admits w 0x9000 (0x60 + c) 2) ∧
    (∃ s : State, ∃ w : Who, ∃ v, v < 256 ∧ s.hub.admits w 0x9000 0x10 v) ∧
    (∃ s : State, ∃ w : Who, ∃ v, v ≤ 1 ∧ s.hub.admits w 0x9000 0x0A v) ∧
    (∃ s : State, ∃ w : Who, ∃ data : List Byte, data.length < 320 ∧ s.hub.admitsBytes w 0xB000 2 0 (toBytes 4 0 ++ data)) ∧
    (∃ s : State, ∃ w : Who, ∃ data : List Byte, s.hub.upd.state = 1 ∧ s.hub.upd.next ≠ 0 ∧ s.hub.upd.next < 2 ^ 32 ∧ (s.hub.upd.staged ++ data).length < 320 ∧ s.hub.admitsBytes w 0xB000 2 0 (toBytes 4 s.hub.upd.next ++ data)) ∧
    (∃ s : State, ∃ w : Who, s.hub.admits w 0xB000 1 1) ∧
    (∃ s : State, ∃ w : Who, s.hub.admits w 0xB000 1 2) ∧
    (∃ s : State, ∃ w : Who, s.hub.admits w 0xB000 1 3) ∧
    (∃ s : State, ∃ w : Who, s.hub.admits w 0xB000 1 4) ∧
    (∃ s : State, ∃ w : Who, ∃ data : List Byte, s.hub.takes w ∧ s.hub.claimed w.host = true ∧ s.hub.role w.host = 2 ∧ s.hub.pwr.state = 0 ∧ s.hub.makerKey? = none ∧ s.hub.supply.dip = false ∧ data.length = 233) :=
  ⟨⟨(served fun h => h), w7, by unfold Hub.admits Hub.takes; decide +kernel, by decide +kernel⟩,
   ⟨(served fun h => h), w7, by unfold Hub.admits Hub.takes; decide +kernel⟩,
   ⟨(served fun h => h), w7, 7, by decide +kernel, by unfold Hub.admits Hub.takes; decide +kernel⟩,
   ⟨(served fun h => h), w7, by unfold Hub.admits Hub.takes; decide +kernel⟩,
   ⟨(served fun h => { h with pend := [(7, 3#128)] }), w7, 2#128, by unfold Hub.admitsBytes Hub.refuses Hub.takes; decide +kernel⟩,
   ⟨(served fun h => h), w7, 1#128, by unfold Hub.admitsBytes Hub.refuses Hub.takes; decide +kernel⟩,
   ⟨(served fun h => h), w7, by unfold Hub.admits Hub.takes; decide +kernel⟩,
   ⟨(served fun h => h), w7, 3, by decide +kernel, by unfold Hub.admits Hub.takes; decide +kernel, by decide +kernel⟩,
   ⟨(served fun h => { h with pwr := { h.pwr with progress := 2, pendingReq := 1 } }), w7, 3, by decide +kernel, by unfold Hub.admits Hub.takes; decide +kernel, by decide +kernel⟩,
   ⟨(served fun h => h.modChan 3 fun x => { x with reader := 1 }), w7, 3, by decide +kernel, by unfold Hub.admits Hub.takes; decide +kernel⟩,
   ⟨(served fun h => h.modChan 3 fun x => { x with reader := 2 }), w7, 3, by decide +kernel, by unfold Hub.admits Hub.takes; decide +kernel⟩,
   ⟨(served fun h => { h with pwr := { h.pwr with padHeld := 129 } }), w7, 128, by decide +kernel, by unfold Hub.admits Hub.takes; decide +kernel⟩,
   ⟨(served fun h => h), w7, 1, by decide +kernel, by unfold Hub.admits Hub.takes; decide +kernel⟩,
   ⟨(served fun h => h), w7, [1#8], by decide +kernel, by unfold Hub.admitsBytes Hub.refuses Hub.takes; decide +kernel⟩,
   ⟨(served fun h => { h with upd := { h.upd with state := 1, next := 2, staged := [1#8, 2#8], host := 7 } }), w7, [3#8], by decide +kernel, by decide +kernel, by decide +kernel, by decide +kernel, by unfold Hub.admitsBytes Hub.refuses Hub.takes; decide +kernel⟩,
   ⟨(served fun h => { h with upd := { h.upd with state := 2 } }), w7, by unfold Hub.admits Hub.takes; decide +kernel⟩,
   ⟨(served fun h => { h with upd := { h.upd with state := 4 } }), w7, by unfold Hub.admits Hub.takes; decide +kernel⟩,
   ⟨(served fun h => { h with upd := { h.upd with state := 4, activateAt := 970000 }, tet := { h.tet with timeLocked := true } }), w7, by unfold Hub.admits Hub.takes; decide +kernel⟩,
   ⟨(served fun h => { h with upd := { h.upd with state := 5 } }), w7, by unfold Hub.admits Hub.takes; decide +kernel⟩,
   ⟨(served fun h => h), w7, (List.replicate 233 7#8), by unfold Hub.takes; decide +kernel, by decide +kernel⟩⟩

theorem witness_StepRunsTheFront :
    (∃ s : State, s.pending = []) :=
  ⟨(at_ id), by decide +kernel⟩

theorem witness_EveryCommandCompletes : ∃ i : Instr, i.wf = true := ⟨.phantomFault 48, by decide⟩

theorem witness_StatusIsRenewedAtBoundaries :
    (∃ i : Instr, ∃ s t : State, exec i s = .next t ∧ renewsStatus i = false) ∧
    (∃ i : Instr, ∃ s t : State, exec i s = .next t ∧ renewsStatus i = true) :=
  ⟨⟨.panicMute, at_ id, after .panicMute (at_ id), rfl, rfl⟩, ⟨.resetN, at_ id, after .resetN (at_ id), rfl, rfl⟩⟩

theorem witness_EveryStepKeepsTheRing : ∃ s t : State, s.memoryWf = true ∧ step s = .next t :=
  ⟨{ at_ id with pending := [.panicMute] }, after .panicMute (at_ id), by decide +kernel, rfl⟩

end Sys2Proof.Tests
end

section
/-! SUPPORT. The ends of the fades of the harness and of the delay taps (R135, R137, R142, R145, R186): what each ending row makes of the hub, as one
equation in the updates of its instance and its deadline, and the reads after such an update. -/

namespace Sys2Proof.Machine

/-! ## Reads of other instances -/

theorem Hub.modSink_sink_other (h : Hub) {n m : Nat} (f : Sink → Sink) (hm : m ≠ n) : (h.modSink n f).sink m = h.sink m := by
  simp [Hub.modSink, Hub.setSink, Hub.sink, tget_tput_other _ _ hm]

theorem Hub.modGen_gen_other (h : Hub) {n m : Nat} (f : Generator → Generator) (hm : m ≠ n) : (h.modGen n f).gen m = h.gen m := by
  simp [Hub.modGen, Hub.gen, tget_tput_other _ _ hm]

theorem Hub.modTerm_term_other (h : Hub) {n m : Nat} (f : Term → Term) (hm : m ≠ n) : (h.modTerm n f).term m = h.term m := by
  simp [Hub.modTerm, Hub.term, tget_tput_other _ _ hm]

theorem Hub.modBus_bus_other (h : Hub) {n m : Nat} (f : Bus → Bus) (hm : m ≠ n) : (h.modBus n f).bus m = h.bus m := by
  simp [Hub.modBus, Hub.bus, tget_tput_other _ _ hm]

theorem Hub.modProc_proc_other (h : Hub) {n m : Nat} (f : Process → Process) (hm : m ≠ n) : (h.modProc n f).proc m = h.proc m := by
  simp [Hub.modProc, Hub.proc, tget_tput_other _ _ hm]

@[simp] theorem tget_tdel {α : Type} (t : Table α) (k : Nat) : tget (tdel t k) k = none := by
  induction t with
  | nil => rfl
  | cons e r ih =>
    obtain ⟨j, b⟩ := e
    by_cases hj : j = k <;> simp [tdel, tget, hj, ih]

/-! ## Deadlines leave the instances, and the instances the deadlines -/

@[simp] theorem Hub.cancel_sink (h : Hub) (t : Timer) (k : Nat) : (h.cancel t).sink k = h.sink k := rfl
@[simp] theorem Hub.cancel_gen (h : Hub) (t : Timer) (g : Nat) : (h.cancel t).gen g = h.gen g := rfl
@[simp] theorem Hub.cancel_term (h : Hub) (t : Timer) (k : Nat) : (h.cancel t).term k = h.term k := rfl
@[simp] theorem Hub.cancel_proc (h : Hub) (t : Timer) (p : Nat) : (h.cancel t).proc p = h.proc p := rfl
@[simp] theorem Hub.start_sink (h : Hub) (t : Timer) (len k : Nat) : (h.start t len).sink k = h.sink k := rfl
@[simp] theorem Hub.start_proc (h : Hub) (t : Timer) (len p : Nat) : (h.start t len).proc p = h.proc p := rfl
@[simp] theorem Hub.modSink_deadline (h : Hub) (k : Nat) (f : Sink → Sink) (t : Timer) : (h.modSink k f).deadline t = h.deadline t := rfl
@[simp] theorem Hub.modGen_deadline (h : Hub) (g : Nat) (f : Generator → Generator) (t : Timer) : (h.modGen g f).deadline t = h.deadline t := rfl
@[simp] theorem Hub.modTerm_deadline (h : Hub) (k : Nat) (f : Term → Term) (t : Timer) : (h.modTerm k f).deadline t = h.deadline t := rfl
@[simp] theorem Hub.modProc_deadline (h : Hub) (p : Nat) (f : Process → Process) (t : Timer) : (h.modProc p f).deadline t = h.deadline t := rfl

/-! ## Sink selectors (R135) -/

/-- A selector at rest on its source. -/
def Sink.ended (x : Sink) : Sink := { x with xfade := none, held := none, fbGain := none }

/-- A selector that starts a crossfade from the source in force to `v`. -/
def Sink.crossTo (x : Sink) (v t0 len : Nat) : Sink :=
  { x with xfade := some { old := x.source, new := v, t0 := t0, len := len }, source := v }

theorem Hub.sinkStart_of_xfadeTime (h : Hub) (k v : Nat) (hlen : 0 < us (h.live? (selIdx k) 2)) :
    h.sinkStart k v =
      (h.modSink k (·.crossTo v h.now (us (h.live? (selIdx k) 2)))).start (.sinkXfade k) (us (h.live? (selIdx k) 2)) :=
  if_neg (by omega)

/-- With no held source, or with the source in force held, the crossfade ends at its source. -/
theorem Hub.sinkXfadeEnd_of_no_new_source {h : Hub} {k : Nat} (hd : h.due (.sinkXfade k) = true) (hh : ∀ v ∈ (h.sink k).held, v = (h.sink k).source) :
    h.sinkXfadeEnd k = (h.cancel (.sinkXfade k)).modSink k Sink.ended := by
  rw [Hub.sinkXfadeEnd, Hub.whenDue_due hd, Hub.cancel_sink]
  cases hs : (h.sink k).held with
  | none => rfl
  | some v =>
    have hv : v = (((h.cancel (.sinkXfade k)).modSink k Sink.ended).sink k).source := by simpa [Sink.ended] using hh v hs
    exact if_pos hv

/-- Another source held starts its own crossfade from the source in force. -/
theorem Hub.sinkXfadeEnd_of_held {h : Hub} {k v : Nat} (hd : h.due (.sinkXfade k) = true) (hh : (h.sink k).held = some v)
    (hv : v ≠ (h.sink k).source) (hlen : 0 < us (h.live? (selIdx k) 2)) :
    h.sinkXfadeEnd k =
      (((h.cancel (.sinkXfade k)).modSink k Sink.ended).modSink k (·.crossTo v h.now (us (h.live? (selIdx k) 2)))).start (.sinkXfade k)
        (us (h.live? (selIdx k) 2)) := by
  rw [Hub.sinkXfadeEnd, Hub.whenDue_due hd, Hub.cancel_sink, hh]
  have hs : v ≠ (((h.cancel (.sinkXfade k)).modSink k Sink.ended).sink k).source := by simpa [Sink.ended] using hv
  exact (if_neg hs).trans (Hub.sinkStart_of_xfadeTime _ k v hlen)

/-- A source written while the crossfade runs is held. -/
theorem Hub.sinkApply_of_running {h : Hub} {k : Nat} (v : Nat) (hx : (h.sink k).xfade.isSome = true) (hd : h.due (.sinkXfade k) = false) :
    h.sinkApply k v = h.modSink k (fun x => { x with held := some v }) :=
  if_pos (by simp [hx, hd])

theorem isSink_range {k : Nat} (hk : isSink k = true) : 1 ≤ k ∧ k ≤ 0x1BF := by
  simp only [isSink, Bool.or_eq_true, Bool.and_eq_true, decide_eq_true_eq] at hk
  omega

theorem blockOf_selIdx {k : Nat} (hk : isSink k = true) : blockOf (selIdx k) = some (.selector k) := by
  obtain ⟨hlo, hhi⟩ := isSink_range hk
  simp (disch := omega) only [blockOf, selIdx, if_neg, if_pos, Nat.add_sub_cancel_left, hk, if_true]

/-- XFADE_TIME is a plain setting: in force it is the value that later crossfades read. -/
theorem Hub.applyWr_xfadeTime (h : Hub) {k : Nat} (v : Nat) (hk : isSink k = true) :
    h.applyWr ⟨key (selIdx k) 2, v⟩ = { h with live := tput h.live (key (selIdx k) 2) v } := by
  have hi : key (selIdx k) 2 / 256 = selIdx k := by unfold key; omega
  have hs : key (selIdx k) 2 % 256 = 2 := by unfold key; omega
  have hr : describe (selIdx k) 2 = some (.selector k, own 2 .time 5000 (.zeroOr 1000 100000) 1) := by
    rw [describe, blockOf_selIdx hk]; rfl
  simp only [Hub.applyWr, hi, hs, hr]
  rfl

/-! ## Generators (R137) and crosspoints (R142) -/

theorem Hub.generatorSwitch_of_due {h : Hub} {g : Nat} (hd : h.due (.generator g) = true) :
    h.generatorSwitch g = (h.cancel (.generator g)).modGen g
      (fun x => { x with type := x.target, phase := .fadingIn, fade := { m0 := 0, m1 := unity, t0 := h.now, len := ms 10 } }) :=
  Hub.whenDue_due hd

theorem Hub.xpFadeZero_of_due {h : Hub} {b k : Nat} (hd : h.due (.xpFade (termKey b k)) = true) :
    h.xpFadeZero b k = (h.cancel (.xpFade (termKey b k))).modTerm (termKey b k) (·.zero h.now (h.busMuteTime b)) :=
  Hub.whenDue_due hd

/-- At the zero of its fade a term takes the waiting entry, and fades in where the entry is enabled. -/
theorem Term.zero_of_waiting {t : Term} {e : Nat} (t0 mute : Nat) (he : t.atZero = some e) :
    t.zero t0 mute =
      { t.take e with fade := if entryEnable e then { m0 := 0, m1 := unity, t0 := t0, len := mute } else Fade.steady 0 } := by
  rw [Term.zero, he]
  cases h : entryEnable e <;> simp [h]

/-! ## Delay taps (R186) -/

theorem Hub.tapXfadeEnd_of_none {h : Hub} {p t : Nat} (hd : h.due (.tap p t) = true) (hh : tget (h.proc p).tapHeld t = none) :
    h.tapXfadeEnd p t = (h.cancel (.tap p t)).modProc p (fun x => { x with taps := tdel x.taps t }) := by
  rw [Hub.tapXfadeEnd, Hub.whenDue_due hd, Hub.cancel_proc, hh]

/-- Another delay held starts its own crossfade, over 10 ms, from the delay reached. -/
theorem Hub.tapXfadeEnd_of_held {h : Hub} {p t d : Nat} {c : Xfade} (hd : h.due (.tap p t) = true) (hh : tget (h.proc p).tapHeld t = some d)
    (hc : tget (h.proc p).taps t = some c) (hne : c.new ≠ d) :
    h.tapXfadeEnd p t = ((h.cancel (.tap p t)).modProc p (fun x =>
      { x with tapHeld := tdel x.tapHeld t, taps := tput x.taps t { old := c.new, new := d, t0 := h.now, len := ms 10 } })).start (.tap p t) (ms 10) := by
  rw [Hub.tapXfadeEnd, Hub.whenDue_due hd, Hub.cancel_proc, hh]
  simp only [hc, if_neg hne]
  rfl

/-! ## The ends of the fades (R135, R137, R142, R145, R186) -/

/-- A selector that ends at its source, with all else in place. -/
theorem Hub.sinkEnded_spec (h : Hub) (k : Nat) :
    let g := (h.cancel (.sinkXfade k)).modSink k Sink.ended
    g.sink k = { h.sink k with xfade := none, held := none, fbGain := none } ∧ g.deadline (.sinkXfade k) = none ∧
      (∀ m, m ≠ k → g.sink m = h.sink m) ∧ { g with sinks := h.sinks, timers := h.timers } = h :=
  ⟨by simp [Sink.ended], by simp, fun m hm => by simp [Hub.modSink_sink_other _ _ hm], rfl⟩

/-- Settles O19: each ending row has one equation for its effect, and the reads follow from the laws of its updates. -/
theorem harnessFadesEnd : Obligations.HarnessFadesEnd := by
  refine ⟨?noHeld, ?held, ?heldEqual, ?holds, ?xfadeTime, ?generator, ?crosspoint, ?scale, ?tap, ?tapHeld⟩
  case noHeld =>
    intro s k hk hd hh
    refine answers_of_run (f := (·.sinkXfadeEnd k)) rfl hk ?_
    rw [Hub.sinkXfadeEnd_of_no_new_source hd (by simp [hh])]
    exact Hub.sinkEnded_spec s.hub k
  case heldEqual =>
    intro s k v hk hd hh hv
    refine answers_of_run (f := (·.sinkXfadeEnd k)) rfl hk ?_
    rw [Hub.sinkXfadeEnd_of_no_new_source hd (by simp [hh, hv])]
    exact Hub.sinkEnded_spec s.hub k
  case held =>
    intro s k v hk hd hh hv hlen
    refine answers_of_run (f := (·.sinkXfadeEnd k)) rfl hk ?_
    rw [Hub.sinkXfadeEnd_of_held hd hh hv hlen]
    exact ⟨by simp [Sink.crossTo, Sink.ended], by simp, fun m hm => by simp [Hub.modSink_sink_other _ _ hm], rfl⟩
  case holds =>
    intro h k v _ hx hd
    rw [Hub.sinkApply_of_running v hx hd]
    exact ⟨Hub.modSink_sink h k _, fun m hm => Hub.modSink_sink_other h _ hm, rfl⟩
  case xfadeTime =>
    intro h k v hk
    rw [Hub.applyWr_xfadeTime h v hk]
    exact ⟨rfl, rfl⟩
  case generator =>
    intro s g hg hd
    refine answers_of_run (f := (·.generatorSwitch g)) rfl (decide_eq_true hg) ?_
    rw [Hub.generatorSwitch_of_due hd]
    exact ⟨by simp [ms], by simp, fun m hm => by simp [Hub.modGen_gen_other _ _ hm], rfl⟩
  case crosspoint =>
    intro s b k e hb hk hk' hd he
    refine answers_of_run (f := (·.xpFadeZero b k)) rfl (by simp [hb, hk, hk']) ?_
    rw [Hub.xpFadeZero_of_due hd]
    refine ⟨?_, by simp [termKey], fun m hm => by simp [Hub.modTerm_term_other _ _ hm, termKey], rfl⟩
    exact (Hub.modTerm_term _ _ _).trans (Term.zero_of_waiting _ _ he)
  case scale =>
    intro s b hb
    exact answers_of_run (f := (·.scaleRecomputeDone b)) rfl hb ⟨Hub.modBus_bus _ b _, fun m hm => Hub.modBus_bus_other _ _ hm, rfl⟩
  case tap =>
    intro s p t hp ht hd hh
    refine answers_of_run (f := (·.tapXfadeEnd p t)) rfl (by simp [hp, ht]) ?_
    rw [Hub.tapXfadeEnd_of_none hd hh]
    exact ⟨by simp, by simp, fun m hm => by simp [Hub.modProc_proc_other _ _ hm], rfl⟩
  case tapHeld =>
    intro s p t d c hp ht hd hh hc hne
    refine answers_of_run (f := (·.tapXfadeEnd p t)) rfl (by simp [hp, ht]) ?_
    rw [Hub.tapXfadeEnd_of_held hd hh hc hne]
    exact ⟨by simp [ms], by simp, by simp [ms], fun m hm => by simp [Hub.modProc_proc_other _ _ hm], rfl⟩

end Sys2Proof.Machine
end

section
/-! SUPPORT. Raising at a block boundary (R328, R329, R332, R333): what one raising does to its host number, that the raisings of different host numbers
do not meet, and from this what a boundary makes of a single cause. -/

namespace Sys2Proof.Machine

/-! ## One event for one host number (R328) -/

theorem Hub.raiseFor_pending (h : Hub) (k e : Nat) :
    (h.raiseFor k e).pending k = if (h.eventMask k).getLsbD e then h.pending k else h.pending k ||| BitVec.twoPow 128 e := by
  unfold Hub.raiseFor Hub.pending
  split <;> simp

@[simp] theorem Hub.raiseFor_occurrences (h : Hub) (k e : Nat) : (h.raiseFor k e).occurrences k e = satInc 255 (h.occurrences k e) := by
  simp [Hub.raiseFor, Hub.occurrences]

theorem Hub.raiseFor_occurrences_other (h : Hub) (k : Nat) {e d : Nat} (hd : d ≠ e) :
    (h.raiseFor k e).occurrences k d = h.occurrences k d := by
  simp [Hub.raiseFor, Hub.occurrences, tgetD_tput_other _ _ _ hd]

/-! ## What the hub keeps of the events of one host number (R332, R333) -/

/-- The pending bits and the occurrence counts of host `k`. -/
def Hub.eventRecord (h : Hub) (k : Nat) : BitVec 128 × Table Nat := (h.pending k, tgetD h.occ k [])

theorem Hub.pending_of_eventRecord_eq {g h : Hub} {k : Nat} (hr : g.eventRecord k = h.eventRecord k) : g.pending k = h.pending k :=
  congrArg Prod.fst hr

theorem Hub.occurrences_of_eventRecord_eq {g h : Hub} {k : Nat} (hr : g.eventRecord k = h.eventRecord k) (d : Nat) :
    g.occurrences k d = h.occurrences k d :=
  congrArg (fun r : BitVec 128 × Table Nat => tgetD r.2 d 0) hr

/-- A raising for a host reads and writes only the record and the mask of that host. -/
theorem Hub.raiseFor_eventRecord (h : Hub) (k e : Nat) :
    (h.raiseFor k e).eventRecord k =
      (if (h.eventMask k).getLsbD e then h.pending k else h.pending k ||| BitVec.twoPow 128 e,
        tput (h.eventRecord k).2 e (satInc 255 (tgetD (h.eventRecord k).2 e 0))) := by
  refine Prod.ext (h.raiseFor_pending k e) ?_
  simp [Hub.raiseFor, Hub.eventRecord, Hub.occurrences]

theorem Hub.raiseFor_eventRecord_other (h : Hub) {k j : Nat} (e : Nat) (hk : k ≠ j) : (h.raiseFor j e).eventRecord k = h.eventRecord k := by
  unfold Hub.raiseFor Hub.eventRecord Hub.pending
  split <;> simp [tgetD_tput_other _ _ _ hk]

/-! ## The host numbers of a scope (R329) -/

theorem Hub.inScope_iff (h : Hub) (sc : Scope) (k : Nat) :
    h.inScope sc k = true ↔
      sc = .all ∨ (sc = .twoWire ∧ (h.host k).claimed = true ∧ (h.host k).onTwoWire = true) ∨
        (∃ j, sc = .hostAndInstallers j ∧ (j = k ∨ ((h.host k).claimed = true ∧ h.role k = 2))) ∨ sc = .command k := by
  cases sc with
  | all => simp [Hub.inScope]
  | twoWire => simp [Hub.inScope]
  | hostAndInstallers j => simp [Hub.inScope, Hub.claimed]
  | command j => simp [Hub.inScope]

/-- Raises event `e` for host `k` where the scope names it. -/
def Hub.raiseIn (sc : Scope) (e : Nat) (h : Hub) (k : Nat) : Hub := if h.inScope sc k then h.raiseFor k e else h

theorem Hub.raiseIn_of_inScope {h : Hub} {sc : Scope} {k : Nat} (e : Nat) (hs : h.inScope sc k = true) : h.raiseIn sc e k = h.raiseFor k e :=
  if_pos hs

theorem Hub.raiseIn_of_not_inScope {h : Hub} {sc : Scope} {k : Nat} (e : Nat) (hs : ¬h.inScope sc k = true) : h.raiseIn sc e k = h :=
  if_neg hs

/-- Raising writes pending bits and occurrences alone. -/
theorem Hub.raiseIn_eq_with (sc : Scope) (e : Nat) (h : Hub) (k : Nat) : ∃ p o, h.raiseIn sc e k = { h with pend := p, occ := o } := by
  unfold Hub.raiseIn
  split
  · exact ⟨_, _, rfl⟩
  · exact ⟨h.pend, h.occ, rfl⟩

@[simp] theorem Hub.raiseIn_inScope (sc sc' : Scope) (e : Nat) (h : Hub) (j k : Nat) : (h.raiseIn sc e j).inScope sc' k = h.inScope sc' k := by
  obtain ⟨p, o, hg⟩ := h.raiseIn_eq_with sc e j
  rw [hg]; rfl

@[simp] theorem Hub.raiseIn_eventMask (sc : Scope) (e : Nat) (h : Hub) (j k : Nat) : (h.raiseIn sc e j).eventMask k = h.eventMask k := by
  obtain ⟨p, o, hg⟩ := h.raiseIn_eq_with sc e j
  rw [hg]; rfl

theorem Hub.raiseIn_eventRecord_other (sc : Scope) (e : Nat) (h : Hub) {k j : Nat} (hk : k ≠ j) :
    (h.raiseIn sc e j).eventRecord k = h.eventRecord k := by
  unfold Hub.raiseIn
  split
  · exact h.raiseFor_eventRecord_other e hk
  · rfl

/-- A raising for another host before it makes no difference to what host `k` gets. -/
theorem Hub.raiseIn_raiseIn_eventRecord (sc : Scope) (e : Nat) (h : Hub) {k j : Nat} (hk : k ≠ j) :
    ((h.raiseIn sc e j).raiseIn sc e k).eventRecord k = (h.raiseIn sc e k).eventRecord k := by
  have hr := h.raiseIn_eventRecord_other sc e hk
  by_cases hs : h.inScope sc k = true
  · rw [Hub.raiseIn_of_inScope e hs, Hub.raiseIn_of_inScope e ((h.raiseIn_inScope sc sc e j k).trans hs),
      Hub.raiseFor_eventRecord, Hub.raiseFor_eventRecord, Hub.raiseIn_eventMask, hr, Hub.pending_of_eventRecord_eq hr]
  · rw [Hub.raiseIn_of_not_inScope e hs, Hub.raiseIn_of_not_inScope e (by simpa using hs), hr]

/-! ## All the host numbers of a list -/

theorem Hub.forAll_raiseIn_eq_with (sc : Scope) (e : Nat) (ks : List Nat) (h : Hub) :
    ∃ p o, h.forAll ks (Hub.raiseIn sc e) = { h with pend := p, occ := o } := by
  induction ks generalizing h with
  | nil => exact ⟨h.pend, h.occ, rfl⟩
  | cons j ks ih =>
    obtain ⟨p, o, hj⟩ := h.raiseIn_eq_with sc e j
    obtain ⟨p', o', hks⟩ := ih (h.raiseIn sc e j)
    exact ⟨p', o', hks.trans (by rw [hj])⟩

theorem Hub.forAll_raiseIn_eventRecord_of_not_mem (sc : Scope) (e : Nat) {ks : List Nat} (h : Hub) {k : Nat} (hk : k ∉ ks) :
    (h.forAll ks (Hub.raiseIn sc e)).eventRecord k = h.eventRecord k := by
  induction ks generalizing h with
  | nil => rfl
  | cons j ks ih =>
    have hj := List.ne_of_not_mem_cons hk
    exact (ih (h.raiseIn sc e j) (List.not_mem_of_not_mem_cons hk)).trans (h.raiseIn_eventRecord_other sc e hj)

/-- Each host number of the list is raised for once, by what it held before. -/
theorem Hub.forAll_raiseIn_eventRecord (sc : Scope) (e : Nat) {ks : List Nat} (h : Hub) {k : Nat} (hn : ks.Nodup) (hk : k ∈ ks) :
    (h.forAll ks (Hub.raiseIn sc e)).eventRecord k = (h.raiseIn sc e k).eventRecord k := by
  induction ks generalizing h with
  | nil => cases hk
  | cons j ks ih =>
    obtain ⟨hj, hn⟩ := List.nodup_cons.mp hn
    cases hk with
    | head => exact Hub.forAll_raiseIn_eventRecord_of_not_mem sc e (h.raiseIn sc e k) hj
    | tail _ hk => exact (ih (h.raiseIn sc e j) hn hk).trans (h.raiseIn_raiseIn_eventRecord sc e (ne_of_mem_of_not_mem hk hj))

/-! ## The boundary with one cause (R328) -/

theorem Hub.raiseAll_single (h : Hub) {e : Nat} (sc : Scope) (he : isReservedEvent e = false) :
    h.raiseAll [⟨e, sc⟩] = h.forAll (List.range 8) (Hub.raiseIn sc e) := by
  have hev : causeEvents [⟨e, sc⟩] = [e] := by simp [causeEvents, he, withOne]
  have hn (g : Hub) (k : Nat) : g.named [⟨e, sc⟩] k e = g.inScope sc k := by simp [Hub.named]
  simp only [Hub.raiseAll, hev, Hub.forAll, List.foldl_cons, List.foldl_nil, hn]
  rfl

/-- The hub as a boundary leaves its lists of causes once all that were due are taken. -/
def Hub.causesTaken (h : Hub) : Hub := { h with evDue := h.evNext, evNext := [] }

/-- With event service begun and no restart every cause may be raised. -/
theorem Hub.raisable_of_service {h : Hub} (hb : 1 ≤ h.boot.service) (hr : h.sup.restarting = false) (c : Cause) : h.raisable c = true := by
  simp [Hub.raisable, hb, hr]

theorem Hub.raiseDue_of_service {h : Hub} (hb : 1 ≤ h.boot.service) (hr : h.sup.restarting = false) :
    h.raiseDue = h.causesTaken.raiseAll h.evDue := by
  have hall := Hub.raisable_of_service hb hr
  have hnow : h.evDue.filter h.raisable = h.evDue := List.filter_eq_self.mpr fun c _ => hall c
  have hrest : h.evDue.filter (fun c => !h.raisable c) = [] := List.filter_eq_nil_iff.mpr fun c _ => by rw [hall c]; exact Bool.false_ne_true
  rw [Hub.raiseDue, hnow, hrest, List.nil_append]
  rfl

/-- Settles O46: the boundary raises the one cause for each host number in turn, and what a host number gets depends on its own record, mask and scope. -/
theorem eventsBecomePending : Obligations.EventsBecomePending := by
  intro h e sc hdue he hb hr
  have hraise : h.raiseDue = h.causesTaken.forAll (List.range 8) (Hub.raiseIn sc e) := by
    rw [Hub.raiseDue_of_service hb hr, hdue, Hub.raiseAll_single _ sc he]
  have hrecord (k : Nat) (hk : k < 8) : h.raiseDue.eventRecord k = (h.causesTaken.raiseIn sc e k).eventRecord k := by
    rw [hraise, Hub.forAll_raiseIn_eventRecord sc e _ List.nodup_range (List.mem_range.mpr hk)]
  refine ⟨?inside, ?outside, ?rest⟩
  case inside =>
    intro k hk hs
    have hs : h.causesTaken.inScope sc k = true := (h.inScope_iff sc k).mpr hs
    have hto := hrecord k hk
    rw [Hub.raiseIn_of_inScope e hs] at hto
    exact ⟨(Hub.pending_of_eventRecord_eq hto).trans (Hub.raiseFor_pending _ k e),
      (Hub.occurrences_of_eventRecord_eq hto e).trans (Hub.raiseFor_occurrences _ k e),
      fun d hd => (Hub.occurrences_of_eventRecord_eq hto d).trans (Hub.raiseFor_occurrences_other _ k hd)⟩
  case outside =>
    intro k hk hs
    have hs : ¬h.causesTaken.inScope sc k = true := fun hin => hs ((h.inScope_iff sc k).mp hin)
    have hto := hrecord k hk
    rw [Hub.raiseIn_of_not_inScope e hs] at hto
    exact ⟨Hub.pending_of_eventRecord_eq hto, Hub.occurrences_of_eventRecord_eq hto⟩
  case rest =>
    obtain ⟨p, o, hwith⟩ := h.causesTaken.forAll_raiseIn_eq_with sc e (List.range 8)
    rw [hraise, hwith]
    exact ⟨rfl, rfl, rfl⟩

end Sys2Proof.Machine
end

section
/-! SUPPORT. Declarations of supervision (R343 to R346, R350): what a window, a reference fault, a total loss and a leaking phantom switch make of the hub,
each as one equation in an update of its slice or its input. -/

namespace Sys2Proof.Machine

/-! ## Updates of one input, output or slice -/

@[simp] theorem tput_tput {α : Type} (t : Table α) (k : Nat) (a b : α) : tput (tput t k a) k b = tput t k b := by
  induction t with
  | nil => simp [tput]
  | cons e r ih =>
    obtain ⟨j, c⟩ := e
    simp only [tput]
    split
    · simp [tput]
    · split <;> simp [tput, *]

theorem Hub.modInput_modInput (h : Hub) (n : Nat) (f g : Input → Input) : (h.modInput n f).modInput n g = h.modInput n (fun x => g (f x)) := by
  simp only [Hub.modInput, Hub.setInput, Hub.input, tput_tput, tget_tput, Option.getD_some]

theorem Hub.modOutput_modOutput (h : Hub) (n : Nat) (f g : Output → Output) :
    (h.modOutput n f).modOutput n g = h.modOutput n (fun x => g (f x)) := by
  simp only [Hub.modOutput, Hub.setOutput, Hub.output, tput_tput, tget_tput, Option.getD_some]

theorem Hub.modSlice_modSlice (h : Hub) (sl : SliceId) (f g : Slice → Slice) : (h.modSlice sl f).modSlice sl g = h.modSlice sl (fun x => g (f x)) := by
  cases sl with
  | input n => simp only [Hub.modSlice, Hub.modInput_modInput]
  | output n => simp only [Hub.modSlice, Hub.modOutput_modOutput]

theorem Hub.modSlice_slice_other (h : Hub) {sl k : SliceId} (f : Slice → Slice) (hk : k ≠ sl) : (h.modSlice sl f).slice k = h.slice k := by
  cases sl with
  | input n =>
    cases k with
    | input m => exact congrArg Input.slice (Hub.modInput_input_other h _ fun hm => hk (congrArg SliceId.input hm))
    | output m => rfl
  | output n =>
    cases k with
    | input m => rfl
    | output m => exact congrArg Output.slice (Hub.modOutput_output_other h _ fun hm => hk (congrArg SliceId.output hm))

/-- An update of the slice of an input changes nothing else of that input, and nothing beside it. -/
theorem Hub.modSlice_input_spec (h : Hub) (n : Nat) (f : Slice → Slice) :
    let g := h.modSlice (.input n) f
    g.input n = { h.input n with slice := f (h.input n).slice } ∧ (∀ k, k ≠ n → g.input k = h.input k) ∧ { g with ins := h.ins } = h :=
  ⟨Hub.modInput_input h n _, fun _ hk => Hub.modInput_input_other h _ hk, rfl⟩

theorem Hub.modSlice_output_spec (h : Hub) (n : Nat) (f : Slice → Slice) :
    let g := h.modSlice (.output n) f
    g.output n = { h.output n with slice := f (h.output n).slice } ∧ (∀ k, k ≠ n → g.output k = h.output k) ∧ { g with outs := h.outs } = h :=
  ⟨Hub.modOutput_output h n _, fun _ hk => Hub.modOutput_output_other h _ hk, rfl⟩

theorem mem_withOne {α : Type} [DecidableEq α] (l : List α) (a : α) : a ∈ withOne l a := by
  unfold withOne
  split <;> simp [*]

theorem Hub.cause_causes (h : Hub) (e : Nat) (sc : Scope) : (h.cause e sc).causes e sc := mem_withOne _ _

@[simp] theorem Hub.cause_input (h : Hub) (e : Nat) (sc : Scope) (n : Nat) : (h.cause e sc).input n = h.input n := rfl

/-! ## Windows of supervision (R343, R344) -/

/-- The slice with cause bit `k` due for its declaration where `c` holds (R346). -/
def Slice.declaredIf (x : Slice) (c : Prop) [Decidable c] (k : Nat) : Slice :=
  { x with dueCause := if c then x.dueCause ||| 2 ^ k else x.dueCause }

/-- What a window counts and what it declares are together one update of its slice. -/
theorem Hub.modSlice_declareSlice_if (h : Hub) (sl : SliceId) (f : Slice → Slice) (c : Prop) [Decidable c] (k : Nat) :
    (if c then (h.modSlice sl f).declareSlice sl k else h.modSlice sl f) = h.modSlice sl (fun x => (f x).declaredIf c k) := by
  by_cases hc : c
  · simp only [if_pos hc, Hub.declareSlice, Hub.modSlice_modSlice, Slice.declaredIf]
  · simp only [if_neg hc, Slice.declaredIf]

/-- The failing windows in a row of noise path `p` (L, M, H: 0, 1, 2) after a window; one without a figure leaves them (log 140). -/
def Hub.noiseRun (h : Hub) (n p : Nat) (w : Option Int) (r : Nat) : Nat :=
  match w with
  | none => r
  | some v => if Config.factoryNoise n p + h.noiseMargin < v then r + 1 else 0

/-- The figures and runs of input `n` after a noise window. -/
def Hub.noiseWindow (h : Hub) (n : Nat) (l m x : Option Int) (y : Slice) : Slice :=
  { y with
    noiseL := l.getD y.noiseL, noiseM := m.getD y.noiseM, noiseH := x.getD y.noiseH
    noiseRunL := h.noiseRun n 0 l y.noiseRunL, noiseRunM := h.noiseRun n 1 m y.noiseRunM, noiseRunH := h.noiseRun n 2 x y.noiseRunH }

/-- Ten noise windows in a row of one path: the noise criterion of R343. -/
abbrev Slice.noisy (y : Slice) : Prop := 10 ≤ y.noiseRunL ∨ 10 ≤ y.noiseRunM ∨ 10 ≤ y.noiseRunH

/-- The slice after a tone window: the windows in a row whose line exceeds −145 dB. -/
def Slice.toneWindow (line : Int) (y : Slice) : Slice := { y with toneRun := if -14500 < line then y.toneRun + 1 else 0 }

theorem Hub.healthJudgement_noise {h : Hub} {n : Nat} (hj : h.judging (.input n) = true) (l m x : Option Int) :
    h.healthJudgement (.input n) (.noise l m x) =
      h.modSlice (.input n) (fun y => (h.noiseWindow n l m x y).declaredIf (h.noiseWindow n l m x (h.input n).slice).noisy causeNoise) := by
  have hs : (h.modSlice (.input n) (h.noiseWindow n l m x)).slice (.input n) = h.noiseWindow n l m x (h.input n).slice := Hub.modSlice_slice ..
  rw [← Hub.modSlice_declareSlice_if, ← hs]
  exact if_pos hj

theorem Hub.healthJudgement_tone {h : Hub} {n : Nat} (hj : h.judging (.input n) = true) (line : Int) :
    h.healthJudgement (.input n) (.tone line) =
      h.modSlice (.input n) (fun y => (y.toneWindow line).declaredIf (3 ≤ ((h.input n).slice.toneWindow line).toneRun) causeTone) := by
  have hs : (h.modSlice (.input n) (Slice.toneWindow line)).slice (.input n) = (h.input n).slice.toneWindow line := Hub.modSlice_slice ..
  rw [← Hub.modSlice_declareSlice_if, ← hs]
  exact if_pos hj

/-- Only a DC output is judged by its offset (R344). -/
theorem Hub.healthJudgement_dc {h : Hub} {n : Nat} (hj : h.judging (.output n) = true) (hm : (h.output n).cfg.mode = 1) (uv : Int) :
    h.healthJudgement (.output n) (.dc uv) = if 5000 < uv.natAbs then h.declareSlice (.output n) causeDc else h := by
  have hw : h.healthJudgement (.output n) (.dc uv) =
      if (h.output n).cfg.mode = 1 ∧ 5000 < uv.natAbs then h.declareSlice (.output n) causeDc else h := if_pos hj
  simp only [hw, hm, true_and]

/-! ## Declarations without a window (R343 to R345, R350, R351) -/

theorem Hub.referenceFault_of_judgeable {h : Hub} {sl : SliceId} (hj : h.judgeable sl = true) : h.referenceFault sl = h.declareSlice sl causeReference :=
  if_pos hj

/-- A slice lost as a whole: declared for it and marked. -/
def Slice.lost (x : Slice) : Slice := { x with dueCause := x.dueCause ||| 2 ^ causeTotal, totalLoss := true }

theorem Hub.totalLoss_input (h : Hub) {n : Nat} (hn : isInput n = true) :
    h.totalLoss (.input n) =
      h.modInput n (fun x => { x with slice := x.slice.lost, stream := { x.stream with gate := Fade.steady 0 }, lossZero := true }) := by
  have hle : n ≤ 48 := by simp only [isInput, Bool.and_eq_true, decide_eq_true_eq] at hn; exact hn.2
  simp only [Hub.totalLoss, Hub.declareSlice, Hub.modSlice_modSlice, Hub.zeroStream, Hub.modStream, if_pos hle]
  simp only [Hub.modSlice, Hub.modInput_modInput, Slice.lost]

theorem Hub.totalLoss_output (h : Hub) (n : Nat) : h.totalLoss (.output n) = h.modSlice (.output n) Slice.lost := by
  simp only [Hub.totalLoss, Hub.declareSlice, Hub.modSlice_modSlice]
  rfl

/-- An input whose phantom switch leaks: the cause stands in its slice at once, for it is only reported (R345). -/
def Input.leaking (x : Input) : Input := { x with leak := true, slice := { x.slice with cause := x.slice.cause ||| 2 ^ causeLeak } }

theorem Hub.phantomLeak_of_off {h : Hub} {n : Nat} (ho : (h.input n).phantom.state = .off) :
    h.phantomLeak n = (h.modInput n Input.leaking).cause evHealth :=
  if_pos ho

/-! ## The criteria mark their slice -/

/-- Settles O21: each criterion has one equation for its effect, and the reads follow from the laws of its updates. -/
theorem criteriaMarkTheSlice : Obligations.CriteriaMarkTheSlice := by
  refine ⟨?noise, ?tone, ?dc, ?reference, ?lossInput, ?lossOutput, ?leak⟩
  case noise =>
    intro s n l m x hn hj hl
    refine answers_of_run (f := (·.healthJudgement (.input n) (.noise (some l) m x))) rfl hn ?_
    rw [Hub.healthJudgement_noise hj]
    obtain ⟨hat, hother, hrest⟩ := s.hub.modSlice_input_spec n fun y =>
      (s.hub.noiseWindow n (some l) m x y).declaredIf (s.hub.noiseWindow n (some l) m x (s.hub.input n).slice).noisy causeNoise
    have hrun (r : Nat) : s.hub.noiseRun n 0 (some l) r = r + 1 := if_pos hl
    rw [hat]
    refine ⟨?_, ?_, ?_, ?_, ?_, rfl, rfl, hother, hrest⟩
    · simp [Slice.declaredIf, Hub.noiseWindow, hrun]
    · rintro rfl; rfl
    · rintro v rfl; rfl
    · rintro rfl; rfl
    · rintro v rfl; rfl
  case tone =>
    intro s n line hn hj hl
    refine answers_of_run (f := (·.healthJudgement (.input n) (.tone line))) rfl hn ?_
    rw [Hub.healthJudgement_tone hj]
    obtain ⟨hat, hother, hrest⟩ := s.hub.modSlice_input_spec n fun y =>
      (y.toneWindow line).declaredIf (3 ≤ ((s.hub.input n).slice.toneWindow line).toneRun) causeTone
    rw [hat]
    refine ⟨?_, hother, hrest⟩
    simp [Slice.declaredIf, Slice.toneWindow, hl, causeTone]
  case dc =>
    intro s n uv hn hj hm
    refine answers_of_run (f := (·.healthJudgement (.output n) (.dc uv))) rfl hn ?_
    rw [Hub.healthJudgement_dc hj hm]
    by_cases hv : 5000 < uv.natAbs
    · obtain ⟨hat, hother, hrest⟩ := s.hub.modSlice_output_spec n fun y => { y with dueCause := y.dueCause ||| 2 ^ causeDc }
      rw [if_pos hv, if_pos hv]
      exact ⟨congrArg (·.slice.dueCause) hat, hother, hrest⟩
    · rw [if_neg hv, if_neg hv]
      exact ⟨rfl, fun _ _ => rfl, rfl⟩
  case reference =>
    intro s sl hsl hj
    refine answers_of_run (f := (·.referenceFault sl)) rfl hsl ?_
    rw [Hub.referenceFault_of_judgeable hj]
    exact ⟨Hub.modSlice_slice _ sl _, fun k hk => Hub.modSlice_slice_other _ _ hk, by cases sl <;> rfl⟩
  case lossInput =>
    intro s n hn
    refine answers_of_run (f := (·.totalLoss (.input n))) rfl hn ?_
    rw [Hub.totalLoss_input _ hn, Hub.modInput_input]
    exact ⟨rfl, rfl, rfl, fun k hk => Hub.modInput_input_other _ _ hk, rfl⟩
  case lossOutput =>
    intro s n hn
    refine answers_of_run (f := (·.totalLoss (.output n))) rfl hn ?_
    rw [Hub.totalLoss_output]
    obtain ⟨hat, hother, hrest⟩ := s.hub.modSlice_output_spec n Slice.lost
    exact ⟨congrArg Output.slice hat, hother, hrest⟩
  case leak =>
    intro s n hn ho
    refine answers_of_run (f := (·.phantomLeak n)) rfl hn ?_
    rw [Hub.phantomLeak_of_off ho]
    exact ⟨by simp [Input.leaking, causeLeak], Hub.cause_causes _ _ _, fun k hk => by simp [Hub.modInput_input_other _ _ hk], rfl⟩

end Sys2Proof.Machine
end

section
/-! SUPPORT. Writing, verifying and activating an image (R413, R415, R418 to R420): what each row of an update makes of the hub, and that the claims
which the end of a supervisor restart serves reach neither the supervisor's own state nor the update. -/

namespace Sys2Proof.Machine

/-! ## Writing to flash (R413) -/

/-- While operations of a record are left no further record begins. -/
theorem Hub.flashBegin_of_ops {h : Hub} {n : Nat} (ho : h.upd.ops = some n) : h.flashBegin = h :=
  if_neg (by simp [ho])

theorem Hub.flashDone_of_right {h : Hub} {n : Nat} (ho : h.upd.ops = some n) (hn : 1 < n) (hr : h.flashRuns = true) :
    h.flashDone true = h.modUpd fun u => { u with ops := some (n - 1), retried := false } := by
  simp [Hub.flashDone, Hub.flashBegin_of_ops ho, ho, hr, Nat.not_le.mpr hn]

theorem Hub.flashDone_of_first_wrong {h : Hub} {n : Nat} (ho : h.upd.ops = some n) (hr : h.flashRuns = true) (ht : h.upd.retried = false) :
    h.flashDone false = h.modUpd fun u => { u with retried := true } := by
  simp [Hub.flashDone, Hub.flashBegin_of_ops ho, ho, hr, ht]

theorem Hub.flashDone_of_wrong_again {h : Hub} {n : Nat} (ho : h.upd.ops = some n) (hr : h.flashRuns = true) (ht : h.upd.retried = true) :
    h.flashDone false =
      (h.modUpd fun u => { u with ops := none, retried := false }).blockError 15 (320 + 4112 * h.upd.written) [] := by
  simp [Hub.flashDone, Hub.flashBegin_of_ops ho, ho, hr, ht]

/-- With flash programming paused no operation completes. -/
theorem Hub.flashDone_of_paused {h : Hub} (ho : h.upd.ops.isSome = true) (hr : h.flashRuns = false) (ok : Bool) : h.flashDone ok = h := by
  obtain ⟨n, ho⟩ := Option.isSome_iff_exists.mp ho
  simp [Hub.flashDone, Hub.flashBegin_of_ops ho, ho, hr]

/-- A record that fails starts again from its first byte and reports E113. -/
theorem Hub.blockError_spec (h : Hub) (e start : Nat) (keep : List (List Byte)) :
    let g := h.blockError e start keep
    g.upd = { h.upd with lastError := e, blockErrors := satInc 65535 h.upd.blockErrors, next := start, staged := [], waiting := keep } ∧ g.causes 113 ∧
      { g with upd := h.upd, evDue := h.evDue } = h := by
  unfold Hub.blockError
  exact ⟨rfl, Hub.cause_causes _ evUpdateBlock _, rfl⟩

/-! ## An update that fails (R423) -/

/-- A failure keeps what the slots hold (ARMED) and reports E116. -/
theorem Hub.updateFail_spec (h : Hub) (e : Nat) :
    let g := (h.updateFail e).cause evUpdateFailed
    g.upd.state = 7 ∧ g.upd.lastError = e ∧ g.upd.host = 0xFF ∧ g.upd.step = 0 ∧ g.upd.armed = h.upd.armed ∧ g.boot = h.boot ∧ g.causes 116 ∧
      { g with upd := h.upd, evDue := h.evDue } = h :=
  ⟨rfl, rfl, rfl, rfl, rfl, rfl, Hub.cause_causes _ evUpdateFailed _, rfl⟩

/-! ## Verification (R415) -/

/-- The received image awaits the verdict on its signatures, and the flash can be read (R430). -/
def Hub.awaitsVerdict (h : Hub) : Prop := h.upd.state = 3 ∧ h.upd.armWait = false ∧ h.supply.vioFault = false

theorem Hub.verifyComplete_of_vendor_bad {h : Hub} (hv : h.awaitsVerdict) (c : Bool) :
    h.verifyComplete false c = (h.updateFail 13).cause evUpdateFailed :=
  if_pos hv

theorem Hub.verifyComplete_of_maker_bad {h : Hub} (hv : h.awaitsVerdict) (hc : countersigned h.upd.header = true) :
    h.verifyComplete true false = (h.updateFail 14).cause evUpdateFailed :=
  (if_pos hv).trans (if_pos (And.intro hc rfl))

theorem Hub.verifyComplete_of_unreadable {h : Hub} (hf : h.supply.vioFault = true) (v c : Bool) : h.verifyComplete v c = h :=
  if_neg (by simp [hf])

/-- Good signatures ask for the rows of an arming: the security counter where it rises, and the end of UPDATE_PENDING. -/
theorem Hub.verifyComplete_of_good {h : Hub} (hv : h.awaitsVerdict) (hd : h.supply.dip = false) :
    h.verifyComplete true true =
      { h with
          store := { h.store with
            queue := h.store.queue ++ (if h.ext.counter < imageSecurity h.upd.header then [.counter (imageSecurity h.upd.header)] else []) ++
              [.updatePending false]
            e5Done := false }
          upd := { h.upd with armWait := true } } := by
  obtain ⟨hst, haw, hvf⟩ := hv
  by_cases hc : h.ext.counter < imageSecurity h.upd.header <;>
    simp [Hub.verifyComplete, hst, haw, hvf, hc, Hub.request, Hub.when, Hub.modStore, Hub.modUpd, hd]

/-! ## The start of an activation (R418, R420) -/

/-- An activation is due in the first frame of a block, and nothing holds it. -/
def Hub.activationStarts (h : Hub) : Prop :=
  h.upd.activateDue = true ∧ h.activationFree = true ∧ h.sup.restarting = false ∧ h.now % 32 = 0

/-- The hub with the activation of full service begun and no step of it run. -/
def Hub.activationBegun (h : Hub) : Hub := { h with upd := { h.upd with activateDue := false, state := 6, step := 0, stepOver := true } }

theorem Hub.activationDue_of_starts {h : Hub} (hs : h.activationStarts) : h.activationDue = h.activate.activationStep := by
  obtain ⟨hd, hf, hr, hn⟩ := hs
  simp [Hub.activationDue, hd, hf, hr, hn]

theorem Hub.activationDue_of_held {h : Hub} (hh : h.activationFree = false ∨ h.now % 32 ≠ 0) :
    h.activationDue =
      h.modUpd fun u => { u with activateDue := h.upd.activateDue || (decide (h.upd.state = 5) && h.activationTime && h.tet.timeLocked) } := by
  refine if_neg ?_
  rcases hh with hf | hn
  · simp [hf]
  · simp [hn]

theorem Hub.activationStep_of_next {h : Hub} {k : Nat} (hs : h.upd.state = 6) (hw : h.upd.stepWaits = false) (ho : h.upd.stepOver = true)
    (hk : h.nextStep (h.upd.step + 1) = some k) : h.activationStep = h.stepBegin k := by
  simp [Hub.activationStep, hs, hw, ho, hk]

theorem Hub.activationStep_of_no_next {h : Hub} (hs : h.upd.state = 6) (hw : h.upd.stepWaits = false) (ho : h.upd.stepOver = true)
    (hk : h.nextStep (h.upd.step + 1) = none) : h.activationStep = h.activated := by
  simp [Hub.activationStep, hs, hw, ho, hk]

theorem Hub.activationDue_of_full {h : Hub} (hs : h.activationStarts) (hb : h.boot.full = true) :
    h.activationDue = h.activationBegun.activationStep := by
  have ha : h.activate = h.activationBegun := if_pos hb
  rw [Hub.activationDue_of_starts hs, ha]

theorem Hub.activationDue_of_next {h : Hub} {k : Nat} (hs : h.activationStarts) (hb : h.boot.full = true) (hw : h.upd.stepWaits = false)
    (hk : h.nextStep 1 = some k) : h.activationDue = h.activationBegun.stepBegin k :=
  (Hub.activationDue_of_full hs hb).trans (Hub.activationStep_of_next (h := h.activationBegun) rfl hw rfl hk)

theorem Hub.activationDue_of_no_next {h : Hub} (hs : h.activationStarts) (hb : h.boot.full = true) (hw : h.upd.stepWaits = false)
    (hk : h.nextStep 1 = none) : h.activationDue = h.activationBegun.activated :=
  (Hub.activationDue_of_full hs hb).trans (Hub.activationStep_of_no_next (h := h.activationBegun) rfl hw rfl hk)

/-- In reduced service the start is the whole activation: the boot handover (R396). -/
theorem Hub.activationDue_of_reduced {h : Hub} (hs : h.activationStarts) (hb : h.boot.full = false) :
    h.activationDue =
      { h with
          upd := { h.upd with activateDue := false, state := 0, everything := false, armed := [0, 0, 0, 0] }
          boot := { h.boot with bootResult := 1, thDue := true, header := h.upd.header, versions := imageVersions h.upd.header }
          sup := { h.sup with running := true } } := by
  simp [Hub.activationDue_of_starts hs, Hub.activate, Hub.activationStep, Hub.modUpd, hb]

/-- An activation that is over runs the new image whole and reports E115. -/
theorem Hub.activated_spec (h : Hub) :
    let g := h.activated
    g.upd = { h.upd with state := 0, step := 0, stepOver := false, stepWaits := false, everything := false, armed := [0, 0, 0, 0] } ∧
      g.boot = { h.boot with header := h.upd.header } ∧ g.causes 115 ∧ { g with upd := h.upd, boot := h.boot, evDue := h.evDue } = h := by
  unfold Hub.activated
  exact ⟨rfl, rfl, Hub.cause_causes _ evUpdateActivated _, rfl⟩

/-! ## The detectors of the WATCH step (R377, R378, R419) -/

/-- A Watch channel with its signature and level detectors from the start. -/
def WatchChan.detectorsReset (x : WatchChan) : WatchChan := { x with progress := 0, inRun := false, runLen := 0, gap := 0, above := 0, below := 0 }

theorem Hub.detectorReset_levelReset (h : Hub) (c : Nat) : (h.detectorReset c).levelReset c = h.modChan c WatchChan.detectorsReset := by
  simp only [Hub.detectorReset, Hub.levelReset, Hub.modChan, Hub.chan, tput_tput, tget_tput, Option.getD_some, WatchChan.detectorsReset]

theorem Hub.modChan_chan_other (h : Hub) {n m : Nat} (f : WatchChan → WatchChan) (hm : m ≠ n) : (h.modChan n f).chan m = h.chan m := by
  simp [Hub.modChan, Hub.chan, tget_tput_other _ _ hm]

theorem Hub.forAll_modChan_chan_of_not_mem (f : WatchChan → WatchChan) {cs : List Nat} (h : Hub) {c : Nat} (hc : c ∉ cs) :
    (h.forAll cs (fun h c => h.modChan c f)).chan c = h.chan c := by
  induction cs generalizing h with
  | nil => rfl
  | cons d cs ih => exact (ih (h.modChan d f) (List.not_mem_of_not_mem_cons hc)).trans (h.modChan_chan_other f (List.ne_of_not_mem_cons hc))

theorem Hub.forAll_modChan_chan (f : WatchChan → WatchChan) {cs : List Nat} (h : Hub) {c : Nat} (hn : cs.Nodup) (hc : c ∈ cs) :
    (h.forAll cs (fun h c => h.modChan c f)).chan c = f (h.chan c) := by
  induction cs generalizing h with
  | nil => cases hc
  | cons d cs ih =>
    obtain ⟨hd, hn⟩ := List.nodup_cons.mp hn
    cases hc with
    | head => exact (Hub.forAll_modChan_chan_of_not_mem f (h.modChan c f) hd).trans (h.modChan_chan c f)
    | tail _ hc => exact (ih (h.modChan d f) hn hc).trans (congrArg f (h.modChan_chan_other f (ne_of_mem_of_not_mem hc hd)))

theorem Hub.forAll_modChan_rest (f : WatchChan → WatchChan) (cs : List Nat) (h : Hub) :
    (h.forAll cs (fun h c => h.modChan c f)).upd = h.upd ∧ { h.forAll cs (fun h c => h.modChan c f) with chans := h.chans } = h := by
  induction cs generalizing h with
  | nil => exact ⟨rfl, rfl⟩
  | cons d cs ih =>
    obtain ⟨hupd, hrest⟩ := ih (h.modChan d f)
    exact ⟨hupd, congrArg (fun g => { g with chans := h.chans }) hrest⟩

/-- The WATCH step starts the detectors of the four channels over. -/
theorem Hub.stepBegin_watch (h : Hub) :
    let g := h.stepBegin 1
    g.upd = { h.upd with step := 1, stepOver := false, stepWaits := false } ∧ (∀ c, c < 4 → g.chan c = (h.chan c).detectorsReset) ∧
      { g with upd := h.upd, chans := h.chans } = h := by
  have hg : h.stepBegin 1 =
      (h.modUpd (fun u => { u with step := 1, stepOver := false, stepWaits := false })).forAll (List.range 4)
        (fun h c => h.modChan c WatchChan.detectorsReset) := by
    simp only [← Hub.detectorReset_levelReset]
    exact if_neg (by simp)
  rw [hg]
  obtain ⟨hupd, hrest⟩ := Hub.forAll_modChan_rest WatchChan.detectorsReset (List.range 4)
    (h.modUpd (fun u => { u with step := 1, stepOver := false, stepWaits := false }))
  exact ⟨hupd, fun c hc => Hub.forAll_modChan_chan _ _ List.nodup_range (List.mem_range.mpr hc),
    congrArg (fun g => { g with upd := h.upd }) hrest⟩

theorem Hub.stepBegin_tet (h : Hub) : h.stepBegin 4 = h.modUpd (fun u => { u with step := 4, stepOver := false, stepWaits := false }) :=
  if_neg (by simp)

/-! ## The end of a supervisor restart (R24) -/

/-- The part of the hub that belongs to the supervisor and the update, out of reach of sessions and claims. -/
def Hub.imageRecord (h : Hub) : Supervisor × Update := (h.sup, h.upd)

/-- A fold keeps a record that each of its steps keeps. -/
theorem foldl_imageRecord {α : Type} {f : Hub → α → Hub} {r : Supervisor × Update} (hf : ∀ g a, g.imageRecord = r → (f g a).imageRecord = r)
    (as : List α) {h : Hub} (hr : h.imageRecord = r) : (as.foldl f h).imageRecord = r := by
  induction as generalizing h with
  | nil => exact hr
  | cons a as ih => exact ih (hf h a hr)

theorem Hub.modMailbox_imageRecord (h : Hub) (w : Who) (f : Mailbox → Mailbox) : (h.modMailbox w f).imageRecord = h.imageRecord := by
  obtain ⟨via, k⟩ := w
  cases via <;> rfl

theorem Hub.restartSession_imageRecord (h : Hub) (k : Nat) : (h.restartSession k).imageRecord = h.imageRecord := by
  unfold Hub.restartSession
  dsimp only
  repeat' split
  all_goals rfl

theorem Hub.claimNow_imageRecord (h : Hub) (w : Who) (tag : Nat) : (h.claimNow w tag).imageRecord = h.imageRecord := by
  unfold Hub.claimNow
  dsimp only
  split
  · rfl
  split
  · exact Hub.restartSession_imageRecord _ _
  split
  · exact Hub.restartSession_imageRecord _ _
  · rfl

theorem Hub.releaseNow_imageRecord (h : Hub) (k tag : Nat) : (h.releaseNow k tag).imageRecord = h.imageRecord := by
  unfold Hub.releaseNow
  dsimp only
  repeat' split
  all_goals rfl

theorem Hub.claimCommand_imageRecord {h : Hub} (hr : h.sup.restarting = false) (w : Who) (cmd tag : Nat) :
    (h.claimCommand w cmd tag).imageRecord = h.imageRecord := by
  unfold Hub.claimCommand
  rw [hr]
  split
  · rfl
  split
  · contradiction
  split
  · exact h.claimNow_imageRecord w tag
  · exact h.releaseNow_imageRecord w.host tag

theorem Hub.alertSettle_imageRecord (h : Hub) : h.alertSettle.imageRecord = h.imageRecord := by
  unfold Hub.alertSettle
  split <;> rfl

theorem Hub.resumeSessions_imageRecord (h : Hub) : h.resumeSessions.imageRecord = h.imageRecord := by
  unfold Hub.resumeSessions
  split
  · rfl
  · refine foldl_imageRecord (fun g k hg => ?_) _ rfl
    split
    · exact hg
    · exact hg

/-- The supervisor is back with no claim held: those that were are served, and none is held anew. -/
theorem Hub.supervisorUp_imageRecord (h : Hub) : h.supervisorUp.imageRecord = ({ h.sup with restarting := false, heldClaims := [] }, h.upd) := by
  refine (Hub.alertSettle_imageRecord _).trans (foldl_imageRecord (fun g c hg => ?_) _ (Hub.resumeSessions_imageRecord _))
  have hr : g.sup.restarting = false := congrArg (fun r : Supervisor × Update => r.1.restarting) hg
  exact (Hub.modMailbox_imageRecord _ _ _).trans ((Hub.claimCommand_imageRecord hr _ _ _).trans hg)

/-! ## The end of a step (R419) -/

/-- Step `k` of an activation runs. -/
def Hub.stepRuns (h : Hub) (k : Nat) : Prop := h.upd.state = 6 ∧ h.upd.stepOver = false ∧ h.upd.stepWaits = false ∧ h.upd.step = k

/-- The step is over and component `k` of the new image is in the place of the old one (R417). -/
def Hub.exchanged (h : Hub) (k : Nat) : Hub :=
  { h with upd := { h.upd with stepOver := true }
           boot := { h.boot with versions := h.boot.versions.set (k - 1) (componentVersion h.upd.header k)
                                 header := withEntry h.boot.header h.upd.header k } }

/-- WATCH and TET have nothing to bring back when their step ends. -/
theorem Hub.stepEnd_watch_or_tet {h : Hub} {k : Nat} (hk : k = 1 ∨ k = 4) (hs : h.stepRuns k) (ok : Bool) :
    h.stepEnd ok = if ok then h.exchanged k else (h.updateFail 16).cause evUpdateFailed := by
  obtain ⟨hst, hov, hwt, hsp⟩ := hs
  rcases hk with rfl | rfl <;> simp [Hub.stepEnd, hst, hov, hwt, hsp] <;> rfl

theorem Hub.stepEnd_sup {h : Hub} (hs : h.stepRuns 3) :
    h.stepEnd true =
      { h.supervisorUp with
          sup := { h.supervisorUp.sup with loaderOnly := false }
          upd := { h.supervisorUp.upd with stepOver := true }
          boot := (h.exchanged 3).boot } := by
  obtain ⟨hst, hov, hwt, hsp⟩ := hs
  simp [Hub.stepEnd, hst, hov, hwt, hsp]
  rfl

/-! ## The rows of an update -/

/-- Settles O43: each row has an equation for its effect in each case of the rules, and the reads follow from the laws of its updates. -/
theorem imagesAreWrittenAndActivated : Obligations.ImagesAreWrittenAndActivated := by
  refine ⟨?written, ?rewrite, ?recordFails, ?paused, ?vendorBad, ?makerBad, ?unreadable, ?good, ?startTet, ?startWatch, ?nothingChanges,
    ?handover, ?held, ?stepDone, ?stepFails, ?supDone⟩
  case written =>
    intro s n ho hn hr
    exact answers_of_always (f := (·.flashDone true)) rfl (Hub.flashDone_of_right ho hn hr)
  case rewrite =>
    intro s n ho hr ht
    exact answers_of_always (f := (·.flashDone false)) rfl (Hub.flashDone_of_first_wrong ho hr ht)
  case recordFails =>
    intro s n ho hr ht
    refine answers_of_always (f := (·.flashDone false)) rfl ?_
    rw [Hub.flashDone_of_wrong_again ho hr ht]
    obtain ⟨hupd, hcause, hrest⟩ :=
      (s.hub.modUpd fun u => { u with ops := none, retried := false }).blockError_spec 15 (320 + 4112 * s.hub.upd.written) []
    exact ⟨hupd, hcause, congrArg (fun g => { g with upd := s.hub.upd }) hrest⟩
  case paused =>
    intro s ok ho hr
    exact answers_of_always (f := (·.flashDone ok)) rfl (Hub.flashDone_of_paused ho hr ok)
  case vendorBad =>
    intro s c hst haw hvf
    refine answers_of_always (f := (·.verifyComplete false c)) rfl ?_
    rw [Hub.verifyComplete_of_vendor_bad ⟨hst, haw, hvf⟩]
    obtain ⟨hstate, herr, hhost, -, harmed, -, hcause, hrest⟩ := s.hub.updateFail_spec 13
    exact ⟨hstate, herr, hhost, harmed, hcause, hrest⟩
  case makerBad =>
    intro s hst haw hvf hc
    refine answers_of_always (f := (·.verifyComplete true false)) rfl ?_
    rw [Hub.verifyComplete_of_maker_bad ⟨hst, haw, hvf⟩ hc]
    obtain ⟨hstate, herr, -, -, -, -, hcause, hrest⟩ := s.hub.updateFail_spec 14
    exact ⟨hstate, herr, hcause, hrest⟩
  case unreadable =>
    intro s v c _ hvf
    exact answers_of_always (f := (·.verifyComplete v c)) rfl (Hub.verifyComplete_of_unreadable hvf v c)
  case good =>
    intro s hst haw hvf hd
    refine answers_of_always (f := (·.verifyComplete true true)) rfl ?_
    rw [Hub.verifyComplete_of_good ⟨hst, haw, hvf⟩ hd]
    exact ⟨rfl, rfl, rfl⟩
  case startTet =>
    intro s hd hf hr hb hn hw hk
    refine answers_of_always (f := Hub.activationDue) rfl ?_
    rw [Hub.activationDue_of_next ⟨hd, hf, hr, hn⟩ hb hw hk]
    simp [Hub.stepBegin_tet, Hub.activationBegun, Hub.modUpd, hw]
  case startWatch =>
    intro s hd hf hr hb hn hw hk
    refine answers_of_always (f := Hub.activationDue) rfl ?_
    rw [Hub.activationDue_of_next ⟨hd, hf, hr, hn⟩ hb hw hk]
    obtain ⟨hupd, hchan, hrest⟩ := s.hub.activationBegun.stepBegin_watch
    exact ⟨hupd.trans (by simp [Hub.activationBegun, hw]), hchan, congrArg (fun g => { g with upd := s.hub.upd }) hrest⟩
  case nothingChanges =>
    intro s hd hf hr hb hn hw hk
    refine answers_of_always (f := Hub.activationDue) rfl ?_
    rw [Hub.activationDue_of_no_next ⟨hd, hf, hr, hn⟩ hb hw hk]
    obtain ⟨hupd, hboot, hcause, hrest⟩ := s.hub.activationBegun.activated_spec
    exact ⟨hupd.trans (by simp [Hub.activationBegun, hw]), hboot, hcause, congrArg (fun g => { g with upd := s.hub.upd }) hrest⟩
  case handover =>
    intro s hd hf hr hb hn
    exact answers_of_always (f := Hub.activationDue) rfl (Hub.activationDue_of_reduced ⟨hd, hf, hr, hn⟩ hb)
  case held =>
    intro s hh
    exact answers_of_always (f := Hub.activationDue) rfl (Hub.activationDue_of_held hh)
  case stepDone =>
    intro s k hk hst hov hwt hsp
    exact answers_of_always (f := (·.stepEnd true)) rfl (Hub.stepEnd_watch_or_tet hk ⟨hst, hov, hwt, hsp⟩ true)
  case stepFails =>
    intro s k hk hst hov hwt hsp
    refine answers_of_always (f := (·.stepEnd false)) rfl ?_
    rw [Hub.stepEnd_watch_or_tet hk ⟨hst, hov, hwt, hsp⟩ false]
    obtain ⟨hstate, herr, -, hstep, -, hboot, hcause, hrest⟩ := s.hub.updateFail_spec 16
    exact ⟨hstate, herr, hstep, hboot, hcause, hrest⟩
  case supDone =>
    intro s hst hov hwt hsp
    refine answers_of_always (f := (·.stepEnd true)) rfl ?_
    rw [Hub.stepEnd_sup ⟨hst, hov, hwt, hsp⟩]
    have hrec := s.hub.supervisorUp_imageRecord
    have hsup : s.hub.supervisorUp.sup = { s.hub.sup with restarting := false, heldClaims := [] } := congrArg Prod.fst hrec
    have hupd : s.hub.supervisorUp.upd = s.hub.upd := congrArg Prod.snd hrec
    rw [hsup, hupd]
    exact ⟨rfl, rfl, rfl, rfl, rfl⟩

end Sys2Proof.Machine
end

section
/-! SUPPORT. The block as a whole (R1, R10, R11, R266): which rows are effects on the hub alone, what the rows that may renew the snapshot do with it, and
from the two that every command completes or is refused by name. -/

namespace Sys2Proof.Machine

/-! ## Rows over an effect -/

/-- Every row that does not renew the snapshot is an effect on the hub, refused only for operands the part cannot be given. -/
theorem exec_effect {i : Instr} (s : State) (hr : renewsStatus i = false) : ∃ ok f, exec i s = run ok f s ∧ (i.wf = true → ok = true) := by
  cases i
  case frameBoundary | blockBoundary | powerOnReset | resetN | coreBrownOut | lowPowerBrownOut | thermalReset | stableEntryComplete | stableWake |
    wakeTimerExpiry | wakeComparatorFire | twiAddressMatch => cases hr
  case supervisorWatchdogExpiry | supervisorRestartComplete | reliefLaneLoadComplete | dspTakeoverComplete | l8PatrolPeriodEnd | l8PatrolMismatch |
    l8RecheckComplete | vphLoss | vphReturn | combinerSample | patrolScan | panicMute | panicRelease | analogRailLow | analogRailRecover |
    inputRailMute | avddLow | avddRecover | spkOvercurrent | spkRestart | spkDcFault | vspkOutOfRange | vspkRecover | spkSequenceEnd | hpPowerupStep |
    clkXinStartTimeout | storedHoldStore | reinPhaseSample | reinLock | reinLimitEntry | anchorLoss | wckinEdge | wckinPeriodMissed | wckinRateFound |
    xtalFailure | xinRecovered | autoStore | storeRowWritten | twiStopCommit | brstNReset | busTimeout | alertResponse | alertRepeat |
    watchHostAccess | watchClockRegate | tetherLinkChange | tetherFrameReceive | tetherCommandFrame | sync | tetherTimeLockChange | echoReq | echoRsp |
    rollcall | confirm | rollcallTimeout | quiesceEnd | watchEntryComplete | watchExitStep | bringUpStep | reducedServiceStart | bootImageChecked |
    fullService | flashProgramDone | updateVerifyComplete | activationDue | activationStepEnd | supplyDipStart | supplyDipEnd | vioWarn | thermalWarn |
    thermalCrit | thermalRecover | vioRecover | brstNRelease | flushIncomplete => exact ⟨true, _, rfl, fun _ => rfl⟩
  all_goals exact ⟨_, _, rfl, by simp +contextual [Instr.wf]⟩

/-! ## Rows that may renew the snapshot (R266) -/

/-- A next state keeps the queue, and its snapshot is the one before or the hub that the row leaves. -/
def State.RenewsTo (s t : State) : Prop := t.pending = s.pending ∧ (t.snap = s.snap ∨ t.snap = t.hub)

theorem State.renewsTo_refl (s : State) : s.RenewsTo s := ⟨rfl, .inl rfl⟩

theorem State.renewsTo_mapHub (s : State) (f : Hub → Hub) : s.RenewsTo (s.mapHub f) := ⟨rfl, .inl rfl⟩

theorem State.renewsTo_reboot (s : State) (f : Hub → Hub) : s.RenewsTo (s.reboot f) := ⟨rfl, .inr rfl⟩

theorem State.frameBoundary_renewsTo (s : State) (src : List (Nat × Int)) : s.RenewsTo (s.frameBoundary src) := by
  unfold State.frameBoundary
  split
  · dsimp only
    split
    · exact s.renewsTo_reboot _
    · exact s.renewsTo_mapHub fun _ => (s.hub.frameEnd src).frameBegin
  · exact s.renewsTo_refl

theorem State.blockBoundary_renewsTo (s : State) (m : Measures) : s.RenewsTo (s.blockBoundary m) := by
  unfold State.blockBoundary
  split
  · exact s.renewsTo_reboot (·.blockBoundary m)
  · exact s.renewsTo_refl

theorem State.lowPowerBrownOut_renewsTo (s : State) : s.RenewsTo s.lowPowerBrownOut := by
  unfold State.lowPowerBrownOut
  split
  · exact s.renewsTo_reboot _
  · exact s.renewsTo_refl

theorem State.stableEntry_renewsTo (s : State) : s.RenewsTo s.stableEntry := by
  unfold State.stableEntry
  dsimp only
  split
  · exact (s.mapHub Hub.stableEntry).renewsTo_reboot _
  · exact s.renewsTo_mapHub _

theorem State.wake_renewsTo (s : State) (c : WakeSource) : s.RenewsTo (s.wake c) := by
  unfold State.wake
  split
  · split
    · exact s.renewsTo_reboot _
    · split
      · exact s.renewsTo_mapHub _
      · exact s.renewsTo_refl
  · exact s.renewsTo_refl

theorem State.twiStart_renewsTo (s : State) (addr : Nat) (isRead : Bool) (n : Nat) : s.RenewsTo (s.twiStart addr isRead n) := by
  unfold State.twiStart
  dsimp only
  split
  · exact s.renewsTo_refl
  split
  · exact s.renewsTo_mapHub _
  split
  · exact s.renewsTo_reboot _
  split
  · exact s.renewsTo_refl
  split
  · exact s.renewsTo_mapHub _
  · exact s.renewsTo_mapHub _

/-- The rows that may renew the snapshot answer such a state; alone the wake comparator names an instance. -/
theorem exec_renewing {i : Instr} (s : State) (hr : renewsStatus i = true) :
    (∃ t, exec i s = .next t ∧ s.RenewsTo t) ∨ (i.wf = false ∧ exec i s = .refused .noSuchInstance) := by
  cases i
  case frameBoundary src => exact .inl ⟨_, rfl, s.frameBoundary_renewsTo src⟩
  case blockBoundary m => exact .inl ⟨_, rfl, s.blockBoundary_renewsTo m⟩
  case powerOnReset | resetN | coreBrownOut | thermalReset => exact .inl ⟨_, rfl, s.renewsTo_reboot _⟩
  case lowPowerBrownOut => exact .inl ⟨_, rfl, s.lowPowerBrownOut_renewsTo⟩
  case stableEntryComplete => exact .inl ⟨_, rfl, s.stableEntry_renewsTo⟩
  case stableWake c => exact .inl ⟨_, rfl, s.wake_renewsTo c⟩
  case wakeTimerExpiry => exact .inl ⟨_, rfl, s.wake_renewsTo .timer⟩
  case wakeComparatorFire c =>
    cases hc : isChannel c
    · exact .inr ⟨hc, if_neg (by simp [hc])⟩
    · exact .inl ⟨_, if_pos hc, s.wake_renewsTo (.comparator c)⟩
  case twiAddressMatch addr isRead n => exact .inl ⟨_, rfl, s.twiStart_renewsTo addr isRead n⟩
  all_goals cases hr

/-! ## Every command completes or is refused by name -/

/-- Every command answers a next state with the queue as it was, or is refused as naming no instance, which a well-formed one is not. -/
theorem exec_answer (i : Instr) (s : State) :
    (∃ t, exec i s = .next t ∧ t.pending = s.pending) ∨ (i.wf = false ∧ exec i s = .refused .noSuchInstance) := by
  cases hr : renewsStatus i with
  | true => exact (exec_renewing s hr).imp_left fun ⟨t, ht, hp, _⟩ => ⟨t, ht, hp⟩
  | false =>
    obtain ⟨ok, f, he, hok⟩ := exec_effect s hr
    cases ok with
    | true => exact .inl ⟨s.mapHub f, he, rfl⟩
    | false => exact .inr ⟨Bool.eq_false_iff.mpr fun hw => Bool.false_ne_true (hok hw), he⟩

/-- Settles O58: each row is an effect on the hub or a row that may renew the snapshot, and both answer a next state wherever the instance exists. -/
theorem everyCommandCompletes : Obligations.EveryCommandCompletes := by
  intro i s
  rcases exec_answer i s with ⟨t, ht, hp⟩ | ⟨hwf, he⟩
  · rw [Completes, ht]
    refine ⟨fun _ => ⟨t, rfl⟩, fun u hu => ?_, fun f => by simp, .inl ⟨t, rfl⟩⟩
    cases hu
    exact hp
  · rw [Completes, he]
    exact ⟨fun hw => absurd hw (by simp [hwf]), fun u => by simp, fun f => by simp, .inr rfl⟩

/-- Settles O59: a row over an effect keeps the snapshot, and the others keep it or take the hub they leave. -/
theorem statusIsRenewedAtBoundaries : Obligations.StatusIsRenewedAtBoundaries := by
  constructor
  · intro i s t ht hr
    obtain ⟨ok, f, he, -⟩ := exec_effect s hr
    exact (run_keeps (he.symm.trans ht)).1
  · intro i s t ht hr
    rcases exec_renewing s hr with ⟨u, hu, -, hs⟩ | ⟨-, he⟩
    · cases hu.symm.trans ht
      exact hs
    · cases he.symm.trans ht

/-- Settles O56: a step runs the front of the queue on the rest of it, and idles on an empty queue. -/
theorem stepRunsTheFront : Obligations.StepRunsTheFront := by
  refine ⟨fun c s rest => rfl, fun s hs => ?_⟩
  unfold step
  rw [hs]

/-- Settles O57: every field named has the value the reset state is written with. -/
theorem resetStands : Obligations.ResetStands :=
  ⟨rfl, rfl, rfl, rfl, rfl, fun _ => rfl, fun _ _ => rfl, fun _ => ⟨rfl, rfl⟩, rfl, rfl⟩

end Sys2Proof.Machine
end

section
/-! SUPPORT. The capture ring under every command (R195, R245): each operation of the hub but those of the capture leaves the ring's cells as they are, one
equation an operation in the order of the model's files, so that a row's effect on the ring is found by rewriting; those of the capture keep its form. -/

namespace Sys2Proof.Machine

/-! ## The cells of the ring, and what carries an equation of them through a composite -/

/-- The cells of the capture ring. -/
def Hub.ring (h : Hub) : List Host.Cell := h.cap.mem

@[simp] theorem Hub.ring_mk (
    now sub framesRun blockDone timers objs live nv frameQ batches clears evDue evNext pend mask occ hosts mailTwi mailTether owners trims
    ownerDue ins hms outs hps spk sinks gens terms shadow buses commitSeq lastCommit slots shorts sbClipped procs lanes dsp clk ports cap
    asrc twi tet store sup irs ors sram chans pwr boot upd ext supply draws) :
    Hub.ring (.mk
    now sub framesRun blockDone timers objs live nv frameQ batches clears evDue evNext pend mask occ hosts mailTwi mailTether owners trims
    ownerDue ins hms outs hps spk sinks gens terms shadow buses commitSeq lastCommit slots shorts sbClipped procs lanes dsp clk ports cap
    asrc twi tet store sup irs ors sram chans pwr boot upd ext supply draws) = cap.mem :=
  (rfl)

@[simp] theorem Hub.cap_mem (h : Hub) : h.cap.mem = h.ring := (rfl)

@[simp] theorem Hub.ite_ring (c : Prop) [Decidable c] (g h : Hub) : (if c then g else h).ring = if c then g.ring else h.ring :=
  apply_ite Hub.ring c g h

@[simp] theorem foldl_ring {α : Type} {h : Hub} {f : Hub → α → Hub} (hf : ∀ g a, (f g a).ring = g.ring) (as : List α) :
    (as.foldl f h).ring = h.ring := by
  induction as generalizing h with
  | nil => rfl
  | cons a as ih => exact ih.trans (hf h a)

@[simp] theorem Hub.forAll_ring {h : Hub} {ns : List Nat} {f : Hub → Nat → Hub} (hf : ∀ g n, (f g n).ring = g.ring) :
    (h.forAll ns f).ring = h.ring :=
  foldl_ring hf ns

@[simp] theorem Hub.when_ring {h : Hub} {c : Bool} {f : Hub → Hub} (hf : ∀ g, (f g).ring = g.ring) : (h.when c f).ring = h.ring := by
  unfold Hub.when
  split
  · exact hf h
  · rfl

@[simp] theorem Hub.whenDue_ring {h : Hub} {t : Timer} {f : Hub → Hub} (hf : ∀ g, (f g).ring = g.ring) : (h.whenDue t f).ring = h.ring := by
  unfold Hub.whenDue
  split
  · exact hf _
  · rfl

@[simp] theorem Hub.capStop_ring (h : Hub) : h.capStop.ring = h.ring := Hub.capStop_mem h
@[simp] theorem Hub.capData_ring (h : Hub) : h.capData.2.ring = h.ring := Hub.capData_mem h

/-! ## Instances, deadlines and causes -/

@[simp] theorem Hub.modInput_ring (h : Hub) (n : Nat) (f : Input → Input) : (h.modInput n f).ring = h.ring := (rfl)
@[simp] theorem Hub.modHeadMic_ring (h : Hub) (m : Nat) (f : HeadMic → HeadMic) : (h.modHeadMic m f).ring = h.ring := (rfl)
@[simp] theorem Hub.modOutput_ring (h : Hub) (n : Nat) (f : Output → Output) : (h.modOutput n f).ring = h.ring := (rfl)
@[simp] theorem Hub.modHeadphone_ring (h : Hub) (j : Nat) (f : Headphone → Headphone) : (h.modHeadphone j f).ring = h.ring := (rfl)
@[simp] theorem Hub.modJack_ring (h : Hub) (j : Nat) (f : Jack → Jack) : (h.modJack j f).ring = h.ring := (rfl)
@[simp] theorem Hub.modSink_ring (h : Hub) (s : Nat) (f : Sink → Sink) : (h.modSink s f).ring = h.ring := (rfl)
@[simp] theorem Hub.modGen_ring (h : Hub) (g : Nat) (f : Generator → Generator) : (h.modGen g f).ring = h.ring := (rfl)
@[simp] theorem Hub.modTerm_ring (h : Hub) (k : Nat) (f : Term → Term) : (h.modTerm k f).ring = h.ring := (rfl)
@[simp] theorem Hub.modSlot_ring (h : Hub) (k : Nat) (f : Term → Term) : (h.modSlot k f).ring = h.ring := (rfl)
@[simp] theorem Hub.modBus_ring (h : Hub) (b : Nat) (f : Bus → Bus) : (h.modBus b f).ring = h.ring := (rfl)
@[simp] theorem Hub.modShort_ring (h : Hub) (b : Nat) (f : ShortBus → ShortBus) : (h.modShort b f).ring = h.ring := (rfl)
@[simp] theorem Hub.modProc_ring (h : Hub) (p : Nat) (f : Process → Process) : (h.modProc p f).ring = h.ring := (rfl)
@[simp] theorem Hub.modLane_ring (h : Hub) (k : Nat) (f : Lane → Lane) : (h.modLane k f).ring = h.ring := (rfl)
@[simp] theorem Hub.modPort_ring (h : Hub) (p : Nat) (f : Port → Port) : (h.modPort p f).ring = h.ring := (rfl)
@[simp] theorem Hub.modCtx_ring (h : Hub) (k : Nat) (f : Context → Context) : (h.modCtx k f).ring = h.ring := (rfl)
@[simp] theorem Hub.modChan_ring (h : Hub) (c : Nat) (f : WatchChan → WatchChan) : (h.modChan c f).ring = h.ring := (rfl)
@[simp] theorem Hub.modHost_ring (h : Hub) (k : Nat) (f : HostSlot → HostSlot) : (h.modHost k f).ring = h.ring := (rfl)

@[simp] theorem Hub.modRelief_ring (h : Hub) (u : ReliefUnit) (f : Relief → Relief) : (h.modRelief u f).ring = h.ring := by
  unfold Hub.modRelief
  split <;> simp

@[simp] theorem Hub.modSlice_ring (h : Hub) (sl : SliceId) (f : Slice → Slice) : (h.modSlice sl f).ring = h.ring := by
  unfold Hub.modSlice
  split <;> simp

@[simp] theorem Hub.modMailbox_ring (h : Hub) (w : Who) (f : Mailbox → Mailbox) : (h.modMailbox w f).ring = h.ring := by
  unfold Hub.modMailbox
  split <;> simp

@[simp] theorem Hub.startAt_ring (h : Hub) (t : Timer) (deadline : Nat) : (h.startAt t deadline).ring = h.ring := (rfl)
@[simp] theorem Hub.start_ring (h : Hub) (t : Timer) (len : Nat) : (h.start t len).ring = h.ring := (rfl)
@[simp] theorem Hub.cancel_ring (h : Hub) (t : Timer) : (h.cancel t).ring = h.ring := (rfl)
@[simp] theorem Hub.cause_ring (h : Hub) (e : Nat) (sc : Scope) : (h.cause e sc).ring = h.ring := (rfl)
@[simp] theorem Hub.causeNext_ring (h : Hub) (e : Nat) (sc : Scope) : (h.causeNext e sc).ring = h.ring := (rfl)
@[simp] theorem Hub.draw_ring (h : Hub) : h.draw.2.ring = h.ring := (rfl)

/-! ## Events and settings -/

@[simp] theorem Hub.raiseFor_ring (h : Hub) (k e : Nat) : (h.raiseFor k e).ring = h.ring := (rfl)
@[simp] theorem Hub.raiseAll_ring (h : Hub) (cs : List Cause) : (h.raiseAll cs).ring = h.ring := by simp [Hub.raiseAll]
@[simp] theorem Hub.raiseDue_ring (h : Hub) : h.raiseDue.ring = h.ring := by simp [Hub.raiseDue]
@[simp] theorem Hub.clearPending_ring (h : Hub) (k : Nat) (bits : BitVec 128) : (h.clearPending k bits).ring = h.ring := (rfl)
@[simp] theorem Hub.writeMask_ring (h : Hub) (k : Nat) (bits : BitVec 128) : (h.writeMask k bits).ring = h.ring := (rfl)
@[simp] theorem Hub.clearOccurrences_ring (h : Hub) (k : Nat) : (h.clearOccurrences k).ring = h.ring := (rfl)
@[simp] theorem Hub.modStore_ring (h : Hub) (f : Store → Store) : (h.modStore f).ring = h.ring := (rfl)
@[simp] theorem Hub.request_ring (h : Hub) (r : StoreReq) : (h.request r).ring = h.ring := by simp [Hub.request]
@[simp] theorem Hub.countClip_ring (h : Hub) (n : Nat) : (h.countClip n).ring = h.ring := by simp [Hub.countClip]
@[simp] theorem Hub.countOverload_ring (h : Hub) (n : Nat) : (h.countOverload n).ring = h.ring := by simp [Hub.countOverload]
@[simp] theorem Hub.countPhantomFault_ring (h : Hub) (n : Nat) : (h.countPhantomFault n).ring = h.ring := by simp [Hub.countPhantomFault]
@[simp] theorem Hub.countBusClip_ring (h : Hub) (b : Nat) : (h.countBusClip b).ring = h.ring := by simp [Hub.countBusClip]
@[simp] theorem Hub.countSlip_ring (h : Hub) (p : Nat) (out : Bool) : (h.countSlip p out).ring = h.ring := by simp [Hub.countSlip]

@[simp] theorem Hub.episode_ring (h : Hub) (e : Episode) (quiet : Nat) {atStart : Hub → Hub} (hf : ∀ g, (atStart g).ring = g.ring) :
    (h.episode e quiet atStart).ring = h.ring := by
  unfold Hub.episode
  split <;> simp [hf]

/-! ## Inputs (02) -/

@[simp] theorem Hub.modStream_ring (h : Hub) (src : Nat) (f : Stream → Stream) : (h.modStream src f).ring = h.ring := by simp [Hub.modStream]
@[simp] theorem Hub.setFe_ring (h : Hub) (src : Nat) (s : FeState) : (h.setFe src s).ring = h.ring := by simp [Hub.setFe]
@[simp] theorem Hub.zeroStream_ring (h : Hub) (src : Nat) : (h.zeroStream src).ring = h.ring := by simp [Hub.zeroStream]
@[simp] theorem Hub.fadeInStream_ring (h : Hub) (src : Nat) : (h.fadeInStream src).ring = h.ring := by simp [Hub.fadeInStream]
@[simp] theorem Hub.modPhantom_ring (h : Hub) (n : Nat) (f : Phantom → Phantom) : (h.modPhantom n f).ring = h.ring := (rfl)
@[simp] theorem Hub.phantomOn_ring (h : Hub) (n : Nat) : (h.phantomOn n).ring = h.ring := (rfl)
@[simp] theorem Hub.phantomAim_ring (h : Hub) (n : Nat) : (h.phantomAim n).ring = h.ring := (rfl)
@[simp] theorem Hub.phantomOff_ring (h : Hub) (n : Nat) (st : PhantomState) : (h.phantomOff n st).ring = h.ring := (rfl)
@[simp] theorem Hub.phantomNoSupply_ring (h : Hub) (n : Nat) : (h.phantomNoSupply n).ring = h.ring := (rfl)
@[simp] theorem Hub.phantomRequestOn_ring (h : Hub) (n : Nat) : (h.phantomRequestOn n).ring = h.ring := by simp [Hub.phantomRequestOn]

@[simp] theorem Hub.phantomApply_ring (h : Hub) (n : Nat) (v : Bool) : (h.phantomApply n v).ring = h.ring := by
  unfold Hub.phantomApply
  repeat' split
  all_goals simp

@[simp] theorem Hub.phantomRampOnEnd_ring (h : Hub) (n : Nat) : (h.phantomRampOnEnd n).ring = h.ring := by simp [Hub.phantomRampOnEnd]
@[simp] theorem Hub.phantomRampOffEnd_ring (h : Hub) (n : Nat) : (h.phantomRampOffEnd n).ring = h.ring := by simp [Hub.phantomRampOffEnd]
@[simp] theorem Hub.phantomFaultTimerArm_ring (h : Hub) (n : Nat) : (h.phantomFaultTimerArm n).ring = h.ring := by simp [Hub.phantomFaultTimerArm]
@[simp] theorem Hub.phantomFault_ring (h : Hub) (n : Nat) : (h.phantomFault n).ring = h.ring := by simp [Hub.phantomFault]
@[simp] theorem Hub.vphLoss_ring (h : Hub) : h.vphLoss.ring = h.ring := by simp [Hub.vphLoss]
@[simp] theorem Hub.vphReturn_ring (h : Hub) : h.vphReturn.ring = h.ring := by simp [Hub.vphReturn]
@[simp] theorem Hub.phantomGroupRampStart_ring (h : Hub) (k : Nat) : (h.phantomGroupRampStart k).ring = h.ring := by simp [Hub.phantomGroupRampStart]

@[simp] theorem Hub.polarityApply_ring (h : Hub) (src : Nat) (v : Bool) : (h.polarityApply src v).ring = h.ring := by
  unfold Hub.polarityApply
  dsimp only
  repeat' split
  all_goals simp

@[simp] theorem Hub.polarityInvert_ring (h : Hub) (src : Nat) : (h.polarityInvert src).ring = h.ring := by simp [Hub.polarityInvert]
@[simp] theorem Hub.hpfApply_ring (h : Hub) (src v : Nat) : (h.hpfApply src v).ring = h.ring := by simp [Hub.hpfApply]
@[simp] theorem Hub.biasApply_ring (h : Hub) (m : Nat) (v : Bool) : (h.biasApply m v).ring = h.ring := (rfl)
@[simp] theorem Hub.biasFault_ring (h : Hub) (m : Nat) : (h.biasFault m).ring = h.ring := by simp [Hub.biasFault]

@[simp] theorem Hub.frontSet_ring (h : Hub) (src sub v : Nat) : (h.frontSet src sub v).ring = h.ring := by
  unfold Hub.frontSet
  split <;> simp

@[simp] theorem Hub.frontApply_ring (h : Hub) (src sub v : Nat) : (h.frontApply src sub v).ring = h.ring := by simp [Hub.frontApply]
@[simp] theorem Hub.frontHeld_ring (h : Hub) (src : Nat) : (h.frontHeld src).ring = h.ring := by simp [Hub.frontHeld]
@[simp] theorem Hub.settle_ring (h : Hub) (src : Nat) : (h.settle src).ring = h.ring := by simp [Hub.settle]

@[simp] theorem Hub.frontEndSettled_ring (h : Hub) (src : Nat) : (h.frontEndSettled src).ring = h.ring := by
  unfold Hub.frontEndSettled
  refine Hub.whenDue_ring fun g => ?_
  dsimp only
  repeat' split
  all_goals simp

@[simp] theorem Hub.inputClip_ring (h : Hub) (n : Nat) : (h.inputClip n).ring = h.ring := by simp [Hub.inputClip]
@[simp] theorem Hub.inputOverload_ring (h : Hub) (n : Nat) : (h.inputOverload n).ring = h.ring := by simp [Hub.inputOverload]
@[simp] theorem Hub.episodeEnd_ring (h : Hub) (e : Episode) : (h.episodeEnd e).ring = h.ring := by simp [Hub.episodeEnd]

/-! ## Outputs (04) -/

@[simp] theorem Hub.modCv_ring (h : Hub) (n : Nat) (f : CvPart → CvPart) : (h.modCv n f).ring = h.ring := (rfl)
@[simp] theorem Hub.modAudio_ring (h : Hub) (n : Nat) (f : AudioPart → AudioPart) : (h.modAudio n f).ring = h.ring := (rfl)
@[simp] theorem Hub.outCause_ring (h : Hub) (n k : Nat) : (h.outCause n k).ring = h.ring := (rfl)
@[simp] theorem Hub.cvFlush_ring (h : Hub) (n : Nat) : (h.cvFlush n).ring = h.ring := (rfl)
@[simp] theorem Hub.cvAppend_ring (h : Hub) (n : Nat) (codes : List (BitVec 20)) : (h.cvAppend n codes).ring = h.ring := (rfl)
@[simp] theorem Hub.cvOverflow_ring (h : Hub) (n : Nat) : (h.cvOverflow n).ring = h.ring := (rfl)

@[simp] theorem Hub.cvPop_ring (h : Hub) (n : Nat) : (h.cvPop n).ring = h.ring := by
  unfold Hub.cvPop
  dsimp only
  repeat' split
  all_goals simp

@[simp] theorem Hub.cvSlew_ring (h : Hub) (n : Nat) : (h.cvSlew n).ring = h.ring := by simp [Hub.cvSlew]
@[simp] theorem Hub.cvTick_ring (h : Hub) (n : Nat) : (h.cvTick n).ring = h.ring := by simp [Hub.cvTick]
@[simp] theorem Hub.complianceOver_ring (h : Hub) (n : Nat) : (h.complianceOver n).ring = h.ring := by simp [Hub.complianceOver]
@[simp] theorem Hub.cvCompliance_ring (h : Hub) (n : Nat) (present : Bool) : (h.cvCompliance n present).ring = h.ring := by simp [Hub.cvCompliance]
@[simp] theorem Hub.outFade_ring (h : Hub) (n m : Nat) : (h.outFade n m).ring = h.ring := (rfl)
@[simp] theorem Hub.outFadeLater_ring (h : Hub) (n m delay : Nat) : (h.outFadeLater n m delay).ring = h.ring := (rfl)
@[simp] theorem Hub.outputPower_ring (h : Hub) (n : Nat) (c : OutCfg) : (h.outputPower n c).ring = h.ring := by simp [Hub.outputPower]
@[simp] theorem Hub.outputPowerupStep_ring (h : Hub) (n : Nat) : (h.outputPowerupStep n).ring = h.ring := by simp [Hub.outputPowerupStep]
@[simp] theorem Hub.outputStep1_ring (h : Hub) (n : Nat) (goal : Option OutCfg) : (h.outputStep1 n goal).ring = h.ring := by simp [Hub.outputStep1]
@[simp] theorem Hub.outputBegin_ring (h : Hub) (n : Nat) (c : OutCfg) : (h.outputBegin n c).ring = h.ring := by simp [Hub.outputBegin]
@[simp] theorem Hub.outputSettle_ring (h : Hub) (n : Nat) (c : OutCfg) : (h.outputSettle n c).ring = h.ring := by simp [Hub.outputSettle]
@[simp] theorem Hub.outputCfgApply_ring (h : Hub) (n : Nat) (c : OutCfg) : (h.outputCfgApply n c).ring = h.ring := by simp [Hub.outputCfgApply]

@[simp] theorem Hub.outputAccept_ring (h : Hub) (n : Nat) (before c : OutCfg) : (h.outputAccept n before c).ring = h.ring := by
  simp [Hub.outputAccept]

@[simp] theorem Hub.outputUnpower_ring (h : Hub) (n : Nat) : (h.outputUnpower n).ring = h.ring := by simp [Hub.outputUnpower]
@[simp] theorem Hub.outputDown_ring (h : Hub) (n : Nat) : (h.outputDown n).ring = h.ring := by simp [Hub.outputDown]
@[simp] theorem Hub.outputDone_ring (h : Hub) (n : Nat) : (h.outputDone n).ring = h.ring := (rfl)

@[simp] theorem Hub.outputChangeStep_ring (h : Hub) (n : Nat) : (h.outputChangeStep n).ring = h.ring := by
  unfold Hub.outputChangeStep
  dsimp only
  repeat' split
  all_goals simp

@[simp] theorem Hub.outputBoundary_ring (h : Hub) (n : Nat) : (h.outputBoundary n).ring = h.ring := by
  unfold Hub.outputBoundary
  dsimp only
  repeat' split
  all_goals simp

@[simp] theorem Hub.outputFastMute_ring (h : Hub) (n : Nat) : (h.outputFastMute n).ring = h.ring := by simp [Hub.outputFastMute]
@[simp] theorem Hub.outputFastRelease_ring (h : Hub) (n : Nat) : (h.outputFastRelease n).ring = h.ring := by simp [Hub.outputFastRelease]
@[simp] theorem Hub.outputPanic_ring (h : Hub) (n : Nat) : (h.outputPanic n).ring = h.ring := (rfl)
@[simp] theorem Hub.outputPanicRelease_ring (h : Hub) (n : Nat) : (h.outputPanicRelease n).ring = h.ring := (rfl)
@[simp] theorem Hub.outputFault_ring (h : Hub) (n : Nat) : (h.outputFault n).ring = h.ring := by simp [Hub.outputFault]
@[simp] theorem Hub.outputUnfault_ring (h : Hub) (n : Nat) : (h.outputUnfault n).ring = h.ring := by simp [Hub.outputUnfault]
@[simp] theorem Hub.delayStart_ring (h : Hub) (n d : Nat) : (h.delayStart n d).ring = h.ring := (rfl)
@[simp] theorem Hub.delayApply_ring (h : Hub) (n v : Nat) : (h.delayApply n v).ring = h.ring := by simp [Hub.delayApply]

@[simp] theorem Hub.delayXfadeEnd_ring (h : Hub) (n : Nat) : (h.delayXfadeEnd n).ring = h.ring := by
  unfold Hub.delayXfadeEnd
  refine Hub.whenDue_ring fun g => ?_
  dsimp only
  repeat' split
  all_goals simp

@[simp] theorem Hub.shortSelApply_ring (h : Hub) (n v : Nat) : (h.shortSelApply n v).ring = h.ring := by simp [Hub.shortSelApply]
@[simp] theorem Hub.outGainApply_ring (h : Hub) (n v : Nat) : (h.outGainApply n v).ring = h.ring := (rfl)
@[simp] theorem Hub.outMuteApply_ring (h : Hub) (n v : Nat) : (h.outMuteApply n v).ring = h.ring := (rfl)
@[simp] theorem Hub.patrolJudge_ring (h : Hub) (n : Nat) (flagged : Bool) : (h.patrolJudge n flagged).ring = h.ring := by simp [Hub.patrolJudge]
@[simp] theorem Hub.patrolRead_ring (h : Hub) (n : Nat) (m : Int) : (h.patrolRead n m).ring = h.ring := by simp [Hub.patrolRead]

@[simp] theorem Hub.patrolAudioWindow_ring (h : Hub) (n : Nat) (rms deviation residual : Int) :
    (h.patrolAudioWindow n rms deviation residual).ring = h.ring := by
  simp [Hub.patrolAudioWindow]

/-! ## Harness (06) -/

@[simp] theorem Hub.trimApply_ring (h : Hub) (src host v : Nat) : (h.trimApply src host v).ring = h.ring := (rfl)
@[simp] theorem Hub.sinkStart_ring (h : Hub) (s v : Nat) : (h.sinkStart s v).ring = h.ring := by simp [Hub.sinkStart]
@[simp] theorem Hub.sinkApply_ring (h : Hub) (s v : Nat) : (h.sinkApply s v).ring = h.ring := by simp [Hub.sinkApply]

@[simp] theorem Hub.sinkXfadeEnd_ring (h : Hub) (s : Nat) : (h.sinkXfadeEnd s).ring = h.ring := by
  unfold Hub.sinkXfadeEnd
  refine Hub.whenDue_ring fun g => ?_
  dsimp only
  repeat' split
  all_goals simp

@[simp] theorem Hub.generatorApply_ring (h : Hub) (g v : Nat) : (h.generatorApply g v).ring = h.ring := by simp [Hub.generatorApply]
@[simp] theorem Hub.generatorSwitch_ring (h : Hub) (g : Nat) : (h.generatorSwitch g).ring = h.ring := by simp [Hub.generatorSwitch]
@[simp] theorem Hub.generatorLevelApply_ring (h : Hub) (g v : Nat) : (h.generatorLevelApply g v).ring = h.ring := (rfl)
@[simp] theorem Hub.generatorFreqApply_ring (h : Hub) (g v : Nat) : (h.generatorFreqApply g v).ring = h.ring := (rfl)
@[simp] theorem Hub.xpApply_ring (h : Hub) (b k e : Nat) : (h.xpApply b k e).ring = h.ring := by simp [Hub.xpApply]
@[simp] theorem Hub.xpFadeZero_ring (h : Hub) (b k : Nat) : (h.xpFadeZero b k).ring = h.ring := by simp [Hub.xpFadeZero]
@[simp] theorem Hub.busGainApply_ring (h : Hub) (b v : Nat) : (h.busGainApply b v).ring = h.ring := (rfl)
@[simp] theorem Hub.busMuteApply_ring (h : Hub) (b v : Nat) : (h.busMuteApply b v).ring = h.ring := (rfl)
@[simp] theorem Hub.rescale_ring (h : Hub) (b : Nat) : (h.rescale b).ring = h.ring := (rfl)
@[simp] theorem Hub.shadowWrite_ring (h : Hub) (host k e : Nat) : (h.shadowWrite host k e).ring = h.ring := (rfl)
@[simp] theorem Hub.scaleRecomputeDone_ring (h : Hub) (b : Nat) : (h.scaleRecomputeDone b).ring = h.ring := (rfl)
@[simp] theorem Hub.discardEdits_ring (h : Hub) (host : Nat) : (h.discardEdits host).ring = h.ring := (rfl)
@[simp] theorem Hub.commitEntry_ring (h : Hub) (k e : Nat) : (h.commitEntry k e).ring = h.ring := by simp [Hub.commitEntry]
@[simp] theorem Hub.swapEdits_ring (h : Hub) (host : Nat) : (h.swapEdits host).ring = h.ring := by simp [Hub.swapEdits]
@[simp] theorem Hub.slotApply_ring (h : Hub) (i e : Nat) : (h.slotApply i e).ring = h.ring := (rfl)
@[simp] theorem Hub.shortGainApply_ring (h : Hub) (b v : Nat) : (h.shortGainApply b v).ring = h.ring := (rfl)
@[simp] theorem Hub.slotZeros_ring (h : Hub) : h.slotZeros.ring = h.ring := (rfl)

/-! ## Hosts (07) -/

@[simp] theorem Hub.restartSession_ring (h : Hub) (k : Nat) : (h.restartSession k).ring = h.ring := by simp [Hub.restartSession]
@[simp] theorem Hub.touch_ring (h : Hub) (k : Nat) : (h.touch k).ring = h.ring := by simp [Hub.touch]

@[simp] theorem Hub.pauseSessions_ring (h : Hub) : h.pauseSessions.ring = h.ring := by
  unfold Hub.pauseSessions
  refine Hub.forAll_ring fun g k => ?_
  repeat' split
  all_goals simp

@[simp] theorem Hub.resumeSessions_ring (h : Hub) : h.resumeSessions.ring = h.ring := by
  unfold Hub.resumeSessions
  split
  · rfl
  · refine Hub.forAll_ring fun g k => ?_
    split <;> simp

@[simp] theorem Hub.ownerWill_ring (h : Hub) (key : Nat) (o : Option Nat) : (h.ownerWill key o).ring = h.ring := by simp [Hub.ownerWill]
@[simp] theorem Hub.releaseOwned_ring (h : Hub) (k : Nat) : (h.releaseOwned k).ring = h.ring := by simp [Hub.releaseOwned]
@[simp] theorem Hub.moveSink_ring (h : Hub) (s : Nat) (old new : Option Nat) : (h.moveSink s old new).ring = h.ring := by simp [Hub.moveSink]
@[simp] theorem Hub.moveBus_ring (h : Hub) (b : Nat) (old new : Option Nat) : (h.moveBus b old new).ring = h.ring := (rfl)
@[simp] theorem Hub.setOwner_ring (h : Hub) (key : Nat) (o : Option Nat) : (h.setOwner key o).ring = h.ring := by simp [Hub.setOwner]
@[simp] theorem Hub.adopt_ring (h : Hub) (host p : Nat) : (h.adopt host p).ring = h.ring := by simp [Hub.adopt]

@[simp] theorem Hub.moveSends_ring (h : Hub) (slot channels : Nat) (old new : Option Nat) : (h.moveSends slot channels old new).ring = h.ring := by
  simp [Hub.moveSends]

@[simp] theorem Hub.ownersBoundary_ring (h : Hub) : h.ownersBoundary.ring = h.ring := by simp [Hub.ownersBoundary]
@[simp] theorem Hub.endSession_ring (h : Hub) (k : Nat) : (h.endSession k).ring = h.ring := (rfl)
@[simp] theorem Hub.claimNow_ring (h : Hub) (w : Who) (tag : Nat) : (h.claimNow w tag).ring = h.ring := by simp [Hub.claimNow]
@[simp] theorem Hub.releaseNow_ring (h : Hub) (k tag : Nat) : (h.releaseNow k tag).ring = h.ring := by simp [Hub.releaseNow]
@[simp] theorem Hub.claimCommand_ring (h : Hub) (w : Who) (cmd tag : Nat) : (h.claimCommand w cmd tag).ring = h.ring := by simp [Hub.claimCommand]
@[simp] theorem Hub.claimWrite_ring (h : Hub) (w : Who) (v : Nat) : (h.claimWrite w v).ring = h.ring := by simp [Hub.claimWrite]
@[simp] theorem Hub.loseSession_ring (h : Hub) (k : Nat) : (h.loseSession k).ring = h.ring := by simp [Hub.loseSession]
@[simp] theorem Hub.sessionExpiry_ring (h : Hub) (k : Nat) : (h.sessionExpiry k).ring = h.ring := by simp [Hub.sessionExpiry]
@[simp] theorem Hub.forceRelease_ring (h : Hub) (k : Nat) : (h.forceRelease k).ring = h.ring := by simp [Hub.forceRelease]
@[simp] theorem Hub.roleApply_ring (h : Hub) (k v : Nat) : (h.roleApply k v).ring = h.ring := by simp [Hub.roleApply]

/-! ## Tandem conversion (03) -/

@[simp] theorem Hub.modTandem_ring (h : Hub) (n : Nat) (f : Tandem → Tandem) : (h.modTandem n f).ring = h.ring := (rfl)
@[simp] theorem Hub.combine_ring (h : Hub) (n : Nat) (x r : PathSample) : (h.combine n x r).ring = h.ring := (rfl)
@[simp] theorem Hub.combinerFadeEnd_ring (h : Hub) (n : Nat) (p : Path) (short : Bool) : (h.combinerFadeEnd n p short).ring = h.ring := (rfl)
@[simp] theorem Hub.modulatorOverload_ring (h : Hub) (n : Nat) (p : Path) : (h.modulatorOverload n p).ring = h.ring := by simp [Hub.modulatorOverload]
@[simp] theorem Hub.pathUsable_ring (h : Hub) (n : Nat) (p : Path) : (h.pathUsable n p).ring = h.ring := (rfl)

@[simp] theorem Hub.reliefConfidence_ring (h : Hub) (n : Nat) (lm mh : PairErrors) (refs : List PairErrors) :
    (h.reliefConfidence n lm mh refs).ring = h.ring := (rfl)

@[simp] theorem Hub.matchCommitRequest_ring (h : Hub) (n : Nat) (lm mh lh : PairErrors) (refs : List PairErrors) :
    (h.matchCommitRequest n lm mh lh refs).ring = h.ring := by
  simp [Hub.matchCommitRequest]

@[simp] theorem Hub.tandemBoundary_ring (h : Hub) (n : Nat) : (h.tandemBoundary n).ring = h.ring := by simp [Hub.tandemBoundary]
@[simp] theorem Hub.matchStale_ring (h : Hub) (n : Nat) : (h.matchStale n).ring = h.ring := by simp [Hub.matchStale]
@[simp] theorem Hub.pathExclude_ring (h : Hub) (n : Nat) (p : Path) : (h.pathExclude n p).ring = h.ring := by simp [Hub.pathExclude]
@[simp] theorem Hub.pathRestore_ring (h : Hub) (n v : Nat) : (h.pathRestore n v).ring = h.ring := (rfl)
@[simp] theorem Hub.resetMatch_ring (h : Hub) (n : Nat) : (h.resetMatch n).ring = h.ring := by simp [Hub.resetMatch]
@[simp] theorem Hub.matchSetStore_ring (h : Hub) (n : Nat) : (h.matchSetStore n).ring = h.ring := by simp [Hub.matchSetStore]
@[simp] theorem Hub.combinerSample_ring (h : Hub) (xs : List (Nat × PathSample)) : (h.combinerSample xs).ring = h.ring := by simp [Hub.combinerSample]

/-! ## Relief (16) -/

@[simp] theorem Hub.declareSlice_ring (h : Hub) (sl : SliceId) (k : Nat) : (h.declareSlice sl k).ring = h.ring := by simp [Hub.declareSlice]

@[simp] theorem Hub.healthJudgement_ring (h : Hub) (sl : SliceId) (j : Judgement) : (h.healthJudgement sl j).ring = h.ring := by
  unfold Hub.healthJudgement
  repeat' split
  all_goals simp

@[simp] theorem Hub.referenceFault_ring (h : Hub) (sl : SliceId) : (h.referenceFault sl).ring = h.ring := by simp [Hub.referenceFault]
@[simp] theorem Hub.overloadJudge_ring (h : Hub) (n : Nat) : (h.overloadJudge n).ring = h.ring := by simp [Hub.overloadJudge]

@[simp] theorem Hub.totalLoss_ring (h : Hub) (sl : SliceId) : (h.totalLoss sl).ring = h.ring := by
  unfold Hub.totalLoss
  split <;> simp

@[simp] theorem Hub.phantomLeak_ring (h : Hub) (n : Nat) : (h.phantomLeak n).ring = h.ring := by simp [Hub.phantomLeak]
@[simp] theorem Hub.clearMatchTimers_ring (h : Hub) (u : ReliefUnit) : (h.clearMatchTimers u).ring = h.ring := (rfl)

@[simp] theorem Hub.reliefStartXfade_ring (h : Hub) (u : ReliefUnit) : (h.reliefStartXfade u).ring = h.ring := by
  unfold Hub.reliefStartXfade
  dsimp only
  repeat' split
  all_goals simp

@[simp] theorem Hub.takeUnit_ring (h : Hub) (sl : SliceId) : (h.takeUnit sl).ring = h.ring := by
  unfold Hub.takeUnit
  split <;> simp

@[simp] theorem Hub.reliefDirect_ring (h : Hub) (u : ReliefUnit) (n : Nat) : (h.reliefDirect u n).ring = h.ring := by simp [Hub.reliefDirect]

@[simp] theorem Hub.reliefSettled_ring (h : Hub) (u : ReliefUnit) : (h.reliefSettled u).ring = h.ring := by
  unfold Hub.reliefSettled
  split
  · refine Hub.whenDue_ring fun g => ?_
    dsimp only
    repeat' split
    all_goals simp
  · rfl

@[simp] theorem Hub.reliefXfadeEnd_ring (h : Hub) (u : ReliefUnit) : (h.reliefXfadeEnd u).ring = h.ring := by
  unfold Hub.reliefXfadeEnd
  split
  · refine Hub.whenDue_ring fun g => ?_
    dsimp only
    repeat' split
    all_goals simp
  · rfl

@[simp] theorem Hub.abandonMatch_ring (h : Hub) (u : ReliefUnit) : (h.abandonMatch u).ring = h.ring := by simp [Hub.abandonMatch]

@[simp] theorem Hub.unrelieved_ring (h : Hub) (sl : SliceId) (report : Bool) : (h.unrelieved sl report).ring = h.ring := by
  unfold Hub.unrelieved
  repeat' split
  all_goals simp

@[simp] theorem Hub.unitFault_ring (h : Hub) (u : ReliefUnit) : (h.unitFault u).ring = h.ring := by
  unfold Hub.unitFault
  dsimp only
  repeat' split
  all_goals simp

@[simp] theorem Hub.serveSlice_ring (h : Hub) (sl : SliceId) : (h.serveSlice sl).ring = h.ring := by simp [Hub.serveSlice]

@[simp] theorem Hub.lossInMatch_ring (h : Hub) (sl : SliceId) : (h.lossInMatch sl).ring = h.ring := by
  unfold Hub.lossInMatch
  split <;> simp

@[simp] theorem Hub.declareDue_ring (h : Hub) (sl : SliceId) : (h.declareDue sl).ring = h.ring := by simp [Hub.declareDue]
@[simp] theorem Hub.excludedJudge_ring (h : Hub) (n : Nat) : (h.excludedJudge n).ring = h.ring := by simp [Hub.excludedJudge]

@[simp] theorem Hub.judgeReset_ring (h : Hub) (sl : SliceId) : (h.judgeReset sl).ring = h.ring := by
  unfold Hub.judgeReset
  repeat' split
  all_goals simp

@[simp] theorem Hub.unitIdle_ring (h : Hub) (u : ReliefUnit) : (h.unitIdle u).ring = h.ring := by simp [Hub.unitIdle]
@[simp] theorem Hub.reliefBoundary_ring (h : Hub) : h.reliefBoundary.ring = h.ring := by simp [Hub.reliefBoundary]

@[simp] theorem Hub.reliefSelfTest_ring (h : Hub) (u : ReliefUnit) (pass : Bool) : (h.reliefSelfTest u pass).ring = h.ring := by
  simp [Hub.reliefSelfTest]

@[simp] theorem Hub.pathFault_ring (h : Hub) (n : Nat) (p : Path) : (h.pathFault n p).ring = h.ring := by simp [Hub.pathFault]
@[simp] theorem Hub.reliefRequest_ring (h : Hub) (sl : SliceId) : (h.reliefRequest sl).ring = h.ring := by simp [Hub.reliefRequest]
@[simp] theorem Hub.retireClear_ring (h : Hub) (sl : SliceId) : (h.retireClear sl).ring = h.ring := by simp [Hub.retireClear]
@[simp] theorem Hub.patrolDeclare_ring (h : Hub) (n : Nat) : (h.patrolDeclare n).ring = h.ring := by simp [Hub.patrolDeclare]
@[simp] theorem Hub.reliefJudged_ring (h : Hub) (u : ReliefUnit) (pass : Bool) : (h.reliefJudged u pass).ring = h.ring := by simp [Hub.reliefJudged]
@[simp] theorem Hub.scanReading_ring (h : Hub) (n : Nat) (m : Int) : (h.scanReading n m).ring = h.ring := by simp [Hub.scanReading]
@[simp] theorem Hub.scan_ring (h : Hub) (readings : List (Nat × Int)) : (h.scan readings).ring = h.ring := by simp [Hub.scan]

@[simp] theorem Hub.audioWindow_ring (h : Hub) (n : Nat) (rms deviation residual : Int) : (h.audioWindow n rms deviation residual).ring = h.ring := by
  simp [Hub.audioWindow]

@[simp] theorem Hub.modSram_ring (h : Hub) (f : Sram → Sram) : (h.modSram f).ring = h.ring := (rfl)
@[simp] theorem Hub.retireBank_ring (h : Hub) (b : Nat) : (h.retireBank b).ring = h.ring := by simp [Hub.retireBank]

@[simp] theorem Hub.sramError_ring (h : Hub) (b : Nat) (e : EccError) : (h.sramError b e).ring = h.ring := by
  unfold Hub.sramError
  split <;> simp

@[simp] theorem Hub.sramCopied_ring (h : Hub) (b : Nat) : (h.sramCopied b).ring = h.ring := by simp [Hub.sramCopied]
@[simp] theorem Hub.sramBoundary_ring (h : Hub) : h.sramBoundary.ring = h.ring := by simp [Hub.sramBoundary]
@[simp] theorem Hub.tsDisagree_ring (h : Hub) : h.tsDisagree.ring = h.ring := by simp [Hub.tsDisagree]

/-! ## DSP lanes (08) -/

@[simp] theorem Hub.place_ring (h : Hub) (p : Nat) : (h.place p).ring = h.ring := by simp [Hub.place]
@[simp] theorem Hub.procEnableApply_ring (h : Hub) (p v : Nat) : (h.procEnableApply p v).ring = h.ring := (rfl)
@[simp] theorem Hub.removeApply_ring (h : Hub) (p : Nat) : (h.removeApply p).ring = h.ring := by simp [Hub.removeApply]
@[simp] theorem Hub.freeProcess_ring (h : Hub) (p : Nat) : (h.freeProcess p).ring = h.ring := by simp [Hub.freeProcess]
@[simp] theorem Hub.tapApply_ring (h : Hub) (p t v before : Nat) : (h.tapApply p t v before).ring = h.ring := by simp [Hub.tapApply]

@[simp] theorem Hub.tapXfadeEnd_ring (h : Hub) (p t : Nat) : (h.tapXfadeEnd p t).ring = h.ring := by
  unfold Hub.tapXfadeEnd
  refine Hub.whenDue_ring fun g => ?_
  dsimp only
  repeat' split
  all_goals simp

@[simp] theorem Hub.paramTakes_ring (h : Hub) (p sub v old : Nat) : (h.paramTakes p sub v old).ring = h.ring := by simp [Hub.paramTakes]
@[simp] theorem Hub.paramForce_ring (h : Hub) (p sub v : Nat) : (h.paramForce p sub v).ring = h.ring := by simp [Hub.paramForce]
@[simp] theorem Hub.paramApply_ring (h : Hub) (p sub v : Nat) : (h.paramApply p sub v).ring = h.ring := by simp [Hub.paramApply]
@[simp] theorem Hub.buildImage_ring (h : Hub) (k : Nat) : (h.buildImage k).ring = h.ring := (rfl)
@[simp] theorem Hub.loadL8_ring (h : Hub) (k : Nat) : (h.loadL8 k).ring = h.ring := (rfl)

@[simp] theorem Hub.bypassLane_ring (h : Hub) (k : Nat) (c : Nat → Process → Option Checkpoint) : (h.bypassLane k c).ring = h.ring := by
  simp [Hub.bypassLane]

@[simp] theorem Hub.declareLaneFault_ring (h : Hub) (k : Nat) (takeover : Bool) (c : Nat → Process → Option Checkpoint) :
    (h.declareLaneFault k takeover c).ring = h.ring := by
  simp [Hub.declareLaneFault]

@[simp] theorem Hub.l8Fault_ring (h : Hub) : h.l8Fault.ring = h.ring := by
  unfold Hub.l8Fault
  dsimp only
  repeat' split
  all_goals simp

@[simp] theorem Hub.laneFault_ring (h : Hub) (k : Nat) (c : LaneFaultCause) : (h.laneFault k c).ring = h.ring := by
  unfold Hub.laneFault
  repeat' split
  all_goals simp

@[simp] theorem Hub.reliefLaneLoaded_ring (h : Hub) : h.reliefLaneLoaded.ring = h.ring := by
  unfold Hub.reliefLaneLoaded
  split <;> simp

@[simp] theorem Hub.resumeLane_ring (h : Hub) : h.resumeLane.ring = h.ring := by
  unfold Hub.resumeLane
  split <;> simp

@[simp] theorem Hub.takeoverComplete_ring (h : Hub) : h.takeoverComplete.ring = h.ring := by
  unfold Hub.takeoverComplete
  refine Hub.whenDue_ring fun g => ?_
  dsimp only
  repeat' split
  all_goals simp

@[simp] theorem Hub.shadow8_ring (h : Hub) (k : Nat) : (h.shadow8 k).ring = h.ring := (rfl)

@[simp] theorem Hub.patrolPeriodEnd_ring (h : Hub) : h.patrolPeriodEnd.ring = h.ring := by
  unfold Hub.patrolPeriodEnd
  split
  · refine Hub.whenDue_ring fun g => ?_
    dsimp only
    repeat' split
    all_goals simp
  · rfl

@[simp] theorem Hub.patrolKeep_ring (h : Hub) : h.patrolKeep.ring = h.ring := by
  unfold Hub.patrolKeep
  repeat' split
  all_goals simp

@[simp] theorem Hub.patrolMismatch_ring (h : Hub) : h.patrolMismatch.ring = h.ring := by simp [Hub.patrolMismatch]

@[simp] theorem Hub.recheckComplete_ring (h : Hub) (r : Recheck) : (h.recheckComplete r).ring = h.ring := by
  unfold Hub.recheckComplete
  repeat' split
  all_goals simp

@[simp] theorem Hub.processStarts_ring (h : Hub) : h.processStarts.ring = h.ring := by
  unfold Hub.processStarts
  refine Hub.forAll_ring fun g p => ?_
  dsimp only
  split
  · cases (g.proc p).position <;> simp
  · split
    · cases (g.proc p).position <;> simp
    · rfl

@[simp] theorem Hub.checkpoints_ring (h : Hub) : h.checkpoints.ring = h.ring := (rfl)
@[simp] theorem Hub.laneFaultsDue_ring (h : Hub) : h.laneFaultsDue.ring = h.ring := by simp [Hub.laneFaultsDue]
@[simp] theorem Hub.dspStop_ring (h : Hub) : h.dspStop.ring = h.ring := (rfl)
@[simp] theorem Hub.dspGo_ring (h : Hub) : h.dspGo.ring = h.ring := (rfl)
@[simp] theorem Hub.dspOff_ring (h : Hub) : h.dspOff.ring = h.ring := by simp [Hub.dspOff]
@[simp] theorem Hub.dspOn_ring (h : Hub) : h.dspOn.ring = h.ring := by simp [Hub.dspOn]
@[simp] theorem Hub.laneHold_ring (h : Hub) : h.laneHold.ring = h.ring := by simp [Hub.laneHold]
@[simp] theorem Hub.laneHoldEnd_ring (h : Hub) : h.laneHoldEnd.ring = h.ring := by simp [Hub.laneHoldEnd]
@[simp] theorem Hub.laneRebuilt_ring (h : Hub) (keep : Bool) : (h.laneRebuilt keep).ring = h.ring := by simp [Hub.laneRebuilt]
@[simp] theorem Hub.placeStored_ring (h : Hub) : h.placeStored.ring = h.ring := by simp [Hub.placeStored]

/-! ## Clocks (09) -/

@[simp] theorem Hub.modClk_ring (h : Hub) (f : Clock → Clock) : (h.modClk f).ring = h.ring := (rfl)
@[simp] theorem Hub.wckoutApply_ring (h : Hub) : h.wckoutApply.ring = h.ring := by simp [Hub.wckoutApply]
@[simp] theorem Hub.wckoutTether_ring (h : Hub) : h.wckoutTether.ring = h.ring := by simp [Hub.wckoutTether]
@[simp] theorem Hub.slewTo_ring (h : Hub) (want : Int) : (h.slewTo want).ring = h.ring := (rfl)
@[simp] theorem Hub.loopStart_ring (h : Hub) : h.loopStart.ring = h.ring := (rfl)
@[simp] theorem Hub.reinLeave_ring (h : Hub) (st : Nat) : (h.reinLeave st).ring = h.ring := by simp [Hub.reinLeave]
@[simp] theorem Hub.reinLoss_ring (h : Hub) : h.reinLoss.ring = h.ring := by simp [Hub.reinLoss]
@[simp] theorem Hub.anchorLoss_ring (h : Hub) : h.anchorLoss.ring = h.ring := by simp [Hub.anchorLoss]
@[simp] theorem Hub.timeLock_ring (h : Hub) (on : Bool) : (h.timeLock on).ring = h.ring := by simp [Hub.timeLock]
@[simp] theorem Hub.timeLockJudge_ring (h : Hub) : h.timeLockJudge.ring = h.ring := by simp [Hub.timeLockJudge]
@[simp] theorem Hub.reinStart_ring (h : Hub) : h.reinStart.ring = h.ring := by simp [Hub.reinStart]
@[simp] theorem Hub.anchorApply_ring (h : Hub) : h.anchorApply.ring = h.ring := by simp [Hub.anchorApply]
@[simp] theorem Hub.loopFilter_ring (h : Hub) (e : Int) : (h.loopFilter e).2.ring = h.ring := (rfl)
@[simp] theorem Hub.reinJudge_ring (h : Hub) (e : Int) : (h.reinJudge e).ring = h.ring := by simp [Hub.reinJudge]
@[simp] theorem Hub.reinFollow_ring (h : Hub) (e : Int) : (h.reinFollow e).ring = h.ring := by simp [Hub.reinFollow]

@[simp] theorem Hub.reinSample_ring (h : Hub) (e : Int) : (h.reinSample e).ring = h.ring := by
  unfold Hub.reinSample
  dsimp only
  repeat' split
  all_goals simp

@[simp] theorem Hub.reinPhaseSample_ring (h : Hub) (anchor port : Nat) : (h.reinPhaseSample anchor port).ring = h.ring := by
  unfold Hub.reinPhaseSample
  split <;> simp

@[simp] theorem Hub.detect_ring (h : Hub) (anchor : Nat) (e : Int) : (h.detect anchor e).ring = h.ring := by simp [Hub.detect]
@[simp] theorem Hub.reinLock_ring (h : Hub) : h.reinLock.ring = h.ring := by simp [Hub.reinLock]
@[simp] theorem Hub.reinLimit_ring (h : Hub) : h.reinLimit.ring = h.ring := by simp [Hub.reinLimit]
@[simp] theorem Hub.reinEnterWatch_ring (h : Hub) : h.reinEnterWatch.ring = h.ring := (rfl)
@[simp] theorem Hub.reinLeaveWatch_ring (h : Hub) : h.reinLeaveWatch.ring = h.ring := by simp [Hub.reinLeaveWatch]

@[simp] theorem Hub.wckDiscard_ring (h : Hub) (spoiled : Bool) : (h.wckDiscard spoiled).ring = h.ring := by
  unfold Hub.wckDiscard
  dsimp only
  repeat' split
  all_goals simp

@[simp] theorem Hub.wckinDetect_ring (h : Hub) (tick : Nat) : (h.wckinDetect tick).ring = h.ring := by simp [Hub.wckinDetect]

@[simp] theorem Hub.wckinEdge_ring (h : Hub) (e : WckEdge) : (h.wckinEdge e).ring = h.ring := by
  unfold Hub.wckinEdge
  repeat' split
  all_goals simp

@[simp] theorem Hub.wckinMissed_ring (h : Hub) : h.wckinMissed.ring = h.ring := by simp [Hub.wckinMissed]
@[simp] theorem Hub.wckinRate_ring (h : Hub) (rate : Nat) : (h.wckinRate rate).ring = h.ring := by simp [Hub.wckinRate]

@[simp] theorem Hub.xtalFailure_ring (h : Hub) : h.xtalFailure.ring = h.ring := by
  unfold Hub.xtalFailure
  dsimp only
  repeat' split
  all_goals simp

@[simp] theorem Hub.pllLock_ring (h : Hub) : h.pllLock.ring = h.ring := (rfl)
@[simp] theorem Hub.xinRecovered_ring (h : Hub) : h.xinRecovered.ring = h.ring := by simp [Hub.xinRecovered]
@[simp] theorem Hub.xinStartTimeout_ring (h : Hub) : h.xinStartTimeout.ring = h.ring := by simp [Hub.xinStartTimeout]
@[simp] theorem Hub.storedHoldStore_ring (h : Hub) (v : Int) : (h.storedHoldStore v).ring = h.ring := by simp [Hub.storedHoldStore]
@[simp] theorem Hub.centre_ring (h : Hub) : h.centre.ring = h.ring := (rfl)
@[simp] theorem Hub.clockOutputs_ring (h : Hub) : h.clockOutputs.ring = h.ring := by simp [Hub.clockOutputs]
@[simp] theorem Hub.clockStart_ring (h : Hub) : h.clockStart.ring = h.ring := by simp [Hub.clockStart]
@[simp] theorem Hub.clockBoundary_ring (h : Hub) : h.clockBoundary.ring = h.ring := by simp [Hub.clockBoundary]

/-! ## Rate conversion (11) -/

@[simp] theorem Hub.modDir_ring (h : Hub) (p : Nat) (out : Bool) (f : PortDir → PortDir) : (h.modDir p out f).ring = h.ring := (rfl)
@[simp] theorem Hub.modAsrc_ring (h : Hub) (f : Asrc → Asrc) : (h.modAsrc f).ring = h.ring := (rfl)
@[simp] theorem Hub.startLock_ring (h : Hub) (k p : Nat) : (h.startLock k p).ring = h.ring := by simp [Hub.startLock]
@[simp] theorem Hub.wait_ring (h : Hub) (p : Nat) (out : Bool) (c : Nat) : (h.wait p out c).ring = h.ring := by simp [Hub.wait]

theorem Hub.take?_ring {h g : Hub} {p : Nat} {out : Bool} {c : Nat} {st : CtxState} {weight : Nat}
    (ht : h.take? p out c st weight = some g) : g.ring = h.ring := by
  unfold Hub.take? at ht
  split at ht
  · cases ht
    simp [apply_ite Hub.ring]
  · cases ht

@[simp] theorem Hub.claimChan_ring (h : Hub) (p : Nat) (out : Bool) (c : Nat) (weight : Nat) : (h.claimChan p out c weight).ring = h.ring := by
  unfold Hub.claimChan
  split
  · rfl
  · cases ht : h.take? p out c .acquiring weight with
    | none => simp
    | some g => exact Hub.take?_ring ht

@[simp] theorem Hub.reserveChan_ring (h : Hub) (p : Nat) (out : Bool) (c : Nat) : (h.reserveChan p out c).ring = h.ring := by
  unfold Hub.reserveChan
  split
  · rfl
  · split
    · next ht => exact Hub.take?_ring ht
    · simp

@[simp] theorem Hub.claimAll_ring (h : Hub) (p : Nat) (weight : Nat) : (h.claimAll p weight).ring = h.ring := by simp [Hub.claimAll]
@[simp] theorem Hub.reserveAll_ring (h : Hub) (p : Nat) : (h.reserveAll p).ring = h.ring := by simp [Hub.reserveAll]
@[simp] theorem Hub.releaseCtx_ring (h : Hub) (k : Nat) : (h.releaseCtx k).ring = h.ring := (rfl)
@[simp] theorem Hub.releaseAll_ring (h : Hub) (p : Nat) : (h.releaseAll p).ring = h.ring := by simp [Hub.releaseAll]
@[simp] theorem Hub.freeReleased_ring (h : Hub) : h.freeReleased.ring = h.ring := (rfl)

@[simp] theorem Hub.serveWaiting_ring (h : Hub) : h.serveWaiting.ring = h.ring := by
  unfold Hub.serveWaiting
  refine foldl_ring (fun g w => ?_) _
  dsimp only
  split
  · next ht => simp [Hub.take?_ring ht]
  · rfl

@[simp] theorem Hub.fadeSilent_ring (h : Hub) (p : Nat) : (h.fadeSilent p).ring = h.ring := (rfl)
@[simp] theorem Hub.recount_ring (h : Hub) (p : Nat) : (h.recount p).ring = h.ring := by simp [Hub.recount]
@[simp] theorem Hub.lockCtx_ring (h : Hub) (k : Nat) : (h.lockCtx k).ring = h.ring := (rfl)
@[simp] theorem Hub.contextLock_ring (h : Hub) (k : Nat) : (h.contextLock k).ring = h.ring := by simp [Hub.contextLock]

@[simp] theorem Hub.relock_ring (h : Hub) (k : Nat) : (h.relock k).ring = h.ring := by
  unfold Hub.relock
  split <;> simp

@[simp] theorem Hub.relockAll_ring (h : Hub) (p : Nat) : (h.relockAll p).ring = h.ring := by simp [Hub.relockAll]

@[simp] theorem Hub.handOver_ring (h : Hub) (p : Nat) : (h.handOver p).ring = h.ring := by
  unfold Hub.handOver
  dsimp only
  rw [Hub.start_ring]
  split
  · rw [Hub.modPort_ring]
    refine (Hub.forAll_ring fun g k => ?_).trans (h.modPort_ring p _)
    split <;> simp
  · rw [Hub.fadeSilent_ring, Hub.claimAll_ring]
    refine (Hub.forAll_ring fun g k => ?_).trans (h.modPort_ring p _)
    split <;> simp

@[simp] theorem Hub.handBack_ring (h : Hub) (p : Nat) : (h.handBack p).ring = h.ring := by
  unfold Hub.handBack
  dsimp only
  rw [Hub.start_ring, Hub.modAsrc_ring]
  refine (Hub.forAll_ring fun g k => ?_).trans (h.modPort_ring p _)
  split <;> simp

@[simp] theorem Hub.handoverBoundary_ring (h : Hub) (p : Nat) : (h.handoverBoundary p).ring = h.ring := by simp [Hub.handoverBoundary]
@[simp] theorem Hub.handoverEnd_ring (h : Hub) (p : Nat) : (h.handoverEnd p).ring = h.ring := by simp [Hub.handoverEnd]

/-! ## Ports (10) -/

@[simp] theorem Hub.capPortGone_ring (h : Hub) (p : Nat) : (h.capPortGone p).ring = h.ring := by simp [Hub.capPortGone]
@[simp] theorem Hub.portBegin_ring (h : Hub) (p : Nat) : (h.portBegin p).ring = h.ring := by simp [Hub.portBegin]

@[simp] theorem Hub.portStart_ring (h : Hub) (p : Nat) : (h.portStart p).ring = h.ring := by
  unfold Hub.portStart
  split <;> simp

@[simp] theorem Hub.portClockLock_ring (h : Hub) (p : Nat) : (h.portClockLock p).ring = h.ring := by simp [Hub.portClockLock]
@[simp] theorem Hub.portPreambleEnd_ring (h : Hub) (p : Nat) : (h.portPreambleEnd p).ring = h.ring := by simp [Hub.portPreambleEnd]
@[simp] theorem Hub.portFadeInEnd_ring (h : Hub) (p : Nat) : (h.portFadeInEnd p).ring = h.ring := by simp [Hub.portFadeInEnd]
@[simp] theorem Hub.portStopped_ring (h : Hub) (p : Nat) : (h.portStopped p).ring = h.ring := by simp [Hub.portStopped]

@[simp] theorem Hub.portStop_ring (h : Hub) (p : Nat) : (h.portStop p).ring = h.ring := by
  unfold Hub.portStop
  split <;> simp

@[simp] theorem Hub.portFadeOut_ring (h : Hub) (p : Nat) : (h.portFadeOut p).ring = h.ring := by simp [Hub.portFadeOut]
@[simp] theorem Hub.portFlushEnd_ring (h : Hub) (p : Nat) : (h.portFlushEnd p).ring = h.ring := by simp [Hub.portFlushEnd]
@[simp] theorem Hub.rateEvent_ring (h : Hub) (p rate cls : Nat) : (h.rateEvent p rate cls).ring = h.ring := by simp [Hub.rateEvent]

@[simp] theorem Hub.portClockLoss_ring (h : Hub) (p : Nat) : (h.portClockLoss p).ring = h.ring := by
  unfold Hub.portClockLoss
  dsimp only
  repeat' split
  all_goals simp

@[simp] theorem Hub.portRateChange_ring (h : Hub) (p rate : Nat) : (h.portRateChange p rate).ring = h.ring := by simp [Hub.portRateChange]
@[simp] theorem Hub.maskStage_ring (h : Hub) (p : Nat) : (h.maskStage p).ring = h.ring := by simp [Hub.maskStage]
@[simp] theorem Hub.maskApply_ring (h : Hub) (p : Nat) : (h.maskApply p).ring = h.ring := by simp [Hub.maskApply]

@[simp] theorem Hub.convert_ring (h : Hub) (p : Nat) (out : Bool) (c : Nat) : (h.convert p out c).ring = h.ring := by
  unfold Hub.convert
  dsimp only
  repeat' split
  all_goals simp

@[simp] theorem Hub.feed_ring (h : Hub) (p : Nat) (out : Bool) (c : Nat) (xs : List Int) : (h.feed p out c xs).ring = h.ring := (rfl)
@[simp] theorem Hub.portInputs_ring (h : Hub) (p : Nat) : (h.portInputs p).ring = h.ring := by simp [Hub.portInputs]
@[simp] theorem Hub.portOutputs_ring (h : Hub) (p : Nat) : (h.portOutputs p).ring = h.ring := by simp [Hub.portOutputs]
@[simp] theorem Hub.slip_ring (h : Hub) (p : Nat) (out aligned : Bool) : (h.slip p out aligned).ring = h.ring := by simp [Hub.slip]
@[simp] theorem Hub.rawSlip_ring (h : Hub) (p : Nat) (out dropped : Bool) : (h.rawSlip p out dropped).ring = h.ring := by simp [Hub.rawSlip]
@[simp] theorem Hub.frameSlip_ring (h : Hub) (p : Nat) (out : Bool) : (h.frameSlip p out).ring = h.ring := by simp [Hub.frameSlip]

@[simp] theorem Hub.push_ring (h : Hub) (p : Nat) (out : Bool) (frame : List (Nat × Int)) (drift : Int) : (h.push p out frame drift).ring = h.ring := by
  simp [Hub.push]

theorem Hub.frameIn_wf {h : Hub} (p : Nat) (exact : Bool) (di : List Bool) (drift : Int) (hm : Memory.wf h.ring = true) :
    Memory.wf (h.frameIn p exact di drift).ring = true := by
  unfold Hub.frameIn
  dsimp only
  rw [Hub.forAll_ring fun g c => g.feed_ring p false c _, Hub.push_ring]
  refine Hub.capFrame_wf _ _ _ ?_
  split
  · exact hm
  · simpa using hm

@[simp] theorem Hub.drivePins_ring (h : Hub) (p n : Nat) (frame : List (Nat × Int)) : (h.drivePins p n frame).ring = h.ring := (rfl)

theorem Hub.frameOut_wf {h : Hub} (p n : Nat) (early : Bool) (drift : Int) (hm : Memory.wf h.ring = true) :
    Memory.wf (h.frameOut p n early drift).ring = true := by
  unfold Hub.frameOut
  simp only [Hub.drivePins_ring, Hub.when_ring, Hub.slip_ring, implies_true]
  refine Hub.capFrame_wf _ _ _ ?_
  simpa using hm

@[simp] theorem Hub.portEdge_ring (h : Hub) (p since : Nat) : (h.portEdge p since).ring = h.ring := by
  unfold Hub.portEdge
  repeat' split
  all_goals simp

@[simp] theorem Hub.portDetect_ring (h : Hub) (p : Nat) (drift : Int) : (h.portDetect p drift).ring = h.ring := by simp [Hub.portDetect]

theorem Hub.portFrame_wf {h : Hub} (p : Nat) (f : PortFrame) (hm : Memory.wf h.ring = true) : Memory.wf (h.portFrame p f).ring = true := by
  unfold Hub.portFrame
  lift_lets
  extract_lets m master raw pins begun all last free frame exact sampled edge edged taken detected
  have hw : Memory.wf edged.ring = true := by
    have he : edged.ring = h.ring := by
      dsimp only [edged]
      split <;> simp [sampled]
    rwa [he]
  split
  · exact hw
  split
  · exact hw
  · simpa using hw
  · have hd : detected.ring = edged.ring := by simp [detected, taken]
    exact Hub.frameOut_wf _ _ _ _ (Hub.frameIn_wf _ _ _ _ (by rwa [hd]))

@[simp] theorem Hub.portReports_ring (h : Hub) (p : Nat) : (h.portReports p).ring = h.ring := by simp [Hub.portReports]
@[simp] theorem Hub.portsBoundary_ring (h : Hub) : h.portsBoundary.ring = h.ring := by simp [Hub.portsBoundary]
@[simp] theorem Hub.portsSuspend_ring (h : Hub) : h.portsSuspend.ring = h.ring := by simp [Hub.portsSuspend]
@[simp] theorem Hub.portsResume_ring (h : Hub) : h.portsResume.ring = h.ring := by simp [Hub.portsResume]

/-! ## Tether transmission (14) -/

@[simp] theorem Hub.modTet_ring (h : Hub) (f : Tether → Tether) : (h.modTet f).ring = h.ring := (rfl)
@[simp] theorem Hub.modTwi_ring (h : Hub) (f : Twi → Twi) : (h.modTwi f).ring = h.ring := (rfl)
@[simp] theorem Hub.wakeDown_ring (h : Hub) : h.wakeDown.ring = h.ring := (rfl)

@[simp] theorem Hub.transmit_ring (h : Hub) (p : TetherPort) (k : TxKind) (bs : List Byte) (abortEnd : Bool) :
    (h.transmit p k bs abortEnd).ring = h.ring := by
  simp [Hub.transmit]

@[simp] theorem Hub.forward_ring (h : Hub) (p : TetherPort) (k : TxKind) (bs : List Byte) (abortEnd : Bool) :
    (h.forward p k bs abortEnd).ring = h.ring := by
  simp [Hub.forward]

@[simp] theorem Hub.transmitEcho_ring (h : Hub) (p : TetherPort) (k : TxKind) : (h.transmitEcho p k).ring = h.ring := by simp [Hub.transmitEcho]
@[simp] theorem Hub.txFrame_ring (h : Hub) : h.txFrame.ring = h.ring := by simp [Hub.txFrame]
@[simp] theorem Hub.notify_ring (h : Hub) (host : Nat) (payload : List Byte) : (h.notify host payload).ring = h.ring := by simp [Hub.notify]
@[simp] theorem Hub.notifyEvents_ring (h : Hub) (k : Nat) : (h.notifyEvents k).ring = h.ring := by simp [Hub.notifyEvents]
@[simp] theorem Hub.linkChange_ring (h : Hub) (p : TetherPort) (up : Bool) : (h.linkChange p up).ring = h.ring := by simp [Hub.linkChange]
@[simp] theorem Hub.tetherPower_ring (h : Hub) (on : Bool) : (h.tetherPower on).ring = h.ring := by simp [Hub.tetherPower]
@[simp] theorem Hub.alertSettle_ring (h : Hub) : h.alertSettle.ring = h.ring := by simp [Hub.alertSettle]
@[simp] theorem Hub.alertAssert_ring (h : Hub) : h.alertAssert.ring = h.ring := (rfl)
@[simp] theorem Hub.raiseBoundary_ring (h : Hub) : h.raiseBoundary.ring = h.ring := by simp [Hub.raiseBoundary]
@[simp] theorem Hub.sendResp_ring (h : Hub) (fromDown : Bool) (bs : List Byte) : (h.sendResp fromDown bs).ring = h.ring := by simp [Hub.sendResp]

/-! ## Hardware mute (02) -/

@[simp] theorem Hub.hwMute_ring (h : Hub) (src : Nat) : (h.hwMute src).ring = h.ring := by simp [Hub.hwMute]
@[simp] theorem Hub.hmuteAssert_ring (h : Hub) (k : Nat) : (h.hmuteAssert k).ring = h.ring := by simp [Hub.hmuteAssert]
@[simp] theorem Hub.hwUnmute_ring (h : Hub) (src : Nat) : (h.hwUnmute src).ring = h.ring := by simp [Hub.hwUnmute]
@[simp] theorem Hub.hmuteRelease_ring (h : Hub) (k : Nat) : (h.hmuteRelease k).ring = h.ring := by simp [Hub.hmuteRelease]
@[simp] theorem Hub.hmuteSettled_ring (h : Hub) (k : Nat) : (h.hmuteSettled k).ring = h.ring := by simp [Hub.hmuteSettled]
@[simp] theorem Hub.fullLevels_ring (h : Hub) : h.fullLevels.ring = h.ring := by simp [Hub.fullLevels]

/-! ## Headphones and jacks (05) -/

@[simp] theorem Hub.hpCause_ring (h : Hub) (j k : Nat) : (h.hpCause j k).ring = h.ring := (rfl)
@[simp] theorem Hub.setGate_ring (h : Hub) (j : Nat) : (h.setGate j).ring = h.ring := by simp [Hub.setGate]
@[simp] theorem Hub.connectMic_ring (h : Hub) (j : Nat) : (h.connectMic j).ring = h.ring := (rfl)
@[simp] theorem Hub.unbias_ring (h : Hub) (j : Nat) : (h.unbias j).ring = h.ring := by simp [Hub.unbias]
@[simp] theorem Hub.releaseMic_ring (h : Hub) (j : Nat) : (h.releaseMic j).ring = h.ring := (rfl)
@[simp] theorem Hub.unprotect_ring (h : Hub) (j : Nat) : (h.unprotect j).ring = h.ring := (rfl)
@[simp] theorem Hub.startClassify_ring (h : Hub) (j : Nat) : (h.startClassify j).ring = h.ring := by simp [Hub.startClassify]
@[simp] theorem Hub.jackSense_ring (h : Hub) (j : Nat) : (h.jackSense j).ring = h.ring := by simp [Hub.jackSense]
@[simp] theorem Hub.jdEdge_ring (h : Hub) (j : Nat) (level : Bool) : (h.jdEdge j level).ring = h.ring := by simp [Hub.jdEdge]
@[simp] theorem Hub.jackInsertAccept_ring (h : Hub) (j : Nat) : (h.jackInsertAccept j).ring = h.ring := by simp [Hub.jackInsertAccept]
@[simp] theorem Hub.jackRemoveAccept_ring (h : Hub) (j : Nat) : (h.jackRemoveAccept j).ring = h.ring := by simp [Hub.jackRemoveAccept]

@[simp] theorem Hub.classifyComplete_ring (h : Hub) (j : Nat) (m : JackMeasure) : (h.classifyComplete j m).ring = h.ring := by
  simp [Hub.classifyComplete]

@[simp] theorem Hub.hmBiasSettled_ring (h : Hub) (m : Nat) : (h.hmBiasSettled m).ring = h.ring := by simp [Hub.hmBiasSettled]
@[simp] theorem Hub.reclassify_ring (h : Hub) (j : Nat) : (h.reclassify j).ring = h.ring := by simp [Hub.reclassify]
@[simp] theorem Hub.hpOvercurrent_ring (h : Hub) (j : Nat) : (h.hpOvercurrent j).ring = h.ring := by simp [Hub.hpOvercurrent]
@[simp] theorem Hub.jdModeApply_ring (h : Hub) (j v : Nat) : (h.jdModeApply j v).ring = h.ring := by simp [Hub.jdModeApply]
@[simp] theorem Hub.accessoryModeApply_ring (h : Hub) (j v : Nat) : (h.accessoryModeApply j v).ring = h.ring := by simp [Hub.accessoryModeApply]

@[simp] theorem Hub.buttonPress_ring (h : Hub) (j ohms : Nat) : (h.buttonPress j ohms).ring = h.ring := by
  unfold Hub.buttonPress
  split <;> simp

@[simp] theorem Hub.buttonLongPress_ring (h : Hub) (j : Nat) : (h.buttonLongPress j).ring = h.ring := by simp [Hub.buttonLongPress]
@[simp] theorem Hub.buttonRelease_ring (h : Hub) (j : Nat) : (h.buttonRelease j).ring = h.ring := by simp [Hub.buttonRelease]
@[simp] theorem Hub.hpFastMute_ring (h : Hub) (j : Nat) : (h.hpFastMute j).ring = h.ring := by simp [Hub.hpFastMute]
@[simp] theorem Hub.hpFastRelease_ring (h : Hub) (j : Nat) : (h.hpFastRelease j).ring = h.ring := by simp [Hub.hpFastRelease]
@[simp] theorem Hub.hpPanic_ring (h : Hub) (j m : Nat) : (h.hpPanic j m).ring = h.ring := (rfl)
@[simp] theorem Hub.hpGainApply_ring (h : Hub) (j v : Nat) : (h.hpGainApply j v).ring = h.ring := (rfl)
@[simp] theorem Hub.hpMuteApply_ring (h : Hub) (j v : Nat) : (h.hpMuteApply j v).ring = h.ring := (rfl)
@[simp] theorem Hub.hpShortApply_ring (h : Hub) (j v : Nat) (right : Bool) : (h.hpShortApply j v right).ring = h.ring := (rfl)

/-! ## Speaker (05) -/

@[simp] theorem Hub.modSpk_ring (h : Hub) (f : Speaker → Speaker) : (h.modSpk f).ring = h.ring := (rfl)
@[simp] theorem Hub.spkCause_ring (h : Hub) (k : Nat) : (h.spkCause k).ring = h.ring := (rfl)
@[simp] theorem Hub.bridgeOff_ring (h : Hub) (st : SpkState) : (h.bridgeOff st).ring = h.ring := (rfl)
@[simp] theorem Hub.spkStart_ring (h : Hub) (lead : Nat) : (h.spkStart lead).ring = h.ring := by simp [Hub.spkStart]

@[simp] theorem Hub.spkSequenceEnd_ring (h : Hub) : h.spkSequenceEnd.ring = h.ring := by
  unfold Hub.spkSequenceEnd
  refine Hub.whenDue_ring fun g => ?_
  dsimp only
  repeat' split
  all_goals simp

@[simp] theorem Hub.spkTurnOff_ring (h : Hub) : h.spkTurnOff.ring = h.ring := by
  unfold Hub.spkTurnOff
  split <;> simp

@[simp] theorem Hub.spkEnableApply_ring (h : Hub) (v : Bool) : (h.spkEnableApply v).ring = h.ring := by simp [Hub.spkEnableApply]

@[simp] theorem Hub.spkBoundary_ring (h : Hub) : h.spkBoundary.ring = h.ring := by
  unfold Hub.spkBoundary
  split <;> simp

@[simp] theorem Hub.spkOvercurrent_ring (h : Hub) : h.spkOvercurrent.ring = h.ring := by simp [Hub.spkOvercurrent]
@[simp] theorem Hub.spkRestart_ring (h : Hub) : h.spkRestart.ring = h.ring := by simp [Hub.spkRestart]
@[simp] theorem Hub.spkDcFault_ring (h : Hub) : h.spkDcFault.ring = h.ring := by simp [Hub.spkDcFault]

@[simp] theorem Hub.vspkOutOfRange_ring (h : Hub) (high : Bool) : (h.vspkOutOfRange high).ring = h.ring := by
  unfold Hub.vspkOutOfRange
  dsimp only
  repeat' split
  all_goals simp

@[simp] theorem Hub.vspkRecover_ring (h : Hub) : h.vspkRecover.ring = h.ring := by simp [Hub.vspkRecover]
@[simp] theorem Hub.faultClear_ring (h : Hub) : h.faultClear.ring = h.ring := by simp [Hub.faultClear]

@[simp] theorem Hub.spkThermal_ring (h : Hub) : h.spkThermal.ring = h.ring := by
  unfold Hub.spkThermal
  dsimp only
  repeat' split
  all_goals simp

@[simp] theorem Hub.spkCool_ring (h : Hub) : h.spkCool.ring = h.ring := by simp [Hub.spkCool]
@[simp] theorem Hub.spkFastMute_ring (h : Hub) : h.spkFastMute.ring = h.ring := (rfl)
@[simp] theorem Hub.spkFastRelease_ring (h : Hub) : h.spkFastRelease.ring = h.ring := by simp [Hub.spkFastRelease]
@[simp] theorem Hub.spkPanic_ring (h : Hub) (m : Nat) : (h.spkPanic m).ring = h.ring := (rfl)
@[simp] theorem Hub.spkGainApply_ring (h : Hub) (v : Nat) (right : Bool) : (h.spkGainApply v right).ring = h.ring := (rfl)
@[simp] theorem Hub.spkMuteApply_ring (h : Hub) (v : Nat) : (h.spkMuteApply v).ring = h.ring := (rfl)
@[simp] theorem Hub.spreadApply_ring (h : Hub) (v : Nat) : (h.spreadApply v).ring = h.ring := (rfl)
@[simp] theorem Hub.hpsPower_ring (h : Hub) : h.hpsPower.ring = h.ring := by simp [Hub.hpsPower]
@[simp] theorem Hub.hpStep4_ring (h : Hub) (j : Nat) : (h.hpStep4 j).ring = h.ring := by simp [Hub.hpStep4]

@[simp] theorem Hub.hpPowerupStep_ring (h : Hub) : h.hpPowerupStep.ring = h.ring := by
  unfold Hub.hpPowerupStep
  split <;> simp

@[simp] theorem Hub.hpsDown_ring (h : Hub) : h.hpsDown.ring = h.ring := by simp [Hub.hpsDown]
@[simp] theorem Hub.hpsOff_ring (h : Hub) : h.hpsOff.ring = h.ring := by simp [Hub.hpsOff]

/-! ## Supplies (20) -/

@[simp] theorem Hub.modSupply_ring (h : Hub) (f : Supply → Supply) : (h.modSupply f).ring = h.ring := (rfl)
@[simp] theorem Hub.muteAnalog_ring (h : Hub) : h.muteAnalog.ring = h.ring := by simp [Hub.muteAnalog]
@[simp] theorem Hub.unmuteAnalog_ring (h : Hub) : h.unmuteAnalog.ring = h.ring := by simp [Hub.unmuteAnalog]

@[simp] theorem Hub.muteInputs_ring (h : Hub) : h.muteInputs.ring = h.ring := by
  unfold Hub.muteInputs
  refine Hub.forAll_ring fun g k => ?_
  repeat' split
  all_goals simp

@[simp] theorem Hub.unmuteInputs_ring (h : Hub) : h.unmuteInputs.ring = h.ring := by simp [Hub.unmuteInputs]
@[simp] theorem Hub.analogLow_ring (h : Hub) : h.analogLow.ring = h.ring := by simp [Hub.analogLow]
@[simp] theorem Hub.analogRecover_ring (h : Hub) : h.analogRecover.ring = h.ring := by simp [Hub.analogRecover]
@[simp] theorem Hub.inputRailLow_ring (h : Hub) : h.inputRailLow.ring = h.ring := by simp [Hub.inputRailLow]
@[simp] theorem Hub.avddLow_ring (h : Hub) : h.avddLow.ring = h.ring := by simp [Hub.avddLow]
@[simp] theorem Hub.avddRecover_ring (h : Hub) : h.avddRecover.ring = h.ring := by simp [Hub.avddRecover]

@[simp] theorem Hub.dipStart_ring (h : Hub) (r : DipRail) : (h.dipStart r).ring = h.ring := by
  unfold Hub.dipStart
  dsimp only
  repeat' split
  all_goals simp

@[simp] theorem Hub.dipEnd_ring (h : Hub) : h.dipEnd.ring = h.ring := by simp [Hub.dipEnd]
@[simp] theorem Hub.vioLow_ring (h : Hub) (fault : Bool) : (h.vioLow fault).ring = h.ring := (rfl)
@[simp] theorem Hub.vioRecover_ring (h : Hub) : h.vioRecover.ring = h.ring := by simp [Hub.vioRecover]
@[simp] theorem Hub.thermalWarn_ring (h : Hub) : h.thermalWarn.ring = h.ring := by simp [Hub.thermalWarn]
@[simp] theorem Hub.thermalCrit_ring (h : Hub) : h.thermalCrit.ring = h.ring := by simp [Hub.thermalCrit]
@[simp] theorem Hub.thermalRecover_ring (h : Hub) (below105 : Bool) : (h.thermalRecover below105).ring = h.ring := by simp [Hub.thermalRecover]

@[simp] theorem Hub.vphMeasured_ring (h : Hub) (v : Nat) : (h.vphMeasured v).ring = h.ring := by
  unfold Hub.vphMeasured
  split
  · rfl
  · refine (Hub.forAll_ring fun g k => ?_).trans (by simp)
    dsimp only
    split <;> simp

@[simp] theorem Hub.measure_ring (h : Hub) (m : Measures) : (h.measure m).ring = h.ring := by simp [Hub.measure]
@[simp] theorem Hub.supplyBoundary_ring (h : Hub) : h.supplyBoundary.ring = h.ring := by simp [Hub.supplyBoundary]

/-! ## Store (12) -/

@[simp] theorem Hub.autoStore_ring (h : Hub) (idx sub : Nat) : (h.autoStore idx sub).ring = h.ring := by simp [Hub.autoStore]
@[simp] theorem Hub.writeRow_ring (h : Hub) (k : Nat) : (h.writeRow k).ring = h.ring := (rfl)
@[simp] theorem Hub.writeRecord_ring (h : Hub) (r : StoreReq) : (h.writeRecord r).ring = h.ring := (rfl)

@[simp] theorem Hub.remap_ring (h : Hub) : h.remap.1.ring = h.ring := by
  unfold Hub.remap
  split <;> simp

@[simp] theorem Hub.countRow_ring (h : Hub) (row n : Nat) : (h.countRow row n).ring = h.ring := (rfl)

@[simp] theorem Hub.remaps_ring (h : Hub) (n : Nat) : (h.remaps n).1.ring = h.ring := by
  induction n generalizing h with
  | zero => exact h.remap_ring
  | succ n ih =>
    simp only [Hub.remaps]
    split <;> simp [ih]

@[simp] theorem Hub.writeStored_ring (h : Hub) (r : StoreReq) : (h.writeStored r).ring = h.ring := by
  cases r <;> simp [Hub.writeStored]

@[simp] theorem Hub.rowWrite_ring (h : Hub) (verified : Bool) (fails : Nat) (r : StoreReq) : (h.rowWrite verified fails r).ring = h.ring := by
  unfold Hub.rowWrite
  dsimp only
  repeat' split
  all_goals simp

@[simp] theorem Hub.popRequest_ring (h : Hub) : h.popRequest.ring = h.ring := by
  unfold Hub.popRequest
  repeat' split
  all_goals simp

@[simp] theorem Hub.storeRowWritten_ring (h : Hub) (verified : Bool) (spareFails : Nat) : (h.storeRowWritten verified spareFails).ring = h.ring := by
  unfold Hub.storeRowWritten
  dsimp only
  repeat' split
  all_goals simp

/-! ## Watch (17) -/

@[simp] theorem Hub.modPwr_ring (h : Hub) (f : Power → Power) : (h.modPwr f).ring = h.ring := (rfl)
@[simp] theorem Hub.powerRequest_ring (h : Hub) (t wake : Nat) : (h.powerRequest t wake).ring = h.ring := by simp [Hub.powerRequest]
@[simp] theorem Hub.hostRequest_ring (h : Hub) (t : Nat) : (h.hostRequest t).ring = h.ring := by simp [Hub.hostRequest]
@[simp] theorem Hub.readerIdle_ring (h : Hub) (c : Nat) : (h.readerIdle c).ring = h.ring := (rfl)
@[simp] theorem Hub.readerStop_ring (h : Hub) (c : Nat) : (h.readerStop c).ring = h.ring := by simp [Hub.readerStop]
@[simp] theorem Hub.readerPlay_ring (h : Hub) (c : Nat) : (h.readerPlay c).ring = h.ring := (rfl)
@[simp] theorem Hub.readerControl_ring (h : Hub) (c v : Nat) : (h.readerControl c v).ring = h.ring := by simp [Hub.readerControl]
@[simp] theorem Hub.detectorReset_ring (h : Hub) (c : Nat) : (h.detectorReset c).ring = h.ring := (rfl)
@[simp] theorem Hub.levelReset_ring (h : Hub) (c : Nat) : (h.levelReset c).ring = h.ring := (rfl)
@[simp] theorem Hub.watchRestart_ring (h : Hub) (c : Nat) : (h.watchRestart c).ring = h.ring := (rfl)
@[simp] theorem Hub.watchDecimate_ring (h : Hub) (c : Nat) : (h.watchDecimate c).ring = h.ring := (rfl)
@[simp] theorem Hub.readerRun_ring (h : Hub) (c : Nat) : (h.readerRun c).ring = h.ring := by simp [Hub.readerRun]
@[simp] theorem Hub.watchWrite_ring (h : Hub) : h.watchWrite.ring = h.ring := by simp [Hub.watchWrite]
@[simp] theorem Hub.readersEnd_ring (h : Hub) : h.readersEnd.ring = h.ring := by simp [Hub.readersEnd]

@[simp] theorem Hub.watchFire_ring (h : Hub) (c event wakeBit outBit wake : Nat) : (h.watchFire c event wakeBit outBit wake).ring = h.ring := by
  simp [Hub.watchFire]

@[simp] theorem Hub.signatureFail_ring (h : Hub) (c : Nat) (level : Nat → Int) : (h.signatureFail c level).ring = h.ring := by
  simp [Hub.signatureFail]

@[simp] theorem Hub.signature_ring (h : Hub) (c : Nat) (level : Nat → Int) : (h.signature c level).ring = h.ring := by simp [Hub.signature]
@[simp] theorem Hub.levelDetect_ring (h : Hub) (c : Nat) (rms : Int) : (h.levelDetect c rms).ring = h.ring := by simp [Hub.levelDetect]

@[simp] theorem Hub.signatureTick_ring (h : Hub) (c : Nat) (bands : List Int) (rms : Int) : (h.signatureTick c bands rms).ring = h.ring := by
  simp [Hub.signatureTick]

/-! ## Power states (17) -/

@[simp] theorem Hub.setDomain_ring (h : Hub) (k : Nat) (on : Bool) : (h.setDomain k on).ring = h.ring := (rfl)
@[simp] theorem Hub.groupDown_ring (h : Hub) (k : Nat) : (h.groupDown k).ring = h.ring := by simp [Hub.groupDown]
@[simp] theorem Hub.groupOff_ring (h : Hub) (k : Nat) : (h.groupOff k).ring = h.ring := by simp [Hub.groupOff]
@[simp] theorem Hub.inputOn_ring (h : Hub) (n : Nat) : (h.inputOn n).ring = h.ring := by simp [Hub.inputOn]
@[simp] theorem Hub.groupUp_ring (h : Hub) (k : Nat) : (h.groupUp k).ring = h.ring := by simp [Hub.groupUp]
@[simp] theorem Hub.outGroupDown_ring (h : Hub) (k : Nat) : (h.outGroupDown k).ring = h.ring := by simp [Hub.outGroupDown]
@[simp] theorem Hub.outGroupUp_ring (h : Hub) (k : Nat) : (h.outGroupUp k).ring = h.ring := by simp [Hub.outGroupUp]
@[simp] theorem Hub.hpsUp_ring (h : Hub) : h.hpsUp.ring = h.ring := by simp [Hub.hpsUp]
@[simp] theorem Hub.domainsApply_ring (h : Hub) (v : Nat) : (h.domainsApply v).ring = h.ring := by simp [Hub.domainsApply]
@[simp] theorem Hub.domainsBoundary_ring (h : Hub) : h.domainsBoundary.ring = h.ring := by simp [Hub.domainsBoundary]
@[simp] theorem Hub.quiesce_ring (h : Hub) (target : Nat) : (h.quiesce target).ring = h.ring := by simp [Hub.quiesce]
@[simp] theorem Hub.domainsDown_ring (h : Hub) : h.domainsDown.ring = h.ring := by simp [Hub.domainsDown]

@[simp] theorem Hub.flushStore_ring (h : Hub) : h.flushStore.ring = h.ring := by
  unfold Hub.flushStore
  dsimp only
  rw [Hub.modStore_ring]
  refine (foldl_ring (fun g r => ?_) _).trans (by simp)
  split <;> simp

@[simp] theorem Hub.stablePhantom_ring (h : Hub) : h.stablePhantom.ring = h.ring := by simp [Hub.stablePhantom]
@[simp] theorem Hub.flushOver_ring (h : Hub) : h.flushOver.ring = h.ring := (rfl)
@[simp] theorem Hub.flushDone_ring (h : Hub) : h.flushDone.ring = h.ring := by simp [Hub.flushDone]
@[simp] theorem Hub.stableFlush_ring (h : Hub) : h.stableFlush.ring = h.ring := by simp [Hub.stableFlush]
@[simp] theorem Hub.flushBoundary_ring (h : Hub) : h.flushBoundary.ring = h.ring := by simp [Hub.flushBoundary]
@[simp] theorem Hub.flushIncomplete_ring (h : Hub) : h.flushIncomplete.ring = h.ring := by simp [Hub.flushIncomplete]
@[simp] theorem Hub.quiesceEnd_ring (h : Hub) : h.quiesceEnd.ring = h.ring := by simp [Hub.quiesceEnd]
@[simp] theorem Hub.exitWatch_ring (h : Hub) (wake : Nat) : (h.exitWatch wake).ring = h.ring := (rfl)
@[simp] theorem Hub.enterStable_ring (h : Hub) : h.enterStable.ring = h.ring := by simp [Hub.enterStable]
@[simp] theorem Hub.enterWatch_ring (h : Hub) : h.enterWatch.ring = h.ring := by simp [Hub.enterWatch]
@[simp] theorem Hub.powerBegin_ring (h : Hub) (t wake : Nat) : (h.powerBegin t wake).ring = h.ring := by simp [Hub.powerBegin]
@[simp] theorem Hub.powerNext_ring (h : Hub) : h.powerNext.ring = h.ring := by simp [Hub.powerNext]
@[simp] theorem Hub.powerBoundary_ring (h : Hub) : h.powerBoundary.ring = h.ring := by simp [Hub.powerBoundary]
@[simp] theorem Hub.powerDone_ring (h : Hub) (state : Nat) : (h.powerDone state).ring = h.ring := (rfl)
@[simp] theorem Hub.watchEntryComplete_ring (h : Hub) : h.watchEntryComplete.ring = h.ring := by simp [Hub.watchEntryComplete]
@[simp] theorem Hub.watchExit2_ring (h : Hub) : h.watchExit2.ring = h.ring := by simp [Hub.watchExit2]
@[simp] theorem Hub.watchExit3_ring (h : Hub) : h.watchExit3.ring = h.ring := by simp [Hub.watchExit3]

@[simp] theorem Hub.watchExitStep_ring (h : Hub) : h.watchExitStep.ring = h.ring := by
  unfold Hub.watchExitStep
  split
  · refine Hub.whenDue_ring fun g => ?_
    dsimp only
    repeat' split
    all_goals simp
  · rfl

@[simp] theorem Hub.stableEntry_ring (h : Hub) : h.stableEntry.ring = h.ring := by simp [Hub.stableEntry]
@[simp] theorem Hub.padRelease_ring (h : Hub) (v : Nat) : (h.padRelease v).ring = h.ring := (rfl)

/-! ## Update (19) -/

@[simp] theorem Hub.modUpd_ring (h : Hub) (f : Update → Update) : (h.modUpd f).ring = h.ring := (rfl)
@[simp] theorem Hub.modBoot_ring (h : Hub) (f : Boot → Boot) : (h.modBoot f).ring = h.ring := (rfl)
@[simp] theorem Hub.updateFail_ring (h : Hub) (e : Nat) : (h.updateFail e).ring = h.ring := (rfl)
@[simp] theorem Hub.blockError_ring (h : Hub) (e start : Nat) (keep : List (List Byte)) : (h.blockError e start keep).ring = h.ring := (rfl)
@[simp] theorem Hub.headerComplete_ring (h : Hub) : h.headerComplete.ring = h.ring := by simp [Hub.headerComplete]
@[simp] theorem Hub.recordComplete_ring (h : Hub) (start len : Nat) : (h.recordComplete start len).ring = h.ring := by simp [Hub.recordComplete]
@[simp] theorem Hub.recordCheck_ring (h : Hub) : h.recordCheck.ring = h.ring := by simp [Hub.recordCheck]

@[simp] theorem Hub.imageData_ring (h : Hub) (host off : Nat) (data : List Byte) : (h.imageData host off data).ring = h.ring := by
  simp [Hub.imageData]

@[simp] theorem Hub.flashBegin_ring (h : Hub) : h.flashBegin.ring = h.ring := by simp [Hub.flashBegin]
@[simp] theorem Hub.recordWritten_ring (h : Hub) : h.recordWritten.ring = h.ring := by simp [Hub.recordWritten]

@[simp] theorem Hub.flashDone_ring (h : Hub) (ok : Bool) : (h.flashDone ok).ring = h.ring := by
  unfold Hub.flashDone
  dsimp only
  repeat' split
  all_goals simp

@[simp] theorem Hub.armRows_ring (h : Hub) : h.armRows.ring = h.ring := by simp [Hub.armRows]

@[simp] theorem Hub.verifyComplete_ring (h : Hub) (vendorOk counterOk : Bool) : (h.verifyComplete vendorOk counterOk).ring = h.ring := by
  simp [Hub.verifyComplete]

@[simp] theorem Hub.control_ring (h : Hub) (v : Nat) : (h.control v).ring = h.ring := by
  unfold Hub.control
  split <;> simp

@[simp] theorem Hub.makerKey_ring (h : Hub) (data : List Byte) : (h.makerKey data).ring = h.ring := by simp [Hub.makerKey]
@[simp] theorem Hub.modSup_ring (h : Hub) (f : Supervisor → Supervisor) : (h.modSup f).ring = h.ring := (rfl)

@[simp] theorem Hub.cutCommand_ring (h : Hub) (w : Who) : (h.cutCommand w).ring = h.ring := by
  unfold Hub.cutCommand
  split <;> simp

@[simp] theorem Hub.supervisorDown_ring (h : Hub) : h.supervisorDown.ring = h.ring := by simp [Hub.supervisorDown]
@[simp] theorem Hub.supervisorUp_ring (h : Hub) : h.supervisorUp.ring = h.ring := by simp [Hub.supervisorUp]

@[simp] theorem Hub.stepBegin_ring (h : Hub) (k : Nat) : (h.stepBegin k).ring = h.ring := by
  unfold Hub.stepBegin
  repeat' split
  all_goals simp

@[simp] theorem Hub.activated_ring (h : Hub) : h.activated.ring = h.ring := (rfl)
@[simp] theorem Hub.activate_ring (h : Hub) : h.activate.ring = h.ring := by simp [Hub.activate]

@[simp] theorem Hub.activationStep_ring (h : Hub) : h.activationStep.ring = h.ring := by
  unfold Hub.activationStep
  repeat' split
  all_goals simp

@[simp] theorem Hub.activationDue_ring (h : Hub) : h.activationDue.ring = h.ring := by simp [Hub.activationDue]
@[simp] theorem Hub.updateBoundary_ring (h : Hub) : h.updateBoundary.ring = h.ring := by simp [Hub.updateBoundary]

@[simp] theorem Hub.stepEnd_ring (h : Hub) (ok : Bool) : (h.stepEnd ok).ring = h.ring := by
  unfold Hub.stepEnd
  dsimp only
  repeat' split
  all_goals simp

@[simp] theorem Hub.watchdogExpiry_ring (h : Hub) (ramIntact : Bool) : (h.watchdogExpiry ramIntact).ring = h.ring := by simp [Hub.watchdogExpiry]
@[simp] theorem Hub.restartComplete_ring (h : Hub) : h.restartComplete.ring = h.ring := by simp [Hub.restartComplete]

/-! ## Bring-up and reset (18) -/

@[simp] theorem Hub.resetBy_ring (h : Hub) (cause : Nat) (powerOn : Bool) (wake : Nat) : (h.resetBy cause powerOn wake).ring = [] := (rfl)

@[simp] theorem Hub.wakeReset_ring (h : Hub) (srcs : List WakeSource) (duringEntry : Bool) : (h.wakeReset srcs duringEntry).ring = [] := by
  unfold Hub.wakeReset
  simp

@[simp] theorem Hub.latchWake_ring (h : Hub) (c : WakeSource) : (h.latchWake c).ring = h.ring := (rfl)
@[simp] theorem Hub.audioStored_ring (h : Hub) : h.audioStored.ring = h.ring := by simp [Hub.audioStored]

@[simp] theorem Hub.recordsStored_ring (h : Hub) : h.recordsStored.ring = h.ring := by
  unfold Hub.recordsStored
  dsimp only
  rw [Hub.ring_mk, Hub.cap_mem]
  refine (foldl_ring (fun g i => ?_) _).trans (by simp)
  split <;> simp

@[simp] theorem Hub.twiStored_ring (h : Hub) : h.twiStored.ring = h.ring := (rfl)

@[simp] theorem Hub.storeRead_ring (h : Hub) (unreadable : Bool) (failed : List (Nat × Nat)) : (h.storeRead unreadable failed).ring = h.ring := by
  simp [Hub.storeRead]

@[simp] theorem Hub.phantomRebase_ring (h : Hub) (t : Nat) : (h.phantomRebase t).ring = h.ring := by simp [Hub.phantomRebase]
@[simp] theorem Hub.framesStart_ring (h : Hub) : h.framesStart.ring = h.ring := by simp [Hub.framesStart]
@[simp] theorem Hub.frontEnds_ring (h : Hub) : h.frontEnds.ring = h.ring := by simp [Hub.frontEnds]
@[simp] theorem Hub.strapsSampled_ring (h : Hub) : h.strapsSampled.ring = h.ring := (rfl)
@[simp] theorem Hub.qspiStart_ring (h : Hub) : h.qspiStart.ring = h.ring := (rfl)

@[simp] theorem Hub.bringUpStep_ring (h : Hub) (unreadable : Bool) (failed : List (Nat × Nat)) : (h.bringUpStep unreadable failed).ring = h.ring := by
  unfold Hub.bringUpStep
  repeat' split
  all_goals simp

@[simp] theorem Hub.timerSet_ring (h : Hub) (i : Nat) : (h.timerSet i).ring = h.ring := by simp [Hub.timerSet]
@[simp] theorem Hub.reducedService_ring (h : Hub) : h.reducedService.ring = h.ring := by simp [Hub.reducedService]

@[simp] theorem Hub.imageChecked_ring (h : Hub) (image : List Byte) (recordsOk signatureOk : Bool) :
    (h.imageChecked image recordsOk signatureOk).ring = h.ring := by
  simp [Hub.imageChecked]

@[simp] theorem Hub.tablesStored_ring (h : Hub) : h.tablesStored.ring = h.ring := by
  unfold Hub.tablesStored
  refine (Hub.forAll_ring fun g n => ?selectors).trans <| (Hub.forAll_ring fun g b => ?buses).trans <| (Hub.forAll_ring fun g i => ?slots).trans <|
    (Hub.forAll_ring fun g i => ?generators).trans <| (Hub.forAll_ring fun g b => ?terms).trans <| (Hub.forAll_ring fun g n => ?trims).trans (by simp)
  case selectors | buses | generators => simp
  case slots => split <;> simp
  case terms =>
    rw [Hub.modBus_ring, Hub.rescale_ring]
    refine (Hub.forAll_ring fun g k => ?_).trans (by simp)
    split <;> simp
  case trims =>
    refine Hub.forAll_ring fun g k => ?_
    split <;> simp

@[simp] theorem Hub.sinkHandover_ring (h : Hub) (s : Nat) : (h.sinkHandover s).ring = h.ring := by simp [Hub.sinkHandover]
@[simp] theorem Hub.portHandover_ring (h : Hub) (p : Nat) : (h.portHandover p).ring = h.ring := by simp [Hub.portHandover]
@[simp] theorem Hub.handover_ring (h : Hub) : h.handover.ring = h.ring := by simp [Hub.handover]
@[simp] theorem Hub.handoverBoundary8_ring (h : Hub) : h.handoverBoundary8.ring = h.ring := by simp [Hub.handoverBoundary8]
@[simp] theorem Hub.fullService_ring (h : Hub) : h.fullService.ring = h.ring := by simp [Hub.fullService]

/-! ## The core frame -/

@[simp] theorem Hub.decimate_ring (h : Hub) (src : Nat) (raw : List Int) : (h.decimate src raw).ring = h.ring := by simp [Hub.decimate]
@[simp] theorem Hub.inputFrame_ring (h : Hub) (src : Nat) (raw : List Int) : (h.inputFrame src raw).ring = h.ring := by simp [Hub.inputFrame]
@[simp] theorem Hub.returnsFrame_ring (h : Hub) : h.returnsFrame.ring = h.ring := (rfl)
@[simp] theorem Hub.ringsFrame_ring (h : Hub) : h.ringsFrame.ring = h.ring := (rfl)
@[simp] theorem Hub.generatorsFrame_ring (h : Hub) : h.generatorsFrame.ring = h.ring := (rfl)
@[simp] theorem Hub.notePeaks_ring (h : Hub) (b : Nat) : (h.notePeaks b).ring = h.ring := by simp [Hub.notePeaks]
@[simp] theorem Hub.busClip_ring (h : Hub) (b : Nat) (terms : Bool) : (h.busClip b terms).ring = h.ring := by simp [Hub.busClip]
@[simp] theorem Hub.busFrame_ring (h : Hub) (b : Nat) : (h.busFrame b).ring = h.ring := by simp [Hub.busFrame]
@[simp] theorem Hub.sinksFrame_ring (h : Hub) : h.sinksFrame.ring = h.ring := (rfl)
@[simp] theorem Hub.outputFrame_ring (h : Hub) (n : Nat) : (h.outputFrame n).ring = h.ring := by simp [Hub.outputFrame]
@[simp] theorem Hub.hpFrame_ring (h : Hub) (j : Nat) : (h.hpFrame j).ring = h.ring := by simp [Hub.hpFrame]
@[simp] theorem Hub.spkFrame_ring (h : Hub) : h.spkFrame.ring = h.ring := by simp [Hub.spkFrame]
@[simp] theorem Hub.shortFrame_ring (h : Hub) (s : Nat) : (h.shortFrame s).ring = h.ring := (rfl)
@[simp] theorem Hub.outputSample_ring (h : Hub) (n : Nat) : (h.outputSample n).ring = h.ring := by simp [Hub.outputSample]
@[simp] theorem Hub.hpSample_ring (h : Hub) (j : Nat) : (h.hpSample j).ring = h.ring := by simp [Hub.hpSample]
@[simp] theorem Hub.spkSample_ring (h : Hub) : h.spkSample.ring = h.ring := by simp [Hub.spkSample]
@[simp] theorem Hub.pathSample_ring (h : Hub) (xs : List (Nat × PathSample)) : (h.pathSample xs).ring = h.ring := by simp [Hub.pathSample]
@[simp] theorem Hub.audioFrame_ring (h : Hub) (xs : List (Nat × Int)) : (h.audioFrame xs).ring = h.ring := by simp [Hub.audioFrame]
@[simp] theorem Hub.streamMeter_ring (h : Hub) (src : Nat) : (h.streamMeter src).ring = h.ring := by simp [Hub.streamMeter]
@[simp] theorem Hub.meters_ring (h : Hub) : h.meters.ring = h.ring := by simp [Hub.meters]

/-! ## Writes (12) -/

@[simp] theorem Hub.inForce_ring (h : Hub) (b : Blk) (sub v old : Nat) : (h.inForce b sub v old).ring = h.ring := by
  unfold Hub.inForce
  repeat' split
  all_goals simp

@[simp] theorem Hub.applyWr_ring (h : Hub) (w : Wr) : (h.applyWr w).ring = h.ring := by
  unfold Hub.applyWr
  dsimp only
  repeat' split
  all_goals simp

@[simp] theorem Hub.applyBatch_ring (h : Hub) (ws : List Wr) : (h.applyBatch ws).ring = h.ring := by simp [Hub.applyBatch]
@[simp] theorem Hub.applyFrame_ring (h : Hub) : h.applyFrame.ring = h.ring := by simp [Hub.applyFrame]

@[simp] theorem Hub.clearBitsOf_ring (h : Hub) (host : Nat) (b : Blk) (sub v : Nat) : (h.clearBitsOf host b sub v).ring = h.ring := by
  unfold Hub.clearBitsOf
  split <;> simp

@[simp] theorem Hub.commandNow_ring (h : Hub) (w : Who) (b : Blk) (sub v : Nat) (data : List Byte) : (h.commandNow w b sub v data).ring = h.ring := by
  unfold Hub.commandNow
  repeat' split
  all_goals simp

@[simp] theorem Hub.onAccept_ring (h : Hub) (b : Blk) (sub : Nat) : (h.onAccept b sub).ring = h.ring := by
  unfold Hub.onAccept
  split <;> simp

@[simp] theorem Hub.accept_ring (h : Hub) (w : Who) (idx sub : Nat) (data : List Byte) : (h.accept w idx sub data).1.ring = h.ring := by
  unfold Hub.accept
  repeat' split
  all_goals simp

@[simp] theorem Hub.refusal_ring (h : Hub) (idx sub code : Nat) (data : List Byte) : (h.refusal idx sub code data).ring = h.ring := by
  unfold Hub.refusal
  split <;> simp

@[simp] theorem Hub.acceptOutputs_ring (h before : Hub) (ns : List Nat) : (h.acceptOutputs before ns).ring = h.ring := by simp [Hub.acceptOutputs]

@[simp] theorem Hub.writeObject_ring (h : Hub) (w : Who) (idx sub ty : Nat) (data : List Byte) : (h.writeObject w idx sub ty data).2.ring = h.ring := by
  unfold Hub.writeObject
  dsimp only
  repeat' split
  all_goals simp

@[simp] theorem Hub.writeHeld_ring (h : Hub) (w : Who) (idx sub ty : Nat) (data : List Byte) : (h.writeHeld w idx sub ty data).2.ring = h.ring := by
  unfold Hub.writeHeld
  dsimp only
  repeat' split
  all_goals simp

@[simp] theorem Hub.acceptCombined_ring (h : Hub) (ws : List HeldWrite) : (h.acceptCombined ws).ring = h.ring := by
  unfold Hub.acceptCombined
  refine foldl_ring (fun g x => ?_) _
  repeat' split
  all_goals simp

theorem Hub.acceptHeld_ring (h : Hub) (w : Who) (xs : List HeldWrite) : (h.acceptHeld w xs).2.1.ring = h.ring := by
  induction xs generalizing h with
  | nil => rfl
  | cons x xs ih =>
    simp only [Hub.acceptHeld]
    split
    · rfl
    · simp [ih]

@[simp] theorem Hub.releaseBatch_ring (h : Hub) (w : Who) : (h.releaseBatch w).2.1.ring = h.ring := by
  unfold Hub.releaseBatch
  dsimp only
  repeat' split
  all_goals simp [Hub.acceptHeld_ring]

@[simp] theorem Hub.discardBatch_ring (h : Hub) (w : Who) : (h.discardBatch w).ring = h.ring := (rfl)

/-! ## Boundaries -/

@[simp] theorem Hub.commitReply_ring (h : Hub) (host code : Nat) : (h.commitReply host code).ring = h.ring := (rfl)
@[simp] theorem Hub.commitBoundary_ring (h : Hub) (host : Nat) : (h.commitBoundary host).ring = h.ring := by simp [Hub.commitBoundary]
@[simp] theorem Hub.commitsBoundary_ring (h : Hub) : h.commitsBoundary.ring = h.ring := by simp [Hub.commitsBoundary]

@[simp] theorem Hub.clearCounter_ring (h : Hub) (k : Nat) : (h.clearCounter k).ring = h.ring := by
  unfold Hub.clearCounter
  split <;> simp

@[simp] theorem Hub.clearsBoundary_ring (h : Hub) : h.clearsBoundary.ring = h.ring := by simp [Hub.clearsBoundary]
@[simp] theorem Hub.timersBoundary_ring (h : Hub) : h.timersBoundary.ring = h.ring := by simp [Hub.timersBoundary]

@[simp] theorem Hub.timerExpiry_ring (h : Hub) (i : Nat) : (h.timerExpiry i).ring = h.ring := by
  unfold Hub.timerExpiry
  split <;> simp

@[simp] theorem Hub.busBoundary_ring (h : Hub) (b : Nat) : (h.busBoundary b).ring = h.ring := (rfl)
@[simp] theorem Hub.tablesBoundary_ring (h : Hub) : h.tablesBoundary.ring = h.ring := by simp [Hub.tablesBoundary]

theorem Hub.unitsBoundary_wf {h : Hub} (hm : Memory.wf h.ring = true) : Memory.wf h.unitsBoundary.ring = true := by
  unfold Hub.unitsBoundary
  dsimp only
  split
  · simpa using Hub.capArm_wf _
  · simpa using hm

theorem Hub.blockBoundary_wf {h : Hub} (m : Measures) (hm : Memory.wf h.ring = true) : Memory.wf (h.blockBoundary m).ring = true := by
  have hu : Memory.wf (((h.measure m).meters.clearsBoundary).handoverBoundary8.tablesBoundary.unitsBoundary).ring = true :=
    Hub.unitsBoundary_wf (by simpa using hm)
  simpa [Hub.blockBoundary] using hu

@[simp] theorem Hub.frameEnd_ring (h : Hub) (src : List (Nat × Int)) : (h.frameEnd src).ring = h.ring := by simp [Hub.frameEnd]
@[simp] theorem Hub.frameBegin_ring (h : Hub) : h.frameBegin.ring = h.ring := by simp [Hub.frameBegin]

/-! ## Reads (12) -/

@[simp] theorem Hub.readEffect_ring (h : Hub) (idx sub : Nat) : (h.readEffect idx sub).ring = h.ring := by simp [Hub.readEffect]

/-! ## Mailbox (12) -/

@[simp] theorem Hub.ungate_ring (h : Hub) : h.ungate.ring = h.ring := by simp [Hub.ungate]

@[simp] theorem Hub.answer_ring (h snap : Hub) (w : Who) (r : Request) : (h.answer snap w r).2.ring = h.ring := by
  unfold Hub.answer
  dsimp only
  repeat' split
  all_goals simp

@[simp] theorem Hub.process_ring (h snap : Hub) (w : Who) (r : Request) : (h.process snap w r).ring = h.ring := by simp [Hub.process]

@[simp] theorem Hub.overrun_ring (h : Hub) (w : Who) (r : Request) (seq : Nat) (fromDown silent : Bool) :
    (h.overrun w r seq fromDown silent).ring = h.ring := by
  unfold Hub.overrun
  split <;> simp

@[simp] theorem Hub.turnAway_ring (h : Hub) (w : Who) (r : Request) (seq : Nat) (fromDown silent : Bool) :
    (h.turnAway w r seq fromDown silent).ring = h.ring := by
  unfold Hub.turnAway
  split <;> simp

@[simp] theorem Hub.startCommand_ring (h : Hub) (w : Who) (r : Request) (seq : Nat) (fromDown silent : Bool) {go : Hub → Hub} (hf : ∀ g,
    (go g).ring = g.ring) :
    (h.startCommand w r seq fromDown silent go).ring = h.ring := by
  unfold Hub.startCommand
  dsimp only
  repeat' split
  all_goals simp [hf]

@[simp] theorem Hub.command_ring (h snap : Hub) (w : Who) (r : Request) (seq : Nat) (fromDown silent : Bool) :
    (h.command snap w r seq fromDown silent).ring = h.ring := by
  simp [Hub.command]

@[simp] theorem Hub.rowCommand_ring (h snap : Hub) (w : Who) (r : Request) : (h.rowCommand snap w r).ring = h.ring := by simp [Hub.rowCommand]

@[simp] theorem Hub.commandComplete_ring (h snap : Hub) (w : Who) : (h.commandComplete snap w).ring = h.ring := by
  unfold Hub.commandComplete
  dsimp only
  repeat' split
  all_goals simp

@[simp] theorem Hub.writeRowOf_ring (h snap : Hub) (w : Who) (idx sub v : Nat) : (h.writeRowOf snap w idx sub v).ring = h.ring := by
  simp [Hub.writeRowOf]

/-! ## Rows of hosts -/

@[simp] theorem Hub.claimRow_ring (h snap : Hub) (w : Who) (cmd tag : Nat) : (h.claimRow snap w cmd tag).ring = h.ring := by
  unfold Hub.claimRow
  split <;> simp

@[simp] theorem Hub.viewTrim_ring (h : Hub) (host src v : Nat) : (h.viewTrim host src v).ring = h.ring := by
  unfold Hub.viewTrim
  dsimp only
  repeat' split
  all_goals simp

@[simp] theorem Hub.trimRow_ring (h snap : Hub) (w : Who) (view : Bool) (src k v : Nat) : (h.trimRow snap w view src k v).ring = h.ring := by
  simp [Hub.trimRow]

@[simp] theorem Hub.writeTogether_ring (h snap : Hub) (w : Who) (ws : List HeldWrite) : (h.writeTogether snap w ws).ring = h.ring := by
  unfold Hub.writeTogether
  repeat' split
  all_goals simp

/-! ## Two-wire port (13) -/

@[simp] theorem Hub.quickLatch_ring (h : Hub) (off : Nat) : (h.quickLatch off).ring = h.ring := by simp [Hub.quickLatch]
@[simp] theorem Hub.readMain_ring (h : Hub) (n : Nat) : (h.readMain n).ring = h.ring := by simp [Hub.readMain]

@[simp] theorem Hub.readQuickFrom_ring (h : Hub) (off n : Nat) : (h.readQuickFrom off n).1.ring = h.ring := by
  induction n generalizing h off with
  | zero => rfl
  | succ n ih => simp [Hub.readQuickFrom, ih]

@[simp] theorem Hub.readQuick_ring (h : Hub) (n : Nat) : (h.readQuick n).ring = h.ring := by simp [Hub.readQuick]

@[simp] theorem Hub.serveRead_ring (h : Hub) (t : TwiTarget) (n : Nat) : (h.serveRead t n).ring = h.ring := by
  unfold Hub.serveRead
  split <;> simp

@[simp] theorem Hub.startTiming_ring (h : Hub) : h.startTiming.ring = h.ring := (rfl)

@[simp] theorem Hub.startServed_ring (h : Hub) (t : TwiTarget) (isRead : Bool) (n : Nat) : (h.startServed t isRead n).ring = h.ring := by
  simp [Hub.startServed]

@[simp] theorem Hub.startStretched_ring (h : Hub) (t : TwiTarget) (isRead : Bool) (n : Nat) : (h.startStretched t isRead n).ring = h.ring := by
  simp [Hub.startStretched]

@[simp] theorem Hub.portServes_ring (h : Hub) : h.portServes.ring = h.ring := by
  unfold Hub.portServes
  split <;> simp

@[simp] theorem Hub.viewByte_ring (h : Hub) (k off : Nat) (b : Byte) : (h.viewByte k off b).ring = h.ring := by
  unfold Hub.viewByte
  repeat' split
  all_goals simp

@[simp] theorem Hub.viewWrite_ring (h : Hub) (k : Nat) (st : Table Byte) (off : Nat) (b : Byte) : (h.viewWrite k st off b).ring = h.ring := by
  unfold Hub.viewWrite
  repeat' split
  all_goals simp

@[simp] theorem Hub.startMailbox_ring (h : Hub) (k cmd : Nat) : (h.startMailbox k cmd).ring = h.ring := by simp [Hub.startMailbox]

@[simp] theorem Hub.commitMain_ring (h : Hub) (k : Nat) (st : Table Byte) : (h.commitMain k st).ring = h.ring := by
  unfold Hub.commitMain
  split <;> simp

@[simp] theorem Hub.panicMute_ring (h : Hub) : h.panicMute.ring = h.ring := by simp [Hub.panicMute]
@[simp] theorem Hub.panicRelease_ring (h : Hub) : h.panicRelease.ring = h.ring := by simp [Hub.panicRelease]
@[simp] theorem Hub.lampTest_ring (h : Hub) (v : Nat) : (h.lampTest v).ring = h.ring := by simp [Hub.lampTest]
@[simp] theorem Hub.lampTestExpiry_ring (h : Hub) (k : Nat) : (h.lampTestExpiry k).ring = h.ring := by simp [Hub.lampTestExpiry]

@[simp] theorem Hub.commitQuick_ring (h : Hub) (st : Table Byte) : (h.commitQuick st).ring = h.ring := by
  unfold Hub.commitQuick
  repeat' split
  all_goals simp

@[simp] theorem Hub.twiError_ring (h : Hub) (code : Nat) : (h.twiError code).ring = h.ring := (rfl)
@[simp] theorem Hub.protocolError_ring (h : Hub) (code : Nat) : (h.protocolError code).ring = h.ring := by simp [Hub.protocolError]
@[simp] theorem Hub.portReset_ring (h : Hub) (code : Nat) : (h.portReset code).ring = h.ring := (rfl)
@[simp] theorem Hub.brstReset_ring (h : Hub) : h.brstReset.ring = h.ring := by simp [Hub.brstReset]
@[simp] theorem Hub.brstRelease_ring (h : Hub) : h.brstRelease.ring = h.ring := (rfl)
@[simp] theorem Hub.busTimeout_ring (h : Hub) : h.busTimeout.ring = h.ring := by simp [Hub.busTimeout]

@[simp] theorem Hub.twiStop_ring (h : Hub) (bs : List Byte) : (h.twiStop bs).ring = h.ring := by
  unfold Hub.twiStop
  dsimp only
  repeat' split
  all_goals simp

@[simp] theorem Hub.alertResponse_ring (h : Hub) (lowerTarget : Bool) : (h.alertResponse lowerTarget).ring = h.ring := by simp [Hub.alertResponse]
@[simp] theorem Hub.alertRepeat_ring (h : Hub) : h.alertRepeat.ring = h.ring := by simp [Hub.alertRepeat]
@[simp] theorem Hub.watchAccess_ring (h : Hub) : h.watchAccess.ring = h.ring := by simp [Hub.watchAccess]
@[simp] theorem Hub.watchRegate_ring (h : Hub) : h.watchRegate.ring = h.ring := by simp [Hub.watchRegate]

/-! ## Tether frames (14) -/

@[simp] theorem Hub.frameError_ring (h : Hub) : h.frameError.ring = h.ring := by simp [Hub.frameError]

@[simp] theorem Hub.passOn_ring (h : Hub) (p : TetherPort) (dest : Nat) (k : TxKind) (bs : List Byte) : (h.passOn p dest k bs).ring = h.ring := by
  simp [Hub.passOn]

@[simp] theorem Hub.frameCommand_ring (h : Hub) (p : TetherPort) (bs : List Byte) : (h.frameCommand p bs).ring = h.ring := by simp [Hub.frameCommand]

@[simp] theorem Hub.frameReset_ring (h : Hub) (p : TetherPort) (dest host seq : Nat) (payload : List Byte) :
    (h.frameReset p dest host seq payload).ring = h.ring := by
  simp [Hub.frameReset]

@[simp] theorem Hub.frameBulk_ring (h : Hub) (p : TetherPort) (dest host seq offset : Nat) (data : List Byte) :
    (h.frameBulk p dest host seq offset data).ring = h.ring := by
  unfold Hub.frameBulk
  dsimp only
  repeat' split
  all_goals simp

@[simp] theorem Hub.echoReply_ring (h : Hub) (p : TetherPort) (ns : Nat) : (h.echoReply p ns).ring = h.ring := by
  unfold Hub.echoReply
  split <;> simp

@[simp] theorem Hub.echoRequest_ring (h : Hub) (p : TetherPort) : (h.echoRequest p).ring = h.ring := by simp [Hub.echoRequest]

@[simp] theorem Hub.syncUse_ring (h : Hub) (p : TetherPort) (f : SyncFrame) (arrival : Nat) : (h.syncUse p f arrival).ring = h.ring := by
  simp [Hub.syncUse]

@[simp] theorem Hub.sync_ring (h : Hub) (p : TetherPort) (f : SyncFrame) (t : SyncTimes) (src host seq : Nat) :
    (h.sync p f t src host seq).ring = h.ring := by
  simp [Hub.sync]

@[simp] theorem Hub.residence_ring (h : Hub) (p : TetherPort) : (h.residence p).2.ring = h.ring := (rfl)

@[simp] theorem Hub.rollCall_ring (h : Hub) (p : TetherPort) (r : RollCall) (dest src host seq : Nat) :
    (h.rollCall p r dest src host seq).ring = h.ring := by
  simp [Hub.rollCall]

@[simp] theorem Hub.confirm_ring (h : Hub) (r : RollCall) : (h.confirm r).ring = h.ring := by
  unfold Hub.confirm
  split <;> simp

@[simp] theorem Hub.rollcallTimeout_ring (h : Hub) : h.rollcallTimeout.ring = h.ring := by simp [Hub.rollcallTimeout]
@[simp] theorem Hub.confirmRow_ring (h : Hub) (p : TetherPort) (r : RollCall) : (h.confirmRow p r).ring = h.ring := by simp [Hub.confirmRow]

@[simp] theorem Hub.consume_ring (h : Hub) (p : TetherPort) (bs : List Byte) : (h.consume p bs).ring = h.ring := by
  unfold Hub.consume
  split <;> simp

@[simp] theorem Hub.faultyFrame_ring (h : Hub) (p : TetherPort) (bs : List Byte) : (h.faultyFrame p bs).ring = h.ring := by simp [Hub.faultyFrame]

@[simp] theorem Hub.byDest_ring (h : Hub) (p : TetherPort) (dest : Nat) (bs : List Byte) {f : Hub → Hub} (hf : ∀ g, (f g).ring = g.ring) :
    (h.byDest p dest bs f).ring = h.ring := by
  unfold Hub.byDest
  repeat' split
  all_goals simp [hf]

@[simp] theorem Hub.frameReceive_ring (h : Hub) (p : TetherPort) (f : TetherFrame) : (h.frameReceive p f).ring = h.ring := by simp [Hub.frameReceive]
@[simp] theorem Hub.commandFrame_ring (h : Hub) (p : TetherPort) (bs : List Byte) : (h.commandFrame p bs).ring = h.ring := by simp [Hub.commandFrame]
@[simp] theorem Hub.linkRow_ring (h : Hub) (p : TetherPort) (up : Bool) : (h.linkRow p up).ring = h.ring := by simp [Hub.linkRow]
@[simp] theorem Hub.echoRow_ring (h : Hub) (p : TetherPort) : (h.echoRow p).ring = h.ring := by simp [Hub.echoRow]
@[simp] theorem Hub.notifyAgain_ring (h : Hub) (k : Nat) : (h.notifyAgain k).ring = h.ring := by simp [Hub.notifyAgain]

/-! ## Rows over an effect -/

/-- A row over an effect that keeps the ring keeps its canonical form. -/
theorem run_memoryWf {ok : Bool} {f : Hub → Hub} {s t : State} (ht : run ok f s = .next t) (hm : s.memoryWf = true)
    (hf : (f s.hub).ring = s.hub.ring) : t.memoryWf = true := by
  obtain ⟨-, rfl⟩ := run_next.1 ht
  exact (congrArg Memory.wf hf).trans hm

theorem always_memoryWf {f : Hub → Hub} {s t : State} (ht : always f s = .next t) (hm : s.memoryWf = true)
    (hf : (f s.hub).ring = s.hub.ring) : t.memoryWf = true :=
  run_memoryWf (ok := true) ht hm hf

/-! ## The rows that may renew the snapshot -/

/-- A reset leaves an empty ring. -/
theorem State.reboot_memoryWf {s : State} {f : Hub → Hub} (hf : (f s.hub).ring = []) : (s.reboot f).memoryWf = true :=
  congrArg Memory.wf hf

theorem State.frameBoundary_memoryWf {s : State} (src : List (Nat × Int)) (hm : s.memoryWf = true) : (s.frameBoundary src).memoryWf = true := by
  have hr : ((s.hub.frameEnd src).frameBegin).ring = s.hub.ring := by simp
  unfold State.frameBoundary
  generalize (s.hub.frameEnd src).frameBegin = g at hr ⊢
  split
  · dsimp only
    split
    · exact State.reboot_memoryWf (g.resetBy_ring 6 false 0)
    · exact (congrArg Memory.wf hr).trans hm
  · exact hm

theorem State.blockBoundary_memoryWf {s : State} (m : Measures) (hm : s.memoryWf = true) : (s.blockBoundary m).memoryWf = true := by
  unfold State.blockBoundary
  split
  · exact Hub.blockBoundary_wf m hm
  · exact hm

theorem State.lowPowerBrownOut_memoryWf {s : State} (hm : s.memoryWf = true) : s.lowPowerBrownOut.memoryWf = true := by
  unfold State.lowPowerBrownOut
  split
  · rfl
  · exact hm

theorem State.stableEntry_memoryWf {s : State} (hm : s.memoryWf = true) : s.stableEntry.memoryWf = true := by
  unfold State.stableEntry
  dsimp only
  split
  · exact State.reboot_memoryWf (Hub.wakeReset_ring _ _ _)
  · exact (congrArg Memory.wf s.hub.stableEntry_ring).trans hm

theorem State.wake_memoryWf {s : State} (c : WakeSource) (hm : s.memoryWf = true) : (s.wake c).memoryWf = true := by
  unfold State.wake
  split
  · split
    · exact State.reboot_memoryWf (Hub.wakeReset_ring _ _ _)
    · split
      · exact (congrArg Memory.wf (s.hub.latchWake_ring c)).trans hm
      · exact hm
  · exact hm

theorem State.twiStart_memoryWf {s : State} (addr : Nat) (isRead : Bool) (n : Nat) (hm : s.memoryWf = true) :
    (s.twiStart addr isRead n).memoryWf = true := by
  unfold State.twiStart
  dsimp only
  split
  · exact hm
  split
  · exact hm
  split
  · exact State.reboot_memoryWf ((Hub.startStretched_ring _ _ _ _).trans (by simp))
  split
  · exact hm
  split
  · exact (congrArg Memory.wf (s.hub.startStretched_ring _ _ _)).trans hm
  · exact (congrArg Memory.wf (s.hub.startServed_ring _ _ _)).trans hm

/-! ## Every row -/

/-- Every command keeps the ring in its canonical form: the rows that renew the snapshot and the port's frame by their own lemmas, every other row by
the equation of its effect. -/
theorem exec_memoryWf {i : Instr} {s t : State} (hm : s.memoryWf = true) (ht : exec i s = .next t) : t.memoryWf = true := by
  cases i
  case powerOnReset | resetN | coreBrownOut | thermalReset =>
    cases ht
    rfl
  case frameBoundary src =>
    cases ht
    exact State.frameBoundary_memoryWf src hm
  case blockBoundary m =>
    cases ht
    exact State.blockBoundary_memoryWf m hm
  case lowPowerBrownOut =>
    cases ht
    exact State.lowPowerBrownOut_memoryWf hm
  case stableEntryComplete =>
    cases ht
    exact State.stableEntry_memoryWf hm
  case stableWake c =>
    cases ht
    exact State.wake_memoryWf c hm
  case wakeTimerExpiry =>
    cases ht
    exact State.wake_memoryWf .timer hm
  case wakeComparatorFire c =>
    by_cases hc : isChannel c = true
    · cases (if_pos hc).symm.trans ht
      exact State.wake_memoryWf (.comparator c) hm
    · cases (if_neg hc).symm.trans ht
  case twiAddressMatch addr isRead n =>
    cases ht
    exact State.twiStart_memoryWf addr isRead n hm
  case portFrame p f =>
    obtain ⟨-, rfl⟩ := run_next.1 ht
    exact Hub.portFrame_wf p f hm
  case supervisorWatchdogExpiry | supervisorRestartComplete | reliefLaneLoadComplete | dspTakeoverComplete | l8PatrolPeriodEnd | l8PatrolMismatch |
    l8RecheckComplete | vphLoss | vphReturn | combinerSample | patrolScan | panicMute | panicRelease | analogRailLow | analogRailRecover |
    inputRailMute | avddLow | avddRecover | spkOvercurrent | spkRestart | spkDcFault | vspkOutOfRange | vspkRecover | spkSequenceEnd | hpPowerupStep |
    clkXinStartTimeout | storedHoldStore | reinPhaseSample | reinLock | reinLimitEntry | anchorLoss | wckinEdge | wckinPeriodMissed | wckinRateFound |
    xtalFailure | xinRecovered | autoStore | storeRowWritten | twiStopCommit | brstNReset | busTimeout | alertResponse | alertRepeat |
    watchHostAccess | watchClockRegate | tetherLinkChange | tetherFrameReceive | tetherCommandFrame | sync | tetherTimeLockChange | echoReq | echoRsp |
    rollcall | confirm | rollcallTimeout | quiesceEnd | watchEntryComplete | watchExitStep | bringUpStep | reducedServiceStart | bootImageChecked |
    fullService | flashProgramDone | updateVerifyComplete | activationDue | activationStepEnd | supplyDipStart | supplyDipEnd | vioWarn | thermalWarn |
    thermalCrit | thermalRecover | vioRecover | brstNRelease | flushIncomplete => exact always_memoryWf ht hm (by simp)
  all_goals exact run_memoryWf ht hm (by simp)

/-- Settles O60: the row at the front keeps the form, and an empty queue leaves the state. -/
theorem everyStepKeepsTheRing : Obligations.EveryStepKeepsTheRing := by
  intro s t hm ht
  unfold step at ht
  split at ht
  · cases ht
    exact hm
  · next c rest _ => exact exec_memoryWf (i := c) (s := { s with pending := rest }) hm ht

end Sys2Proof.Machine
end

section
/-! SUPPORT. Reads across updates: what an instance, a deadline or a setting reads as after an update of something else, as equations for rewriting, and
what a pass over distinct instances leaves in each of them. -/

namespace Sys2Proof.Machine

/-! ## Other instances of the same kind -/

@[simp] theorem Hub.input_modInput (h : Hub) (n m : Nat) (f : Input → Input) :
    (h.modInput n f).input m = if m = n then f (h.input m) else h.input m := by
  split
  · next hm => rw [hm, Hub.modInput_input]
  · next hm => exact Hub.modInput_input_other h f hm

@[simp] theorem Hub.headMic_modHeadMic (h : Hub) (n m : Nat) (f : HeadMic → HeadMic) :
    (h.modHeadMic n f).headMic m = if m = n then f (h.headMic m) else h.headMic m := by
  split
  · next hm => rw [hm, Hub.modHeadMic_headMic]
  · next hm => exact Hub.modHeadMic_headMic_other h f hm

@[simp] theorem Hub.output_modOutput (h : Hub) (n m : Nat) (f : Output → Output) :
    (h.modOutput n f).output m = if m = n then f (h.output m) else h.output m := by
  split
  · next hm => rw [hm, Hub.modOutput_output]
  · next hm => exact Hub.modOutput_output_other h f hm

@[simp] theorem Hub.headphone_modHeadphone (h : Hub) (n m : Nat) (f : Headphone → Headphone) :
    (h.modHeadphone n f).headphone m = if m = n then f (h.headphone m) else h.headphone m := by
  split
  · next hm => rw [hm, Hub.modHeadphone_headphone]
  · next hm => exact Hub.modHeadphone_headphone_other h f hm

@[simp] theorem Hub.port_modPort (h : Hub) (n m : Nat) (f : Port → Port) :
    (h.modPort n f).port m = if m = n then f (h.port m) else h.port m := by
  split
  · next hm => rw [hm, Hub.modPort_port]
  · next hm => exact Hub.modPort_port_other h f hm

@[simp] theorem Hub.host_modHost (h : Hub) (n m : Nat) (f : HostSlot → HostSlot) :
    (h.modHost n f).host m = if m = n then f (h.host m) else h.host m := by
  split
  · next hm => rw [hm, Hub.modHost_host]
  · next hm => exact Hub.modHost_host_other h f hm

theorem Hub.modLane_lane_other (h : Hub) {n m : Nat} (f : Lane → Lane) (hm : m ≠ n) : (h.modLane n f).lane m = h.lane m := by
  simp [Hub.modLane, Hub.lane, tget_tput_other _ _ hm]

@[simp] theorem Hub.lane_modLane (h : Hub) (n m : Nat) (f : Lane → Lane) :
    (h.modLane n f).lane m = if m = n then f (h.lane m) else h.lane m := by
  split
  · next hm => rw [hm, Hub.modLane_lane]
  · next hm => exact Hub.modLane_lane_other h f hm

@[simp] theorem Hub.proc_modProc (h : Hub) (n m : Nat) (f : Process → Process) :
    (h.modProc n f).proc m = if m = n then f (h.proc m) else h.proc m := by
  split
  · next hm => rw [hm, Hub.modProc_proc]
  · next hm => exact Hub.modProc_proc_other h f hm

/-! ## Deadlines -/

@[simp] theorem Hub.deadline_startAt (h : Hub) (t u : Timer) (d : Nat) : (h.startAt t d).deadline u = if u = t then some d else h.deadline u := by
  split
  · next hu => rw [hu, Hub.startAt_deadline]
  · next hu => exact Hub.startAt_deadline_other h d hu

@[simp] theorem Hub.deadline_start (h : Hub) (t u : Timer) (d : Nat) :
    (h.start t d).deadline u = if u = t then some (h.now + d) else h.deadline u :=
  Hub.deadline_startAt h t u _

@[simp] theorem Hub.deadline_cancel (h : Hub) (t u : Timer) : (h.cancel t).deadline u = if u = t then none else h.deadline u := by
  split
  · next hu => rw [hu, Hub.cancel_deadline]
  · next hu => exact Hub.cancel_deadline_other h hu

section
variable (h : Hub) (t : Timer) (d n : Nat)

@[simp] theorem Hub.startAt_input : (h.startAt t d).input n = h.input n := rfl
@[simp] theorem Hub.startAt_headMic : (h.startAt t d).headMic n = h.headMic n := rfl
@[simp] theorem Hub.startAt_output : (h.startAt t d).output n = h.output n := rfl
@[simp] theorem Hub.startAt_headphone : (h.startAt t d).headphone n = h.headphone n := rfl
@[simp] theorem Hub.startAt_port : (h.startAt t d).port n = h.port n := rfl
@[simp] theorem Hub.startAt_host : (h.startAt t d).host n = h.host n := rfl
@[simp] theorem Hub.startAt_lane : (h.startAt t d).lane n = h.lane n := rfl
@[simp] theorem Hub.startAt_proc : (h.startAt t d).proc n = h.proc n := rfl
@[simp] theorem Hub.startAt_chan : (h.startAt t d).chan n = h.chan n := rfl
@[simp] theorem Hub.startAt_ctx : (h.startAt t d).ctx n = h.ctx n := rfl
@[simp] theorem Hub.startAt_sink : (h.startAt t d).sink n = h.sink n := rfl
@[simp] theorem Hub.startAt_term : (h.startAt t d).term n = h.term n := rfl
@[simp] theorem Hub.startAt_bus : (h.startAt t d).bus n = h.bus n := rfl
@[simp] theorem Hub.startAt_gen : (h.startAt t d).gen n = h.gen n := rfl
@[simp] theorem Hub.startAt_slot : (h.startAt t d).slot n = h.slot n := rfl
@[simp] theorem Hub.startAt_short : (h.startAt t d).short n = h.short n := rfl
@[simp] theorem Hub.startAt_live? (idx sub : Nat) : (h.startAt t d).live? idx sub = h.live? idx sub := rfl
@[simp] theorem Hub.startAt_relief (u : ReliefUnit) : (h.startAt t d).relief u = h.relief u := by cases u <;> rfl
@[simp] theorem Hub.startAt_slice (sl : SliceId) : (h.startAt t d).slice sl = h.slice sl := by cases sl <;> rfl

end

section
variable (h : Hub) (t : Timer) (d n : Nat)

@[simp] theorem Hub.start_input : (h.start t d).input n = h.input n := rfl
@[simp] theorem Hub.start_headMic : (h.start t d).headMic n = h.headMic n := rfl
@[simp] theorem Hub.start_output : (h.start t d).output n = h.output n := rfl
@[simp] theorem Hub.start_headphone : (h.start t d).headphone n = h.headphone n := rfl
@[simp] theorem Hub.start_port : (h.start t d).port n = h.port n := rfl
@[simp] theorem Hub.start_host : (h.start t d).host n = h.host n := rfl
@[simp] theorem Hub.start_lane : (h.start t d).lane n = h.lane n := rfl
@[simp] theorem Hub.start_chan : (h.start t d).chan n = h.chan n := rfl
@[simp] theorem Hub.start_ctx : (h.start t d).ctx n = h.ctx n := rfl
@[simp] theorem Hub.start_term : (h.start t d).term n = h.term n := rfl
@[simp] theorem Hub.start_bus : (h.start t d).bus n = h.bus n := rfl
@[simp] theorem Hub.start_gen : (h.start t d).gen n = h.gen n := rfl
@[simp] theorem Hub.start_slot : (h.start t d).slot n = h.slot n := rfl
@[simp] theorem Hub.start_short : (h.start t d).short n = h.short n := rfl
@[simp] theorem Hub.start_live? (idx sub : Nat) : (h.start t d).live? idx sub = h.live? idx sub := rfl
@[simp] theorem Hub.start_relief (u : ReliefUnit) : (h.start t d).relief u = h.relief u := by cases u <;> rfl
@[simp] theorem Hub.start_slice (sl : SliceId) : (h.start t d).slice sl = h.slice sl := by cases sl <;> rfl

end

section
variable (h : Hub) (t : Timer) (n : Nat)

@[simp] theorem Hub.cancel_input : (h.cancel t).input n = h.input n := rfl
@[simp] theorem Hub.cancel_headMic : (h.cancel t).headMic n = h.headMic n := rfl
@[simp] theorem Hub.cancel_output : (h.cancel t).output n = h.output n := rfl
@[simp] theorem Hub.cancel_headphone : (h.cancel t).headphone n = h.headphone n := rfl
@[simp] theorem Hub.cancel_port : (h.cancel t).port n = h.port n := rfl
@[simp] theorem Hub.cancel_host : (h.cancel t).host n = h.host n := rfl
@[simp] theorem Hub.cancel_lane : (h.cancel t).lane n = h.lane n := rfl
@[simp] theorem Hub.cancel_chan : (h.cancel t).chan n = h.chan n := rfl
@[simp] theorem Hub.cancel_ctx : (h.cancel t).ctx n = h.ctx n := rfl
@[simp] theorem Hub.cancel_bus : (h.cancel t).bus n = h.bus n := rfl
@[simp] theorem Hub.cancel_slot : (h.cancel t).slot n = h.slot n := rfl
@[simp] theorem Hub.cancel_short : (h.cancel t).short n = h.short n := rfl
@[simp] theorem Hub.cancel_live? (idx sub : Nat) : (h.cancel t).live? idx sub = h.live? idx sub := rfl
@[simp] theorem Hub.cancel_relief (u : ReliefUnit) : (h.cancel t).relief u = h.relief u := by cases u <;> rfl
@[simp] theorem Hub.cancel_slice (sl : SliceId) : (h.cancel t).slice sl = h.slice sl := by cases sl <;> rfl

end

section
variable (h : Hub) (e n : Nat) (sc : Scope)

@[simp] theorem Hub.cause_headMic : (h.cause e sc).headMic n = h.headMic n := rfl
@[simp] theorem Hub.cause_output : (h.cause e sc).output n = h.output n := rfl
@[simp] theorem Hub.cause_headphone : (h.cause e sc).headphone n = h.headphone n := rfl
@[simp] theorem Hub.cause_port : (h.cause e sc).port n = h.port n := rfl
@[simp] theorem Hub.cause_host : (h.cause e sc).host n = h.host n := rfl
@[simp] theorem Hub.cause_lane : (h.cause e sc).lane n = h.lane n := rfl
@[simp] theorem Hub.cause_proc : (h.cause e sc).proc n = h.proc n := rfl
@[simp] theorem Hub.cause_chan : (h.cause e sc).chan n = h.chan n := rfl
@[simp] theorem Hub.cause_ctx : (h.cause e sc).ctx n = h.ctx n := rfl
@[simp] theorem Hub.cause_sink : (h.cause e sc).sink n = h.sink n := rfl
@[simp] theorem Hub.cause_term : (h.cause e sc).term n = h.term n := rfl
@[simp] theorem Hub.cause_bus : (h.cause e sc).bus n = h.bus n := rfl
@[simp] theorem Hub.cause_gen : (h.cause e sc).gen n = h.gen n := rfl
@[simp] theorem Hub.cause_slot : (h.cause e sc).slot n = h.slot n := rfl
@[simp] theorem Hub.cause_short : (h.cause e sc).short n = h.short n := rfl
@[simp] theorem Hub.cause_live? (idx sub : Nat) : (h.cause e sc).live? idx sub = h.live? idx sub := rfl
@[simp] theorem Hub.cause_relief (u : ReliefUnit) : (h.cause e sc).relief u = h.relief u := by cases u <;> rfl
@[simp] theorem Hub.cause_slice (sl : SliceId) : (h.cause e sc).slice sl = h.slice sl := by cases sl <;> rfl
@[simp] theorem Hub.cause_deadline (u : Timer) : (h.cause e sc).deadline u = h.deadline u := rfl

end

section
variable (h : Hub) (e n : Nat) (sc : Scope)

@[simp] theorem Hub.causeNext_input : (h.causeNext e sc).input n = h.input n := rfl
@[simp] theorem Hub.causeNext_headMic : (h.causeNext e sc).headMic n = h.headMic n := rfl
@[simp] theorem Hub.causeNext_output : (h.causeNext e sc).output n = h.output n := rfl
@[simp] theorem Hub.causeNext_headphone : (h.causeNext e sc).headphone n = h.headphone n := rfl
@[simp] theorem Hub.causeNext_port : (h.causeNext e sc).port n = h.port n := rfl
@[simp] theorem Hub.causeNext_host : (h.causeNext e sc).host n = h.host n := rfl
@[simp] theorem Hub.causeNext_lane : (h.causeNext e sc).lane n = h.lane n := rfl
@[simp] theorem Hub.causeNext_proc : (h.causeNext e sc).proc n = h.proc n := rfl
@[simp] theorem Hub.causeNext_chan : (h.causeNext e sc).chan n = h.chan n := rfl
@[simp] theorem Hub.causeNext_ctx : (h.causeNext e sc).ctx n = h.ctx n := rfl
@[simp] theorem Hub.causeNext_sink : (h.causeNext e sc).sink n = h.sink n := rfl
@[simp] theorem Hub.causeNext_term : (h.causeNext e sc).term n = h.term n := rfl
@[simp] theorem Hub.causeNext_bus : (h.causeNext e sc).bus n = h.bus n := rfl
@[simp] theorem Hub.causeNext_gen : (h.causeNext e sc).gen n = h.gen n := rfl
@[simp] theorem Hub.causeNext_slot : (h.causeNext e sc).slot n = h.slot n := rfl
@[simp] theorem Hub.causeNext_short : (h.causeNext e sc).short n = h.short n := rfl
@[simp] theorem Hub.causeNext_live? (idx sub : Nat) : (h.causeNext e sc).live? idx sub = h.live? idx sub := rfl
@[simp] theorem Hub.causeNext_relief (u : ReliefUnit) : (h.causeNext e sc).relief u = h.relief u := by cases u <;> rfl
@[simp] theorem Hub.causeNext_slice (sl : SliceId) : (h.causeNext e sc).slice sl = h.slice sl := by cases sl <;> rfl
@[simp] theorem Hub.causeNext_deadline (u : Timer) : (h.causeNext e sc).deadline u = h.deadline u := rfl

end

/-! ## Updates of one kind of instance leave the others -/

section
variable (h : Hub) (n k : Nat) (f : Input → Input)

@[simp] theorem Hub.modInput_headMic : (h.modInput n f).headMic k = h.headMic k := rfl
@[simp] theorem Hub.modInput_output : (h.modInput n f).output k = h.output k := rfl
@[simp] theorem Hub.modInput_headphone : (h.modInput n f).headphone k = h.headphone k := rfl
@[simp] theorem Hub.modInput_port : (h.modInput n f).port k = h.port k := rfl
@[simp] theorem Hub.modInput_host : (h.modInput n f).host k = h.host k := rfl
@[simp] theorem Hub.modInput_lane : (h.modInput n f).lane k = h.lane k := rfl
@[simp] theorem Hub.modInput_proc : (h.modInput n f).proc k = h.proc k := rfl
@[simp] theorem Hub.modInput_deadline (t : Timer) : (h.modInput n f).deadline t = h.deadline t := rfl
@[simp] theorem Hub.modInput_live? (idx sub : Nat) : (h.modInput n f).live? idx sub = h.live? idx sub := rfl

end

section
variable (h : Hub) (n k : Nat) (f : HeadMic → HeadMic)

@[simp] theorem Hub.modHeadMic_input : (h.modHeadMic n f).input k = h.input k := rfl
@[simp] theorem Hub.modHeadMic_output : (h.modHeadMic n f).output k = h.output k := rfl
@[simp] theorem Hub.modHeadMic_headphone : (h.modHeadMic n f).headphone k = h.headphone k := rfl
@[simp] theorem Hub.modHeadMic_port : (h.modHeadMic n f).port k = h.port k := rfl
@[simp] theorem Hub.modHeadMic_host : (h.modHeadMic n f).host k = h.host k := rfl
@[simp] theorem Hub.modHeadMic_lane : (h.modHeadMic n f).lane k = h.lane k := rfl
@[simp] theorem Hub.modHeadMic_proc : (h.modHeadMic n f).proc k = h.proc k := rfl
@[simp] theorem Hub.modHeadMic_deadline (t : Timer) : (h.modHeadMic n f).deadline t = h.deadline t := rfl
@[simp] theorem Hub.modHeadMic_live? (idx sub : Nat) : (h.modHeadMic n f).live? idx sub = h.live? idx sub := rfl

end

section
variable (h : Hub) (n k : Nat) (f : Output → Output)

@[simp] theorem Hub.modOutput_input : (h.modOutput n f).input k = h.input k := rfl
@[simp] theorem Hub.modOutput_headMic : (h.modOutput n f).headMic k = h.headMic k := rfl
@[simp] theorem Hub.modOutput_headphone : (h.modOutput n f).headphone k = h.headphone k := rfl
@[simp] theorem Hub.modOutput_port : (h.modOutput n f).port k = h.port k := rfl
@[simp] theorem Hub.modOutput_host : (h.modOutput n f).host k = h.host k := rfl
@[simp] theorem Hub.modOutput_lane : (h.modOutput n f).lane k = h.lane k := rfl
@[simp] theorem Hub.modOutput_proc : (h.modOutput n f).proc k = h.proc k := rfl
@[simp] theorem Hub.modOutput_deadline (t : Timer) : (h.modOutput n f).deadline t = h.deadline t := rfl
@[simp] theorem Hub.modOutput_live? (idx sub : Nat) : (h.modOutput n f).live? idx sub = h.live? idx sub := rfl

end

section
variable (h : Hub) (n k : Nat) (f : Headphone → Headphone)

@[simp] theorem Hub.modHeadphone_input : (h.modHeadphone n f).input k = h.input k := rfl
@[simp] theorem Hub.modHeadphone_headMic : (h.modHeadphone n f).headMic k = h.headMic k := rfl
@[simp] theorem Hub.modHeadphone_output : (h.modHeadphone n f).output k = h.output k := rfl
@[simp] theorem Hub.modHeadphone_port : (h.modHeadphone n f).port k = h.port k := rfl
@[simp] theorem Hub.modHeadphone_host : (h.modHeadphone n f).host k = h.host k := rfl
@[simp] theorem Hub.modHeadphone_lane : (h.modHeadphone n f).lane k = h.lane k := rfl
@[simp] theorem Hub.modHeadphone_proc : (h.modHeadphone n f).proc k = h.proc k := rfl
@[simp] theorem Hub.modHeadphone_deadline (t : Timer) : (h.modHeadphone n f).deadline t = h.deadline t := rfl
@[simp] theorem Hub.modHeadphone_live? (idx sub : Nat) : (h.modHeadphone n f).live? idx sub = h.live? idx sub := rfl

end

section
variable (h : Hub) (n k : Nat) (f : Port → Port)

@[simp] theorem Hub.modPort_input : (h.modPort n f).input k = h.input k := rfl
@[simp] theorem Hub.modPort_headMic : (h.modPort n f).headMic k = h.headMic k := rfl
@[simp] theorem Hub.modPort_output : (h.modPort n f).output k = h.output k := rfl
@[simp] theorem Hub.modPort_headphone : (h.modPort n f).headphone k = h.headphone k := rfl
@[simp] theorem Hub.modPort_host : (h.modPort n f).host k = h.host k := rfl
@[simp] theorem Hub.modPort_lane : (h.modPort n f).lane k = h.lane k := rfl
@[simp] theorem Hub.modPort_proc : (h.modPort n f).proc k = h.proc k := rfl
@[simp] theorem Hub.modPort_deadline (t : Timer) : (h.modPort n f).deadline t = h.deadline t := rfl
@[simp] theorem Hub.modPort_live? (idx sub : Nat) : (h.modPort n f).live? idx sub = h.live? idx sub := rfl

end

section
variable (h : Hub) (n k : Nat) (f : HostSlot → HostSlot)

@[simp] theorem Hub.modHost_input : (h.modHost n f).input k = h.input k := rfl
@[simp] theorem Hub.modHost_headMic : (h.modHost n f).headMic k = h.headMic k := rfl
@[simp] theorem Hub.modHost_output : (h.modHost n f).output k = h.output k := rfl
@[simp] theorem Hub.modHost_headphone : (h.modHost n f).headphone k = h.headphone k := rfl
@[simp] theorem Hub.modHost_port : (h.modHost n f).port k = h.port k := rfl
@[simp] theorem Hub.modHost_lane : (h.modHost n f).lane k = h.lane k := rfl
@[simp] theorem Hub.modHost_proc : (h.modHost n f).proc k = h.proc k := rfl
@[simp] theorem Hub.modHost_deadline (t : Timer) : (h.modHost n f).deadline t = h.deadline t := rfl
@[simp] theorem Hub.modHost_live? (idx sub : Nat) : (h.modHost n f).live? idx sub = h.live? idx sub := rfl

end

section
variable (h : Hub) (n k : Nat) (f : Lane → Lane)

@[simp] theorem Hub.modLane_input : (h.modLane n f).input k = h.input k := rfl
@[simp] theorem Hub.modLane_headMic : (h.modLane n f).headMic k = h.headMic k := rfl
@[simp] theorem Hub.modLane_output : (h.modLane n f).output k = h.output k := rfl
@[simp] theorem Hub.modLane_headphone : (h.modLane n f).headphone k = h.headphone k := rfl
@[simp] theorem Hub.modLane_port : (h.modLane n f).port k = h.port k := rfl
@[simp] theorem Hub.modLane_host : (h.modLane n f).host k = h.host k := rfl
@[simp] theorem Hub.modLane_proc : (h.modLane n f).proc k = h.proc k := rfl
@[simp] theorem Hub.modLane_deadline (t : Timer) : (h.modLane n f).deadline t = h.deadline t := rfl
@[simp] theorem Hub.modLane_live? (idx sub : Nat) : (h.modLane n f).live? idx sub = h.live? idx sub := rfl

end

section
variable (h : Hub) (n k : Nat) (f : Process → Process)

@[simp] theorem Hub.modProc_input : (h.modProc n f).input k = h.input k := rfl
@[simp] theorem Hub.modProc_headMic : (h.modProc n f).headMic k = h.headMic k := rfl
@[simp] theorem Hub.modProc_output : (h.modProc n f).output k = h.output k := rfl
@[simp] theorem Hub.modProc_headphone : (h.modProc n f).headphone k = h.headphone k := rfl
@[simp] theorem Hub.modProc_port : (h.modProc n f).port k = h.port k := rfl
@[simp] theorem Hub.modProc_host : (h.modProc n f).host k = h.host k := rfl
@[simp] theorem Hub.modProc_lane : (h.modProc n f).lane k = h.lane k := rfl
@[simp] theorem Hub.modProc_live? (idx sub : Nat) : (h.modProc n f).live? idx sub = h.live? idx sub := rfl

end

/-! ## Parts of an instance -/

@[simp] theorem Hub.modPhantom_eq (h : Hub) (n : Nat) (f : Phantom → Phantom) :
    h.modPhantom n f = h.modInput n (fun x => { x with phantom := f x.phantom }) := rfl
@[simp] theorem Hub.modTandem_eq (h : Hub) (n : Nat) (f : Tandem → Tandem) :
    h.modTandem n f = h.modInput n (fun x => { x with tandem := f x.tandem }) := rfl
@[simp] theorem Hub.modCv_eq (h : Hub) (n : Nat) (f : CvPart → CvPart) : h.modCv n f = h.modOutput n (fun o => { o with cv := f o.cv }) := rfl
@[simp] theorem Hub.modAudio_eq (h : Hub) (n : Nat) (f : AudioPart → AudioPart) :
    h.modAudio n f = h.modOutput n (fun o => { o with audio := f o.audio }) := rfl
@[simp] theorem Hub.modJack_eq (h : Hub) (j : Nat) (f : Jack → Jack) :
    h.modJack j f = h.modHeadphone j (fun x => { x with jack := f x.jack }) := rfl

/-! ## A cause recorded where a condition holds -/

section
variable (h : Hub) (c : Bool) (e n : Nat) (sc : Scope)

@[simp] theorem Hub.when_cause_now : (h.when c (·.cause e sc)).now = h.now := by cases c <;> rfl
@[simp] theorem Hub.when_cause_sub : (h.when c (·.cause e sc)).sub = h.sub := by cases c <;> rfl
@[simp] theorem Hub.when_cause_framesRun : (h.when c (·.cause e sc)).framesRun = h.framesRun := by cases c <;> rfl
@[simp] theorem Hub.when_cause_blockDone : (h.when c (·.cause e sc)).blockDone = h.blockDone := by cases c <;> rfl
@[simp] theorem Hub.when_cause_timers : (h.when c (·.cause e sc)).timers = h.timers := by cases c <;> rfl
@[simp] theorem Hub.when_cause_objs : (h.when c (·.cause e sc)).objs = h.objs := by cases c <;> rfl
@[simp] theorem Hub.when_cause_live : (h.when c (·.cause e sc)).live = h.live := by cases c <;> rfl
@[simp] theorem Hub.when_cause_nv : (h.when c (·.cause e sc)).nv = h.nv := by cases c <;> rfl
@[simp] theorem Hub.when_cause_frameQ : (h.when c (·.cause e sc)).frameQ = h.frameQ := by cases c <;> rfl
@[simp] theorem Hub.when_cause_batches : (h.when c (·.cause e sc)).batches = h.batches := by cases c <;> rfl
@[simp] theorem Hub.when_cause_clears : (h.when c (·.cause e sc)).clears = h.clears := by cases c <;> rfl
@[simp] theorem Hub.when_cause_evNext : (h.when c (·.cause e sc)).evNext = h.evNext := by cases c <;> rfl
@[simp] theorem Hub.when_cause_pend : (h.when c (·.cause e sc)).pend = h.pend := by cases c <;> rfl
@[simp] theorem Hub.when_cause_mask : (h.when c (·.cause e sc)).mask = h.mask := by cases c <;> rfl
@[simp] theorem Hub.when_cause_occ : (h.when c (·.cause e sc)).occ = h.occ := by cases c <;> rfl
@[simp] theorem Hub.when_cause_hosts : (h.when c (·.cause e sc)).hosts = h.hosts := by cases c <;> rfl
@[simp] theorem Hub.when_cause_mailTwi : (h.when c (·.cause e sc)).mailTwi = h.mailTwi := by cases c <;> rfl
@[simp] theorem Hub.when_cause_mailTether : (h.when c (·.cause e sc)).mailTether = h.mailTether := by cases c <;> rfl
@[simp] theorem Hub.when_cause_owners : (h.when c (·.cause e sc)).owners = h.owners := by cases c <;> rfl
@[simp] theorem Hub.when_cause_trims : (h.when c (·.cause e sc)).trims = h.trims := by cases c <;> rfl
@[simp] theorem Hub.when_cause_ownerDue : (h.when c (·.cause e sc)).ownerDue = h.ownerDue := by cases c <;> rfl
@[simp] theorem Hub.when_cause_ins : (h.when c (·.cause e sc)).ins = h.ins := by cases c <;> rfl
@[simp] theorem Hub.when_cause_hms : (h.when c (·.cause e sc)).hms = h.hms := by cases c <;> rfl
@[simp] theorem Hub.when_cause_outs : (h.when c (·.cause e sc)).outs = h.outs := by cases c <;> rfl
@[simp] theorem Hub.when_cause_hps : (h.when c (·.cause e sc)).hps = h.hps := by cases c <;> rfl
@[simp] theorem Hub.when_cause_spk : (h.when c (·.cause e sc)).spk = h.spk := by cases c <;> rfl
@[simp] theorem Hub.when_cause_sinks : (h.when c (·.cause e sc)).sinks = h.sinks := by cases c <;> rfl
@[simp] theorem Hub.when_cause_gens : (h.when c (·.cause e sc)).gens = h.gens := by cases c <;> rfl
@[simp] theorem Hub.when_cause_terms : (h.when c (·.cause e sc)).terms = h.terms := by cases c <;> rfl
@[simp] theorem Hub.when_cause_shadow : (h.when c (·.cause e sc)).shadow = h.shadow := by cases c <;> rfl
@[simp] theorem Hub.when_cause_buses : (h.when c (·.cause e sc)).buses = h.buses := by cases c <;> rfl
@[simp] theorem Hub.when_cause_commitSeq : (h.when c (·.cause e sc)).commitSeq = h.commitSeq := by cases c <;> rfl
@[simp] theorem Hub.when_cause_lastCommit : (h.when c (·.cause e sc)).lastCommit = h.lastCommit := by cases c <;> rfl
@[simp] theorem Hub.when_cause_slots : (h.when c (·.cause e sc)).slots = h.slots := by cases c <;> rfl
@[simp] theorem Hub.when_cause_shorts : (h.when c (·.cause e sc)).shorts = h.shorts := by cases c <;> rfl
@[simp] theorem Hub.when_cause_sbClipped : (h.when c (·.cause e sc)).sbClipped = h.sbClipped := by cases c <;> rfl
@[simp] theorem Hub.when_cause_procs : (h.when c (·.cause e sc)).procs = h.procs := by cases c <;> rfl
@[simp] theorem Hub.when_cause_lanes : (h.when c (·.cause e sc)).lanes = h.lanes := by cases c <;> rfl
@[simp] theorem Hub.when_cause_dsp : (h.when c (·.cause e sc)).dsp = h.dsp := by cases c <;> rfl
@[simp] theorem Hub.when_cause_clk : (h.when c (·.cause e sc)).clk = h.clk := by cases c <;> rfl
@[simp] theorem Hub.when_cause_ports : (h.when c (·.cause e sc)).ports = h.ports := by cases c <;> rfl
@[simp] theorem Hub.when_cause_cap : (h.when c (·.cause e sc)).cap = h.cap := by cases c <;> rfl
@[simp] theorem Hub.when_cause_asrc : (h.when c (·.cause e sc)).asrc = h.asrc := by cases c <;> rfl
@[simp] theorem Hub.when_cause_twi : (h.when c (·.cause e sc)).twi = h.twi := by cases c <;> rfl
@[simp] theorem Hub.when_cause_tet : (h.when c (·.cause e sc)).tet = h.tet := by cases c <;> rfl
@[simp] theorem Hub.when_cause_store : (h.when c (·.cause e sc)).store = h.store := by cases c <;> rfl
@[simp] theorem Hub.when_cause_sup : (h.when c (·.cause e sc)).sup = h.sup := by cases c <;> rfl
@[simp] theorem Hub.when_cause_irs : (h.when c (·.cause e sc)).irs = h.irs := by cases c <;> rfl
@[simp] theorem Hub.when_cause_ors : (h.when c (·.cause e sc)).ors = h.ors := by cases c <;> rfl
@[simp] theorem Hub.when_cause_sram : (h.when c (·.cause e sc)).sram = h.sram := by cases c <;> rfl
@[simp] theorem Hub.when_cause_chans : (h.when c (·.cause e sc)).chans = h.chans := by cases c <;> rfl
@[simp] theorem Hub.when_cause_pwr : (h.when c (·.cause e sc)).pwr = h.pwr := by cases c <;> rfl
@[simp] theorem Hub.when_cause_boot : (h.when c (·.cause e sc)).boot = h.boot := by cases c <;> rfl
@[simp] theorem Hub.when_cause_upd : (h.when c (·.cause e sc)).upd = h.upd := by cases c <;> rfl
@[simp] theorem Hub.when_cause_ext : (h.when c (·.cause e sc)).ext = h.ext := by cases c <;> rfl
@[simp] theorem Hub.when_cause_supply : (h.when c (·.cause e sc)).supply = h.supply := by cases c <;> rfl
@[simp] theorem Hub.when_cause_draws : (h.when c (·.cause e sc)).draws = h.draws := by cases c <;> rfl
@[simp] theorem Hub.when_cause_input : (h.when c (·.cause e sc)).input n = h.input n := by cases c <;> rfl
@[simp] theorem Hub.when_cause_headMic : (h.when c (·.cause e sc)).headMic n = h.headMic n := by cases c <;> rfl
@[simp] theorem Hub.when_cause_output : (h.when c (·.cause e sc)).output n = h.output n := by cases c <;> rfl
@[simp] theorem Hub.when_cause_headphone : (h.when c (·.cause e sc)).headphone n = h.headphone n := by cases c <;> rfl
@[simp] theorem Hub.when_cause_port : (h.when c (·.cause e sc)).port n = h.port n := by cases c <;> rfl
@[simp] theorem Hub.when_cause_host : (h.when c (·.cause e sc)).host n = h.host n := by cases c <;> rfl
@[simp] theorem Hub.when_cause_bus : (h.when c (·.cause e sc)).bus n = h.bus n := by cases c <;> rfl
@[simp] theorem Hub.when_cause_lane : (h.when c (·.cause e sc)).lane n = h.lane n := by cases c <;> rfl
@[simp] theorem Hub.when_cause_proc : (h.when c (·.cause e sc)).proc n = h.proc n := by cases c <;> rfl
@[simp] theorem Hub.when_cause_deadline (t : Timer) : (h.when c (·.cause e sc)).deadline t = h.deadline t := by cases c <;> rfl
@[simp] theorem Hub.when_cause_live? (idx sub : Nat) : (h.when c (·.cause e sc)).live? idx sub = h.live? idx sub := by cases c <;> rfl

theorem Hub.when_cause_causes : (h.when true (·.cause e sc)).causes e sc := Hub.cause_causes h e sc

end

theorem mem_withOne_of_mem {α : Type} [DecidableEq α] {l : List α} {a b : α} (ha : a ∈ l) : a ∈ withOne l b := by
  unfold withOne
  split
  · exact ha
  · exact List.mem_append_left _ ha

theorem Hub.causes_when_cause {h : Hub} {e : Nat} {sc : Scope} (he : h.causes e sc) (c : Bool) (d : Nat) (sd : Scope) :
    (h.when c (·.cause d sd)).causes e sc := by
  cases c
  · exact he
  · exact mem_withOne_of_mem he

/-- An occurrence of an episodic cause starts an episode: none runs, or its quiet interval is over (R41). -/
def Hub.startsEpisode (h : Hub) (e : Episode) : Bool := !(h.armed (.episode e) && !h.due (.episode e))

theorem Hub.startsEpisode_of_not_armed {h : Hub} {e : Episode} (ha : h.armed (.episode e) = false) : h.startsEpisode e = true := by
  simp [Hub.startsEpisode, ha]

/-- An occurrence restarts the quiet interval, and records its cause where it starts an episode. -/
theorem Hub.episode_cause (h : Hub) (e : Episode) (quiet ev : Nat) (sc : Scope) :
    h.episode e quiet (·.cause ev sc) = (h.when (h.startsEpisode e) (·.cause ev sc)).start (.episode e) quiet := by
  unfold Hub.episode Hub.startsEpisode Hub.when
  cases h.armed (.episode e) && !h.due (.episode e) <;> rfl

/-! ## A pass over distinct instances -/

theorem mem_upTo {lo n k : Nat} : k ∈ upTo lo n ↔ lo ≤ k ∧ k < lo + n := by
  simp only [upTo, List.mem_map, List.mem_range]
  constructor
  · rintro ⟨i, hi, rfl⟩
    omega
  · rintro ⟨hlo, hhi⟩
    exact ⟨k - lo, by omega, by omega⟩

theorem nodup_upTo (lo n : Nat) : (upTo lo n).Nodup := 
  List.Pairwise.map _ (fun _ _ hne heq => hne (Nat.add_left_cancel heq)) List.nodup_range

/-- What every step of a pass keeps, the pass keeps. -/
theorem Hub.forAll_keeps {α : Type} {K : Hub → α} {step : Hub → Nat → Hub} (hK : ∀ g n, K (step g n) = K g) (ns : List Nat) (h : Hub) :
    K (h.forAll ns step) = K h := by
  induction ns generalizing h with
  | nil => rfl
  | cons n ns ih => exact (ih _).trans (hK h n)

/-- An instance the pass does not visit reads as before, where each step changes the instance it visits alone. -/
theorem Hub.forAll_not_mem {α : Type} {R : Hub → Nat → α} {step : Hub → Nat → Hub} (hR : ∀ g n m, m ≠ n → R (step g n) m = R g m)
    {ns : List Nat} {m : Nat} (hm : m ∉ ns) (h : Hub) : R (h.forAll ns step) m = R h m := by
  induction ns generalizing h with
  | nil => rfl
  | cons n ns ih =>
    rw [List.mem_cons, not_or] at hm
    exact (ih hm.2 _).trans (hR h n m hm.1)

/-- An instance the pass visits once reads as its own step leaves it, taken from a hub on which it reads as before and which keeps what the steps keep. -/
theorem Hub.forAll_at {α β : Type} {R : Hub → Nat → α} {K : Hub → β} {step : Hub → Nat → Hub} (hR : ∀ g n m, m ≠ n → R (step g n) m = R g m)
    (hK : ∀ g n, K (step g n) = K g) {ns : List Nat} (hn : ns.Nodup) {m : Nat} (hm : m ∈ ns) (h : Hub) :
    ∃ g, R g m = R h m ∧ K g = K h ∧ R (h.forAll ns step) m = R (step g m) m := by
  induction ns generalizing h with
  | nil => cases hm
  | cons n ns ih =>
    rw [List.nodup_cons] at hn
    rcases List.mem_cons.mp hm with rfl | hm
    · exact ⟨h, rfl, rfl, Hub.forAll_not_mem hR hn.1 _⟩
    · obtain ⟨g, hg, hk, he⟩ := ih hn.2 hm (step h n)
      have hne : m ≠ n := fun e => hn.1 (e ▸ hm)
      exact ⟨g, hg.trans (hR h n m hne), hk.trans (hK h n), he⟩

end Sys2Proof.Machine
end

section
/-! SUPPORT. Phantom power (R33 to R37): what each end of a ramp, a fault and a change of the supply makes of one input, and the passes over the inputs. -/

namespace Sys2Proof.Machine

/-! ## The ends of the ramps (R33, R35) -/

theorem Hub.phantomRampOnEnd_of_due {h : Hub} {n : Nat} (hs : (h.input n).phantom.state = .rampOn) (hd : h.due (.phantomRamp n) = true) :
    h.phantomRampOnEnd n = ((h.cancel (.phantomRamp n)).modPhantom n (fun p => { p with state := .on })).start (.phantomArm n) (ms 50) :=
  (if_pos hs).trans (Hub.whenDue_due hd)

theorem Hub.phantomRampOffEnd_of_off {h : Hub} {n : Nat} (hs : (h.input n).phantom.state = .rampOff) (hd : h.due (.phantomRamp n) = true)
    (ho : (h.input n).phantom.onAfter = false) :
    h.phantomRampOffEnd n = (h.cancel (.phantomRamp n)).modPhantom n (fun p => { p with state := .off, pf := { v0 := 0, v1 := 0 } }) := by
  have hw := Hub.whenDue_due (h := h) (t := .phantomRamp n) hd (f := fun h =>
    (h.modPhantom n (fun p => { p with pf := { v0 := 0, v1 := 0 } })).modPhantom n (fun p => { p with state := .off }))
  simpa [Hub.phantomRampOffEnd, hs, ho, Hub.modInput_modInput] using hw

/-- The input stands at 0 V when a held turn-on starts. -/
theorem Hub.phantomRampOffEnd_of_on {h : Hub} {n : Nat} (hs : (h.input n).phantom.state = .rampOff) (hd : h.due (.phantomRamp n) = true)
    (ho : (h.input n).phantom.onAfter = true) (hv : h.ext.vphLow = false) :
    h.phantomRampOffEnd n = ((h.cancel (.phantomRamp n)).modPhantom n (fun p => { p with pf := { v0 := 0, v1 := 0 } })).phantomOn n := by
  have hw := Hub.whenDue_due (h := h) (t := .phantomRamp n) hd (f := fun h =>
    (h.modPhantom n (fun p => { p with pf := { v0 := 0, v1 := 0 } })).phantomRequestOn n)
  simpa [Hub.phantomRampOffEnd, hs, ho, Hub.phantomRequestOn, hv] using hw

theorem Hub.phantomFaultTimerArm_of_on {h : Hub} {n : Nat} (hs : (h.input n).phantom.state = .on) (hd : h.due (.phantomArm n) = true) :
    h.phantomFaultTimerArm n = (h.cancel (.phantomArm n)).modPhantom n (fun p => { p with armed := true }) :=
  (Hub.whenDue_due hd).trans (if_pos hs)

/-! ## Ramps that start (R33) -/

/-- The length of a turn-on ramp from `v`, at VPH per 100 ms. -/
def Hub.rampOnLen (h : Hub) (v : Nat) : Nat := if h.vphMv = 0 then 0 else (ms 100 * (h.vphMv - v) + h.vphMv - 1) / h.vphMv

/-- Phantom power ramping up from `v`. -/
def Hub.rampingOn (h : Hub) (v : Nat) (p : Phantom) : Phantom :=
  { p with state := .rampOn, closed := true, armed := false, onAfter := false, offAfter := false, readsZero := false, want := true
           pf := { v0 := v, v1 := h.vphMv, t0 := h.now, len := h.rampOnLen v } }

theorem Hub.rampingOn_congr {g h : Hub} (he : g.ext = h.ext) (hn : g.now = h.now) (v : Nat) (p : Phantom) : g.rampingOn v p = h.rampingOn v p := by
  unfold Hub.rampingOn Hub.rampOnLen Hub.vphMv
  rw [he, hn]

theorem Hub.phantomOn_eq (h : Hub) (n : Nat) :
    h.phantomOn n =
      ((h.modPhantom n (h.rampingOn (h.pfMv n))).start (.phantomRamp n) (h.rampOnLen (h.pfMv n))).cancel (.phantomArm n) := rfl

/-! ## A fault (R34) -/

/-- Phantom power ramping down from `v` in state `st`. -/
def Hub.rampingOff (h : Hub) (v : Nat) (st : PhantomState) (p : Phantom) : Phantom :=
  { p with state := st, closed := false, armed := false, onAfter := false, offAfter := false, want := false
           pf := { v0 := v, v1 := 0, t0 := h.now, len := if h.vphMv = 0 then 0 else (ms 200 * v + h.vphMv - 1) / h.vphMv } }

theorem Hub.phantomOff_eq (h : Hub) (n : Nat) (st : PhantomState) :
    h.phantomOff n st =
      ((h.modPhantom n (h.rampingOff (h.pfMv n) st)).start (.phantomRamp n)
        (if h.vphMv = 0 then 0 else (ms 200 * h.pfMv n + h.vphMv - 1) / h.vphMv)).cancel (.phantomArm n) := rfl

/-- An input that counts a phantom fault. -/
def Input.faultCounted (x : Input) : Input :=
  { x with phantomFaults := satInc 255 x.phantomFaults, sat := if x.phantomFaults + 1 = 255 then x.sat ||| 4 else x.sat }

theorem Hub.countPhantomFault_eq (h : Hub) (n : Nat) :
    h.countPhantomFault n = (h.modInput n Input.faultCounted).when (decide ((h.input n).phantomFaults + 1 = 255)) (·.cause evCounterSat) := rfl

theorem Hub.phantomFault_of_armed {h : Hub} {n : Nat} (ha : (h.input n).phantom.armed = true) (hs : (h.input n).phantom.state = .on) :
    h.phantomFault n =
      ((((h.phantomOff n .fault).modPhantom n (fun p => { p with readsZero := true })).countPhantomFault n).modInput n
        (fun x => { x with cause := x.cause ||| 4 })).episode (.inputPhantom n) (ms 100) (·.cause (evInputGroup n)) :=
  if_pos ⟨ha, hs⟩

/-- Settles O2: the switch opens, the counter counts and an episode of the group event runs. -/
theorem phantomFaultTurnsOff : Obligations.PhantomFaultTurnsOff := by
  intro s n hn hs ha
  refine answers_of_run (f := (·.phantomFault n)) rfl hn ?_
  rw [Hub.phantomFault_of_armed ha hs, Hub.episode_cause, Hub.countPhantomFault_eq, Hub.phantomOff_eq]
  refine ⟨by simp [Hub.rampingOff, Input.faultCounted, ms], by simp [Input.faultCounted, satInc], by simp [Input.faultCounted],
    by simp [Hub.rampingOff, Input.faultCounted], by simp, ?_, by simp [ms], fun m hm => by simp [hm], by simp⟩
  intro hq
  rw [Hub.startsEpisode_of_not_armed (by simpa [Hub.armed] using hq)]
  exact Hub.when_cause_causes _ _ _

/-- Settles O1: each row is an equation under its deadline, and the reads follow. -/
theorem phantomRampsAndArming : Obligations.PhantomRampsAndArming := by
  refine ⟨?on, ?off, ?onAgain, ?arm⟩
  case on =>
    intro s n hn hs hd
    refine answers_of_run (f := (·.phantomRampOnEnd n)) rfl hn ?_
    rw [Hub.phantomRampOnEnd_of_due hs hd]
    exact ⟨by simp, by simp, by simp [ms], fun u hr ha => by simp [hr, ha], fun m hm => by simp [hm], rfl⟩
  case off =>
    intro s n hn hs hd ho
    refine answers_of_run (f := (·.phantomRampOffEnd n)) rfl hn ?_
    rw [Hub.phantomRampOffEnd_of_off hs hd ho]
    exact ⟨by simp, by simp, fun u hr => by simp [hr], fun m hm => by simp [hm], rfl⟩
  case onAgain =>
    intro s n hn hs hd ho hv
    refine answers_of_run (f := (·.phantomRampOffEnd n)) rfl hn ?_
    rw [Hub.phantomRampOffEnd_of_on hs hd ho hv, Hub.phantomOn_eq]
    refine ⟨by simp [Hub.rampingOn], by simp [Hub.rampingOn], by simp [Hub.rampingOn], ?_, ?_, by simp [Hub.rampingOn], by simp [Hub.rampingOn],
      fun m hm => by simp [hm], by simp⟩
    · simp [Hub.rampingOn, Hub.pfMv, LinRamp.at]
    · simp [Hub.rampingOn, Hub.vphMv, Nat.mul_comm]
  case arm =>
    intro s n hn hs hd
    refine answers_of_run (f := (·.phantomFaultTimerArm n)) rfl hn ?_
    rw [Hub.phantomFaultTimerArm_of_on hs hd]
    exact ⟨by simp, by simp, fun m hm => by simp [hm], rfl⟩

/-! ## What phantom power of one input leaves (R33 to R37) -/

/-- All of the hub but the inputs and the deadlines. -/
def Hub.besideInputs (h : Hub) : Hub := { h with ins := [], timers := [] }

/-- An input with the deadlines of its phantom power. -/
def Hub.phantomPart (h : Hub) (n : Nat) : Input × Option Nat × Option Nat :=
  (h.input n, h.deadline (.phantomRamp n), h.deadline (.phantomArm n))

/-- `g` differs from `h` in input `n` and its deadlines alone. -/
def Hub.DiffersAt (h g : Hub) (n : Nat) : Prop := g.besideInputs = h.besideInputs ∧ ∀ m, m ≠ n → g.phantomPart m = h.phantomPart m

theorem Hub.differsAt_refl (h : Hub) (n : Nat) : h.DiffersAt h n := ⟨rfl, fun _ _ => rfl⟩

theorem Hub.differsAt_modInput (h : Hub) (n : Nat) (f : Input → Input) : h.DiffersAt (h.modInput n f) n :=
  ⟨by simp [Hub.besideInputs], fun m hm => by simp [Hub.phantomPart, hm]⟩

theorem Hub.differsAt_phantomOn (h : Hub) (n : Nat) : h.DiffersAt (h.phantomOn n) n :=
  ⟨by simp [Hub.phantomOn, Hub.besideInputs], fun m hm => by simp [Hub.phantomOn, Hub.phantomPart, hm]⟩

theorem Hub.differsAt_phantomOff (h : Hub) (n : Nat) (st : PhantomState) : h.DiffersAt (h.phantomOff n st) n :=
  ⟨by simp [Hub.phantomOff, Hub.besideInputs], fun m hm => by simp [Hub.phantomOff, Hub.phantomPart, hm]⟩

theorem Hub.differsAt_phantomNoSupply (h : Hub) (n : Nat) : h.DiffersAt (h.phantomNoSupply n) n :=
  ⟨by simp [Hub.phantomNoSupply, Hub.besideInputs], fun m hm => by simp [Hub.phantomNoSupply, Hub.phantomPart, hm]⟩

theorem Hub.differsAt_phantomRequestOn (h : Hub) (n : Nat) : h.DiffersAt (h.phantomRequestOn n) n := by
  unfold Hub.phantomRequestOn
  split
  · exact h.differsAt_phantomNoSupply n
  · exact h.differsAt_phantomOn n

/-- A PHANTOM value that takes effect changes its own input alone. -/
theorem Hub.differsAt_phantomApply (h : Hub) (n : Nat) (v : Bool) : h.DiffersAt (h.phantomApply n v) n := by
  unfold Hub.phantomApply
  dsimp only
  split
  · exact h.differsAt_modInput n _
  split
  · exact h.differsAt_phantomRequestOn n
  · exact h.differsAt_refl n
  · exact h.differsAt_refl n
  · exact h.differsAt_phantomOff n _
  · exact h.differsAt_refl n
  · exact h.differsAt_phantomOff n _
  · exact h.differsAt_modInput n _
  · exact h.differsAt_modInput n _
  · split
    · exact h.differsAt_modInput n _
    · exact h.differsAt_phantomRequestOn n
  · split
    · exact h.differsAt_modInput n _
    · exact h.differsAt_modInput n _
  · exact h.differsAt_modInput n _
  · exact h.differsAt_refl n

theorem Hub.phantomApply_of_off {h : Hub} {n : Nat} (hg : h.groupOn n = true) (hh : (h.input n).phantom.held = none)
    (hs : (h.input n).phantom.state = .off) (hv : h.ext.vphLow = false) : h.phantomApply n true = h.phantomOn n := by
  simp [Hub.phantomApply, hg, hh, hs, Hub.phantomRequestOn, hv]

/-! ## The passes over the inputs (R35 to R37) -/

/-- What a loss of VPH does to one input. -/
def Hub.loseSupply (h : Hub) (n : Nat) : Hub :=
  if (h.input n).phantom.want && (decide ((h.input n).phantom.state = .rampOn) || decide ((h.input n).phantom.state = .on)) then h.phantomNoSupply n
  else h

/-- What a return of VPH does to one input. -/
def Hub.regainSupply (h : Hub) (n : Nat) : Hub := if (h.input n).phantom.state = .noSupply then h.phantomOn n else h

/-- What the start time of its group does to one input. -/
def Hub.groupRamp (h : Hub) (n : Nat) : Hub :=
  if h.live? (inFrontIdx n) 1 = 1 ∧ ((h.input n).phantom.state = .off ∨ (h.input n).phantom.state = .rampOff) ∧ (h.input n).phantom.want = false ∧
      (h.input n).phantom.readsZero = false ∧ h.groupOn n = true then
    h.phantomApply n true
  else h

theorem Hub.vphLoss_eq (h : Hub) : h.vphLoss = ({ h with ext := { h.ext with vphLow := true } } : Hub).forAll (upTo 1 48) Hub.loseSupply := rfl

theorem Hub.vphReturn_eq (h : Hub) :
    h.vphReturn = ({ h with ext := { h.ext with vphLow := false, vph := max h.ext.vph 1050 } } : Hub).forAll (upTo 1 48) Hub.regainSupply := rfl

theorem Hub.phantomGroupRampStart_of_time {h : Hub} {k : Nat} (hb : 1 ≤ h.boot.service)
    (ht : ms (35 + 25 * k) ≤ h.now + ms (if h.clk.bootHold then 20 else 0)) :
    h.phantomGroupRampStart k = h.forAll (upTo (4 * k + 1) 4) Hub.groupRamp := if_pos ⟨hb, ht⟩

theorem Hub.differsAt_loseSupply (h : Hub) (n : Nat) : h.DiffersAt (h.loseSupply n) n := by
  unfold Hub.loseSupply
  split
  · exact h.differsAt_phantomNoSupply n
  · exact h.differsAt_refl n

theorem Hub.differsAt_regainSupply (h : Hub) (n : Nat) : h.DiffersAt (h.regainSupply n) n := by
  unfold Hub.regainSupply
  split
  · exact h.differsAt_phantomOn n
  · exact h.differsAt_refl n

theorem Hub.differsAt_groupRamp (h : Hub) (n : Nat) : h.DiffersAt (h.groupRamp n) n := by
  unfold Hub.groupRamp
  split
  · exact h.differsAt_phantomApply n true
  · exact h.differsAt_refl n

section
variable {step : Hub → Nat → Hub} (hl : ∀ (g : Hub) n, g.DiffersAt (step g n) n)
include hl

/-- A pass of such steps keeps all but the inputs and the deadlines. -/
theorem Hub.forAll_besideInputs (ns : List Nat) (h : Hub) : (h.forAll ns step).besideInputs = h.besideInputs :=
  Hub.forAll_keeps (fun g n => (hl g n).1) ns h

theorem Hub.forAll_input_of_not_mem {ns : List Nat} {m : Nat} (hm : m ∉ ns) (h : Hub) : (h.forAll ns step).input m = h.input m :=
  congrArg Prod.fst (Hub.forAll_not_mem (R := Hub.phantomPart) (fun g n m => (hl g n).2 m) hm h)

/-- An input of the pass reads as its own step leaves it. -/
theorem Hub.forAll_part {lo k m : Nat} (hlo : lo ≤ m) (hhi : m < lo + k) (h : Hub) :
    ∃ g, g.phantomPart m = h.phantomPart m ∧ g.besideInputs = h.besideInputs ∧ (h.forAll (upTo lo k) step).phantomPart m = (step g m).phantomPart m :=
  Hub.forAll_at (fun g n m => (hl g n).2 m) (fun g n => (hl g n).1) (nodup_upTo lo k) (mem_upTo.mpr ⟨hlo, hhi⟩) h

/-- An input that no step changes stands as it was. -/
theorem Hub.forAll_input_of_unchanged {lo k m : Nat} {h : Hub} (hs : ∀ g, g.input m = h.input m → step g m = g) :
    (h.forAll (upTo lo k) step).input m = h.input m := by
  by_cases hm : m ∈ upTo lo k
  · obtain ⟨hlo, hhi⟩ := mem_upTo.mp hm
    obtain ⟨g, hg, -, he⟩ := Hub.forAll_part hl hlo hhi h
    rw [hs g (congrArg Prod.fst hg)] at he
    exact congrArg Prod.fst (he.trans hg)
  · exact Hub.forAll_input_of_not_mem hl hm h

end

theorem Hub.eq_of_besideInputs {g h : Hub} (hb : g.besideInputs = h.besideInputs) : { g with ins := h.ins, timers := h.timers } = h :=
  congrArg (fun k : Hub => { k with ins := h.ins, timers := h.timers }) hb

theorem Hub.eq_of_besideInputs_ext {g h : Hub} {e : Outside} (hb : g.besideInputs = ({ h with ext := e } : Hub).besideInputs) :
    { g with ext := h.ext, ins := h.ins, timers := h.timers } = h :=
  congrArg (fun k : Hub => { k with ext := h.ext, ins := h.ins, timers := h.timers }) hb

theorem Hub.ext_of_besideInputs {g h : Hub} (hb : g.besideInputs = h.besideInputs) : g.ext = h.ext := (congrArg Hub.ext hb :)

theorem Hub.now_of_besideInputs {g h : Hub} (hb : g.besideInputs = h.besideInputs) : g.now = h.now := (congrArg Hub.now hb :)

theorem Hub.live?_of_besideInputs {g h : Hub} (hb : g.besideInputs = h.besideInputs) (idx sub : Nat) : g.live? idx sub = h.live? idx sub :=
  (congrArg (fun k : Hub => k.live? idx sub) hb :)

theorem Hub.groupOn_of_besideInputs {g h : Hub} (hb : g.besideInputs = h.besideInputs) (n : Nat) : g.groupOn n = h.groupOn n :=
  (congrArg (fun k : Hub => k.groupOn n) hb :)

theorem isInput_range {n : Nat} (hn : isInput n = true) : 1 ≤ n ∧ n < 1 + 48 := by
  simp only [isInput, Bool.and_eq_true, decide_eq_true_eq] at hn
  omega

/-- A pass of a loss leaves every input that has phantom and wants it in NO_SUPPLY with its switch closed. -/
theorem Hub.forAll_loseSupply_of_wanted (h : Hub) {n : Nat} (hn : isInput n = true) (hw : (h.input n).phantom.want = true)
    (hs : (h.input n).phantom.state = .on ∨ (h.input n).phantom.state = .rampOn) :
    (h.forAll (upTo 1 48) Hub.loseSupply).phantomPart n = (h.phantomNoSupply n).phantomPart n := by
  obtain ⟨hlo, hhi⟩ := isInput_range hn
  obtain ⟨g, hg, -, he⟩ := Hub.forAll_part Hub.differsAt_loseSupply hlo hhi h
  have hi : g.input n = h.input n := congrArg Prod.fst hg
  have hstep : g.loseSupply n = g.phantomNoSupply n := if_pos (by rcases hs with hs | hs <;> simp [hi, hw, hs])
  rw [he, hstep]
  simp [Hub.phantomNoSupply, Hub.phantomPart, hi]

theorem Hub.forAll_loseSupply_of_without (h : Hub) {n : Nat} (h1 : (h.input n).phantom.state ≠ .on) (h2 : (h.input n).phantom.state ≠ .rampOn) :
    (h.forAll (upTo 1 48) Hub.loseSupply).input n = h.input n :=
  Hub.forAll_input_of_unchanged Hub.differsAt_loseSupply (fun g hg => if_neg (by simp [hg, h1, h2]))

/-- A pass of a return starts the ramp of every input in NO_SUPPLY. -/
theorem Hub.forAll_regainSupply_of_noSupply (h : Hub) {n : Nat} (hn : isInput n = true) (hs : (h.input n).phantom.state = .noSupply) :
    ((h.forAll (upTo 1 48) Hub.regainSupply).input n).phantom = h.rampingOn (h.pfMv n) (h.input n).phantom := by
  obtain ⟨hlo, hhi⟩ := isInput_range hn
  obtain ⟨g, hg, hk, he⟩ := Hub.forAll_part Hub.differsAt_regainSupply hlo hhi h
  have hi : g.input n = h.input n := congrArg Prod.fst hg
  have hstep : g.regainSupply n = g.phantomOn n := if_pos (by simp [hi, hs])
  have hin := congrArg Prod.fst he
  rw [hstep] at hin
  refine (congrArg Input.phantom hin).trans ?_
  have hpf : g.pfMv n = h.pfMv n := by
    unfold Hub.pfMv
    rw [hi, Hub.now_of_besideInputs hk]
  have hon : ((g.phantomOn n).input n).phantom = g.rampingOn (g.pfMv n) (g.input n).phantom := by simp [Hub.phantomOn_eq]
  refine hon.trans ?_
  rw [hi, hpf, Hub.rampingOn_congr (Hub.ext_of_besideInputs hk) (Hub.now_of_besideInputs hk)]

theorem Hub.forAll_regainSupply_of_other (h : Hub) {n : Nat} (hs : (h.input n).phantom.state ≠ .noSupply) :
    (h.forAll (upTo 1 48) Hub.regainSupply).input n = h.input n :=
  Hub.forAll_input_of_unchanged Hub.differsAt_regainSupply (fun g hg => if_neg (by simp [hg, hs]))

/-- Settles O3: each input of a pass reads as its own step leaves it. -/
theorem phantomFollowsItsSupply : Obligations.PhantomFollowsItsSupply := by
  refine ⟨?loss, ?back, ?group⟩
  case loss =>
    intro s
    refine answers_of_always (f := Hub.vphLoss) rfl ?_
    rw [Hub.vphLoss_eq]
    generalize hlow : ({ s.hub with ext := { s.hub.ext with vphLow := true } } : Hub) = h
    have hb := Hub.forAll_besideInputs Hub.differsAt_loseSupply (upTo 1 48) h
    have hin (n : Nat) : h.input n = s.hub.input n := by rw [← hlow]; rfl
    refine ⟨(Hub.ext_of_besideInputs hb).trans (by rw [← hlow]), fun n hn hw hs => ?_, fun n h1 h2 => ?_, ?_⟩
    · have hp := Hub.forAll_loseSupply_of_wanted h hn (by rwa [hin]) (by rwa [hin])
      obtain ⟨hpin, hramp, harm⟩ := (Prod.mk.inj hp).imp_right Prod.mk.inj
      rw [hpin, hramp, harm]
      simp [Hub.phantomNoSupply]
    · rw [Hub.forAll_loseSupply_of_without h (by rwa [hin]) (by rwa [hin]), hin]
    · exact Hub.eq_of_besideInputs_ext (hb.trans (by rw [← hlow]))
  case back =>
    intro s
    refine answers_of_always (f := Hub.vphReturn) rfl ?_
    rw [Hub.vphReturn_eq]
    generalize hback : ({ s.hub with ext := { s.hub.ext with vphLow := false, vph := max s.hub.ext.vph 1050 } } : Hub) = h
    have hb := Hub.forAll_besideInputs Hub.differsAt_regainSupply (upTo 1 48) h
    have hin (n : Nat) : h.input n = s.hub.input n := by rw [← hback]; rfl
    refine ⟨(Hub.ext_of_besideInputs hb).trans (by rw [← hback]), fun n hn hs => ?_, fun n hs => ?_, ?_⟩
    · rw [Hub.forAll_regainSupply_of_noSupply h hn (by rwa [hin])]
      simp [Hub.rampingOn, Hub.vphMv, ← hback, Nat.mul_comm]
    · rw [Hub.forAll_regainSupply_of_other h (by rwa [hin]), hin]
    · exact Hub.eq_of_besideInputs_ext (hb.trans (by rw [← hback]))
  case group =>
    intro s k n hk hb ht hlo hhi hl hg hv hs hw hr hh
    refine answers_of_run (f := (·.phantomGroupRampStart k)) rfl (decide_eq_true hk) ?_
    have htime : ms (35 + 25 * k) ≤ s.hub.now + ms (if s.hub.clk.bootHold then 20 else 0) := by
      cases hc : s.hub.clk.bootHold <;> simp [hc, ms] at ht ⊢ <;> omega
    rw [Hub.phantomGroupRampStart_of_time hb htime]
    obtain ⟨g, hpart, hk, he⟩ := Hub.forAll_part Hub.differsAt_groupRamp hlo (by omega : n < 4 * k + 1 + 4) s.hub
    have hi : g.input n = s.hub.input n := congrArg Prod.fst hpart
    have hstep : g.groupRamp n = g.phantomOn n := by
      have hlive : g.live? (inFrontIdx n) 1 = 1 := (Hub.live?_of_besideInputs hk _ _).trans hl
      have hgroup : g.groupOn n = true := (Hub.groupOn_of_besideInputs hk n).trans hg
      have hlow : g.ext.vphLow = false := (congrArg Outside.vphLow (Hub.ext_of_besideInputs hk)).trans hv
      refine (if_pos (by simp [hi, hlive, hs, hw, hr, hgroup])).trans ?_
      exact Hub.phantomApply_of_off hgroup (by rw [hi, hh]) (by rw [hi, hs]) hlow
    have hvph : g.ext.vph = s.hub.ext.vph := congrArg Outside.vph (Hub.ext_of_besideInputs hk)
    have hnow : g.now = s.hub.now := Hub.now_of_besideInputs hk
    rw [hstep] at he
    rw [show Hub.input _ n = _ from congrArg Prod.fst he]
    refine ⟨?_, ?_, ?_, ?_, fun m hm => ?_, Hub.eq_of_besideInputs (Hub.forAll_besideInputs Hub.differsAt_groupRamp _ _)⟩
    · simp [Hub.phantomPart, Hub.phantomOn_eq, Hub.rampingOn]
    · simp [Hub.phantomPart, Hub.phantomOn_eq, Hub.rampingOn]
    · simp [Hub.phantomPart, Hub.phantomOn_eq, Hub.rampingOn, Hub.pfMv, hi, hnow]
    · simp [Hub.phantomPart, Hub.phantomOn_eq, Hub.rampingOn, Hub.vphMv, hvph, Nat.mul_comm]
    · exact Hub.forAll_input_of_not_mem Hub.differsAt_groupRamp (fun hmem => by have := mem_upTo.mp hmem; omega) s.hub

end Sys2Proof.Machine
end

section
/-! SUPPORT. The sources 1 to 52 (R29 to R52): what the stream and the front end of a source read as after an update, and the steps of an input. -/

namespace Sys2Proof.Machine

/-! ## Streams and front ends -/

@[simp] theorem Hub.stream_modStream (h : Hub) (n m : Nat) (f : Stream → Stream) :
    (h.modStream n f).stream m = if m = n then f (h.stream m) else h.stream m := by
  unfold Hub.modStream Hub.stream
  by_cases hn : n ≤ 48 <;> by_cases hm : m ≤ 48
  · by_cases he : m = n <;> simp [hn, hm, he]
  · simp [hn, hm, show m ≠ n by omega]
  · simp [hn, hm, show m ≠ n by omega]
  · by_cases he : m = n
    · simp [hn, he]
    · simp [hn, hm, he, show m - 48 ≠ n - 48 by omega]

@[simp] theorem Hub.fe_setFe (h : Hub) (n m : Nat) (x : FeState) : (h.setFe n x).fe m = if m = n then x else h.fe m := by
  unfold Hub.setFe Hub.fe
  by_cases hn : n ≤ 48 <;> by_cases hm : m ≤ 48
  · by_cases he : m = n <;> simp [hn, hm, he]
  · simp [hn, hm, show m ≠ n by omega]
  · simp [hn, hm, show m ≠ n by omega]
  · by_cases he : m = n
    · simp [hn, he]
    · simp [hn, hm, he, show m - 48 ≠ n - 48 by omega]

@[simp] theorem Hub.stream_setFe (h : Hub) (n m : Nat) (x : FeState) : (h.setFe n x).stream m = h.stream m := by
  unfold Hub.setFe Hub.stream
  by_cases hn : n ≤ 48
  · by_cases he : m = n <;> simp [hn, he]
  · by_cases he : m - 48 = n - 48 <;> simp [hn, he]

@[simp] theorem Hub.fe_modStream (h : Hub) (n m : Nat) (f : Stream → Stream) : (h.modStream n f).fe m = h.fe m := by
  unfold Hub.modStream Hub.fe
  by_cases hn : n ≤ 48
  · by_cases he : m = n <;> simp [hn, he]
  · by_cases he : m - 48 = n - 48 <;> simp [hn, he]

@[simp] theorem Hub.phantom_modStream (h : Hub) (n m : Nat) (f : Stream → Stream) : ((h.modStream n f).input m).phantom = (h.input m).phantom := by
  unfold Hub.modStream
  by_cases hn : n ≤ 48
  · by_cases he : m = n <;> simp [hn, he]
  · simp [hn]

@[simp] theorem Hub.phantom_setFe (h : Hub) (n m : Nat) (x : FeState) : ((h.setFe n x).input m).phantom = (h.input m).phantom := by
  unfold Hub.setFe
  by_cases hn : n ≤ 48
  · by_cases he : m = n <;> simp [hn, he]
  · simp [hn]

section
variable (h : Hub) (n : Nat) (f : Stream → Stream) (x : FeState) (t : Timer) (d : Nat)

@[simp] theorem Hub.modStream_now : (h.modStream n f).now = h.now := by unfold Hub.modStream; split <;> rfl
@[simp] theorem Hub.modStream_deadline : (h.modStream n f).deadline t = h.deadline t := by unfold Hub.modStream; split <;> rfl
@[simp] theorem Hub.setFe_now : (h.setFe n x).now = h.now := by unfold Hub.setFe; split <;> rfl
@[simp] theorem Hub.setFe_deadline : (h.setFe n x).deadline t = h.deadline t := by unfold Hub.setFe; split <;> rfl
@[simp] theorem Hub.startAt_stream : (h.startAt t d).stream n = h.stream n := rfl
@[simp] theorem Hub.start_stream : (h.start t d).stream n = h.stream n := rfl
@[simp] theorem Hub.cancel_stream : (h.cancel t).stream n = h.stream n := rfl
@[simp] theorem Hub.startAt_fe : (h.startAt t d).fe n = h.fe n := rfl
@[simp] theorem Hub.start_fe : (h.start t d).fe n = h.fe n := rfl
@[simp] theorem Hub.cancel_fe : (h.cancel t).fe n = h.fe n := rfl

end

/-- All of the hub but the sources and the deadlines. -/
def Hub.besideSources (h : Hub) : Hub := { h with ins := [], hms := [], timers := [] }

section
variable (h : Hub) (n : Nat)

@[simp] theorem Hub.modStream_besideSources (f : Stream → Stream) : (h.modStream n f).besideSources = h.besideSources := by
  unfold Hub.modStream; split <;> rfl
@[simp] theorem Hub.setFe_besideSources (x : FeState) : (h.setFe n x).besideSources = h.besideSources := by unfold Hub.setFe; split <;> rfl
@[simp] theorem Hub.startAt_besideSources (t : Timer) (d : Nat) : (h.startAt t d).besideSources = h.besideSources := rfl
@[simp] theorem Hub.start_besideSources (t : Timer) (d : Nat) : (h.start t d).besideSources = h.besideSources := rfl
@[simp] theorem Hub.cancel_besideSources (t : Timer) : (h.cancel t).besideSources = h.besideSources := rfl

end

theorem Hub.eq_of_besideSources {g h : Hub} (hb : g.besideSources = h.besideSources) : { g with ins := h.ins, hms := h.hms, timers := h.timers } = h :=
  congrArg (fun k : Hub => { k with ins := h.ins, hms := h.hms, timers := h.timers }) hb

/-! ## Polarity and settling (R38, R43) -/

theorem Hub.polarityInvert_of_due {h : Hub} {src : Nat} (hd : h.due (.polarity src) = true) :
    h.polarityInvert src = (h.cancel (.polarity src)).modStream src (fun x =>
      { x with inverted := x.polTarget, polPhase := .fadingIn, polFade := { m0 := 0, m1 := unity, t0 := h.now, len := ms 10 } }) :=
  Hub.whenDue_due hd

/-- A front end that has settled: its held PHANTOM value acts. -/
def Hub.heldPhantomApplied (h : Hub) (src : Nat) : Hub :=
  if src ≤ 48 then
    match (h.input src).phantom.held with
    | some v => (h.modPhantom src (fun p => { p with held := none })).phantomApply src v
    | none => h
  else h

/-- A settled front end starts its fade-in, unless something holds it. -/
def Hub.settledFadeIn (h : Hub) (src : Nat) : Hub :=
  if h.fe src = .settling ∧ (h.stream src).privacy = false ∧ h.inputsMuted = false ∧ h.sourceWanted src = true then
    (h.setFe src (h.atWork src)).fadeInStream src
  else h

theorem Hub.frontEndSettled_of_due {h : Hub} {src : Nat} (hd : h.due (.settle src) = true) :
    h.frontEndSettled src = ((h.cancel (.settle src)).heldPhantomApplied src).settledFadeIn src := Hub.whenDue_due hd

theorem Hub.heldPhantomApplied_of_none {h : Hub} {src : Nat} (hh : src ≤ 48 → (h.input src).phantom.held = none) : h.heldPhantomApplied src = h := by
  unfold Hub.heldPhantomApplied
  split
  · next hs => rw [hh hs]
  · rfl

theorem Hub.heldPhantomApplied_of_some {h : Hub} {n : Nat} {v : Bool} (hn : n ≤ 48) (hh : (h.input n).phantom.held = some v) :
    h.heldPhantomApplied n = (h.modPhantom n (fun p => { p with held := none })).phantomApply n v := by
  unfold Hub.heldPhantomApplied
  rw [if_pos hn, hh]

theorem Hub.settledFadeIn_of_wanted {h : Hub} {src : Nat} (hf : h.fe src = .settling) (hp : (h.stream src).privacy = false)
    (hm : h.inputsMuted = false) (hw : h.sourceWanted src = true) :
    h.settledFadeIn src = (h.setFe src (h.atWork src)).fadeInStream src := if_pos ⟨hf, hp, hm, hw⟩

@[simp] theorem Hub.phantom_settledFadeIn (h : Hub) (src n : Nat) : ((h.settledFadeIn src).input n).phantom = (h.input n).phantom := by
  unfold Hub.settledFadeIn
  split
  · simp [Hub.fadeInStream]
  · rfl

theorem Hub.biasFault_of_on {h : Hub} {m : Nat} (hb : (h.headMic m).bias = .on) (hj : (h.headphone m).jack.buttons = 0) :
    h.biasFault m = ((h.modHeadMic m (fun x => { x with bias := .fault })).modHeadphone m (fun x => { x with cause := x.cause ||| 4 })).cause (evJack m) :=
  if_pos ⟨hb, hj⟩

/-- Settles O4: each step is an equation where its deadline has come, and the reads follow. -/
theorem inputSettlesInvertsAndFaults : Obligations.InputSettlesInvertsAndFaults := by
  refine ⟨?polarity, ?settled, ?held, ?episode, ?bias⟩
  case polarity =>
    intro s src hn hd
    refine answers_of_run (f := (·.polarityInvert src)) rfl hn ?_
    rw [Hub.polarityInvert_of_due hd]
    exact ⟨by simp [ms], by simp, fun m _ hm => by simp [hm], Hub.eq_of_besideSources (by simp)⟩
  case settled =>
    intro s src hn hmute hd hf hp hw hh
    refine answers_of_run (f := (·.frontEndSettled src)) rfl hn ?_
    rw [Hub.frontEndSettled_of_due hd, Hub.heldPhantomApplied_of_none (h := s.hub.cancel (.settle src)) hh,
      Hub.settledFadeIn_of_wanted (h := s.hub.cancel (.settle src)) hf hp hmute hw]
    exact ⟨by rw [Hub.fadeInStream, Hub.fe_modStream, Hub.fe_setFe, if_pos rfl]; rfl, by simp [Hub.fadeInStream, ms], by simp [Hub.fadeInStream],
      fun m _ hm => by simp [Hub.fadeInStream, hm], Hub.eq_of_besideSources (by simp [Hub.fadeInStream])⟩
  case held =>
    intro s n hn hd hg hv hh hs
    refine answers_of_run (f := (·.frontEndSettled n)) rfl (by simp only [isInput, isTrimSource, Bool.and_eq_true, decide_eq_true_eq] at hn ⊢; omega) ?_
    rw [Hub.frontEndSettled_of_due hd, Hub.heldPhantomApplied_of_some (Nat.le_of_lt_succ (isInput_range hn).2) (by simpa using hh),
      Hub.phantomApply_of_off (by simpa [Hub.groupOn] using hg) (by simp) (by simpa using hs) (by simpa using hv), Hub.phantomOn_eq]
    exact ⟨by simp [Hub.rampingOn], by simp [Hub.rampingOn]⟩
  case episode =>
    intro s e he hd
    refine answers_of_run (f := (·.episodeEnd e)) rfl he ?_
    rw [show s.hub.episodeEnd e = s.hub.cancel (.episode e) from Hub.whenDue_due hd]
    exact ⟨by simp, fun u hu => by simp [hu], rfl⟩
  case bias =>
    intro s m hm hb hj
    refine answers_of_run (f := (·.biasFault m)) rfl hm ?_
    rw [Hub.biasFault_of_on hb hj]
    exact ⟨by simp, by simp, Hub.cause_causes _ _ _, fun k hk => by simp [hk], by simp⟩

end Sys2Proof.Machine
end

section
/-! SUPPORT. Tandem conversion (R53 to R75): the parts of an input's tandem and the match table; and what else one sample of the converters moves. -/

namespace Sys2Proof.Machine

/-! ## One sample of the converters (R54, R58, R61) -/

/-- A hub with frames running and its bridge on, whose speaker last gave out a 1. -/
def soundingSpeaker : State :=
  { State.reset with hub := { State.reset.hub with framesRun := true, spk := { bridgeOn := true, outL := 1 } } }

/-- A sample of the converters is also one of the output stages (R21, R114). -/
theorem soundingSpeaker_pathSample : (soundingSpeaker.hub.pathSample []).spk.outL = 0 := by decide +kernel

/-- A claim about a row over `always` is a claim about its effect. -/
theorem Answers.of_always {i : Instr} {s : State} {f : Hub → Hub} {P : Hub → Prop} (ha : Answers i s P) (he : exec i s = always f s) : P (f s.hub) := by
  obtain ⟨t, ht, -, -, hp⟩ := ha
  injection he.symm.trans ht with hnext
  subst hnext
  exact hp

theorem Hub.spk_eq_of_rest {g h : Hub} (hr : { g with sub := h.sub, ins := h.ins } = h) : g.spk = h.spk := (congrArg Hub.spk hr :)

/-- Refutes O5: the row of a sample also runs the output stages, so that it changes more than the clock of the short path and the inputs. -/
theorem not_convertersCarryTheirSamples : ¬ Obligations.ConvertersCarryTheirSamples := by
  intro h
  have hsample := (h.1 soundingSpeaker [] rfl (by decide)).of_always (f := (·.pathSample [])) rfl
  obtain ⟨-, -, -, -, -, hrest⟩ := hsample
  have hspk : (soundingSpeaker.hub.pathSample []).spk.outL = 1 := congrArg Speaker.outL (Hub.spk_eq_of_rest hrest)
  rw [soundingSpeaker_pathSample] at hspk
  exact absurd hspk (by decide)

/-! ## Parts of an input -/

/-- All of the hub but the inputs. -/
def Hub.withoutInputs (h : Hub) : Hub := { h with ins := [] }

@[simp] theorem Hub.modInput_withoutInputs (h : Hub) (n : Nat) (f : Input → Input) : (h.modInput n f).withoutInputs = h.withoutInputs := rfl

theorem Hub.eq_of_withoutInputs {g h : Hub} (hb : g.withoutInputs = h.withoutInputs) : { g with ins := h.ins } = h :=
  congrArg (fun k : Hub => { k with ins := h.ins }) hb

theorem Hub.now_of_withoutInputs {g h : Hub} (hb : g.withoutInputs = h.withoutInputs) : g.now = h.now := (congrArg Hub.now hb :)

theorem Hub.sub_of_withoutInputs {g h : Hub} (hb : g.withoutInputs = h.withoutInputs) : g.sub = h.sub := (congrArg Hub.sub hb :)

theorem Hub.fe_of_isInput (h : Hub) {n : Nat} (hn : isInput n = true) : h.fe n = (h.input n).fe := if_pos (Nat.lt_succ_iff.mp (isInput_range hn).2)

@[simp] theorem Tandem.path_modPath (t : Tandem) (p q : Path) (f : PathState → PathState) :
    (t.modPath p f).path q = if q = p then f (t.path q) else t.path q := by
  cases p <;> cases q <;> rfl


/-! ## The match table (R64 to R69, R72) -/

@[simp] theorem Tandem.inactive_setInactive (t : Tandem) (m : MatchSet) : (t.setInactive m).inactive = m := by
  unfold Tandem.setInactive Tandem.inactive
  cases t.activeB <;> simp

@[simp] theorem Tandem.active_setInactive (t : Tandem) (m : MatchSet) : (t.setInactive m).active = t.active := by
  unfold Tandem.setInactive Tandem.active
  cases t.activeB <;> simp

@[simp] theorem Tandem.est_setInactive (t : Tandem) (m : MatchSet) : (t.setInactive m).est = t.est := by
  unfold Tandem.setInactive
  split <;> rfl

/-- A pair reaches its threshold with some block behind it (R65). -/
def PairEst.met (th : Nat) (e : PairEst) : Bool := decide (th ≤ e.conf) && decide (e.gain.weight ≠ 0)

/-- The tandem that asks for the swap to the set its estimates spell. -/
def Tandem.committed (t : Tandem) (th : Nat) : Tandem :=
  { t.setInactive (commitSet t.active t.est.set (t.est.lm.met th) (t.est.mh.met th) (t.est.lh.met th)) with swapReq := true, swapFactory := false }

theorem Tandem.inactive_committed (t : Tandem) (th : Nat) :
    (t.committed th).inactive = commitSet t.active t.est.set (t.est.lm.met th) (t.est.mh.met th) (t.est.lh.met th) :=
  (show (t.committed th).inactive = (t.setInactive _).inactive from rfl).trans (t.inactive_setInactive _)

theorem Tandem.active_committed (t : Tandem) (th : Nat) : (t.committed th).active = t.active :=
  (show (t.committed th).active = (t.setInactive _).active from rfl).trans (t.active_setInactive _)

theorem Tandem.est_committed (t : Tandem) (th : Nat) : (t.committed th).est = t.est :=
  (show (t.committed th).est = (t.setInactive _).est from rfl).trans (t.est_setInactive _)

theorem Hub.matchCommitRequest_of_met {h : Hub} {n : Nat} {lm mh lh : PairErrors} (refs : List PairErrors) (he : h.estimating = true)
    (hs : (h.input n).slice.state ≠ .matching)
    (hm : PairEst.met (h.live? (inTandemIdx n) 3) ((h.input n).tandem.judge lm mh lh).est.lm = true)
    (hc : (h.input n).tandem.lastCommit = 0 ∨ (h.input n).tandem.lastCommit + 64 * 32 ≤ h.now) :
    h.matchCommitRequest n lm mh lh refs = (h.modTandem n (·.judge lm mh lh)).modTandem n (·.committed (h.live? (inTandemIdx n) 3)) := by
  rw [PairEst.met] at hm
  have hj : ((h.modTandem n (·.judge lm mh lh)).input n).tandem = (h.input n).tandem.judge lm mh lh := by simp
  have hl : ((h.input n).tandem.judge lm mh lh).lastCommit = (h.input n).tandem.lastCommit := rfl
  have hcommit : (decide ((h.input n).tandem.lastCommit = 0) || decide ((h.input n).tandem.lastCommit + 64 * 32 ≤ h.now)) = true := by simpa using hc
  unfold Hub.matchCommitRequest
  rw [if_pos he, if_neg hs]
  dsimp only
  rw [hj, hl, if_pos]
  · rfl
  · refine Bool.and_eq_true_iff.mpr ⟨?_, hcommit⟩
    rw [show (h.modTandem n (·.judge lm mh lh)).live? (inTandemIdx n) 3 = h.live? (inTandemIdx n) 3 from rfl, hm]
    rfl

theorem Hub.matchStale_of_long {h : Hub} {n : Nat} (hs : (h.input n).tandem.stale = false) (hb : 1800000 ≤ (h.input n).tandem.staleBlocks) :
    h.matchStale n = (h.modTandem n (fun t => { t with stale := true })).cause evMatchStale := if_pos ⟨hs, hb⟩

theorem Hub.pathFault_of_not_matching {h : Hub} {n : Nat} (p : Path) (hs : (h.input n).slice.state ≠ .matching) : h.pathFault n p = h.pathExclude n p :=
  if_neg (fun hc => hs hc.1)

theorem Hub.pathExclude_of_attributed {h : Hub} {n : Nat} {p : Path} (he : h.estimating = true) (ha : (h.input n).tandem.attributed = some p)
    (hx : ((h.input n).tandem.path p).excluded = false ∨ ((h.input n).tandem.path p).probation = true) :
    h.pathExclude n p = (h.modTandem n (fun t => t.modPath p (fun x => { x with excludeDue := true }))).cause evPathFault :=
  if_pos (by rcases hx with hx | hx <;> simp [he, ha, hx])

theorem Hub.request_of_no_dip {h : Hub} (r : StoreReq) (hd : h.supply.dip = false) :
    h.request r = h.modStore (fun s => { s with queue := s.queue ++ [r], e5Done := false }) := by
  simp [Hub.request, Hub.when, hd]

theorem Hub.matchSetStore_of_free {h : Hub} {n : Nat} (hf : (h.input n).tandem.factory = false) (ha : h.armed (.matchStore n) = false) :
    h.matchSetStore n = (h.request (.matchSet n)).start (.matchStore n) (secs 600) := if_neg (by simp [ha, hf])

/-- Settles O6: each row is an equation where its condition holds. -/
theorem matchTableCommits : Obligations.MatchTableCommits := by
  refine ⟨?commit, ?stale, ?exclude, ?store⟩
  case commit =>
    intro s n lm mh lh refs hn hs he hw hx hlm hmh hc
    refine answers_of_run (f := (·.matchCommitRequest n lm mh lh refs)) rfl hn ?_
    have hconf : (((s.hub.input n).tandem.judge lm mh lh).est.lm).conf = 1000 - max lm.gain (max lm.delay lm.offset) := if_neg hw
    have hlmMet : PairEst.met (s.hub.live? (inTandemIdx n) 3) ((s.hub.input n).tandem.judge lm mh lh).est.lm = true := by
      simp only [PairEst.met, hconf, Bool.and_eq_true, decide_eq_true_eq]
      exact ⟨hlm, hw⟩
    have hmhMet : PairEst.met (s.hub.live? (inTandemIdx n) 3) ((s.hub.input n).tandem.judge lm mh lh).est.mh = false := by
      simp only [PairEst.met, Tandem.judge, confidence]
      split <;> simp <;> omega
    have hlhMet : PairEst.met (s.hub.live? (inTandemIdx n) 3) ((s.hub.input n).tandem.judge lm mh lh).est.lh = false := by
      simp only [PairEst.met, Tandem.judge, hx]
      simp
      omega
    rw [Hub.matchCommitRequest_of_met refs he hs hlmMet hc]
    have ht : (((s.hub.modTandem n (·.judge lm mh lh)).modTandem n (·.committed (s.hub.live? (inTandemIdx n) 3))).input n).tandem =
        ((s.hub.input n).tandem.judge lm mh lh).committed (s.hub.live? (inTandemIdx n) 3) := by simp
    rw [ht]
    refine ⟨?_, ?_, Tandem.active_committed _ _, rfl, rfl, fun m hm => by simp [hm], rfl⟩
    · rw [Tandem.inactive_committed, hlmMet, hmhMet, hlhMet]
      rfl
    · rw [Tandem.est_committed, ← hconf]
      rfl
  case stale =>
    intro s n hn hs hb
    refine answers_of_run (f := (·.matchStale n)) rfl hn ?_
    rw [Hub.matchStale_of_long hs hb]
    exact ⟨by simp, Hub.cause_causes _ _ _, fun m hm => by simp [hm], by simp⟩
  case exclude =>
    intro s n p hn hs he ha hx
    refine answers_of_run (f := (·.pathFault n p)) rfl hn ?_
    rw [Hub.pathFault_of_not_matching p hs, Hub.pathExclude_of_attributed he ha hx]
    exact ⟨by simp, fun q hq => by simp [hq], Hub.cause_causes _ _ _, fun m hm => by simp [hm], by simp⟩
  case store =>
    intro s n hn hf ha hd
    refine answers_of_run (f := (·.matchSetStore n)) rfl hn ?_
    rw [Hub.matchSetStore_of_free hf ha, Hub.request_of_no_dip _ hd]
    exact ⟨rfl, by simp [secs, Hub.modStore], rfl⟩

end Sys2Proof.Machine
end

section
/-! SUPPORT. Line outputs (R76 to R104): each step of the power-up and change sequences, a CV tick, compliance, delay and patrol as equations. -/

namespace Sys2Proof.Machine

/-! ## The power-up sequence (R91) -/

/-- How long the mute switch of an output takes to open (R91). -/
def openTime (mode : Nat) : Nat := if isCv mode then ms 1 else ms 20

section
variable {h : Hub} {n : Nat}

theorem Hub.outputPowerupStep_of_2 (hp : (h.output n).powerup = 2) (hd : h.due (.outputPowerup n) = true) :
    h.outputPowerupStep n =
      ((h.cancel (.outputPowerup n)).modOutput n (fun o =>
        { o with powerup := 3, openAt := if o.fast then none else some (h.now + openTime (h.output n).cfg.mode) })).start
        (.outputPowerup n) (openTime (h.output n).cfg.mode) :=
  (if_pos hp).trans (Hub.whenDue_due hd)

theorem Hub.outputPowerupStep_of_3 (hp : (h.output n).powerup = 3) (hd : h.due (.outputPowerup n) = true) :
    h.outputPowerupStep n =
      if isCv (h.output n).cfg.mode then
        if 1 ≤ h.boot.service ∨ (h.output n).fault = true then (h.cancel (.outputPowerup n)).modOutput n (fun o => { o with powerup := 0 })
        else
          ((h.cancel (.outputPowerup n)).modOutput n (fun o => { o with powerup := 0 })).modCv n (fun c =>
            { c with target := BitVec.ofNat 20 (h.live? (outIdx n) 4), powerupHold := true })
      else ((h.cancel (.outputPowerup n)).modOutput n (fun o => { o with powerup := 4 })).start (.outputPowerup n) (ms 3) := by
  unfold Hub.outputPowerupStep
  dsimp only
  rw [if_neg (by omega), if_pos hp, Hub.whenDue_due hd]
  rfl

theorem Hub.outputPowerupStep_of_4 (hp : (h.output n).powerup = 4) (hd : h.due (.outputPowerup n) = true) (hs : 1 ≤ h.boot.service)
    (hf : (h.output n).fast = false) (hx : (h.output n).fault = false) :
    h.outputPowerupStep n = ((h.cancel (.outputPowerup n)).modOutput n (fun o => { o with powerup := 0 })).outFade n unity := by
  unfold Hub.outputPowerupStep
  dsimp only
  rw [if_neg (by omega), if_neg (by omega), if_pos ⟨hp, hs⟩, Hub.whenDue_due hd, if_neg (by simp [hf, hx])]

end

/-- Settles O7: each step is an equation under its deadline. -/
theorem outputPowersUpInSteps : Obligations.OutputPowersUpInSteps := by
  refine ⟨?opens, ?cv, ?wait, ?fadeIn⟩
  case opens =>
    intro s n hn hp hd hf
    refine answers_of_run (f := (·.outputPowerupStep n)) rfl hn ?_
    rw [Hub.outputPowerupStep_of_2 hp hd]
    exact ⟨by simp [hf, openTime, ms], by simp [openTime, ms], fun m hm => by simp [hm], rfl⟩
  case cv =>
    intro s n hn hp hd hc hs hx
    refine answers_of_run (f := (·.outputPowerupStep n)) rfl hn ?_
    rw [Hub.outputPowerupStep_of_3 hp hd, if_pos hc, if_neg (by simp [hs, hx])]
    exact ⟨by simp, fun m hm => by simp [hm], rfl⟩
  case wait =>
    intro s n hn hp hd hc
    refine answers_of_run (f := (·.outputPowerupStep n)) rfl hn ?_
    rw [Hub.outputPowerupStep_of_3 hp hd, if_neg (by simp [hc])]
    exact ⟨by simp, by simp [ms], fun m hm => by simp [hm], rfl⟩
  case fadeIn =>
    intro s n hn hp hd hs hf hx
    refine answers_of_run (f := (·.outputPowerupStep n)) rfl hn ?_
    rw [Hub.outputPowerupStep_of_4 hp hd hs hf hx]
    exact ⟨by simp [Hub.outFade, Hub.outMuteTime], fun m hm => by simp [Hub.outFade, hm], rfl⟩

/-! ## The change sequence (R93, R94) -/

@[simp] theorem Hub.complianceOver_output (h : Hub) (n m : Nat) :
    (h.complianceOver n).output m = if m = n then { h.output m with compliance := false } else h.output m := by
  unfold Hub.complianceOver
  by_cases hm : m = n
  · subst hm
    cases hc : (h.output m).compliance with
    | true => simp
    | false => rw [if_neg Bool.false_ne_true, if_pos rfl, ← hc]
  · split <;> simp [hm]

/-- The end of a compliance condition changes outputs and deadlines alone. -/
theorem Hub.complianceOver_rest (h : Hub) (n : Nat) : ∃ o t, h.complianceOver n = { h with outs := o, timers := t } := by
  unfold Hub.complianceOver
  split
  · exact ⟨_, _, rfl⟩
  · exact ⟨_, _, rfl⟩

theorem Hub.complianceOver_deadline_other (h : Hub) {n : Nat} {u : Timer} (hu : u ≠ .episode (.compliance n)) :
    (h.complianceOver n).deadline u = h.deadline u := by
  unfold Hub.complianceOver
  split
  · simp [hu]
  · rfl

@[simp] theorem Hub.complianceOver_now (h : Hub) (n : Nat) : (h.complianceOver n).now = h.now := by unfold Hub.complianceOver; split <;> rfl

/-- Where an output in FAULT slews once its new configuration stands (R99). -/
def Hub.loadedTarget (h : Hub) (n : Nat) (c : OutCfg) : BitVec 20 :=
  if (h.output n).fault && isCv c.mode then BitVec.ofNat 20 (h.live? (outIdx n) 5) else 0

/-- The new configuration loads with code 0 (R93 step 3). -/
def Hub.configLoaded (h : Hub) (n : Nat) (c : OutCfg) : Hub :=
  (h.complianceOver n).modOutput n (fun o =>
    { o with cfg := c, fast := decide (c.mode ≠ 0) && (o.fast || h.railsLow)
             cv := { o.cv with present := 0, target := h.loadedTarget n c, powerupHold := false, stepLimited := false } })

section
variable {h : Hub} {n : Nat} {c : OutCfg}

theorem Hub.outputChangeStep_of_1 (hs : (h.output n).step = 1) (hd : h.due (.outputChange n) = true)
    (hc : isCv (h.output n).cfg.mode = true → (h.output n).cv.present = 0) :
    h.outputChangeStep n = ((h.cancel (.outputChange n)).modOutput n (fun o => { o with step := 2, openAt := none })).start (.outputChange n) (ms 1) := by
  unfold Hub.outputChangeStep
  dsimp only
  rw [hs]
  exact (if_neg (by simpa using hc)).trans (Hub.whenDue_due hd)

theorem Hub.outputChangeStep_of_2 (hs : (h.output n).step = 2) (hg : (h.output n).goal = some c) (hd : h.due (.outputChange n) = true) :
    h.outputChangeStep n = (h.cancel (.outputChange n)).modOutput n (fun o => { o with step := 3 }) := by
  unfold Hub.outputChangeStep
  dsimp only
  rw [hs]
  refine (Hub.whenDue_due hd).trans ?_
  rw [hg]

theorem Hub.outputChangeStep_of_3 (hs : (h.output n).step = 3) (hg : (h.output n).goal = some c) :
    h.outputChangeStep n =
      if c.mode = 0 then
        let g := ((h.configLoaded n c).modOutput n (fun o => { o with step := 0 })).outputDone n
        if (h.output n).goingDown then g.outputUnpower n else g
      else
        let g := (h.configLoaded n c).modOutput n (fun o => { o with step := 4, openAt := if o.fast then none else some ((h.configLoaded n c).now + ms 1) })
        if (g.output n).fast then g else g.start (.outputChange n) (ms 1) := by
  unfold Hub.outputChangeStep
  dsimp only
  rw [hs, hg]
  rfl

theorem Hub.outputChangeStep_of_4 (hs : (h.output n).step = 4) (hf : (h.output n).fast = false) (hw : (h.output n).goingDown = false)
    (hd : h.due (.outputChange n) = true) :
    h.outputChangeStep n =
      let g := ((h.cancel (.outputChange n)).modOutput n (fun o => { o with step := 5, cv := { o.cv with stepLimited := true } })).outputDone n
      if (h.output n).cfg.mode = 1 then (if (h.output n).fault then g else g.outFade n unity).start (.outputChange n) (g.outMuteTime n)
      else g.start (.outputChange n) 0 := by
  unfold Hub.outputChangeStep
  dsimp only
  rw [hs]
  refine (if_neg (by simp [hf])).trans ((Hub.whenDue_due hd).trans ?_)
  rw [hw]
  rfl

end

/-- Settles O8: each step of the sequence is an equation. -/
theorem outputChangesInSteps : Obligations.OutputChangesInSteps := by
  refine ⟨?closes, ?loads, ?opens, ?off, ?done⟩
  case closes =>
    intro s n hn hs hd hc
    refine answers_of_run (f := (·.outputChangeStep n)) rfl hn ?_
    rw [Hub.outputChangeStep_of_1 hs hd hc]
    exact ⟨by simp, by simp [ms], fun m hm => by simp [hm], rfl⟩
  case loads =>
    intro s n c hn hs hg hd
    refine answers_of_run (f := (·.outputChangeStep n)) rfl hn ?_
    rw [Hub.outputChangeStep_of_2 hs hg hd]
    exact ⟨by simp, fun m hm => by simp [hm], rfl⟩
  case opens =>
    intro s n c hn hs hg hc hf hr
    refine answers_of_run (f := (·.outputChangeStep n)) rfl hn ?_
    rw [Hub.outputChangeStep_of_3 hs hg, if_neg hc]
    obtain ⟨o, t, hrest⟩ := s.hub.complianceOver_rest n
    have hfast : ((s.hub.configLoaded n c).output n).fast = false := by simp [Hub.configLoaded, hf, hr]
    simp only [Hub.modOutput_output, hfast]
    refine ⟨by simp [Hub.configLoaded], by simp, by simp [Hub.configLoaded], by simp [Hub.configLoaded], by simp [Hub.configLoaded, Hub.loadedTarget],
      by simp [Hub.configLoaded, ms, hf, hr], by simp [Hub.configLoaded, ms], fun m hm => by simp [Hub.configLoaded, hm], ?_⟩
    rw [Hub.configLoaded, hrest]
    rfl
  case off =>
    intro s n c hn hs hg hc hw
    refine answers_of_run (f := (·.outputChangeStep n)) rfl hn ?_
    rw [Hub.outputChangeStep_of_3 hs hg, if_pos hc]
    simp only [hw, Hub.outputDone]
    obtain ⟨o, t, hrest⟩ := s.hub.complianceOver_rest n
    refine ⟨by simp [Hub.configLoaded], by simp [Hub.configLoaded], by simp [Hub.configLoaded], by simp [Hub.configLoaded], Hub.cause_causes _ _ _, 
      fun u hu => by simp [Hub.configLoaded, Hub.complianceOver_deadline_other, hu], fun m hm => by simp [Hub.configLoaded, hm], ?_⟩
    rw [Hub.configLoaded, hrest]
    rfl
  case done =>
    intro s n hn hs hw hd hf
    refine answers_of_run (f := (·.outputChangeStep n)) rfl hn ?_
    rw [Hub.outputChangeStep_of_4 hs hf hw hd]
    simp only [Hub.outputDone]
    split
    · split
      · exact ⟨by simp, by simp, by simp, by simp, by simp, Hub.cause_causes _ _ _, fun m hm => by simp [hm], by simp⟩
      · exact ⟨by simp [Hub.outFade], by simp [Hub.outFade], by simp [Hub.outFade], by simp [Hub.outFade], by simp [Hub.outFade], Hub.cause_causes _ _ _,
          fun m hm => by simp [Hub.outFade, hm], by simp [Hub.outFade]⟩
    · exact ⟨by simp, by simp, by simp, by simp, by simp, Hub.cause_causes _ _ _, fun m hm => by simp [hm], by simp⟩

end Sys2Proof.Machine
end

section
/-! SUPPORT. Line outputs (R82 to R102): a CV tick, the compliance report, the delay crossfade and the patrol. -/

namespace Sys2Proof.Machine

/-- An update of an output is the value it gives the output as it stands. -/
theorem Hub.modOutput_congr (h : Hub) (n : Nat) {f g : Output → Output} (hfg : f (h.output n) = g (h.output n)) : h.modOutput n f = h.modOutput n g := by
  simp only [Hub.modOutput, hfg]

/-! ## A CV tick (R88, R89) -/

/-- What an output that runs is not doing. -/
theorem Output.of_running {o : Output} {panic : Bool} (hs : o.state panic = .running) :
    o.fault = false ∧ o.changing = false ∧ o.powerup = 0 ∧ (panic = false) := by
  unfold Output.state at hs
  by_cases hf : o.fault = true
  · simp [hf] at hs
  by_cases hc : o.changing = true
  · simp [hf, hc] at hs
  by_cases hfast : (o.fast && o.powered && decide (o.cfg.mode ≠ 0)) = true
  · rw [if_neg hf, if_neg hc, if_pos hfast] at hs
    cases hs
  rw [if_neg hf, if_neg hc, if_neg hfast] at hs
  by_cases hp : o.powerup = 0
  · by_cases hoff : (!o.powered || decide (o.cfg.mode = 0)) = true
    · rw [if_neg (by simp [hp]), if_pos hoff] at hs
      cases hs
    rw [if_neg (by simp [hp]), if_neg hoff] at hs
    cases hpan : panic
    · exact ⟨by simpa using hf, by simpa using hc, hp, rfl⟩
    · rw [if_pos hpan] at hs
      cases hs
  · rw [if_pos (by simpa using hp)] at hs
    cases hs

theorem Output.state_ne_panic {o : Output} {panic : Bool} (hp : panic = false) : o.state panic ≠ .panic := by
  unfold Output.state
  rw [hp]
  simp only [Bool.false_eq_true, if_false]
  repeat' split
  all_goals simp

/-- An output that neither changes nor panics slews to its target. -/
theorem Output.toZero_of_running {o : Output} {panic : Bool} (hc : o.changing = false) (hp : panic = false) : o.toZero panic = false := by
  subst hp
  simp [Output.toZero, Output.state_ne_panic (o := o) rfl, hc]

theorem Output.drains_of_running {o : Output} {panic : Bool} (hs : o.state panic = .running) : o.drains panic = true := by
  simp [Output.drains, hs]

/-- A tick has taken place (R87). -/
def CvPart.ticked (x : CvPart) (now : Nat) : CvPart := { x with tickAt := some now }

/-- The oldest code has become the target (R89). -/
def CvPart.popped (x : CvPart) (c : BitVec 20) (rest : List (BitVec 20)) : CvPart :=
  { x with target := c, queue := rest, emptyReported := false, powerupHold := false }

/-- The slew has reached its target (R89). -/
def CvPart.reached (x : CvPart) (now : Nat) : CvPart :=
  { x with divCount := 0, present := x.target, previous := x.present, updatedAt := if x.target = x.present then x.updatedAt else now, stepLimited := false }

/-- The time of a tick is no part of what decides about the queue. -/
theorem Output.drains_of_ticked {o : Output} {panic : Bool} (now : Nat) (hs : o.state panic = .running) :
    Output.drains { o with cv := o.cv.ticked now } panic = true := Output.drains_of_running hs

theorem Hub.cvTick_of_now {h : Hub} {n : Nat} (ht : h.tickNow n = true) (hp : (h.output n).powered = true) (hc : isCv (h.output n).cfg.mode = true) :
    h.cvTick n = ((h.modCv n (·.ticked h.now)).cvPop n).cvSlew n := if_pos ⟨ht, hp, hc⟩

theorem Hub.cvPop_of_code {h : Hub} {n : Nat} {c : BitVec 20} {rest : List (BitVec 20)} (hd : (h.output n).drains h.twi.panic = true)
    (hq : (h.output n).cv.queue = c :: rest) :
    h.cvPop n = h.modCv n (·.popped c rest) := by
  unfold Hub.cvPop
  dsimp only
  rw [if_pos hd, hq]
  rfl

theorem Hub.cvPop_of_empty {h : Hub} {n : Nat} (hd : (h.output n).drains h.twi.panic = true) (hq : (h.output n).cv.queue = [])
    (he : (h.output n).cv.everQueued = true) (hr : (h.output n).cv.emptyReported = false) :
    h.cvPop n = ((h.modCv n (fun x => { x with emptyReported := true })).outCause n 5).cause evCvEmpty := by
  unfold Hub.cvPop
  dsimp only
  rw [if_pos hd, hq]
  exact if_pos ⟨hr, he⟩

/-- The slew reaches a target within its step. -/
theorem Hub.cvSlew_of_near {h : Hub} {n : Nat} (hd : h.slewDiv n ≤ (h.output n).cv.divCount + 1) (hz : (h.output n).toZero h.twi.panic = false)
    (hp : (h.output n).powerup = 0) (hl : (h.output n).cv.stepLimited = false)
    (hn : (codeValue (h.output n).cfg (h.output n).cv.target - codeValue (h.output n).cfg (h.output n).cv.present).natAbs ≤ h.slewStep n) :
    h.cvSlew n = h.modCv n (·.reached h.now) := by
  unfold Hub.cvSlew
  simp only [if_neg (Nat.not_lt.mpr hd), hz, hp, hl, Bool.false_or, ne_eq, not_true_eq_false, decide_false, Bool.false_eq_true, if_false, hn,
    and_self, if_true, Hub.modCv_eq]
  exact Hub.modOutput_congr h n rfl

theorem Hub.cvTick_of_code {h : Hub} {n : Nat} {c : BitVec 20} {rest : List (BitVec 20)} (ht : h.tickNow n = true) (hp : (h.output n).powered = true)
    (hc : isCv (h.output n).cfg.mode = true) (hs : h.outState n = .running) (hq : (h.output n).cv.queue = c :: rest)
    (hd : h.slewDiv n ≤ (h.output n).cv.divCount + 1) (hl : (h.output n).cv.stepLimited = false)
    (hn : (codeValue (h.output n).cfg c - codeValue (h.output n).cfg (h.output n).cv.present).natAbs ≤ h.slewStep n) :
    h.cvTick n = h.modCv n (fun x => ((x.ticked h.now).popped c rest).reached h.now) := by
  obtain ⟨-, hch, hup, hpan⟩ := Output.of_running hs
  have hpop := Hub.cvPop_of_code (h := h.modCv n (·.ticked h.now)) (n := n) (by simpa using Output.drains_of_ticked h.now hs) (by simpa [CvPart.ticked] using hq)
  have hslew := Hub.cvSlew_of_near (h := (h.modCv n (·.ticked h.now)).modCv n (·.popped c rest)) (n := n)
    (by simpa [Hub.slewDiv, CvPart.ticked, CvPart.popped] using hd)
    (Output.toZero_of_running (by simpa [Output.changing] using hch) hpan) (by simpa using hup) (by simpa [CvPart.ticked, CvPart.popped] using hl)
    (by simpa [Hub.slewStep, CvPart.ticked, CvPart.popped] using hn)
  rw [Hub.cvTick_of_now ht hp hc, hpop, hslew]
  simp [Hub.modOutput_modOutput]

/-- Whatever a slew does, it keeps the target and what is reported. -/
theorem Hub.cvSlew_eq_modCv (h : Hub) (n : Nat) :
    ∃ f : CvPart → CvPart, h.cvSlew n = h.modCv n f ∧ ∀ x, (f x).target = x.target ∧ (f x).emptyReported = x.emptyReported := by
  unfold Hub.cvSlew
  dsimp only
  split
  · exact ⟨_, rfl, fun x => ⟨rfl, rfl⟩⟩
  · exact ⟨_, rfl, fun x => ⟨rfl, rfl⟩⟩

/-! ## Compliance (R86) -/

theorem Hub.cvCompliance_of_mode_3 {h : Hub} {n : Nat} (hm : (h.output n).cfg.mode = 3) (hp : (h.output n).powered = true) (present : Bool) :
    h.cvCompliance n present =
      if !present then h.complianceOver n
      else if (h.output n).compliance then h
      else ((h.modOutput n (fun o => { o with compliance := true })).episode (.compliance n) 0 (fun h => (h.outCause n 3).cause (evOutputGroup n)))
        |>.cancel (.episode (.compliance n)) := if_neg (by simp [hm, hp])

theorem Hub.complianceOver_deadline {h : Hub} {n : Nat} (hc : (h.output n).compliance = true) :
    (h.complianceOver n).deadline (.episode (.compliance n)) = some (h.now + ms 100) := by
  simp [Hub.complianceOver, hc]

/-- An occurrence of an episode acts at its start, and restarts its quiet interval. -/
theorem Hub.episode_eq (h : Hub) (e : Episode) (quiet : Nat) (f : Hub → Hub) :
    h.episode e quiet f = (h.when (h.startsEpisode e) f).start (.episode e) quiet := by
  unfold Hub.episode Hub.startsEpisode Hub.when
  cases h.armed (.episode e) && !h.due (.episode e) <;> rfl

/-- Settles O9: a tick is a pop and a slew; compliance acts through its episode. -/
theorem cvTickDrainsAndSlews : Obligations.CvTickDrainsAndSlews := by
  refine ⟨?code, ?empty, ?compliance⟩
  case code =>
    intro s n c rest hn ht hp hc hs hq hd hl hnear
    refine answers_of_run (f := (·.cvTick n)) rfl hn ?_
    rw [Hub.cvTick_of_code ht hp hc hs hq hd hl hnear]
    exact ⟨by simp [CvPart.reached, CvPart.popped], by simp [CvPart.reached, CvPart.popped], by simp [CvPart.reached, CvPart.popped],
      by simp [CvPart.reached], by simp [CvPart.reached, CvPart.popped, CvPart.ticked], by simp [CvPart.reached, CvPart.popped, CvPart.ticked],
      by simp, fun m hm => by simp [hm], rfl⟩
  case empty =>
    intro s n hn ht hp hc hs hq he hr
    refine answers_of_run (f := (·.cvTick n)) rfl hn ?_
    have hpop := Hub.cvPop_of_empty (h := s.hub.modCv n (·.ticked s.hub.now)) (n := n) (by simpa using Output.drains_of_ticked s.hub.now hs)
      (by simpa [CvPart.ticked] using hq) (by simpa [CvPart.ticked] using he) (by simpa [CvPart.ticked] using hr)
    rw [Hub.cvTick_of_now ht hp hc, hpop]
    obtain ⟨f, hf, hkeep⟩ := Hub.cvSlew_eq_modCv ((((s.hub.modCv n (·.ticked s.hub.now)).modCv n
      (fun x => { x with emptyReported := true })).outCause n 5).cause evCvEmpty) n
    rw [hf]
    exact ⟨by simp [Hub.outCause, hkeep, CvPart.ticked], by simp [Hub.outCause, hkeep], by simp [Hub.outCause], Hub.cause_causes _ _ _,
      fun m hm => by simp [Hub.outCause, hm], by simp [Hub.outCause]⟩
  case compliance =>
    intro s n present hn hm hp
    refine answers_of_run (f := (·.cvCompliance n present)) rfl hn ?_
    rw [Hub.cvCompliance_of_mode_3 hm hp]
    cases present with
    | false =>
      simp only [Bool.not_false, if_true]
      obtain ⟨o, t, hrest⟩ := s.hub.complianceOver_rest n
      refine ⟨by simp, by simp, nofun, nofun, fun _ => by simp, fun _ hc => Hub.complianceOver_deadline hc, fun m hm => by simp [hm], ?_⟩
      rw [hrest]
    | true =>
      simp only [Bool.not_true, Bool.false_eq_true, if_false]
      cases hc : (s.hub.output n).compliance with
      | true => exact ⟨hc, rfl, fun _ _ => nofun, fun _ => nofun, nofun, nofun, fun m _ => rfl, rfl⟩
      | false =>
        simp only [Bool.false_eq_true, if_false, Hub.episode_eq]
        have hstart : s.hub.armed (.episode (.compliance n)) = false →
            (s.hub.modOutput n (fun o => { o with compliance := true })).startsEpisode (.compliance n) = true :=
          fun ha => Hub.startsEpisode_of_not_armed ha
        generalize (s.hub.modOutput n (fun o => { o with compliance := true })).startsEpisode (.compliance n) = c at hstart
        cases c with
        | true =>
          exact ⟨by simp [Hub.when, Hub.outCause], by simp [Hub.when, Hub.outCause],
            fun _ _ _ => ⟨Hub.cause_causes ((s.hub.modOutput n (fun o => { o with compliance := true })).outCause n 3) _ _, by simp [Hub.when, Hub.outCause]⟩,
            fun _ _ => by simp, nofun, nofun, fun m hm => by simp [Hub.when, Hub.outCause, hm], by simp [Hub.when, Hub.outCause]⟩
        | false =>
          exact ⟨by simp [Hub.when], by simp [Hub.when], fun _ ha _ => absurd (hstart ha) (by simp), fun _ _ => by simp, nofun, nofun,
            fun m hm => by simp [Hub.when, hm], by simp [Hub.when]⟩

/-! ## Delay (R82) -/

theorem Hub.delayXfadeEnd_of_none {h : Hub} {n : Nat} (hd : h.due (.delayXfade n) = true) (hh : (h.output n).audio.delayHeld = none) :
    h.delayXfadeEnd n = (h.cancel (.delayXfade n)).modAudio n (fun a => { a with delayXfade := none, delayHeld := none }) := by
  refine (Hub.whenDue_due hd).trans ?_
  simp only [Hub.cancel_output, hh]

theorem Hub.delayXfadeEnd_of_held {h : Hub} {n d : Nat} (hd : h.due (.delayXfade n) = true) (hh : (h.output n).audio.delayHeld = some d)
    (hne : d ≠ (h.output n).audio.delay) :
    h.delayXfadeEnd n = ((h.cancel (.delayXfade n)).modAudio n (fun a => { a with delayXfade := none, delayHeld := none })).delayStart n d := by
  refine (Hub.whenDue_due hd).trans ?_
  simp only [Hub.cancel_output, hh]
  exact if_neg (by simpa using hne)

/-! ## The patrol (R100 to R102) -/

/-- The patrol has judged an output (R102). -/
def PatrolPart.judged (p : PatrolPart) (flagged : Bool) : PatrolPart :=
  { p with flag := flagged, consec := if flagged then satInc 65535 p.consec else 0 }

/-- A judgement changes the patrol's own part of the output, and its cause where it is flagged. -/
theorem Hub.patrolJudge_output (h : Hub) (n : Nat) (flagged : Bool) :
    ∃ k, (h.patrolJudge n flagged).output n = { h.output n with patrol := (h.output n).patrol.judged flagged, cause := k } ∧
      (flagged = false → k = (h.output n).cause) := by
  unfold Hub.patrolJudge
  cases flagged with
  | false => exact ⟨(h.output n).cause, by simp [PatrolPart.judged], fun _ => rfl⟩
  | true =>
    simp only [if_true, Hub.episode_eq]
    generalize Hub.startsEpisode _ _ = c
    cases c with
    | false => exact ⟨(h.output n).cause, by simp [PatrolPart.judged, Hub.when], nofun⟩
    | true => exact ⟨(h.output n).cause ||| 2 ^ 2, by simp [PatrolPart.judged, Hub.when, Hub.outCause], nofun⟩

/-- What the patrol declares stands in the slice alone. -/
theorem Hub.patrolDeclare_output (h : Hub) (n : Nat) : ∃ sl, (h.patrolDeclare n).output n = { h.output n with slice := sl } := by
  unfold Hub.patrolDeclare
  dsimp only
  split <;> split
  · exact ⟨_, by simp [Hub.totalLoss, Hub.declareSlice, Hub.modSlice, Hub.modOutput_modOutput]; rfl⟩
  · exact ⟨_, by simp [Hub.declareSlice, Hub.modSlice]; rfl⟩
  · exact ⟨_, by simp [Hub.totalLoss, Hub.declareSlice, Hub.modSlice, Hub.modOutput_modOutput]; rfl⟩
  · exact ⟨(h.output n).slice, rfl⟩

/-- A reading has entered the patrol's part of an output (R100). -/
def PatrolPart.read (p : PatrolPart) (m dev : Int) (lost : Bool) : PatrolPart :=
  { p with readback := m, deviation := dev, lossRun := if lost then p.lossRun + 1 else 0 }

/-- A reading within the limit is judged so. -/
theorem Hub.patrolRead_of_unflagged {h : Hub} {n : Nat} {m : Int} (hc : isCv (h.output n).cfg.mode = true) (hs : h.patrolSuspended n = false)
    (hf : cvFlagged (h.output n).cfg (h.output n).cv.present (h.live? (outIdx n + 3) 1) m = false) :
    ∃ dev lost, h.patrolRead n m = (h.modOutput n (fun o => { o with patrol := o.patrol.read m dev lost })).patrolJudge n false := by
  unfold Hub.patrolRead
  dsimp only
  rw [if_pos (by simp [hc, hs]), hf]
  exact ⟨_, _, rfl⟩

theorem Hub.patrolAudioWindow_of_audio {h : Hub} {n : Nat} {rms : Int} (dev res : Int) (hm : (h.output n).cfg.mode = 1)
    (hs : h.patrolSuspended n = false) (hr : -6000 ≤ rms) :
    h.patrolAudioWindow n rms dev res =
      (h.modOutput n (fun o => { o with patrol := { o.patrol with readback := rms + dev, deviation := dev, residual := some res } })).patrolJudge n
        (decide (toS32 (h.live? (outIdx n + 3) 2) < (dev.natAbs : Int)) || decide (toS32 (h.live? (outIdx n + 3) 3) < res)) :=
  if_pos ⟨hm, hs, hr⟩

theorem Hub.scan_single {h : Hub} {n : Nat} (hn : isOutput n = true) (v : Int) : h.scan [(n, v)] = (h.patrolRead n v).patrolDeclare n := if_pos hn

theorem Hub.audioWindow_of_output {h : Hub} {n : Nat} (hn : isOutput n = true) (rms dev res : Int) :
    h.audioWindow n rms dev res = (h.patrolAudioWindow n rms dev res).patrolDeclare n := if_pos hn

/-- Settles O10: the crossfade's end as an equation; what a judgement and a declaration leave of the output. -/
theorem delayAndPatrol : Obligations.DelayAndPatrol := by
  refine ⟨?ends, ?held, ?scan, ?window⟩
  case ends =>
    intro s n hn hd hh
    refine answers_of_run (f := (·.delayXfadeEnd n)) rfl hn ?_
    rw [Hub.delayXfadeEnd_of_none hd hh]
    exact ⟨by simp, by simp, fun m hm => by simp [hm], rfl⟩
  case held =>
    intro s n d hn hd hh hne
    refine answers_of_run (f := (·.delayXfadeEnd n)) rfl hn ?_
    rw [Hub.delayXfadeEnd_of_held hd hh hne]
    exact ⟨by simp [Hub.delayStart, ms], by simp [Hub.delayStart, ms], fun m hm => by simp [Hub.delayStart, hm], by simp [Hub.delayStart]⟩
  case scan =>
    intro s n v hn hc hs hf
    refine answers_of_always (f := (·.scan [(n, v)])) rfl ?_
    obtain ⟨dev, lost, hread⟩ := Hub.patrolRead_of_unflagged hc hs hf
    rw [Hub.scan_single hn, hread]
    obtain ⟨k, hjudge, hk⟩ := Hub.patrolJudge_output (s.hub.modOutput n (fun o => { o with patrol := o.patrol.read v dev lost })) n false
    obtain ⟨sl, hdecl⟩ := Hub.patrolDeclare_output
      ((s.hub.modOutput n (fun o => { o with patrol := o.patrol.read v dev lost })).patrolJudge n false) n
    rw [hdecl, hjudge, hk rfl]
    exact ⟨by simp [PatrolPart.read, PatrolPart.judged], by simp [PatrolPart.judged], by simp [PatrolPart.judged], by simp, by simp⟩
  case window =>
    intro s n rms dev res hn hm hs hr
    refine answers_of_run (f := (·.audioWindow n rms dev res)) rfl (by simp only [isOutput, Bool.and_eq_true, decide_eq_true_eq] at hn ⊢; omega) ?_
    rw [Hub.audioWindow_of_output hn, Hub.patrolAudioWindow_of_audio dev res hm hs hr]
    generalize (decide (toS32 (s.hub.live? (outIdx n + 3) 2) < (dev.natAbs : Int)) || decide (toS32 (s.hub.live? (outIdx n + 3) 3) < res)) = flagged
    obtain ⟨sl, hdecl⟩ := Hub.patrolDeclare_output ((s.hub.modOutput n (fun o =>
      { o with patrol := { o.patrol with readback := rms + dev, deviation := dev, residual := some res } })).patrolJudge n flagged) n
    obtain ⟨k, hjudge, -⟩ := Hub.patrolJudge_output (s.hub.modOutput n (fun o =>
      { o with patrol := { o.patrol with readback := rms + dev, deviation := dev, residual := some res } })) n flagged
    rw [hdecl, hjudge]
    exact ⟨by simp [PatrolPart.judged], by simp [PatrolPart.judged], by simp [PatrolPart.judged], by simp [PatrolPart.judged], by simp⟩

end Sys2Proof.Machine
end

section
/-! SUPPORT. The hardware mute (R47 to R52): what the assertion, the release and the settling of a group do to one source, and the passes over its
members. -/

namespace Sys2Proof.Machine

/-! ## Pins and members -/

theorem bit_setBit_true (n k : Nat) : bit (setBit n k true) k = true := by
  simp [bit, setBit, Nat.testBit_two_pow_self]

theorem bit_setBit_false (n : Nat) {k : Nat} (hk : k < 4) : bit (setBit n k false) k = false := by
  have hm : (2 ^ 64 - 1 - 2 ^ k).testBit k = false := by
    obtain rfl | rfl | rfl | rfl : k = 0 ∨ k = 1 ∨ k = 2 ∨ k = 3 := by omega
    all_goals decide
  simp only [bit, setBit, Bool.false_eq_true, if_false, Nat.testBit_and, hm, Bool.and_false]

theorem isMuteGroup_lt {k : Nat} (hk : isMuteGroup k = true) : k < 4 := of_decide_eq_true hk

theorem Hub.mem_members {h : Hub} {k src : Nat} (hs : isTrimSource src = true) : src ∈ h.members k ↔ h.member k src = true := by
  simp only [isTrimSource, Bool.and_eq_true, decide_eq_true_eq] at hs
  simp only [Hub.members, List.mem_filter, mem_upTo, and_iff_right_iff_imp]
  omega

theorem Hub.nodup_members (h : Hub) (k : Nat) : (h.members k).Nodup := (nodup_upTo 1 52).filter _

/-- What the passes of a mute group read of a source. -/
def Hub.sourcePart (h : Hub) (src : Nat) : Stream × FeState := (h.stream src, h.fe src)

/-! ## Updates that concern neither stream nor front end -/

theorem Hub.stream_modInput_of_keeps (h : Hub) (n m : Nat) {f : Input → Input} (hf : ∀ x, (f x).stream = x.stream) :
    (h.modInput n f).stream m = h.stream m := by
  unfold Hub.stream
  by_cases hm : m = n <;> simp [hm, hf]

theorem Hub.fe_modInput_of_keeps (h : Hub) (n m : Nat) {f : Input → Input} (hf : ∀ x, (f x).fe = x.fe) : (h.modInput n f).fe m = h.fe m := by
  unfold Hub.fe
  by_cases hm : m = n <;> simp [hm, hf]

theorem Hub.stream_modHeadMic_of_keeps (h : Hub) (n m : Nat) {f : HeadMic → HeadMic} (hf : ∀ x, (f x).stream = x.stream) :
    (h.modHeadMic n f).stream m = h.stream m := by
  unfold Hub.stream
  by_cases hm : m - 48 = n <;> simp [hm, hf]

theorem Hub.fe_modHeadMic_of_keeps (h : Hub) (n m : Nat) {f : HeadMic → HeadMic} (hf : ∀ x, (f x).fe = x.fe) :
    (h.modHeadMic n f).fe m = h.fe m := by
  unfold Hub.fe
  by_cases hm : m - 48 = n <;> simp [hm, hf]

/-! ## The assertion (R48) -/

/-- All of the hub but the sources, the relief units of inputs and the deadlines. -/
def Hub.besideMutes (h : Hub) : Hub := { h with ins := [], hms := [], timers := [], irs := [] }

theorem Hub.besideMutes_of_besideSources {g h : Hub} (hb : g.besideSources = h.besideSources) : g.besideMutes = h.besideMutes :=
  (congrArg (fun k : Hub => { k with irs := [] }) hb :)

theorem Hub.modInput_besideMutes (h : Hub) (n : Nat) (f : Input → Input) : (h.modInput n f).besideMutes = h.besideMutes := rfl

theorem Hub.modRelief_irs_besideMutes (h : Hub) (k : Nat) (f : Relief → Relief) : (h.modRelief (.irs k) f).besideMutes = h.besideMutes := rfl

theorem Hub.clearMatchTimers_besideMutes (h : Hub) (u : ReliefUnit) : (h.clearMatchTimers u).besideMutes = h.besideMutes := rfl

theorem Hub.abandonMatch_sourcePart (h : Hub) (k m : Nat) : (h.abandonMatch (.irs k)).sourcePart m = h.sourcePart m := by
  unfold Hub.abandonMatch
  split
  · refine Prod.ext ?_ ?_
    · exact (Hub.stream_modInput_of_keeps _ _ _ (fun _ => by rfl)).trans rfl
    · exact (Hub.fe_modInput_of_keeps _ _ _ (fun _ => by rfl)).trans rfl
  · rfl

theorem Hub.abandonMatch_besideMutes (h : Hub) (k : Nat) : (h.abandonMatch (.irs k)).besideMutes = h.besideMutes := by
  unfold Hub.abandonMatch
  split
  · exact (Hub.modInput_besideMutes _ _ _).trans ((Hub.modRelief_irs_besideMutes _ _ _).trans (Hub.clearMatchTimers_besideMutes _ _))
  · rfl

/-- The cut of a source before its relief's match is looked at. -/
def Hub.cutSource (h : Hub) (src : Nat) : Hub :=
  let g := ((h.zeroStream src).modStream src (fun x => { x with privacy := true })).cancel (.fullLevel src)
  if g.fe src = .unpowered then g else g.setFe src .hwMuted

theorem Hub.hwMute_eq (h : Hub) (src : Nat) :
    h.hwMute src = if src ≤ 48 ∧ ((h.cutSource src).input src).slice.state = .matching then (h.cutSource src).abandonMatch (.irs ((src - 1) / 8))
      else h.cutSource src := rfl

theorem Hub.cutSource_sourcePart (h : Hub) (src m : Nat) :
    (h.cutSource src).sourcePart m =
      if m = src then
        ({ h.stream src with gate := Fade.steady 0, privacy := true }, if h.fe src = .unpowered then FeState.unpowered else .hwMuted)
      else h.sourcePart m := by
  unfold Hub.cutSource Hub.sourcePart
  by_cases hm : m = src
  · subst hm
    by_cases hf : h.fe m = .unpowered <;> simp [Hub.zeroStream, hf]
  · by_cases hf : h.fe src = .unpowered <;> simp [Hub.zeroStream, hf, hm]

theorem Hub.cutSource_besideSources (h : Hub) (src : Nat) : (h.cutSource src).besideSources = h.besideSources := by
  unfold Hub.cutSource
  dsimp only
  split <;> simp [Hub.zeroStream]

theorem Hub.hwMute_sourcePart (h : Hub) (src m : Nat) :
    (h.hwMute src).sourcePart m =
      if m = src then
        ({ h.stream src with gate := Fade.steady 0, privacy := true }, if h.fe src = .unpowered then FeState.unpowered else .hwMuted)
      else h.sourcePart m := by
  rw [Hub.hwMute_eq, ← Hub.cutSource_sourcePart]
  split
  · exact Hub.abandonMatch_sourcePart _ _ _
  · rfl

theorem Hub.hwMute_besideMutes (h : Hub) (src : Nat) : (h.hwMute src).besideMutes = h.besideMutes := by
  have hc := Hub.besideMutes_of_besideSources (h.cutSource_besideSources src)
  rw [Hub.hwMute_eq]
  split
  · exact (Hub.abandonMatch_besideMutes _ _).trans hc
  · exact hc

/-! ## Front-end writes (R50) -/

/-- `g` is `h` after front-end settings of source `n`. -/
structure Hub.FrontStep (h g : Hub) (n : Nat) : Prop where
  beside : g.besideSources = h.besideSources
  fe : ∀ m, g.fe m = h.fe m
  other : ∀ m, m ≠ n → g.stream m = h.stream m
  gate : (g.stream n).gate = (h.stream n).gate
  privacy : (g.stream n).privacy = (h.stream n).privacy

theorem Hub.FrontStep.refl (h : Hub) (n : Nat) : h.FrontStep h n := ⟨rfl, fun _ => rfl, fun _ _ => rfl, rfl, rfl⟩

theorem Hub.FrontStep.trans {a b c : Hub} {n : Nat} (hab : a.FrontStep b n) (hbc : b.FrontStep c n) : a.FrontStep c n :=
  ⟨hbc.beside.trans hab.beside, fun m => (hbc.fe m).trans (hab.fe m), fun m hm => (hbc.other m hm).trans (hab.other m hm), hbc.gate.trans hab.gate,
    hbc.privacy.trans hab.privacy⟩

theorem Hub.frontStep_modInput (h : Hub) (n : Nat) {f : Input → Input} (hs : ∀ x, (f x).stream = x.stream) (hf : ∀ x, (f x).fe = x.fe) :
    h.FrontStep (h.modInput n f) n :=
  ⟨rfl, fun m => h.fe_modInput_of_keeps n m hf, fun m _ => h.stream_modInput_of_keeps n m hs, by rw [h.stream_modInput_of_keeps n n hs],
    by rw [h.stream_modInput_of_keeps n n hs]⟩

theorem Hub.frontStep_modHeadMic (h : Hub) (n k : Nat) {f : HeadMic → HeadMic} (hs : ∀ x, (f x).stream = x.stream) (hf : ∀ x, (f x).fe = x.fe) :
    h.FrontStep (h.modHeadMic k f) n :=
  ⟨rfl, fun m => h.fe_modHeadMic_of_keeps k m hf, fun m _ => h.stream_modHeadMic_of_keeps k m hs, by rw [h.stream_modHeadMic_of_keeps k n hs],
    by rw [h.stream_modHeadMic_of_keeps k n hs]⟩

theorem Hub.frontStep_modStream (h : Hub) (n : Nat) {f : Stream → Stream} (hg : ∀ x, (f x).gate = x.gate) (hp : ∀ x, (f x).privacy = x.privacy) :
    h.FrontStep (h.modStream n f) n :=
  ⟨by simp, fun m => by simp, fun m hm => by simp [hm], by simp [hg], by simp [hp]⟩

theorem Hub.frontStep_start (h : Hub) (n : Nat) (t : Timer) (d : Nat) : h.FrontStep (h.start t d) n := ⟨rfl, fun _ => rfl, fun _ _ => rfl, rfl, rfl⟩

theorem Hub.frontStep_cancel (h : Hub) (n : Nat) (t : Timer) : h.FrontStep (h.cancel t) n := ⟨rfl, fun _ => rfl, fun _ _ => rfl, rfl, rfl⟩

theorem Hub.frontStep_modPhantom (h : Hub) (n : Nat) (f : Phantom → Phantom) : h.FrontStep (h.modPhantom n f) n :=
  h.frontStep_modInput n (fun _ => rfl) (fun _ => rfl)

theorem Hub.frontStep_phantomOff (h : Hub) (n : Nat) (st : PhantomState) : h.FrontStep (h.phantomOff n st) n :=
  ((h.frontStep_modPhantom n _).trans (Hub.frontStep_start _ n _ _)).trans (Hub.frontStep_cancel _ n _)

theorem Hub.frontStep_phantomRequestOn (h : Hub) (n : Nat) : h.FrontStep (h.phantomRequestOn n) n := by
  unfold Hub.phantomRequestOn
  split
  · exact ((h.frontStep_modPhantom n _).trans (Hub.frontStep_cancel _ n _)).trans (Hub.frontStep_cancel _ n _)
  · exact ((h.frontStep_modPhantom n _).trans (Hub.frontStep_start _ n _ _)).trans (Hub.frontStep_cancel _ n _)

theorem Hub.frontStep_phantomApply (h : Hub) (n : Nat) (v : Bool) : h.FrontStep (h.phantomApply n v) n := by
  unfold Hub.phantomApply
  dsimp only
  split
  · exact h.frontStep_modPhantom n _
  split
  · exact h.frontStep_phantomRequestOn n
  · exact .refl h n
  · exact .refl h n
  · exact h.frontStep_phantomOff n _
  · exact .refl h n
  · exact h.frontStep_phantomOff n _
  · exact h.frontStep_modPhantom n _
  · exact h.frontStep_modPhantom n _
  · split
    · exact h.frontStep_modPhantom n _
    · exact h.frontStep_phantomRequestOn n
  · split
    · exact h.frontStep_modPhantom n _
    · exact h.frontStep_modPhantom n _
  · exact h.frontStep_modPhantom n _
  · exact .refl h n

theorem Hub.frontStep_fading (h : Hub) (n : Nat) (p : FadePhase) (m now len : Nat) :
    h.FrontStep (h.modStream n (fun x => { x with polPhase := p, polFade := x.polFade.to m now len })) n :=
  h.frontStep_modStream n (fun _ => rfl) (fun _ => rfl)

theorem Hub.frontStep_polarityApply (h : Hub) (n : Nat) (v : Bool) : h.FrontStep (h.polarityApply n v) n := by
  have htarget : h.FrontStep (h.modStream n (fun x => { x with polTarget := v })) n := h.frontStep_modStream n (fun _ => rfl) (fun _ => rfl)
  unfold Hub.polarityApply
  dsimp only
  split
  · split
    · exact (htarget.trans (Hub.frontStep_fading _ n _ _ _ _)).trans (Hub.frontStep_cancel _ n _)
    · exact htarget
  · split
    · exact htarget
    · exact (htarget.trans (Hub.frontStep_fading _ n _ _ _ _)).trans (Hub.frontStep_start _ n _ _)

theorem Hub.frontStep_frontSet (h : Hub) (n sub v : Nat) : h.FrontStep (h.frontSet n sub v) n := by
  unfold Hub.frontSet
  split
  · split
    · exact h.frontStep_phantomApply n _
    · exact h.frontStep_modHeadMic n _ (fun _ => rfl) (fun _ => rfl)
  · split
    · exact h.frontStep_modInput n (fun _ => rfl) (fun _ => rfl)
    · exact h.frontStep_modHeadMic n _ (fun _ => rfl) (fun _ => rfl)
  · exact h.frontStep_polarityApply n _
  · exact h.frontStep_modStream n (fun _ => rfl) (fun _ => rfl)
  · exact .refl h n

theorem Hub.frontStep_foldl (n : Nat) (l : List (Nat × Nat)) (h : Hub) : h.FrontStep (l.foldl (fun h e => h.frontSet n e.1 e.2) h) n := by
  induction l generalizing h with
  | nil => exact .refl h n
  | cons e l ih => exact (h.frontStep_frontSet n e.1 e.2).trans (ih _)

theorem Hub.frontStep_frontHeld (h : Hub) (n : Nat) : h.FrontStep (h.frontHeld n) n :=
  (h.frontStep_modStream n (f := fun x => { x with heldFront := [] }) (fun _ => rfl) (fun _ => rfl)).trans (Hub.frontStep_foldl n _ _)

theorem Hub.frontHeld_stream_of_nil {h : Hub} {n : Nat} (hh : (h.stream n).heldFront = []) : (h.frontHeld n).stream n = h.stream n := by
  unfold Hub.frontHeld
  rw [hh, List.foldl_nil, Hub.stream_modStream, if_pos rfl, ← hh]

/-! ## The release (R49) -/

/-- The front end of a source is powered again. -/
def Hub.repowered (h : Hub) (src : Nat) : Hub :=
  if src ≤ 48 then ((h.frontHeld src).setFe src .settling).modTandem src (·.restart ((h.frontHeld src).setFe src .settling).boot.full)
  else (h.frontHeld src).setFe src .settling

theorem Hub.hwUnmute_eq (h : Hub) (src : Nat) : h.hwUnmute src = if h.hwMuted src ∨ h.fe src ≠ .hwMuted then h else h.repowered src := rfl

theorem Hub.repowered_stream (h : Hub) (src m : Nat) : (h.repowered src).stream m = (h.frontHeld src).stream m := by
  unfold Hub.repowered
  split
  · exact (Hub.stream_modInput_of_keeps _ _ _ (fun _ => by rfl)).trans (Hub.stream_setFe _ _ _ _)
  · exact Hub.stream_setFe _ _ _ _

theorem Hub.repowered_fe (h : Hub) (src m : Nat) : (h.repowered src).fe m = if m = src then .settling else h.fe m := by
  have hf : ((h.frontHeld src).setFe src .settling).fe m = if m = src then .settling else h.fe m := by
    rw [Hub.fe_setFe, (h.frontStep_frontHeld src).fe]
  unfold Hub.repowered
  split
  · exact (Hub.fe_modInput_of_keeps _ _ _ (fun _ => by rfl)).trans hf
  · exact hf

theorem Hub.hwUnmute_besideSources (h : Hub) (src : Nat) : (h.hwUnmute src).besideSources = h.besideSources := by
  rw [Hub.hwUnmute_eq]
  split
  · rfl
  · unfold Hub.repowered
    split
    · exact (Hub.setFe_besideSources _ _ _).trans (h.frontStep_frontHeld src).beside
    · exact (Hub.setFe_besideSources _ _ _).trans (h.frontStep_frontHeld src).beside

theorem Hub.hwUnmute_sourcePart_other (h : Hub) (src m : Nat) (hm : m ≠ src) : (h.hwUnmute src).sourcePart m = h.sourcePart m := by
  rw [Hub.hwUnmute_eq]
  split
  · rfl
  · rw [Hub.sourcePart, Hub.repowered_stream, Hub.repowered_fe, if_neg hm, (h.frontStep_frontHeld src).other m hm]
    rfl

/-- A release leaves the gate and the privacy flag of every source. -/
theorem Hub.hwUnmute_gate_privacy (h : Hub) (src m : Nat) :
    (((h.hwUnmute src).stream m).gate, ((h.hwUnmute src).stream m).privacy) = ((h.stream m).gate, (h.stream m).privacy) := by
  rw [Hub.hwUnmute_eq]
  split
  · rfl
  · rw [Hub.repowered_stream]
    by_cases hm : m = src
    · rw [hm, (h.frontStep_frontHeld src).gate, (h.frontStep_frontHeld src).privacy]
    · rw [(h.frontStep_frontHeld src).other m hm]

theorem Hub.hwUnmute_stream_of_nil {h : Hub} {src : Nat} (hh : (h.stream src).heldFront = []) : (h.hwUnmute src).stream src = h.stream src := by
  rw [Hub.hwUnmute_eq]
  split
  · rfl
  · rw [Hub.repowered_stream, Hub.frontHeld_stream_of_nil hh]

theorem Hub.hwUnmute_fe_of_free {h : Hub} {src : Nat} (hm : h.hwMuted src = false) (hf : h.fe src = .hwMuted) : (h.hwUnmute src).fe src = .settling := by
  rw [Hub.hwUnmute_eq, if_neg (by simp [hm, hf]), Hub.repowered_fe, if_pos rfl]

theorem Hub.hwMuted_of_besideSources {g h : Hub} (hb : g.besideSources = h.besideSources) (src : Nat) : g.hwMuted src = h.hwMuted src :=
  (congrArg (fun k : Hub => k.hwMuted src) hb :)

/-! ## The end of a release (R49) -/

/-- What the end of a release does to one source. -/
def Hub.unmuted (k : Nat) (h : Hub) (src : Nat) : Hub :=
  if h.heldByOther k src || h.hwMuted src then h
  else
    let g := h.modStream src (fun x => { x with privacy := false })
    if g.fe src = .settling ∧ g.armed (.settle src) = false ∧ g.inputsMuted = false ∧ g.sourceWanted src = true then
      (g.fadeInStream src).start (.fullLevel src) (ms 10)
    else g

theorem Hub.hmuteSettled_of_due {h : Hub} {k : Nat} (hd : h.due (.hmute k) = true) :
    h.hmuteSettled k = (h.cancel (.hmute k)).forAll (h.members k) (Hub.unmuted k) := Hub.whenDue_due hd

/-- A deadline that is not that of a full level. -/
def Hub.otherDeadline (h : Hub) : Timer → Option Nat
  | .fullLevel _ => none
  | u => h.deadline u

/-- What the end of a release keeps: all but the sources and their deadlines of full level. -/
def Hub.unmuteContext (h : Hub) : Hub × (Timer → Option Nat) := (h.besideSources, h.otherDeadline)

/-- What it reads of a source. -/
def Hub.unmutePart (h : Hub) (src : Nat) : Stream × FeState × Option Nat := (h.stream src, h.fe src, h.deadline (.fullLevel src))

theorem Hub.otherDeadline_start_fullLevel (h : Hub) (src d : Nat) : (h.start (.fullLevel src) d).otherDeadline = h.otherDeadline := by
  funext u
  cases u <;> simp [Hub.otherDeadline]

theorem Hub.otherDeadline_modStream (h : Hub) (src : Nat) (f : Stream → Stream) : (h.modStream src f).otherDeadline = h.otherDeadline := by
  funext u
  cases u <;> simp [Hub.otherDeadline]

theorem Hub.unmuted_context (k : Nat) (h : Hub) (src : Nat) : (h.unmuted k src).unmuteContext = h.unmuteContext := by
  unfold Hub.unmuted
  split
  · rfl
  · dsimp only
    split <;> simp [Hub.unmuteContext, Hub.fadeInStream, Hub.otherDeadline_start_fullLevel, Hub.otherDeadline_modStream]

theorem Hub.unmuted_part_other (k : Nat) (h : Hub) (src m : Nat) (hm : m ≠ src) : (h.unmuted k src).unmutePart m = h.unmutePart m := by
  unfold Hub.unmuted
  split
  · rfl
  · dsimp only
    split <;> simp [Hub.unmutePart, Hub.fadeInStream, hm]

/-- What a mute group looks at outside a source. -/
theorem Hub.heldByOther_of_context {g h : Hub} (hc : g.unmuteContext = h.unmuteContext) (k src : Nat) : g.heldByOther k src = h.heldByOther k src := by
  obtain ⟨hb, hd⟩ := Prod.mk.inj hc
  have hmember (j : Nat) : g.member j src = h.member j src := (congrArg (fun k : Hub => k.member j src) hb :)
  have hlow (j : Nat) : g.hmuteLow j = h.hmuteLow j := (congrArg (fun k : Hub => k.hmuteLow j) hb :)
  have harmed (j : Nat) : g.armed (.hmute j) = h.armed (.hmute j) := congrArg Option.isSome (congrFun hd (.hmute j))
  simp only [Hub.heldByOther, hmember, hlow, harmed]

theorem Hub.hmuteLow_of_besideMutes {g h : Hub} (hb : g.besideMutes = h.besideMutes) (k : Nat) : g.hmuteLow k = h.hmuteLow k :=
  (congrArg (fun f : Hub => f.hmuteLow k) hb :)

theorem Hub.hmuteLow_of_besideSources {g h : Hub} (hb : g.besideSources = h.besideSources) (k : Nat) : g.hmuteLow k = h.hmuteLow k :=
  (congrArg (fun f : Hub => f.hmuteLow k) hb :)

theorem Hub.inputsMuted_of_besideSources {g h : Hub} (hb : g.besideSources = h.besideSources) : g.inputsMuted = h.inputsMuted :=
  (congrArg Hub.inputsMuted hb :)

theorem Hub.sourceWanted_of_besideSources {g h : Hub} (hb : g.besideSources = h.besideSources) (src : Nat) : g.sourceWanted src = h.sourceWanted src :=
  (congrArg (fun f : Hub => f.sourceWanted src) hb :)

theorem Hub.now_of_besideSources {g h : Hub} (hb : g.besideSources = h.besideSources) : g.now = h.now := (congrArg Hub.now hb :)

/-- What group `k` does to a source does not depend on the deadline of group `k`. -/
theorem Hub.heldByOther_cancel (h : Hub) (k src : Nat) : (h.cancel (.hmute k)).heldByOther k src = h.heldByOther k src := by
  unfold Hub.heldByOther
  congr 1
  funext j
  by_cases hj : j = k
  · simp [hj]
  · have harmed : (h.cancel (.hmute k)).armed (.hmute j) = h.armed (.hmute j) := congrArg Option.isSome (by simp [hj])
    rw [harmed]
    rfl

/-- A source that no group holds any longer fades in once it has settled. -/
theorem Hub.unmuted_of_free {h : Hub} {k src : Nat} (ho : h.heldByOther k src = false) (hm : h.hwMuted src = false) (hf : h.fe src = .settling)
    (ha : h.armed (.settle src) = false) (hi : h.inputsMuted = false) (hw : h.sourceWanted src = true) :
    (h.unmuted k src).unmutePart src =
      ({ h.stream src with privacy := false, gate := (h.stream src).gate.to unity h.now (ms 10) }, .settling, some (h.now + ms 10)) := by
  have hcond : (h.modStream src (fun x => { x with privacy := false })).fe src = .settling ∧
      (h.modStream src (fun x => { x with privacy := false })).armed (.settle src) = false ∧
      (h.modStream src (fun x => { x with privacy := false })).inputsMuted = false ∧
      (h.modStream src (fun x => { x with privacy := false })).sourceWanted src = true := by
    refine ⟨by simpa using hf, by simpa [Hub.armed] using ha, ?_, ?_⟩
    · exact (Hub.inputsMuted_of_besideSources (Hub.modStream_besideSources h src _)).trans hi
    · exact (Hub.sourceWanted_of_besideSources (Hub.modStream_besideSources h src _) src).trans hw
  unfold Hub.unmuted
  rw [if_neg (by simp [ho, hm])]
  dsimp only
  rw [if_pos hcond]
  simp [Hub.unmutePart, Hub.fadeInStream, hf]

/-! ## The rows -/

theorem Hub.eq_of_released {f g h : Hub} {e : Nat} {sc : Scope} {t : Timer} {d : Nat} (hf : f.besideSources = g.besideSources)
    (hg : { g with ext := h.ext } = h) :
    { (f.start t d).cause e sc with ext := h.ext, ins := h.ins, hms := h.hms, timers := h.timers, evDue := h.evDue } = h := by
  have h1 : { (f.start t d).cause e sc with ext := h.ext, ins := h.ins, hms := h.hms, timers := h.timers, evDue := h.evDue } =
      { g with ext := h.ext, ins := h.ins, hms := h.hms, timers := h.timers, evDue := h.evDue } :=
    (congrArg (fun k : Hub => { k with ext := h.ext, ins := h.ins, hms := h.hms, timers := h.timers, evDue := h.evDue }) hf :)
  exact h1.trans (congrArg (fun k : Hub => { k with ins := h.ins, hms := h.hms, timers := h.timers, evDue := h.evDue }) hg :)

theorem Hub.cause_besideMutes {f g : Hub} {e : Nat} {sc : Scope} (hf : f.besideMutes = g.besideMutes) :
    { (f.cause e sc).besideMutes with evDue := [] } = { g.besideMutes with evDue := [] } :=
  (congrArg (fun k : Hub => { k with evDue := [] }) hf :)

/-- The pin of a mute group as the row finds it. -/
def Hub.withMutePin (h : Hub) (k : Nat) (b : Bool) : Hub := { h with ext := { h.ext with hmutePins := setBit h.ext.hmutePins k b } }

theorem Hub.hmuteAssert_of_high {h : Hub} {k : Nat} (hl : h.hmuteLow k = false) :
    h.hmuteAssert k = (((h.cancel (.hmute k)).withMutePin k true).forAll (h.members k) Hub.hwMute).cause (evHmute k) :=
  if_neg (by simp [hl])

theorem Hub.hmuteRelease_of_low {h : Hub} {k : Nat} (hl : h.hmuteLow k = true) :
    h.hmuteRelease k = (((h.withMutePin k false).forAll (h.members k) Hub.hwUnmute).start (.hmute k) (ms 20)).cause (evHmute k) := if_pos hl

theorem Hub.eq_of_besideMutes {f g h : Hub} {e : Outside} (hf : { f.besideMutes with evDue := [] } = { g.besideMutes with evDue := [] }) (hg : { g with ext := e, timers := [] } = { h with ext := e, timers := [] }) :
    { f with ext := h.ext, ins := h.ins, hms := h.hms, timers := h.timers, evDue := h.evDue, irs := h.irs } = h := by
  have h1 : { f with ext := h.ext, ins := h.ins, hms := h.hms, timers := h.timers, evDue := h.evDue, irs := h.irs } =
      { g with ext := h.ext, ins := h.ins, hms := h.hms, timers := h.timers, evDue := h.evDue, irs := h.irs } :=
    (congrArg (fun k : Hub => { k with ext := h.ext, ins := h.ins, hms := h.hms, timers := h.timers, evDue := h.evDue, irs := h.irs }) hf :)
  exact h1.trans (congrArg (fun k : Hub => { k with ext := h.ext, ins := h.ins, hms := h.hms, timers := h.timers, evDue := h.evDue, irs := h.irs }) hg :)

/-! ## The passes over the members -/

theorem Hub.forAll_hwMute_of_mem {ns : List Nat} (hn : ns.Nodup) {src : Nat} (hs : src ∈ ns) (h : Hub) :
    (h.forAll ns Hub.hwMute).sourcePart src =
      ({ h.stream src with gate := Fade.steady 0, privacy := true }, if h.fe src = .unpowered then FeState.unpowered else .hwMuted) := by
  obtain ⟨g, hg, -, he⟩ := Hub.forAll_at (R := Hub.sourcePart) (K := Hub.besideMutes) (fun g n m hm => by rw [Hub.hwMute_sourcePart, if_neg hm])
    Hub.hwMute_besideMutes hn hs h
  obtain ⟨hstream, hfe⟩ := Prod.mk.inj hg
  rw [he, Hub.hwMute_sourcePart, if_pos rfl, hstream, hfe]

theorem Hub.forAll_hwMute_of_not_mem {ns : List Nat} {src : Nat} (hs : src ∉ ns) (h : Hub) : (h.forAll ns Hub.hwMute).sourcePart src = h.sourcePart src :=
  Hub.forAll_not_mem (R := Hub.sourcePart) (fun g n m hm => by rw [Hub.hwMute_sourcePart, if_neg hm]) hs h

theorem Hub.forAll_hwUnmute_besideSources (ns : List Nat) (h : Hub) : (h.forAll ns Hub.hwUnmute).besideSources = h.besideSources :=
  Hub.forAll_keeps Hub.hwUnmute_besideSources ns h

/-- A member reads as its own step leaves it. -/
theorem Hub.forAll_hwUnmute_of_mem {ns : List Nat} (hn : ns.Nodup) {src : Nat} (hs : src ∈ ns) (h : Hub) :
    ∃ g : Hub, g.sourcePart src = h.sourcePart src ∧ g.besideSources = h.besideSources ∧
      (h.forAll ns Hub.hwUnmute).sourcePart src = (g.hwUnmute src).sourcePart src :=
  Hub.forAll_at (R := Hub.sourcePart) (K := Hub.besideSources) Hub.hwUnmute_sourcePart_other Hub.hwUnmute_besideSources hn hs h

theorem Hub.forAll_hwUnmute_of_not_mem {ns : List Nat} {src : Nat} (hs : src ∉ ns) (h : Hub) :
    (h.forAll ns Hub.hwUnmute).sourcePart src = h.sourcePart src :=
  Hub.forAll_not_mem (R := Hub.sourcePart) Hub.hwUnmute_sourcePart_other hs h

theorem Hub.forAll_hwUnmute_gate_privacy (ns : List Nat) (h : Hub) (src : Nat) :
    (((h.forAll ns Hub.hwUnmute).stream src).gate, ((h.forAll ns Hub.hwUnmute).stream src).privacy) = ((h.stream src).gate, (h.stream src).privacy) :=
  Hub.forAll_keeps (K := fun g => ((g.stream src).gate, (g.stream src).privacy)) (fun g n => g.hwUnmute_gate_privacy n src) ns h

theorem Hub.forAll_unmuted_context (k : Nat) (ns : List Nat) (h : Hub) : (h.forAll ns (Hub.unmuted k)).unmuteContext = h.unmuteContext :=
  Hub.forAll_keeps (Hub.unmuted_context k) ns h

theorem Hub.forAll_unmuted_of_not_mem (k : Nat) {ns : List Nat} {src : Nat} (hs : src ∉ ns) (h : Hub) :
    (h.forAll ns (Hub.unmuted k)).unmutePart src = h.unmutePart src :=
  Hub.forAll_not_mem (R := Hub.unmutePart) (Hub.unmuted_part_other k) hs h

/-- A member that no group holds any longer fades in. -/
theorem Hub.forAll_unmuted_of_free {h : Hub} {k src : Nat} {ns : List Nat} (hn : ns.Nodup) (hs : src ∈ ns) (ho : h.heldByOther k src = false)
    (hm : h.hwMuted src = false) (hf : h.fe src = .settling) (ha : h.armed (.settle src) = false) (hi : h.inputsMuted = false)
    (hw : h.sourceWanted src = true) :
    (h.forAll ns (Hub.unmuted k)).unmutePart src =
      ({ h.stream src with privacy := false, gate := (h.stream src).gate.to unity h.now (ms 10) }, .settling, some (h.now + ms 10)) := by
  obtain ⟨g, hg, hc, he⟩ := Hub.forAll_at (R := Hub.unmutePart) (K := Hub.unmuteContext) (Hub.unmuted_part_other k) (Hub.unmuted_context k) hn hs h
  obtain ⟨hstream, hrest⟩ := Prod.mk.inj hg
  obtain ⟨hbeside, hdeadline⟩ := Prod.mk.inj hc
  have hfree := Hub.unmuted_of_free (h := g) (k := k) (src := src) ((Hub.heldByOther_of_context hc k src).trans ho)
    ((Hub.hwMuted_of_besideSources hbeside src).trans hm) ((congrArg Prod.fst hrest).trans hf)
    ((congrArg Option.isSome (congrFun hdeadline (.settle src))).trans ha) ((Hub.inputsMuted_of_besideSources hbeside).trans hi)
    ((Hub.sourceWanted_of_besideSources hbeside src).trans hw)
  rw [he, hfree, hstream, Hub.now_of_besideSources hbeside]

/-- Settles O11: each member reads as its own step leaves it. -/
theorem hardwareMuteCutsItsMembers : Obligations.HardwareMuteCutsItsMembers := by
  refine ⟨?cut, ?release, ?settled⟩
  case cut =>
    intro s k hk hl
    refine answers_of_run (f := (·.hmuteAssert k)) rfl hk ?_
    rw [Hub.hmuteAssert_of_high hl]
    have hpart (src : Nat) : ((s.hub.cancel (.hmute k)).withMutePin k true).sourcePart src = s.hub.sourcePart src := rfl
    have hlow : ((s.hub.cancel (.hmute k)).withMutePin k true).hmuteLow k = true := bit_setBit_true _ _
    have hrest : { (s.hub.cancel (.hmute k)).withMutePin k true with ext := s.hub.ext, timers := [] } = { s.hub with ext := s.hub.ext, timers := [] } := rfl
    generalize (s.hub.cancel (.hmute k)).withMutePin k true = g at *
    have hkeep := Hub.forAll_keeps (K := Hub.besideMutes) Hub.hwMute_besideMutes (s.hub.members k) g
    refine ⟨(Hub.hmuteLow_of_besideMutes hkeep k).trans hlow, Hub.cause_causes _ _ _, fun src hs hm => ?_, fun src hs hm => ?_,
      Hub.eq_of_besideMutes (Hub.cause_besideMutes hkeep) hrest⟩
    · obtain ⟨hstream, hfe⟩ := Prod.mk.inj (Hub.forAll_hwMute_of_mem (s.hub.nodup_members k) ((Hub.mem_members hs).mpr hm) g)
      exact ⟨congrArg Stream.privacy hstream, congrArg Stream.gate hstream, hfe.trans (by rw [show g.fe src = s.hub.fe src from congrArg Prod.snd (hpart src)])⟩
    · have hmem : src ∉ s.hub.members k := by simp [Hub.mem_members hs, hm]
      obtain ⟨hstream, hfe⟩ := Prod.mk.inj ((Hub.forAll_hwMute_of_not_mem hmem g).trans (hpart src))
      exact ⟨hstream, hfe⟩
  case release =>
    intro s k hk hl
    refine answers_of_run (f := (·.hmuteRelease k)) rfl hk ?_
    rw [Hub.hmuteRelease_of_low hl]
    have hpart (src : Nat) : (s.hub.withMutePin k false).sourcePart src = s.hub.sourcePart src := rfl
    have hlow : (s.hub.withMutePin k false).hmuteLow k = false := bit_setBit_false _ (isMuteGroup_lt hk)
    have hrest : { s.hub.withMutePin k false with ext := s.hub.ext } = s.hub := rfl
    have hnow : (s.hub.withMutePin k false).now = s.hub.now := rfl
    generalize s.hub.withMutePin k false = g at *
    have hkeep := Hub.forAll_hwUnmute_besideSources (s.hub.members k) g
    refine ⟨(Hub.hmuteLow_of_besideSources hkeep k).trans hlow, Hub.cause_causes _ _ _, ?_, fun src hs hm => ?_, fun src _ => ?_,
      fun src hs hm hf hw => ?_, fun src hs hm => ?_, ?_⟩
    · simp [Hub.now_of_besideSources hkeep, hnow, ms]
    · by_cases hmem : src ∈ s.hub.members k
      · have hnil := hm.resolve_left (by simp [(Hub.mem_members hs).mp hmem])
        obtain ⟨g', hg', -, he⟩ := Hub.forAll_hwUnmute_of_mem (s.hub.nodup_members k) hmem g
        have hstream : g'.stream src = s.hub.stream src := congrArg Prod.fst (hg'.trans (hpart src))
        exact ((congrArg Prod.fst he).trans (Hub.hwUnmute_stream_of_nil (by rw [hstream, hnil]))).trans hstream
      · exact congrArg Prod.fst ((Hub.forAll_hwUnmute_of_not_mem hmem g).trans (hpart src))
    · obtain ⟨hgate, hprivacy⟩ := Prod.mk.inj (Hub.forAll_hwUnmute_gate_privacy (s.hub.members k) g src)
      have hstream : g.stream src = s.hub.stream src := congrArg Prod.fst (hpart src)
      exact ⟨hgate.trans (by rw [hstream]), hprivacy.trans (by rw [hstream])⟩
    · obtain ⟨g', hg', hc, he⟩ := Hub.forAll_hwUnmute_of_mem (s.hub.nodup_members k) ((Hub.mem_members hs).mpr hm) g
      have hmuted : g'.hwMuted src = false := (Hub.hwMuted_of_besideSources (hc.trans hkeep.symm) src).trans hw
      exact (congrArg Prod.snd he).trans (Hub.hwUnmute_fe_of_free hmuted ((congrArg Prod.snd (hg'.trans (hpart src))).trans hf))
    · have hmem : src ∉ s.hub.members k := by simp [Hub.mem_members hs, hm]
      exact congrArg Prod.snd ((Hub.forAll_hwUnmute_of_not_mem hmem g).trans (hpart src))
    · exact Hub.eq_of_released hkeep hrest
  case settled =>
    intro s k hk hd hi
    refine answers_of_run (f := (·.hmuteSettled k)) rfl hk ?_
    rw [Hub.hmuteSettled_of_due hd]
    obtain ⟨hbeside, hdeadline⟩ := Prod.mk.inj (Hub.forAll_unmuted_context k (s.hub.members k) (s.hub.cancel (.hmute k)))
    refine ⟨?_, fun src hs hm ho hw hf ha hwant => ?_, fun src hs hm => ?_, Hub.eq_of_besideSources (hbeside.trans rfl)⟩
    · exact (congrFun hdeadline (.hmute k)).trans (s.hub.cancel_deadline (.hmute k))
    · have hpart := Hub.forAll_unmuted_of_free (h := s.hub.cancel (.hmute k)) (s.hub.nodup_members k) ((Hub.mem_members hs).mpr hm)
        ((s.hub.heldByOther_cancel k src).trans ho) hw hf
        (by simpa [Hub.armed] using ha) hi hwant
      obtain ⟨hstream, hrest⟩ := Prod.mk.inj hpart
      exact ⟨congrArg Stream.privacy hstream, congrArg Stream.gate hstream, congrArg Prod.snd hrest⟩
    · have hmem : src ∉ s.hub.members k := by simp [Hub.mem_members hs, hm]
      exact congrArg Prod.fst (Hub.forAll_unmuted_of_not_mem k hmem (s.hub.cancel (.hmute k)))

end Sys2Proof.Machine
end

section
/-! SUPPORT. PANIC_MUTE and LAMP_TEST (R97, R116, R299): passes over the outputs and headphones, and over the lamps. -/

namespace Sys2Proof.Machine

/-! ## Passes over outputs and headphones -/

/-- All of the hub but the line outputs. -/
def Hub.withoutOutputs (h : Hub) : Hub := { h with outs := [] }

/-- All of the hub but the headphones. -/
def Hub.withoutHeadphones (h : Hub) : Hub := { h with hps := [] }

theorem isOutput_range {n : Nat} (hn : isOutput n = true) : 1 ≤ n ∧ n < 1 + 32 := by
  simp only [isOutput, Bool.and_eq_true, decide_eq_true_eq] at hn
  omega

theorem isHeadphone_range {j : Nat} (hj : isHeadphone j = true) : 1 ≤ j ∧ j < 1 + 4 := by
  simp only [isHeadphone, Bool.and_eq_true, decide_eq_true_eq] at hj
  omega

section
variable {step : Hub → Nat → Hub}

/-- Where each step of a pass over the outputs changes its own output alone, an output reads as its step leaves it. -/
theorem Hub.forAll_output (hR : ∀ g n m, m ≠ n → (step g n).output m = g.output m) (hK : ∀ g n, (step g n).withoutOutputs = g.withoutOutputs) {n : Nat}
    (hn : isOutput n = true) (h : Hub) :
    ∃ g : Hub, g.output n = h.output n ∧ g.withoutOutputs = h.withoutOutputs ∧ (h.forAll (upTo 1 32) step).output n = (step g n).output n := by
  obtain ⟨hlo, hhi⟩ := isOutput_range hn
  exact Hub.forAll_at (R := Hub.output) (K := Hub.withoutOutputs) hR hK (nodup_upTo 1 32) (mem_upTo.mpr ⟨hlo, hhi⟩) h

theorem Hub.forAll_headphone (hR : ∀ g n m, m ≠ n → (step g n).headphone m = g.headphone m)
    (hK : ∀ g n, (step g n).withoutHeadphones = g.withoutHeadphones) {j : Nat} (hj : isHeadphone j = true) (h : Hub) :
    ∃ g : Hub, g.headphone j = h.headphone j ∧ g.withoutHeadphones = h.withoutHeadphones ∧
      (h.forAll (upTo 1 4) step).headphone j = (step g j).headphone j := by
  obtain ⟨hlo, hhi⟩ := isHeadphone_range hj
  exact Hub.forAll_at (R := Hub.headphone) (K := Hub.withoutHeadphones) hR hK (nodup_upTo 1 4) (mem_upTo.mpr ⟨hlo, hhi⟩) h

end

section
variable {g h : Hub}

theorem Hub.now_of_withoutOutputs (hk : g.withoutOutputs = h.withoutOutputs) : g.now = h.now := (congrArg Hub.now hk :)
theorem Hub.live?_of_withoutOutputs (hk : g.withoutOutputs = h.withoutOutputs) (idx sub : Nat) : g.live? idx sub = h.live? idx sub :=
  (congrArg (fun k : Hub => k.live? idx sub) hk :)
theorem Hub.outMuteTime_of_withoutOutputs (hk : g.withoutOutputs = h.withoutOutputs) (n : Nat) : g.outMuteTime n = h.outMuteTime n :=
  congrArg us (Hub.live?_of_withoutOutputs hk _ _)
theorem Hub.headphone_of_withoutOutputs (hk : g.withoutOutputs = h.withoutOutputs) (j : Nat) : g.headphone j = h.headphone j :=
  (congrArg (fun k : Hub => k.headphone j) hk :)
theorem Hub.now_of_withoutHeadphones (hk : g.withoutHeadphones = h.withoutHeadphones) : g.now = h.now := (congrArg Hub.now hk :)
theorem Hub.live?_of_withoutHeadphones (hk : g.withoutHeadphones = h.withoutHeadphones) (idx sub : Nat) : g.live? idx sub = h.live? idx sub :=
  (congrArg (fun k : Hub => k.live? idx sub) hk :)
theorem Hub.output_of_withoutHeadphones (hk : g.withoutHeadphones = h.withoutHeadphones) (n : Nat) : g.output n = h.output n :=
  (congrArg (fun k : Hub => k.output n) hk :)

end

/-! ## PANIC_MUTE (R97, R116) -/

theorem Hub.outputPanic_other (h : Hub) (n m : Nat) (hm : m ≠ n) : (h.outputPanic n).output m = h.output m := by simp [Hub.outputPanic, hm]

theorem Hub.outputPanicRelease_other (h : Hub) (n m : Nat) (hm : m ≠ n) : (h.outputPanicRelease n).output m = h.output m := by
  simp [Hub.outputPanicRelease, hm]

theorem Hub.hpPanic_other (v : Nat) (h : Hub) (n m : Nat) (hm : m ≠ n) : (h.hpPanic n v).headphone m = h.headphone m := by simp [Hub.hpPanic, hm]

theorem Hub.hpPanic_withoutHeadphones (v : Nat) (h : Hub) (n : Nat) : (h.hpPanic n v).withoutHeadphones = h.withoutHeadphones := rfl

theorem Hub.forAll_hpPanic_withoutHeadphones (v : Nat) (h : Hub) :
    (h.forAll (upTo 1 4) (·.hpPanic · v)).withoutHeadphones = h.withoutHeadphones :=
  Hub.forAll_keeps (Hub.hpPanic_withoutHeadphones v) _ h

/-- All of the hub but what PANIC_MUTE moves. -/
def Hub.besidePanic (h : Hub) : Hub := { h with twi := {}, outs := [], hps := [], spk := {} }

theorem Hub.eq_of_besidePanic {g h : Hub} (hb : g.besidePanic = h.besidePanic) :
    { g with twi := h.twi, outs := h.outs, hps := h.hps, spk := h.spk } = h :=
  (congrArg (fun k : Hub => { k with twi := h.twi, outs := h.outs, hps := h.hps, spk := h.spk }) hb :)

/-- The stages of PANIC_MUTE or of its release: outputs, headphones, speaker. -/
def Hub.panicked (h : Hub) (step : Hub → Nat → Hub) (v : Nat) : Hub := ((h.forAll (upTo 1 32) step).forAll (upTo 1 4) (·.hpPanic · v)).spkPanic v

theorem Hub.panicMute_of_off {h : Hub} (hp : h.twi.panic = false) :
    h.panicMute = (h.modTwi (fun t => { t with panic := true })).panicked Hub.outputPanic 0 := if_neg (by simp [hp])

theorem Hub.panicRelease_of_on {h : Hub} (hp : h.twi.panic = true) :
    h.panicRelease = (h.modTwi (fun t => { t with panic := false })).panicked Hub.outputPanicRelease unity := if_pos hp

section
variable {step : Hub → Nat → Hub} (hR : ∀ g n m, m ≠ n → (step g n).output m = g.output m) (hK : ∀ g n, (step g n).withoutOutputs = g.withoutOutputs)
include hK

theorem Hub.panicked_besidePanic (h : Hub) (v : Nat) : (h.panicked step v).besidePanic = h.besidePanic := by
  have ho : (h.forAll (upTo 1 32) step).withoutOutputs = h.withoutOutputs := Hub.forAll_keeps hK _ h
  unfold Hub.panicked
  generalize h.forAll (upTo 1 32) step = g at ho
  have hp : (g.forAll (upTo 1 4) (·.hpPanic · v)).withoutHeadphones = g.withoutHeadphones := Hub.forAll_hpPanic_withoutHeadphones v g
  generalize g.forAll (upTo 1 4) (·.hpPanic · v) = k at hp
  exact (show (k.spkPanic v).besidePanic = _ from (congrArg Hub.besidePanic hp :)).trans (congrArg Hub.besidePanic ho :)

theorem Hub.panicked_twi (h : Hub) (v : Nat) : (h.panicked step v).twi = h.twi := by
  have ho : (h.forAll (upTo 1 32) step).withoutOutputs = h.withoutOutputs := Hub.forAll_keeps hK _ h
  unfold Hub.panicked
  generalize h.forAll (upTo 1 32) step = g at ho
  have hp : (g.forAll (upTo 1 4) (·.hpPanic · v)).withoutHeadphones = g.withoutHeadphones := Hub.forAll_hpPanic_withoutHeadphones v g
  generalize g.forAll (upTo 1 4) (·.hpPanic · v) = k at hp
  exact (congrArg Hub.twi hp :).trans (congrArg Hub.twi ho :)

theorem Hub.panicked_spk (h : Hub) (v : Nat) :
    (h.panicked step v).spk = { h.spk with panicFade := h.spk.panicFade.to v h.now h.spkMuteTime } := by
  have ho : (h.forAll (upTo 1 32) step).withoutOutputs = h.withoutOutputs := Hub.forAll_keeps hK _ h
  unfold Hub.panicked
  generalize h.forAll (upTo 1 32) step = g at ho
  have hp : (g.forAll (upTo 1 4) (·.hpPanic · v)).withoutHeadphones = g.withoutHeadphones := Hub.forAll_hpPanic_withoutHeadphones v g
  generalize g.forAll (upTo 1 4) (·.hpPanic · v) = k at hp
  exact (congrArg (fun k : Hub => (k.spkPanic v).spk) hp :).trans (congrArg (fun k : Hub => (k.spkPanic v).spk) ho :)

theorem Hub.panicked_headphone (h : Hub) {j : Nat} (hj : isHeadphone j = true) (v : Nat) :
    (h.panicked step v).headphone j = { h.headphone j with panicFade := (h.headphone j).panicFade.to v h.now (h.hpMuteTime j) } := by
  have ho : (h.forAll (upTo 1 32) step).withoutOutputs = h.withoutOutputs := Hub.forAll_keeps hK _ h
  obtain ⟨g, hg, hk, he⟩ := Hub.forAll_headphone (step := (·.hpPanic · v)) (Hub.hpPanic_other v) (fun _ _ => rfl) hj (h.forAll (upTo 1 32) step)
  refine (show (h.panicked step v).headphone j = _ from he).trans ?_
  rw [show (g.hpPanic j v).headphone j = _ from Hub.modHeadphone_headphone _ _ _, hg, Hub.now_of_withoutHeadphones hk, Hub.hpMuteTime, Hub.hpMuteTime,
    Hub.live?_of_withoutHeadphones hk, Hub.now_of_withoutOutputs ho, Hub.live?_of_withoutOutputs ho, Hub.headphone_of_withoutOutputs ho]

include hR

/-- An output reads as its own step leaves it. -/
theorem Hub.panicked_output (h : Hub) {n : Nat} (hn : isOutput n = true) (v : Nat) :
    ∃ g : Hub, g.output n = h.output n ∧ g.withoutOutputs = h.withoutOutputs ∧ (h.panicked step v).output n = (step g n).output n := by
  obtain ⟨g, hg, hk, he⟩ := Hub.forAll_output hR hK hn h
  have hp : ((h.forAll (upTo 1 32) step).forAll (upTo 1 4) (·.hpPanic · v)).withoutHeadphones = (h.forAll (upTo 1 32) step).withoutHeadphones :=
    Hub.forAll_hpPanic_withoutHeadphones v _
  exact ⟨g, hg, hk, ((show (h.panicked step v).output n = _ from Hub.output_of_withoutHeadphones hp n)).trans he⟩

end

/-! ## LAMP_TEST (R299) -/

/-- One bit of LAMP_TEST as it is written. -/
def Hub.lampBit (v : Nat) (h : Hub) (k : Nat) : Hub := if bit v k then h.start (.lampTest k) (secs 5) else h.cancel (.lampTest k)

theorem Hub.lampTest_eq (h : Hub) (v : Nat) :
    h.lampTest v = (h.modTwi (fun t => { t with lampTest := v % 16 })).forAll (List.range 4) (Hub.lampBit v) := rfl

theorem Hub.lampBit_deadline (v : Nat) (h : Hub) (k : Nat) (u : Timer) :
    (h.lampBit v k).deadline u = if u = .lampTest k then (if bit v k then some (h.now + secs 5) else none) else h.deadline u := by
  unfold Hub.lampBit
  split <;> simp

/-- All of the hub but the deadlines. -/
def Hub.withoutTimers (h : Hub) : Hub := { h with timers := [] }

theorem Hub.lampBit_withoutTimers (v : Nat) (h : Hub) (k : Nat) : (h.lampBit v k).withoutTimers = h.withoutTimers := by
  unfold Hub.lampBit
  split <;> rfl

theorem Hub.eq_of_withoutTimers_twi {f g h : Hub} (hf : f.withoutTimers = g.withoutTimers) (hg : { g with twi := h.twi } = h) :
    { f with twi := h.twi, timers := h.timers } = h := by
  have h1 : { f with twi := h.twi, timers := h.timers } = { g with twi := h.twi, timers := h.timers } :=
    (congrArg (fun k : Hub => { k with twi := h.twi, timers := h.timers }) hf :)
  exact h1.trans (congrArg (fun k : Hub => { k with timers := h.timers }) hg :)

theorem Hub.lampTestExpiry_of_due {h : Hub} {k : Nat} (hd : h.due (.lampTest k) = true) :
    h.lampTestExpiry k = (h.cancel (.lampTest k)).modTwi (fun t => { t with lampTest := clearBits t.lampTest (2 ^ k) }) := Hub.whenDue_due hd

theorem Hub.outputPanic_withoutOutputs (h : Hub) (n : Nat) : (h.outputPanic n).withoutOutputs = h.withoutOutputs := rfl

theorem Hub.outputPanicRelease_withoutOutputs (h : Hub) (n : Nat) : (h.outputPanicRelease n).withoutOutputs = h.withoutOutputs := rfl

/-- Settles O12: an output of the pass reads as its own step leaves it, and so does the deadline of a lamp. -/
theorem panicMutesAndLampsTest : Obligations.PanicMutesAndLampsTest := by
  refine ⟨?mute, ?release, ?lamps, ?expiry⟩
  case mute =>
    intro s hp
    refine answers_of_always (f := Hub.panicMute) rfl ?_
    rw [Hub.panicMute_of_off hp]
    refine ⟨Hub.panicked_twi Hub.outputPanic_withoutOutputs _ _, fun n hn => ?_, fun j hj => Hub.panicked_headphone Hub.outputPanic_withoutOutputs _ hj _,
      Hub.panicked_spk Hub.outputPanic_withoutOutputs _ _, Hub.eq_of_besidePanic (Hub.panicked_besidePanic Hub.outputPanic_withoutOutputs _ _)⟩
    obtain ⟨g, hg, hk, he⟩ := Hub.panicked_output Hub.outputPanic_other Hub.outputPanic_withoutOutputs
      (s.hub.modTwi (fun t => { t with panic := true })) hn 0
    rw [he, show (g.outputPanic n).output n = _ from Hub.modOutput_output _ _ _, hg, Hub.now_of_withoutOutputs hk, Hub.outMuteTime_of_withoutOutputs hk]
    rfl
  case release =>
    intro s hp
    refine answers_of_always (f := Hub.panicRelease) rfl ?_
    rw [Hub.panicRelease_of_on hp]
    refine ⟨Hub.panicked_twi Hub.outputPanicRelease_withoutOutputs _ _, fun n hn => ?_, Hub.panicked_spk Hub.outputPanicRelease_withoutOutputs _ _,
      Hub.eq_of_besidePanic (Hub.panicked_besidePanic Hub.outputPanicRelease_withoutOutputs _ _)⟩
    obtain ⟨g, hg, hk, he⟩ := Hub.panicked_output Hub.outputPanicRelease_other Hub.outputPanicRelease_withoutOutputs
      (s.hub.modTwi (fun t => { t with panic := false })) hn unity
    have hout : (g.outputPanicRelease n).output n = { g.output n with
        audio := { (g.output n).audio with panicFade := (g.output n).audio.panicFade.to unity g.now (g.outMuteTime n) }
        cv := { (g.output n).cv with stepLimited := true } } := by
      simp [Hub.outputPanicRelease]
    rw [he, hout, hg, Hub.now_of_withoutOutputs hk, Hub.outMuteTime_of_withoutOutputs hk]
    exact ⟨rfl, rfl⟩
  case lamps =>
    intro s bits hb
    refine answers_of_run (f := (·.lampTest bits)) rfl (decide_eq_true hb) ?_
    rw [Hub.lampTest_eq]
    have hmod : (s.hub.modTwi (fun t => { t with lampTest := bits % 16 })).twi = { s.hub.twi with lampTest := bits } := by
      rw [Nat.mod_eq_of_lt hb]; rfl
    have hnow : (s.hub.modTwi (fun t => { t with lampTest := bits % 16 })).now = s.hub.now := rfl
    have hdead (u : Timer) : (s.hub.modTwi (fun t => { t with lampTest := bits % 16 })).deadline u = s.hub.deadline u := rfl
    have hrest : { s.hub.modTwi (fun t => { t with lampTest := bits % 16 }) with twi := s.hub.twi } = s.hub := rfl
    generalize s.hub.modTwi (fun t => { t with lampTest := bits % 16 }) = g at *
    have hkeep : (g.forAll (List.range 4) (Hub.lampBit bits)).withoutTimers = g.withoutTimers := Hub.forAll_keeps (Hub.lampBit_withoutTimers bits) _ g
    refine ⟨((congrArg Hub.twi hkeep :)).trans hmod, fun k hk => ?_, fun u hu => ?_, ?_⟩
    · obtain ⟨f, -, hc, he⟩ := Hub.forAll_at (R := fun h k => h.deadline (.lampTest k)) (K := Hub.withoutTimers)
        (fun f n m hm => by rw [Hub.lampBit_deadline, if_neg (by simpa using hm)]) (Hub.lampBit_withoutTimers bits) List.nodup_range
        (List.mem_range.mpr hk) g
      rw [he, Hub.lampBit_deadline, if_pos rfl, show f.now = g.now from (congrArg Hub.now hc :), hnow]
      rfl
    · refine (Hub.forAll_keeps (K := fun h => h.deadline u) (fun f n => ?_) (List.range 4) g).trans (hdead u)
      rw [Hub.lampBit_deadline, if_neg (hu n)]
    · exact Hub.eq_of_withoutTimers_twi hkeep hrest
  case expiry =>
    intro s k hk hd
    refine answers_of_run (f := (·.lampTestExpiry k)) rfl (decide_eq_true hk) ?_
    rw [Hub.lampTestExpiry_of_due hd]
    exact ⟨rfl, s.hub.cancel_deadline _, rfl⟩

end Sys2Proof.Machine
end

section
/-! SUPPORT. Supply supervision (R430 to R438): the mutes of the analogue rails and their recovery, dips, VIO and heat. -/

namespace Sys2Proof.Machine

/-- A pass only looks at its steps for the instances it visits. -/
theorem Hub.forAll_congr {f f' : Hub → Nat → Hub} {ns : List Nat} (hf : ∀ n ∈ ns, ∀ g, f g n = f' g n) (h : Hub) : h.forAll ns f = h.forAll ns f' := by
  induction ns generalizing h with
  | nil => rfl
  | cons n ns ih =>
    rw [show h.forAll (n :: ns) f = (f h n).forAll ns f from rfl, hf n List.mem_cons_self, ih (fun m hm => hf m (List.mem_cons_of_mem n hm))]
    rfl

/-! ## Line outputs and headphones (R435, R437) -/

/-- All of the hub but the line outputs and headphones. -/
def Hub.besideAnalog (h : Hub) : Hub := { h with outs := [], hps := [] }

theorem Hub.outputFastMute_besideAnalog (h : Hub) (n : Nat) : (h.outputFastMute n).besideAnalog = h.besideAnalog := by
  unfold Hub.outputFastMute
  dsimp only
  split <;> rfl

theorem Hub.hpFastMute_besideAnalog (h : Hub) (j : Nat) : (h.hpFastMute j).besideAnalog = h.besideAnalog := by
  unfold Hub.hpFastMute
  split <;> rfl

theorem Hub.muteAnalog_besideAnalog (h : Hub) : h.muteAnalog.besideAnalog = h.besideAnalog :=
  (Hub.forAll_keeps Hub.hpFastMute_besideAnalog _ _).trans (Hub.forAll_keeps Hub.outputFastMute_besideAnalog _ h)

theorem Hub.outputFastMute_other (h : Hub) (n m : Nat) (hm : m ≠ n) : (h.outputFastMute n).output m = h.output m := by
  unfold Hub.outputFastMute
  dsimp only
  split
  · simp [hm]
  · rfl

theorem Hub.hpFastMute_other (h : Hub) (n m : Nat) (hm : m ≠ n) : (h.hpFastMute n).headphone m = h.headphone m := by
  unfold Hub.hpFastMute
  split
  · simp [hm]
  · rfl

theorem Hub.hpFastMute_output (h : Hub) (j n : Nat) : (h.hpFastMute j).output n = h.output n := by
  unfold Hub.hpFastMute
  split <;> rfl

/-- A fast-mute changes an output at once: its switch closes (R96). -/
def Output.fastMuted (o : Output) : Output :=
  if o.powered ∧ o.cfg.mode ≠ 0 then { o with fast := true, openAt := none, audio := { o.audio with protect := Fade.steady 0 } } else o

/-- A fast-mute changes a headphone at once (R116). -/
def Headphone.fastMuted (x : Headphone) : Headphone := if x.powered then { x with fast := true, openAt := none, closeAt := none, fade := Fade.steady 0 } else x

theorem Hub.outputFastMute_output (h : Hub) (n : Nat) : (h.outputFastMute n).output n = (h.output n).fastMuted := by
  unfold Hub.outputFastMute Output.fastMuted
  dsimp only
  split <;> simp

theorem Hub.hpFastMute_headphone (h : Hub) (j : Nat) : (h.hpFastMute j).headphone j = (h.headphone j).fastMuted := by
  unfold Hub.hpFastMute Headphone.fastMuted
  split <;> simp

theorem Hub.muteAnalog_output (h : Hub) {n : Nat} (hn : isOutput n = true) : h.muteAnalog.output n = (h.output n).fastMuted := by
  obtain ⟨hlo, hhi⟩ := isOutput_range hn
  have hhp : h.muteAnalog.output n = (h.forAll (upTo 1 32) Hub.outputFastMute).output n :=
    Hub.forAll_keeps (K := fun h => h.output n) (fun g j => g.hpFastMute_output j n) _ _
  obtain ⟨g, hg, -, he⟩ := Hub.forAll_at (R := Hub.output) (K := Hub.besideAnalog) Hub.outputFastMute_other Hub.outputFastMute_besideAnalog
    (nodup_upTo 1 32) (mem_upTo.mpr ⟨hlo, hhi⟩) h
  rw [hhp, he, Hub.outputFastMute_output, hg]

theorem Hub.muteAnalog_headphone (h : Hub) {j : Nat} (hj : isHeadphone j = true) : h.muteAnalog.headphone j = (h.headphone j).fastMuted := by
  obtain ⟨hlo, hhi⟩ := isHeadphone_range hj
  have ho : (h.forAll (upTo 1 32) Hub.outputFastMute).headphone j = h.headphone j :=
    Hub.forAll_keeps (K := fun h => h.headphone j) (fun g n => by unfold Hub.outputFastMute; dsimp only; split <;> rfl) _ _
  obtain ⟨g, hg, -, he⟩ := Hub.forAll_at (R := Hub.headphone) (K := Hub.besideAnalog) Hub.hpFastMute_other Hub.hpFastMute_besideAnalog
    (nodup_upTo 1 4) (mem_upTo.mpr ⟨hlo, hhi⟩) (h.forAll (upTo 1 32) Hub.outputFastMute)
  exact he.trans (by rw [Hub.hpFastMute_headphone, hg, ho])

/-! ## Their release (R96, R116) -/

/-- All of the hub but the line outputs, headphones and deadlines. -/
def Hub.besideAnalogTimers (h : Hub) : Hub := { h with outs := [], hps := [], timers := [] }

section
variable (h : Hub) (n : Nat)

@[simp] theorem Hub.modOutput_besideAnalogTimers (f : Output → Output) : (h.modOutput n f).besideAnalogTimers = h.besideAnalogTimers := rfl
@[simp] theorem Hub.modHeadphone_besideAnalogTimers (f : Headphone → Headphone) : (h.modHeadphone n f).besideAnalogTimers = h.besideAnalogTimers := rfl
@[simp] theorem Hub.start_besideAnalogTimers (t : Timer) (d : Nat) : (h.start t d).besideAnalogTimers = h.besideAnalogTimers := rfl

end

theorem Hub.outputFastRelease_beside (h : Hub) (n : Nat) : (h.outputFastRelease n).besideAnalogTimers = h.besideAnalogTimers := by
  unfold Hub.outputFastRelease
  dsimp only
  split
  · split
    · simp
    · split
      · simp
      · split <;> simp [Hub.outFadeLater]
  · rfl

theorem Hub.outputFastRelease_other (h : Hub) (n m : Nat) (hm : m ≠ n) : (h.outputFastRelease n).output m = h.output m := by
  unfold Hub.outputFastRelease
  dsimp only
  split
  · split
    · simp [hm]
    · split
      · simp [hm]
      · split <;> simp [Hub.outFadeLater, hm]
  · rfl

theorem Hub.outputFastRelease_fast (h : Hub) (n : Nat) : ((h.outputFastRelease n).output n).fast = false := by
  unfold Hub.outputFastRelease
  dsimp only
  split
  · split
    · simp
    · split
      · simp
      · split <;> simp [Hub.outFadeLater]
  · next hf => simpa using hf

theorem Hub.hpFastRelease_beside (h : Hub) (j : Nat) : (h.hpFastRelease j).besideAnalogTimers = h.besideAnalogTimers := by
  unfold Hub.hpFastRelease
  split <;> simp

theorem Hub.hpFastRelease_output (h : Hub) (j n : Nat) : (h.hpFastRelease j).output n = h.output n := by
  unfold Hub.hpFastRelease
  split <;> simp

theorem Hub.hpFastRelease_other (h : Hub) (j m : Nat) (hm : m ≠ j) : (h.hpFastRelease j).headphone m = h.headphone m := by
  unfold Hub.hpFastRelease
  split <;> simp [hm]

theorem Hub.hpFastRelease_fast (h : Hub) (j : Nat) : ((h.hpFastRelease j).headphone j).fast = false := by
  unfold Hub.hpFastRelease
  split
  · simp
  · next hf => simpa using hf

section
variable {h : Hub} (hr : h.railsLow = false)
include hr

theorem Hub.unmuteAnalog_of_rails : h.unmuteAnalog = (h.forAll (upTo 1 32) Hub.outputFastRelease).forAll (upTo 1 4) Hub.hpFastRelease :=
  if_neg (by simp [hr])

theorem Hub.unmuteAnalog_beside : h.unmuteAnalog.besideAnalogTimers = h.besideAnalogTimers := by
  rw [Hub.unmuteAnalog_of_rails hr]
  exact (Hub.forAll_keeps Hub.hpFastRelease_beside _ _).trans (Hub.forAll_keeps Hub.outputFastRelease_beside _ h)

theorem Hub.unmuteAnalog_output_fast {n : Nat} (hn : isOutput n = true) : (h.unmuteAnalog.output n).fast = false := by
  obtain ⟨hlo, hhi⟩ := isOutput_range hn
  rw [Hub.unmuteAnalog_of_rails hr]
  obtain ⟨g, -, -, he⟩ := Hub.forAll_at (R := Hub.output) (K := Hub.besideAnalogTimers) Hub.outputFastRelease_other
    Hub.outputFastRelease_beside (nodup_upTo 1 32) (mem_upTo.mpr ⟨hlo, hhi⟩) h
  have hhp := Hub.forAll_keeps (K := fun h => h.output n) (fun g j => g.hpFastRelease_output j n) (upTo 1 4) (h.forAll (upTo 1 32) Hub.outputFastRelease)
  exact (congrArg Output.fast (hhp.trans he)).trans (g.outputFastRelease_fast n)

theorem Hub.unmuteAnalog_headphone_fast {j : Nat} (hj : isHeadphone j = true) : (h.unmuteAnalog.headphone j).fast = false := by
  obtain ⟨hlo, hhi⟩ := isHeadphone_range hj
  rw [Hub.unmuteAnalog_of_rails hr]
  obtain ⟨g, -, -, he⟩ := Hub.forAll_at (R := Hub.headphone) (K := Hub.besideAnalogTimers) Hub.hpFastRelease_other
    Hub.hpFastRelease_beside (nodup_upTo 1 4) (mem_upTo.mpr ⟨hlo, hhi⟩) (h.forAll (upTo 1 32) Hub.outputFastRelease)
  exact (congrArg Headphone.fast he).trans (g.hpFastRelease_fast j)

end

/-! ## Inputs (R436) -/

/-- The front end is powered and at work or settling. -/
def FeState.sounds (f : FeState) : Bool := decide (f = .running) || decide (f = .onRelief) || decide (f = .settling)

/-- A rail mute puts an input into settling (R436). -/
def Hub.inputMuted (h : Hub) (n : Nat) : Hub :=
  if (h.input n).fe.sounds then
    ((h.modInput n (fun x => { x with stream := { x.stream with gate := x.stream.gate.to 0 (h.now + 1) (ms 1) }, fe := .settling })).cancel
      (.settle n)).cancel (.fullLevel n)
  else h

/-- The recovery of an input (R436, R55). -/
def Hub.inputUnmuted (h : Hub) (n : Nat) : Hub :=
  if (h.input n).fe = .settling ∧ h.sourceWanted n = true then
    let g := h.modTandem n (·.restart h.boot.full)
    if (h.input n).stream.privacy then g else g.start (.settle n) (ms 20)
  else h

/-- What the passes over the inputs read. -/
def Hub.settlePart (h : Hub) (n : Nat) : Input × Option Nat := (h.input n, h.deadline (.settle n))

theorem Hub.muteInputs_eq (h : Hub) : h.muteInputs = h.forAll (upTo 1 48) Hub.inputMuted := by
  refine Hub.forAll_congr (fun n hn g => ?_) h
  have hle : n ≤ 48 := by have := mem_upTo.mp hn; omega
  have hstep : (g.modStream n (fun x => { x with gate := x.gate.to 0 (g.now + 1) (ms 1) })).setFe n .settling =
      g.modInput n (fun x => { x with stream := { x.stream with gate := x.stream.gate.to 0 (g.now + 1) (ms 1) }, fe := .settling }) := by
    simp only [Hub.modStream, Hub.setFe, if_pos hle, Hub.modInput_modInput]
  have hfe : g.fe n = (g.input n).fe := if_pos hle
  have hmute := congrArg (fun k : Hub => (k.cancel (.settle n)).cancel (.fullLevel n)) hstep
  unfold Hub.inputMuted
  rw [hfe]
  cases (g.input n).fe with
  | running => exact hmute
  | onRelief => exact hmute
  | settling => exact hmute
  | unpowered => rfl
  | hwMuted => rfl

theorem Hub.unmuteInputs_of_rails {h : Hub} (hm : h.inputsMuted = false) : h.unmuteInputs = h.forAll (upTo 1 48) Hub.inputUnmuted := by
  refine (if_neg (by simp [hm])).trans (Hub.forAll_congr (fun n hn g => ?_) h)
  have hle : n ≤ 48 := by have := mem_upTo.mp hn; omega
  have hfe : g.fe n = (g.input n).fe := if_pos hle
  have hstream : ((g.modTandem n (·.restart g.boot.full)).stream n).privacy = (g.input n).stream.privacy := by
    simp [Hub.stream, hle]
  unfold Hub.inputUnmuted
  simp only [hfe, hstream]

section
variable (h : Hub) (n m : Nat)

theorem Hub.inputMuted_besideInputs : (h.inputMuted n).besideInputs = h.besideInputs := by
  unfold Hub.inputMuted
  split <;> rfl

theorem Hub.inputUnmuted_besideInputs : (h.inputUnmuted n).besideInputs = h.besideInputs := by
  unfold Hub.inputUnmuted
  dsimp only
  split
  · split <;> rfl
  · rfl

theorem Hub.inputMuted_settlePart_other (hm : m ≠ n) : (h.inputMuted n).settlePart m = h.settlePart m := by
  unfold Hub.inputMuted
  split
  · simp [Hub.settlePart, hm]
  · rfl

theorem Hub.inputUnmuted_settlePart_other (hm : m ≠ n) : (h.inputUnmuted n).settlePart m = h.settlePart m := by
  unfold Hub.inputUnmuted
  dsimp only
  split
  · split <;> simp [Hub.settlePart, hm]
  · rfl

end

section
variable (h : Hub) {n : Nat} (hn : isInput n = true)
include hn

/-- An input at work or settling fades out and settles anew. -/
theorem Hub.forAll_inputMuted_of_sounds (hs : (h.input n).fe.sounds = true) :
    (h.forAll (upTo 1 48) Hub.inputMuted).settlePart n =
      ({ h.input n with stream := { (h.input n).stream with gate := (h.input n).stream.gate.to 0 (h.now + 1) (ms 1) }, fe := .settling }, none) := by
  obtain ⟨hlo, hhi⟩ := isInput_range hn
  obtain ⟨g, hg, hk, he⟩ := Hub.forAll_at (R := Hub.settlePart) (K := Hub.besideInputs) Hub.inputMuted_settlePart_other Hub.inputMuted_besideInputs
    (nodup_upTo 1 48) (mem_upTo.mpr ⟨hlo, hhi⟩) h
  have hi : g.input n = h.input n := congrArg Prod.fst hg
  rw [he, Hub.inputMuted, if_pos (by rw [hi, hs])]
  simp [Hub.settlePart, hi, Hub.now_of_besideInputs hk]

/-- Any other input stands as it was. -/
theorem Hub.forAll_inputMuted_of_silent (hs : (h.input n).fe.sounds = false) : (h.forAll (upTo 1 48) Hub.inputMuted).input n = h.input n := by
  obtain ⟨hlo, hhi⟩ := isInput_range hn
  obtain ⟨g, hg, -, he⟩ := Hub.forAll_at (R := Hub.settlePart) (K := Hub.besideInputs) Hub.inputMuted_settlePart_other Hub.inputMuted_besideInputs
    (nodup_upTo 1 48) (mem_upTo.mpr ⟨hlo, hhi⟩) h
  have hi : g.input n = h.input n := congrArg Prod.fst hg
  rw [Hub.inputMuted, if_neg (by rw [hi, hs]; exact Bool.false_ne_true)] at he
  obtain ⟨hin, -⟩ := Prod.mk.inj he
  exact hin.trans hi

/-- An input that recovers restarts its combiners, and settles where no privacy holds it. -/
theorem Hub.forAll_inputUnmuted_of_settling (hs : (h.input n).fe = .settling) (hw : h.sourceWanted n = true) :
    (h.forAll (upTo 1 48) Hub.inputUnmuted).input n = { h.input n with tandem := (h.input n).tandem.restart h.boot.full } ∧
      ((h.input n).stream.privacy = false → (h.forAll (upTo 1 48) Hub.inputUnmuted).deadline (.settle n) = some (h.now + ms 20)) := by
  obtain ⟨hlo, hhi⟩ := isInput_range hn
  obtain ⟨g, hg, hk, he⟩ := Hub.forAll_at (R := Hub.settlePart) (K := Hub.besideInputs) Hub.inputUnmuted_settlePart_other
    Hub.inputUnmuted_besideInputs (nodup_upTo 1 48) (mem_upTo.mpr ⟨hlo, hhi⟩) h
  have hi : g.input n = h.input n := congrArg Prod.fst hg
  have hwant : g.sourceWanted n = true := (congrArg (fun k : Hub => k.sourceWanted n) hk :).trans hw
  have hfull : g.boot.full = h.boot.full := (congrArg (fun k : Hub => k.boot.full) hk :)
  rw [Hub.inputUnmuted, if_pos ⟨by rw [hi, hs], hwant⟩] at he
  obtain ⟨hin, hdead⟩ := Prod.mk.inj he
  constructor
  · refine hin.trans ?_
    dsimp only
    split <;> simp [hi, hfull]
  · intro hp
    refine hdead.trans ?_
    dsimp only
    rw [hi, if_neg (by simp [hp])]
    simp [Hub.now_of_besideInputs hk]

theorem Hub.forAll_inputUnmuted_of_other (hs : (h.input n).fe ≠ .settling ∨ h.sourceWanted n = false) :
    (h.forAll (upTo 1 48) Hub.inputUnmuted).input n = h.input n := by
  obtain ⟨hlo, hhi⟩ := isInput_range hn
  obtain ⟨g, hg, hk, he⟩ := Hub.forAll_at (R := Hub.settlePart) (K := Hub.besideInputs) Hub.inputUnmuted_settlePart_other
    Hub.inputUnmuted_besideInputs (nodup_upTo 1 48) (mem_upTo.mpr ⟨hlo, hhi⟩) h
  have hi : g.input n = h.input n := congrArg Prod.fst hg
  have hwant : g.sourceWanted n = h.sourceWanted n := (congrArg (fun k : Hub => k.sourceWanted n) hk :)
  rw [Hub.inputUnmuted, if_neg (by rw [hi, hwant]; rcases hs with hs | hs <;> simp [hs])] at he
  obtain ⟨hin, -⟩ := Prod.mk.inj he
  exact hin.trans hi

end

/-! ## The rails -/

theorem Hub.analogLow_of_high {h : Hub} (hf : h.supply.fastMute = false) :
    h.analogLow = (h.modSupply (fun x => { x with fastMute := true })).muteAnalog.spkFastMute := if_neg (by simp [hf])

theorem Hub.analogRecover_of_inputs {h : Hub} (hi : h.supply.inputMute = false) :
    h.analogRecover = (h.modSupply (fun x => { x with fastMute := false, inputMute := false })).unmuteAnalog.spkFastRelease := by
  unfold Hub.analogRecover
  dsimp only
  rw [if_neg (by simp [hi])]

theorem Hub.inputRailLow_of_high {h : Hub} (hi : h.supply.inputMute = false) :
    h.inputRailLow = (h.modSupply (fun x => { x with inputMute := true })).muteInputs := if_neg (by simp [hi])

theorem Hub.avddLow_of_high {h : Hub} (ha : h.supply.avddFault = false) :
    h.avddLow = (h.modSupply (fun x => { x with avddFault := true })).muteAnalog.muteInputs := if_neg (by simp [ha])

theorem Hub.avddRecover_of_fault {h : Hub} (ha : h.supply.avddFault = true) :
    h.avddRecover = (h.modSupply (fun x => { x with avddFault := false })).unmuteAnalog.unmuteInputs := if_pos ha

theorem Hub.spkFastMute_output (h : Hub) (n : Nat) : h.spkFastMute.output n = h.output n := rfl
theorem Hub.spkFastMute_headphone (h : Hub) (j : Nat) : h.spkFastMute.headphone j = h.headphone j := rfl
theorem Hub.spkFastMute_supply (h : Hub) : h.spkFastMute.supply = h.supply := rfl
theorem Hub.spkFastMute_spk (h : Hub) : h.spkFastMute.spk = { h.spk with fast := true, fade := Fade.steady 0 } := rfl

theorem Hub.spkFastRelease_fast (h : Hub) : h.spkFastRelease.spk.fast = false := by
  unfold Hub.spkFastRelease
  split
  · rfl
  · next hf => simpa using hf

/-- All of the hub but its speaker. -/
def Hub.withoutSpk (h : Hub) : Hub := { h with spk := {} }

theorem Hub.spkFastRelease_withoutSpk (h : Hub) : h.spkFastRelease.withoutSpk = h.withoutSpk := by
  unfold Hub.spkFastRelease
  split <;> rfl

section
variable {f g h : Hub}

theorem Hub.supply_of_besideAnalog (hb : g.besideAnalog = h.besideAnalog) : g.supply = h.supply := (congrArg Hub.supply hb :)
theorem Hub.spk_of_besideAnalog (hb : g.besideAnalog = h.besideAnalog) : g.spk = h.spk := (congrArg Hub.spk hb :)

theorem Hub.input_of_besideAnalog (hb : g.besideAnalog = h.besideAnalog) (n : Nat) : g.input n = h.input n := (congrArg (fun k : Hub => k.input n) hb :)
theorem Hub.supply_of_withoutSpk (hb : g.withoutSpk = h.withoutSpk) : g.supply = h.supply := (congrArg Hub.supply hb :)
theorem Hub.output_of_withoutSpk (hb : g.withoutSpk = h.withoutSpk) (n : Nat) : g.output n = h.output n := (congrArg (fun k : Hub => k.output n) hb :)
theorem Hub.headphone_of_withoutSpk (hb : g.withoutSpk = h.withoutSpk) (j : Nat) : g.headphone j = h.headphone j :=
  (congrArg (fun k : Hub => k.headphone j) hb :)
theorem Hub.supply_of_besideAnalogTimers (hb : g.besideAnalogTimers = h.besideAnalogTimers) : g.supply = h.supply := (congrArg Hub.supply hb :)
theorem Hub.input_of_besideAnalogTimers (hb : g.besideAnalogTimers = h.besideAnalogTimers) (n : Nat) : g.input n = h.input n :=
  (congrArg (fun k : Hub => k.input n) hb :)
theorem Hub.inputsMuted_of_besideAnalogTimers (hb : g.besideAnalogTimers = h.besideAnalogTimers) : g.inputsMuted = h.inputsMuted :=
  (congrArg Hub.inputsMuted hb :)
theorem Hub.sourceWanted_of_besideAnalogTimers (hb : g.besideAnalogTimers = h.besideAnalogTimers) (n : Nat) : g.sourceWanted n = h.sourceWanted n :=
  (congrArg (fun k : Hub => k.sourceWanted n) hb :)
theorem Hub.boot_of_besideAnalogTimers (hb : g.besideAnalogTimers = h.besideAnalogTimers) : g.boot = h.boot := (congrArg Hub.boot hb :)
theorem Hub.now_of_besideAnalogTimers (hb : g.besideAnalogTimers = h.besideAnalogTimers) : g.now = h.now := (congrArg Hub.now hb :)
theorem Hub.supply_of_besideInputs (hb : g.besideInputs = h.besideInputs) : g.supply = h.supply := (congrArg Hub.supply hb :)
theorem Hub.output_of_besideInputs (hb : g.besideInputs = h.besideInputs) (n : Nat) : g.output n = h.output n :=
  (congrArg (fun k : Hub => k.output n) hb :)

theorem Hub.eq_of_muted (hf : f.besideInputs = g.besideInputs) {e : Hub} (he : g.besideAnalog = e.besideAnalog) (hg : { e with supply := h.supply } = h) :
    { f with supply := h.supply, ins := h.ins, outs := h.outs, hps := h.hps, timers := h.timers } = h := by
  have h1 : { f with supply := h.supply, ins := h.ins, outs := h.outs, hps := h.hps, timers := h.timers } =
      { g with supply := h.supply, ins := h.ins, outs := h.outs, hps := h.hps, timers := h.timers } :=
    (congrArg (fun k : Hub => { k with supply := h.supply, ins := h.ins, outs := h.outs, hps := h.hps, timers := h.timers }) hf :)
  have h2 : { g with supply := h.supply, ins := h.ins, outs := h.outs, hps := h.hps, timers := h.timers } =
      { e with supply := h.supply, ins := h.ins, outs := h.outs, hps := h.hps, timers := h.timers } :=
    (congrArg (fun k : Hub => { k with supply := h.supply, ins := h.ins, outs := h.outs, hps := h.hps, timers := h.timers }) he :)
  exact (h1.trans h2).trans (congrArg (fun k : Hub => { k with ins := h.ins, outs := h.outs, hps := h.hps, timers := h.timers }) hg :)

theorem Hub.eq_of_unmuted (hf : f.besideInputs = g.besideInputs) {e : Hub} (he : g.besideAnalogTimers = e.besideAnalogTimers)
    (hg : { e with supply := h.supply } = h) :
    { f with supply := h.supply, ins := h.ins, outs := h.outs, hps := h.hps, timers := h.timers } = h := by
  have h1 : { f with supply := h.supply, ins := h.ins, outs := h.outs, hps := h.hps, timers := h.timers } =
      { g with supply := h.supply, ins := h.ins, outs := h.outs, hps := h.hps, timers := h.timers } :=
    (congrArg (fun k : Hub => { k with supply := h.supply, ins := h.ins, outs := h.outs, hps := h.hps, timers := h.timers }) hf :)
  have h2 : { g with supply := h.supply, ins := h.ins, outs := h.outs, hps := h.hps, timers := h.timers } =
      { e with supply := h.supply, ins := h.ins, outs := h.outs, hps := h.hps, timers := h.timers } :=
    (congrArg (fun k : Hub => { k with supply := h.supply, ins := h.ins, outs := h.outs, hps := h.hps, timers := h.timers }) he :)
  exact (h1.trans h2).trans (congrArg (fun k : Hub => { k with ins := h.ins, outs := h.outs, hps := h.hps, timers := h.timers }) hg :)

theorem Hub.eq_of_besideAnalog_spk (hf : f.besideAnalog = g.besideAnalog) (hg : { g with supply := h.supply } = h) :
    { f.spkFastMute with supply := h.supply, outs := h.outs, hps := h.hps, spk := h.spk } = h := by
  have h1 : { f.spkFastMute with supply := h.supply, outs := h.outs, hps := h.hps, spk := h.spk } =
      { g with supply := h.supply, outs := h.outs, hps := h.hps, spk := h.spk } :=
    (congrArg (fun k : Hub => { k with supply := h.supply, outs := h.outs, hps := h.hps, spk := h.spk }) hf :)
  exact h1.trans (congrArg (fun k : Hub => { k with outs := h.outs, hps := h.hps, spk := h.spk }) hg :)

theorem Hub.eq_of_besideAnalogTimers_spk {e : Hub} (he : e.withoutSpk = f.withoutSpk) (hf : f.besideAnalogTimers = g.besideAnalogTimers)
    (hg : { g with supply := h.supply } = h) :
    { e with supply := h.supply, outs := h.outs, hps := h.hps, spk := h.spk, timers := h.timers } = h := by
  have h1 : { e with supply := h.supply, outs := h.outs, hps := h.hps, spk := h.spk, timers := h.timers } =
      { f with supply := h.supply, outs := h.outs, hps := h.hps, spk := h.spk, timers := h.timers } :=
    (congrArg (fun k : Hub => { k with supply := h.supply, outs := h.outs, hps := h.hps, spk := h.spk, timers := h.timers }) he :)
  have h2 : { f with supply := h.supply, outs := h.outs, hps := h.hps, spk := h.spk, timers := h.timers } =
      { g with supply := h.supply, outs := h.outs, hps := h.hps, spk := h.spk, timers := h.timers } :=
    (congrArg (fun k : Hub => { k with supply := h.supply, outs := h.outs, hps := h.hps, spk := h.spk, timers := h.timers }) hf :)
  exact (h1.trans h2).trans (congrArg (fun k : Hub => { k with outs := h.outs, hps := h.hps, spk := h.spk, timers := h.timers }) hg :)

theorem Hub.eq_of_besideInputs_supply (hf : f.besideInputs = g.besideInputs) (hg : { g with supply := h.supply } = h) :
    { f with supply := h.supply, ins := h.ins, timers := h.timers } = h := by
  have h1 : { f with supply := h.supply, ins := h.ins, timers := h.timers } = { g with supply := h.supply, ins := h.ins, timers := h.timers } :=
    (congrArg (fun k : Hub => { k with supply := h.supply, ins := h.ins, timers := h.timers }) hf :)
  exact h1.trans (congrArg (fun k : Hub => { k with ins := h.ins, timers := h.timers }) hg :)

end

theorem Hub.stream_of_isInput (h : Hub) {n : Nat} (hn : isInput n = true) : h.stream n = (h.input n).stream :=
  if_pos (Nat.lt_succ_iff.mp (isInput_range hn).2)

/-- Settles O13: each output, headphone and input reads as its own step of the pass leaves it. -/
theorem lowRailsMute : Obligations.LowRailsMute := by
  refine ⟨?analogLow, ?analogRecover, ?inputs, ?avddLow, ?avddRecover⟩
  case analogLow =>
    intro s hf
    refine answers_of_always (f := Hub.analogLow) rfl ?_
    rw [Hub.analogLow_of_high hf]
    generalize hg : s.hub.modSupply (fun x => { x with fastMute := true }) = g
    have hout (n : Nat) : g.output n = s.hub.output n := by rw [← hg]; rfl
    have hhp (j : Nat) : g.headphone j = s.hub.headphone j := by rw [← hg]; rfl
    have hk : g.muteAnalog.besideAnalog = g.besideAnalog := g.muteAnalog_besideAnalog
    refine ⟨?_, fun n hn hp hm => ?_, fun n hn hm => ?_, fun j hj hp => ?_, ?_, ?_⟩
    · rw [Hub.spkFastMute_supply, Hub.supply_of_besideAnalog hk, ← hg]
      rfl
    · rw [Hub.spkFastMute_output, g.muteAnalog_output hn, hout, Output.fastMuted, if_pos ⟨hp, hm⟩]
      exact ⟨rfl, rfl, rfl⟩
    · rw [Hub.spkFastMute_output, g.muteAnalog_output hn, hout, Output.fastMuted, if_neg (by simp [hm])]
    · rw [Hub.spkFastMute_headphone, g.muteAnalog_headphone hj, hhp, Headphone.fastMuted, if_pos hp]
      exact ⟨rfl, rfl⟩
    · rw [Hub.spkFastMute_spk, Hub.spk_of_besideAnalog hk, ← hg]
      rfl
    · exact Hub.eq_of_besideAnalog_spk hk (by rw [← hg]; rfl)
  case analogRecover =>
    intro s ha hi
    refine answers_of_always (f := Hub.analogRecover) rfl ?_
    rw [Hub.analogRecover_of_inputs hi]
    have hr : (s.hub.modSupply (fun x => { x with fastMute := false, inputMute := false })).railsLow = false := ha
    generalize hg : s.hub.modSupply (fun x => { x with fastMute := false, inputMute := false }) = g at hr ⊢
    have hk := Hub.unmuteAnalog_beside hr
    have hspk := g.unmuteAnalog.spkFastRelease_withoutSpk
    refine ⟨?_, fun n hn => ?_, fun j hj => ?_, Hub.spkFastRelease_fast _, ?_⟩
    · exact ((Hub.supply_of_withoutSpk hspk).trans (Hub.supply_of_besideAnalogTimers hk)).trans (by rw [← hg]; rfl)
    · rw [Hub.output_of_withoutSpk hspk]
      exact Hub.unmuteAnalog_output_fast hr hn
    · rw [Hub.headphone_of_withoutSpk hspk]
      exact Hub.unmuteAnalog_headphone_fast hr hj
    · exact Hub.eq_of_besideAnalogTimers_spk hspk hk (by rw [← hg]; rfl)
  case inputs =>
    intro s hi
    refine answers_of_always (f := Hub.inputRailLow) rfl ?_
    rw [Hub.inputRailLow_of_high hi, Hub.muteInputs_eq]
    generalize hg : s.hub.modSupply (fun x => { x with inputMute := true }) = g
    have hin (n : Nat) : g.input n = s.hub.input n := by rw [← hg]; rfl
    have hnow : g.now = s.hub.now := by rw [← hg]; rfl
    have hk : (g.forAll (upTo 1 48) Hub.inputMuted).besideInputs = g.besideInputs := Hub.forAll_keeps (fun f n => f.inputMuted_besideInputs n) _ g
    refine ⟨(Hub.supply_of_besideInputs hk).trans (by rw [← hg]; rfl), fun n hn hf => ?_, fun n hn hf => ?_, Hub.eq_of_besideInputs_supply hk (by rw [← hg]; rfl)⟩
    · rw [Hub.fe_of_isInput _ hn] at hf
      obtain ⟨hinput, hdead⟩ := Prod.mk.inj (g.forAll_inputMuted_of_sounds hn (by rw [hin]; rcases hf with hf | hf | hf <;> rw [hf] <;> rfl))
      have hstream : (g.forAll (upTo 1 48) Hub.inputMuted).stream n = ((g.forAll (upTo 1 48) Hub.inputMuted).input n).stream := Hub.stream_of_isInput _ hn
      rw [Hub.fe_of_isInput _ hn, hstream, hinput, Hub.stream_of_isInput _ hn, hin, hnow]
      exact ⟨rfl, rfl, hdead⟩
    · rw [Hub.fe_of_isInput _ hn] at hf
      rw [g.forAll_inputMuted_of_silent hn (by rw [hin]; rcases hf with hf | hf <;> rw [hf] <;> rfl), hin]
  case avddLow =>
    intro s ha
    refine answers_of_always (f := Hub.avddLow) rfl ?_
    rw [Hub.avddLow_of_high ha, Hub.muteInputs_eq]
    generalize hg : s.hub.modSupply (fun x => { x with avddFault := true }) = g
    have hout (n : Nat) : g.output n = s.hub.output n := by rw [← hg]; rfl
    have hin (n : Nat) : g.input n = s.hub.input n := by rw [← hg]; rfl
    have ha : g.muteAnalog.besideAnalog = g.besideAnalog := g.muteAnalog_besideAnalog
    have hmuted := fun n hn => g.muteAnalog_output (n := n) hn
    generalize g.muteAnalog = f at ha hmuted
    have hk : (f.forAll (upTo 1 48) Hub.inputMuted).besideInputs = f.besideInputs := Hub.forAll_keeps (fun e n => e.inputMuted_besideInputs n) _ f
    refine ⟨?_, fun n hn hp hm => ?_, fun n hn hf => ?_, Hub.eq_of_muted hk ha (by rw [← hg]; rfl)⟩
    · rw [Hub.supply_of_besideInputs hk, Hub.supply_of_besideAnalog ha, ← hg]
      rfl
    · rw [Hub.output_of_besideInputs hk, hmuted n hn, hout, Output.fastMuted, if_pos ⟨hp, hm⟩]
    · rw [Hub.fe_of_isInput _ hn] at hf
      obtain ⟨hinput, -⟩ := Prod.mk.inj (f.forAll_inputMuted_of_sounds hn (by rw [Hub.input_of_besideAnalog ha, hin, hf]; rfl))
      rw [Hub.fe_of_isInput _ hn, hinput]
  case avddRecover =>
    intro s ha hf hi
    refine answers_of_always (f := Hub.avddRecover) rfl ?_
    rw [Hub.avddRecover_of_fault ha]
    have hr : (s.hub.modSupply (fun x => { x with avddFault := false })).railsLow = false := by simp [Hub.railsLow, Hub.modSupply, hf]
    have hm : (s.hub.modSupply (fun x => { x with avddFault := false })).inputsMuted = false := by simp [Hub.inputsMuted, Hub.modSupply, hi]
    have hin (n : Nat) : (s.hub.modSupply (fun x => { x with avddFault := false })).input n = s.hub.input n := rfl
    have hwant (n : Nat) : (s.hub.modSupply (fun x => { x with avddFault := false })).sourceWanted n = s.hub.sourceWanted n := rfl
    have hboot : (s.hub.modSupply (fun x => { x with avddFault := false })).boot = s.hub.boot := rfl
    have hnow : (s.hub.modSupply (fun x => { x with avddFault := false })).now = s.hub.now := rfl
    have hsupply : (s.hub.modSupply (fun x => { x with avddFault := false })).supply = { s.hub.supply with avddFault := false } := rfl
    have hrest : { s.hub.modSupply (fun x => { x with avddFault := false }) with supply := s.hub.supply } = s.hub := rfl
    generalize s.hub.modSupply (fun x => { x with avddFault := false }) = g at *
    have hb := Hub.unmuteAnalog_beside hr
    have hfast := fun n hn => Hub.unmuteAnalog_output_fast hr (n := n) hn
    have hmuted : g.unmuteAnalog.inputsMuted = false := (Hub.inputsMuted_of_besideAnalogTimers hb).trans hm
    generalize g.unmuteAnalog = f at hb hfast hmuted
    rw [Hub.unmuteInputs_of_rails hmuted]
    have hfin (n : Nat) : f.input n = s.hub.input n := (Hub.input_of_besideAnalogTimers hb n).trans (hin n)
    have hfwant (n : Nat) : f.sourceWanted n = s.hub.sourceWanted n := (Hub.sourceWanted_of_besideAnalogTimers hb n).trans (hwant n)
    have hk : (f.forAll (upTo 1 48) Hub.inputUnmuted).besideInputs = f.besideInputs := Hub.forAll_keeps (fun e n => e.inputUnmuted_besideInputs n) _ f
    refine ⟨?_, fun n hn => ?_, fun n hn hs hw => ?_, fun n hn hs => ?_, Hub.eq_of_unmuted hk hb hrest⟩
    · rw [Hub.supply_of_besideInputs hk, Hub.supply_of_besideAnalogTimers hb, hsupply]
    · rw [Hub.output_of_besideInputs hk, hfast n hn]
    · rw [Hub.fe_of_isInput _ hn] at hs
      obtain ⟨hinput, hdead⟩ := f.forAll_inputUnmuted_of_settling hn (by rw [hfin, hs]) (by rw [hfwant, hw])
      rw [hfin, Hub.boot_of_besideAnalogTimers hb, hboot] at hinput
      rw [hfin, Hub.now_of_besideAnalogTimers hb, hnow] at hdead
      exact ⟨hinput, fun hp => hdead (by rw [← hp, Hub.stream_of_isInput _ hn])⟩
    · rw [Hub.fe_of_isInput _ hn] at hs
      rw [f.forAll_inputUnmuted_of_other hn (by rwa [hfin, hfwant]), hfin]

end Sys2Proof.Machine
end

section
/-! SUPPORT. Dips, VIO and heat (R115, R358, R430 to R438): each row as an equation. -/

namespace Sys2Proof.Machine

section
variable (h : Hub) (t : Timer)

@[simp] theorem Hub.modSpk_deadline (f : Speaker → Speaker) : (h.modSpk f).deadline t = h.deadline t := rfl
@[simp] theorem Hub.modSupply_deadline (f : Supply → Supply) : (h.modSupply f).deadline t = h.deadline t := rfl
@[simp] theorem Hub.spkCause_deadline (k : Nat) : (h.spkCause k).deadline t = h.deadline t := rfl

end

/-- The warning of one rail of a dip (R430). -/
def Supply.warned (x : Supply) (r : DipRail) : Supply :=
  match r with
  | .vcoreIn => { x with vcoreWarn := true }
  | .vaon => { x with vaonWarn := true }

/-- A cause that stands goes on standing. -/
theorem Hub.causes_cause {h : Hub} {e : Nat} {sc : Scope} (he : h.causes e sc) (d : Nat) (sd : Scope) : (h.cause d sd).causes e sc := mem_withOne_of_mem he

section
variable {h : Hub}

theorem Hub.dipStart_of_none {r : DipRail} (hd : h.supply.dip = false) :
    h.dipStart r = { ((h.modSupply (·.warned r)).start .dip (ms 5)).modSupply (fun x => { x with dip := true, e3Due := true }) with
      store := { h.store with e5Done := false, started := !h.store.queue.isEmpty && !h.sup.restarting } } := by
  have hw : ((h.modSupply (·.warned r)).start .dip (ms 5)).supply.dip = false := by cases r <;> exact hd
  exact if_neg (ne_true_of_eq_false hw)

theorem Hub.dipStart_of_dip {r : DipRail} (hd : h.supply.dip = true) : h.dipStart r = (h.modSupply (·.warned r)).start .dip (ms 5) := by
  have hw : ((h.modSupply (·.warned r)).start .dip (ms 5)).supply.dip = true := by cases r <;> exact hd
  exact if_pos hw

theorem Hub.dipEnd_of_due (hs : h.supply.dip = true) (hd : h.due .dip = true) :
    h.dipEnd = ((h.cancel .dip).modSupply (fun x => { x with dip := false, recovering := false, vcoreWarn := false, vaonWarn := false })).cause evSupplyOk :=
  (if_pos hs).trans (Hub.whenDue_due hd)

theorem Hub.vioRecover_of_due (hd : h.due .vio = true) :
    h.vioRecover = (h.cancel .vio).modSupply (fun x => { x with vioWarn := false, vioFault := false }) := Hub.whenDue_due hd

theorem Hub.thermalWarn_of_cool (hw : h.supply.thermalWarn = false) :
    h.thermalWarn = (h.modSupply (fun x => { x with thermalWarn := true })).cause evThermalWarn := if_neg (by simp [hw])

theorem Hub.thermalCrit_of_cool (hc : h.supply.thermalCrit = false) :
    h.thermalCrit = ((h.modSupply (fun x => { x with thermalCrit := true })).cause evThermalCrit).spkThermal := if_neg (by simp [hc])

/-- A running bridge fades out over 1 ms (R115). -/
theorem Hub.spkThermal_of_bridge (hs : h.spk.state = .running) (hb : h.spk.bridgeOn = true) :
    h.spkThermal = (((((h.spkCause 2).cause evSpkFault).cancel .spkRestart).modSpk (fun x =>
      { x with state := .thermal, seq := 3, fade := x.fade.to 0 h.now (ms 1) })).start .spkSequence (ms 1)) := by
  have hstate : ((h.spkCause 2).cause evSpkFault).spk.state = .running := hs
  have hbridge : ((h.spkCause 2).cause evSpkFault).spk.bridgeOn = true := hb
  unfold Hub.spkThermal
  dsimp only
  rw [if_neg (by rw [hstate]; simp), if_pos hbridge]
  rfl

/-- The fade-out is reported beside what stands. -/
theorem Hub.spkThermal_causes (hs : h.spk.state = .running) (hb : h.spk.bridgeOn = true) {e : Nat} (he : h.causes e) :
    h.spkThermal.causes e ∧ h.spkThermal.causes evSpkFault := by
  rw [Hub.spkThermal_of_bridge hs hb]
  exact ⟨Hub.causes_cause (h := h.spkCause 2) he _ _, Hub.cause_causes (h.spkCause 2) _ _⟩

theorem Hub.thermalRecover_of_crit (hc : h.supply.thermalCrit = true) :
    h.thermalRecover false = (h.modSupply (fun x => { x with thermalCrit := false })).spkCool := if_pos hc

theorem Hub.thermalRecover_of_cool (hc : h.supply.thermalCrit = false) :
    h.thermalRecover true = h.modSupply (fun x => { x with thermalWarn := false }) := if_neg (by simp [Hub.modSupply, hc])

theorem Hub.spkStart_of_enabled (he : h.spk.enable = true) (ht : h.supply.thermalCrit = false) (hv : h.vspkOk = true) (lead : Nat) :
    h.spkStart lead = (h.modSpk (fun x => { x with state := .powering, seq := 2, fade := Fade.steady 0 })).start .spkSequence (lead + ms 50) := by
  unfold Hub.spkStart
  rw [if_pos he, if_neg (by simp [ht]), if_pos hv]

theorem Hub.spkCool_of_thermal (hs : h.spk.state = .thermal) : h.spkCool = (h.bridgeOff .thermal).spkStart (ms 2) := if_pos hs

theorem Hub.tsDisagree_of_first (ht : h.supply.tsDisagree = false) :
    h.tsDisagree = ({ h with supply := { h.supply with tsDisagree := true } } : Hub).cause evHealth := if_neg (by simp [ht])

end

/-- Settles O14: each row is an equation where its condition holds. -/
theorem dipsAndHeatAreReported : Obligations.DipsAndHeatAreReported := by
  refine ⟨?dipBegins, ?dipGoesOn, ?dipEnds, ?vioLow, ?vioBack, ?warm, ?hot, ?cool, ?warmOver, ?sensor⟩
  case dipBegins =>
    intro s hd
    refine answers_of_always (f := (·.dipStart .vcoreIn)) rfl ?_
    rw [Hub.dipStart_of_none hd]
    exact ⟨rfl, s.hub.start_deadline _ _, rfl, rfl, by simp [Hub.modSupply]⟩
  case dipGoesOn =>
    intro s hd
    refine answers_of_always (f := (·.dipStart .vaon)) rfl ?_
    rw [Hub.dipStart_of_dip hd]
    exact ⟨rfl, by simp [Hub.modSupply, ms], by simp [Hub.modSupply]⟩
  case dipEnds =>
    intro s hs hd
    refine answers_of_always (f := Hub.dipEnd) rfl ?_
    rw [Hub.dipEnd_of_due hs hd]
    exact ⟨rfl, Hub.cause_causes _ _ _, s.hub.cancel_deadline _, by simp [Hub.modSupply]⟩
  case vioLow =>
    intro s fault
    refine answers_of_always (f := (·.vioLow fault)) rfl ?_
    exact ⟨rfl, by simp [Hub.vioLow, Hub.modSupply, ms], by simp [Hub.vioLow, Hub.modSupply]⟩
  case vioBack =>
    intro s hd
    refine answers_of_always (f := Hub.vioRecover) rfl ?_
    rw [Hub.vioRecover_of_due hd]
    exact ⟨rfl, s.hub.cancel_deadline _, rfl⟩
  case warm =>
    intro s hw
    refine answers_of_always (f := Hub.thermalWarn) rfl ?_
    rw [Hub.thermalWarn_of_cool hw]
    exact ⟨rfl, Hub.cause_causes _ _ _, by simp [Hub.modSupply]⟩
  case hot =>
    intro s hc hs hb
    refine answers_of_always (f := Hub.thermalCrit) rfl ?_
    have hstate : ((s.hub.modSupply (fun x => { x with thermalCrit := true })).cause evThermalCrit).spk.state = .running := hs
    have hbridge : ((s.hub.modSupply (fun x => { x with thermalCrit := true })).cause evThermalCrit).spk.bridgeOn = true := hb
    obtain ⟨hcrit, hfault⟩ := Hub.spkThermal_causes hstate hbridge (Hub.cause_causes _ evThermalCrit _)
    rw [Hub.thermalCrit_of_cool hc]
    refine ⟨?_, hcrit, hfault, ?_⟩
    · rw [Hub.spkThermal_of_bridge hstate hbridge]
      rfl
    · rw [Hub.spkThermal_of_bridge hstate hbridge]
      exact ⟨rfl, by simp [Hub.modSpk, Hub.modSupply, Hub.spkCause, ms], by simp, by simp [Hub.modSpk, Hub.modSupply, Hub.spkCause]⟩
  case cool =>
    intro s hc hs he hv
    refine answers_of_always (f := (·.thermalRecover false)) rfl ?_
    have hstate : (s.hub.modSupply (fun x => { x with thermalCrit := false })).spk.state = .thermal := hs
    have henable : ((s.hub.modSupply (fun x => { x with thermalCrit := false })).bridgeOff .thermal).spk.enable = true := he
    have hsupply : ((s.hub.modSupply (fun x => { x with thermalCrit := false })).bridgeOff .thermal).vspkOk = true := by
      simpa [Hub.vspkOk, Hub.bridgeOff, Hub.modSpk, Hub.modSupply] using hv
    have hcool : ((s.hub.modSupply (fun x => { x with thermalCrit := false })).bridgeOff .thermal).supply.thermalCrit = false := rfl
    rw [Hub.thermalRecover_of_crit hc, Hub.spkCool_of_thermal hstate, Hub.spkStart_of_enabled henable hcool hsupply]
    exact ⟨by simp [Hub.bridgeOff, Hub.modSpk, Hub.modSupply], by simp [Hub.modSpk], by simp [Hub.bridgeOff, Hub.modSpk, Hub.modSupply, ms], by simp [Hub.bridgeOff, Hub.modSpk, Hub.modSupply]⟩
  case warmOver =>
    intro s hc
    refine answers_of_always (f := (·.thermalRecover true)) rfl ?_
    rw [Hub.thermalRecover_of_cool hc]
    exact ⟨rfl, rfl⟩
  case sensor =>
    intro s k hk ht
    refine answers_of_run (f := Hub.tsDisagree) rfl (decide_eq_true hk) ?_
    rw [Hub.tsDisagree_of_first ht]
    exact ⟨rfl, Hub.cause_causes _ _ _, by simp⟩

end Sys2Proof.Machine
end

section
/-! SUPPORT. The speaker's protections and sequences (R115, R119): each row as an equation. -/

namespace Sys2Proof.Machine

section
variable (h : Hub) (t : Timer)

@[simp] theorem Hub.bridgeOff_deadline (st : SpkState) : (h.bridgeOff st).deadline t = (h.cancel .spkSequence).deadline t := rfl
@[simp] theorem Hub.modSpk_causes (f : Speaker → Speaker) (e : Nat) : (h.modSpk f).causes e ↔ h.causes e := Iff.rfl
@[simp] theorem Hub.start_causes (d e : Nat) : (h.start t d).causes e ↔ h.causes e := Iff.rfl
@[simp] theorem Hub.cancel_causes (e : Nat) : (h.cancel t).causes e ↔ h.causes e := Iff.rfl
@[simp] theorem Hub.cause_causes_same (e : Nat) : (h.cause e).causes e := Hub.cause_causes h e _
@[simp] theorem Hub.bridgeOff_causes (st : SpkState) (e : Nat) : (h.bridgeOff st).causes e ↔ h.causes e := Iff.rfl

end

section
variable {h : Hub}

/-- The restarts that count against a fifth (R115). -/
def Hub.recentRestarts (h : Hub) : List Nat := h.spk.restarts.filter (fun t => decide (h.now < t + 960000))

theorem Hub.spkOvercurrent_of_few (hb : h.spk.bridgeOn = true) (hr : h.recentRestarts.length < 4) :
    h.spkOvercurrent =
      ((((h.modSpk (fun x => { x with restarts := h.recentRestarts })).spkCause 0).cause evSpkFault).bridgeOff .restarting).start .spkRestart (ms 500) :=
  (if_pos (by simp [hb])).trans (if_neg (Nat.not_le.mpr hr))

theorem Hub.spkOvercurrent_of_many (hb : h.spk.bridgeOn = true) (hr : 4 ≤ h.recentRestarts.length) :
    h.spkOvercurrent = (((h.modSpk (fun x => { x with restarts := h.recentRestarts })).spkCause 0).cause evSpkFault).bridgeOff .latched :=
  (if_pos (by simp [hb])).trans (if_pos hr)

theorem Hub.spkRestart_of_due (hs : h.spk.state = .restarting) (hd : h.due .spkRestart = true) :
    h.spkRestart = ((h.cancel .spkRestart).modSpk (fun x => { x with restarts := x.restarts ++ [h.now] })).spkStart (ms 2) :=
  (Hub.whenDue_due hd).trans (if_pos hs)

theorem Hub.spkDcFault_of_bridge (hb : h.spk.bridgeOn = true) :
    h.spkDcFault = (((h.bridgeOff .latched).cancel .spkRestart).spkCause 1).cause evSpkFault := if_pos hb

theorem Hub.vspkHigh_of_running (hs : h.spk.state = .running) (hv : h.spk.vspkHigh = false) :
    h.vspkOutOfRange true =
      ((((h.modSpk (fun x => { x with vspkHigh := true })).spkCause 3).cause evSpkFault).bridgeOff .vspkOut).cancel .spkRestart := by
  simp [Hub.vspkOutOfRange, Hub.modSpk, Hub.spkCause, hs, hv]

theorem Hub.vspkLow_of_running (hs : h.spk.state = .running) (hb : h.spk.bridgeOn = true) (hv : h.spk.vspkLow = false) :
    h.vspkOutOfRange false =
      (((h.modSpk (fun x => { x with vspkLow := true })).spkCause 3).cause evSpkFault).modSpk (fun x =>
        { x with state := .vspkOut, fade := Fade.steady 0 }) := by
  simp [Hub.vspkOutOfRange, Hub.modSpk, Hub.spkCause, hs, hv, hb]

theorem Hub.vspkRecover_of_bridge (hs : h.spk.state = .vspkOut) (hb : h.spk.bridgeOn = true) (he : h.spk.enable = true)
    (hf : h.spk.fast = false) :
    h.vspkRecover = h.modSpk (fun x =>
      { x with vspkHigh := false, vspkLow := false, state := .running, fade := x.fade.to unity h.now h.spkMuteTime }) := by
  simp [Hub.vspkRecover, Hub.modSpk, Hub.spkMuteTime, hs, hb, he, hf]
  rfl

theorem Hub.vspkRecover_of_off (hs : h.spk.state = .vspkOut) (hb : h.spk.bridgeOn = false) :
    h.vspkRecover = (h.modSpk (fun x => { x with vspkHigh := false, vspkLow := false })).spkStart (ms 2) :=
  (if_pos hs).trans (if_neg (ne_true_of_eq_false hb))

theorem Hub.spkSequenceEnd_of_on (hd : h.due .spkSequence = true) (hq : h.spk.seq = 2) (hf : h.spk.fast = false) :
    h.spkSequenceEnd = (h.cancel .spkSequence).modSpk (fun x =>
      { x with seq := 0, bridgeOn := true, state := .running, fade := x.fade.to unity h.now h.spkMuteTime }) := by
  refine (Hub.whenDue_due hd).trans ?_
  simp [Hub.modSpk, Hub.spkMuteTime, hq, hf]

theorem Hub.spkSequenceEnd_of_off (hd : h.due .spkSequence = true) (hq : h.spk.seq = 1) :
    h.spkSequenceEnd = (h.cancel .spkSequence).modSpk (fun x => { x with seq := 0, bridgeOn := false, state := .off }) := by
  refine (Hub.whenDue_due hd).trans ?_
  simp [Hub.modSpk, hq]

theorem Hub.spkSequenceEnd_of_hot (hd : h.due .spkSequence = true) (hq : h.spk.seq = 3) :
    h.spkSequenceEnd = (h.cancel .spkSequence).bridgeOff .thermal := by
  refine (Hub.whenDue_due hd).trans ?_
  simp [Hub.modSpk, Hub.bridgeOff, hq]

end

/-- Settles O16: each row is an equation where its condition holds. -/
theorem speakerProtectsAndStarts : Obligations.SpeakerProtectsAndStarts := by
  refine ⟨?overcurrent, ?overAgain, ?restart, ?dc, ?high, ?low, ?backOn, ?backOff, ?turnedOn, ?turnedOff, ?hot, ?early⟩
  case overcurrent =>
    intro s hb hr
    refine answers_of_always (f := Hub.spkOvercurrent) rfl ?_
    rw [Hub.spkOvercurrent_of_few hb hr]
    exact ⟨rfl, by simp [Hub.modSpk, Hub.spkCause, Hub.bridgeOff, ms], by simp, by simp [evSpkFault], by simp [Hub.modSpk, Hub.spkCause, Hub.bridgeOff]⟩
  case overAgain =>
    intro s hb hr
    refine answers_of_always (f := Hub.spkOvercurrent) rfl ?_
    rw [Hub.spkOvercurrent_of_many hb hr]
    exact ⟨rfl, rfl, rfl, by simp [evSpkFault], by simp, by simp [Hub.modSpk, Hub.spkCause, Hub.bridgeOff]⟩
  case restart =>
    intro s hs hd he hv ht
    refine answers_of_always (f := Hub.spkRestart) rfl ?_
    rw [Hub.spkRestart_of_due hs hd,
      Hub.spkStart_of_enabled (by exact he) (by exact ht) (by simpa [Hub.vspkOk, Hub.modSpk] using hv)]
    exact ⟨rfl, by simp [Hub.modSpk, ms], by simp, by simp [Hub.modSpk]⟩
  case dc =>
    intro s hb
    refine answers_of_always (f := Hub.spkDcFault) rfl ?_
    rw [Hub.spkDcFault_of_bridge hb]
    exact ⟨rfl, by simp, by simp [evSpkFault], by simp [Hub.modSpk, Hub.spkCause, Hub.bridgeOff]⟩
  case high =>
    intro s hs hv
    refine answers_of_always (f := (·.vspkOutOfRange true)) rfl ?_
    rw [Hub.vspkHigh_of_running hs hv]
    exact ⟨rfl, by simp [evSpkFault], by simp [Hub.modSpk, Hub.spkCause, Hub.bridgeOff]⟩
  case low =>
    intro s hs hb hv
    refine answers_of_always (f := (·.vspkOutOfRange false)) rfl ?_
    rw [Hub.vspkLow_of_running hs hb hv]
    exact ⟨rfl, by simp [evSpkFault], by simp [Hub.modSpk, Hub.spkCause]⟩
  case backOn =>
    intro s hs hb he hf
    refine answers_of_always (f := Hub.vspkRecover) rfl ?_
    rw [Hub.vspkRecover_of_bridge hs hb he hf]
    exact ⟨rfl, rfl⟩
  case backOff =>
    intro s hs hb he ht
    refine answers_of_always (f := Hub.vspkRecover) rfl ?_
    rw [Hub.vspkRecover_of_off hs hb, Hub.spkStart_of_enabled (by exact he) (by exact ht) (by simp [Hub.vspkOk, Hub.modSpk])]
    exact ⟨rfl, by simp [Hub.modSpk, ms], by simp [Hub.modSpk]⟩
  case turnedOn =>
    intro s hd hq hf
    refine answers_of_always (f := Hub.spkSequenceEnd) rfl ?_
    rw [Hub.spkSequenceEnd_of_on hd hq hf]
    exact ⟨rfl, by simp, rfl⟩
  case turnedOff =>
    intro s hd hq
    refine answers_of_always (f := Hub.spkSequenceEnd) rfl ?_
    rw [Hub.spkSequenceEnd_of_off hd hq]
    exact ⟨rfl, by simp, rfl⟩
  case hot =>
    intro s hd hq
    refine answers_of_always (f := Hub.spkSequenceEnd) rfl ?_
    rw [Hub.spkSequenceEnd_of_hot hd hq]
    exact ⟨rfl, by simp, rfl⟩
  case early =>
    intro s hd
    exact answers_of_always (f := Hub.spkSequenceEnd) rfl (if_neg (ne_true_of_eq_false hd))

end Sys2Proof.Machine
end

section
/-! SUPPORT. Headphones and jacks (R111, R117, R122 to R125): the parts a row is made of, and each row where its condition holds. -/

namespace Sys2Proof.Machine

/-! ## The parts of a row -/

/-- A jack as a classification leaves it at its start (R122). -/
def Jack.classifying! (x : Jack) : Jack := { x with before := x.accessory, accessory := 1, classifying := true, buttons := 0, micSwapped := false }

/-- All of the hub but headphones, microphones and timers. -/
def Hub.besidePhones (h : Hub) : Hub := { h with hps := [], hms := [], timers := [] }

/-- All of the hub but headphones, microphones, timers and what is due. -/
def Hub.besideJacks (h : Hub) : Hub := { h with hps := [], hms := [], timers := [], evDue := [] }

section
variable {g h : Hub}

theorem Hub.now_of_besidePhones (hb : g.besidePhones = h.besidePhones) : g.now = h.now := (congrArg Hub.now hb :)
theorem Hub.spk_of_besidePhones (hb : g.besidePhones = h.besidePhones) : g.spk = h.spk := (congrArg Hub.spk hb :)
theorem Hub.live?_of_besidePhones (hb : g.besidePhones = h.besidePhones) (idx sub : Nat) : g.live? idx sub = h.live? idx sub :=
  (congrArg (fun k : Hub => k.live? idx sub) hb :)
theorem Hub.jackSetting_of_besidePhones (hb : g.besidePhones = h.besidePhones) (j sub : Nat) : g.jackSetting j sub = h.jackSetting j sub :=
  Hub.live?_of_besidePhones hb _ _
theorem Hub.eq_of_besidePhones (hb : g.besidePhones = h.besidePhones) : { g with hps := h.hps, hms := h.hms, timers := h.timers } = h :=
  (congrArg (fun k : Hub => { k with hps := h.hps, hms := h.hms, timers := h.timers }) hb :)
theorem Hub.eq_of_besidePhones_spk {k : Hub} (hb : g.besidePhones = k.besidePhones)
    (hk : { k with hps := h.hps, hms := h.hms, spk := h.spk, timers := h.timers } = h) :
    { g with hps := h.hps, hms := h.hms, spk := h.spk, timers := h.timers } = h :=
  (congrArg (fun x : Hub => { x with hps := h.hps, hms := h.hms, spk := h.spk, timers := h.timers }) hb :).trans hk
theorem Hub.besideJacks_of_besidePhones (hb : g.besidePhones = h.besidePhones) : g.besideJacks = h.besideJacks :=
  (congrArg (fun k : Hub => { k with evDue := [] }) hb :)
theorem Hub.eq_of_besideJacks (hb : g.besideJacks = h.besideJacks) :
    { g with hps := h.hps, hms := h.hms, timers := h.timers, evDue := h.evDue } = h :=
  (congrArg (fun k : Hub => { k with hps := h.hps, hms := h.hms, timers := h.timers, evDue := h.evDue }) hb :)

end

section
variable (h : Hub) (j k : Nat) (t : Timer) (d e : Nat)

@[simp] theorem Hub.modHeadphone_besidePhones (f : Headphone → Headphone) : (h.modHeadphone j f).besidePhones = h.besidePhones := rfl
@[simp] theorem Hub.modHeadMic_besidePhones (f : HeadMic → HeadMic) : (h.modHeadMic j f).besidePhones = h.besidePhones := rfl
@[simp] theorem Hub.start_besidePhones : (h.start t d).besidePhones = h.besidePhones := rfl
@[simp] theorem Hub.cancel_besidePhones : (h.cancel t).besidePhones = h.besidePhones := rfl
@[simp] theorem Hub.hpCause_besidePhones : (h.hpCause j e).besidePhones = h.besidePhones := rfl
@[simp] theorem Hub.connectMic_besidePhones : (h.connectMic j).besidePhones = h.besidePhones := rfl
@[simp] theorem Hub.releaseMic_besidePhones : (h.releaseMic j).besidePhones = h.besidePhones := by simp [Hub.releaseMic]
@[simp] theorem Hub.unprotect_besidePhones : (h.unprotect j).besidePhones = h.besidePhones := rfl
@[simp] theorem Hub.setGate_besidePhones : (h.setGate j).besidePhones = h.besidePhones := by unfold Hub.setGate; dsimp only; split <;> rfl
@[simp] theorem Hub.unbias_besidePhones : (h.unbias j).besidePhones = h.besidePhones := by unfold Hub.unbias; dsimp only; split <;> rfl
@[simp] theorem Hub.startClassify_besidePhones : (h.startClassify j).besidePhones = h.besidePhones := by simp [Hub.startClassify]

@[simp] theorem Hub.cause_besideJacks : (h.cause e).besideJacks = h.besideJacks := rfl
@[simp] theorem Hub.modHeadMic_besideJacks (f : HeadMic → HeadMic) : (h.modHeadMic j f).besideJacks = h.besideJacks := rfl
@[simp] theorem Hub.start_besideJacks : (h.start t d).besideJacks = h.besideJacks := rfl

/-! What the gate's move leaves. -/

theorem Hub.setGate_headphone_other (hk : k ≠ j) : (h.setGate j).headphone k = h.headphone k := by
  unfold Hub.setGate; dsimp only; split <;> simp [hk]
@[simp] theorem Hub.setGate_headMic : (h.setGate j).headMic k = h.headMic k := by unfold Hub.setGate; dsimp only; split <;> rfl
@[simp] theorem Hub.setGate_deadline : (h.setGate j).deadline t = h.deadline t := by unfold Hub.setGate; dsimp only; split <;> rfl
@[simp] theorem Hub.setGate_jack : ((h.setGate j).headphone j).jack = (h.headphone j).jack := by
  unfold Hub.setGate; dsimp only; split <;> simp
@[simp] theorem Hub.setGate_cause : ((h.setGate j).headphone j).cause = (h.headphone j).cause := by
  unfold Hub.setGate; dsimp only; split <;> simp

/-- The gate closes in CLASSIFYING (R123). -/
theorem Hub.setGate_of_classifying (hc : (h.headphone j).jack.accessory = 1) :
    h.setGate j = h.modHeadphone j (fun x => { x with gate := x.gate.to 0 h.now (ms 1) }) :=
  if_neg (by simp [Hub.gateOpen, hc])

/-! What the microphone's release and the bias leave. -/

@[simp] theorem Hub.connectMic_headphone : (h.connectMic j).headphone k = h.headphone k := rfl
@[simp] theorem Hub.connectMic_deadline : (h.connectMic j).deadline t = h.deadline t := rfl
theorem Hub.connectMic_headMic_other (hk : k ≠ j) : (h.connectMic j).headMic k = h.headMic k := by simp [Hub.connectMic, hk]
@[simp] theorem Hub.releaseMic_headphone : (h.releaseMic j).headphone k = h.headphone k := rfl
theorem Hub.releaseMic_headMic_other (hk : k ≠ j) : (h.releaseMic j).headMic k = h.headMic k := by
  simp [Hub.releaseMic, Hub.connectMic_headMic_other, hk]
@[simp] theorem Hub.releaseMic_deadline : (h.releaseMic j).deadline t = if t = .longPress j then none else if t = .hmBias j then none else h.deadline t := by
  simp [Hub.releaseMic]
@[simp] theorem Hub.unbias_headphone : (h.unbias j).headphone k = h.headphone k := by unfold Hub.unbias; dsimp only; split <;> rfl
@[simp] theorem Hub.unbias_deadline : (h.unbias j).deadline t = h.deadline t := by unfold Hub.unbias; dsimp only; split <;> rfl
theorem Hub.unbias_headMic_other (hk : k ≠ j) : (h.unbias j).headMic k = h.headMic k := by
  unfold Hub.unbias; dsimp only; split <;> simp [hk]
@[simp] theorem Hub.unprotect_headMic : (h.unprotect j).headMic k = h.headMic k := rfl
@[simp] theorem Hub.unprotect_deadline : (h.unprotect j).deadline t = h.deadline t := rfl
theorem Hub.unprotect_headphone_other (hk : k ≠ j) : (h.unprotect j).headphone k = h.headphone k := by simp [Hub.unprotect, hk]
@[simp] theorem Hub.unprotect_jack : ((h.unprotect j).headphone j).jack = (h.headphone j).jack := by simp [Hub.unprotect]
@[simp] theorem Hub.unprotect_cause : ((h.unprotect j).headphone j).cause = (h.headphone j).cause := by simp [Hub.unprotect]
@[simp] theorem Hub.hpCause_headMic : (h.hpCause j e).headMic k = h.headMic k := rfl
@[simp] theorem Hub.hpCause_deadline : (h.hpCause j e).deadline t = h.deadline t := rfl

/-! A classification begins (R122). -/

theorem Hub.startClassify_eq :
    h.startClassify j =
      ((((h.modJack j Jack.classifying!).releaseMic j).modHeadphone j (fun x => { x with gate := x.gate.to 0 h.now (ms 1) })).start (.classify j) (ms 40)) := by
  unfold Hub.startClassify
  dsimp only
  rw [Hub.setGate_of_classifying _ _ (by simp)]
  rfl

theorem Hub.startClassify_headphone :
    (h.startClassify j).headphone k =
      if k = j then
        { h.headphone k with jack := (h.headphone k).jack.classifying!, gate := (h.headphone k).gate.to 0 h.now (ms 1) }
      else h.headphone k := by
  by_cases hk : k = j <;> simp [Hub.startClassify_eq, hk]

theorem Hub.startClassify_headMic_other (hk : k ≠ j) : (h.startClassify j).headMic k = h.headMic k := by
  simp [Hub.startClassify_eq, Hub.releaseMic_headMic_other, hk]

theorem Hub.startClassify_deadline_classify : (h.startClassify j).deadline (.classify j) = some (h.now + 40 * 96) := by
  simp [Hub.startClassify_eq, Hub.releaseMic, ms]
  rfl

end

/-! ## Protection and power-up (R111, R117) -/

section
variable {h : Hub} {j : Nat}

theorem Hub.hpOvercurrent_of_powered (hp : (h.headphone j).powered = true) (hc : (h.headphone j).jack.classifying = false) :
    h.hpOvercurrent j = ((h.modHeadphone j (fun x => { x with openAt := none, protect := true })).hpCause j 1).startClassify j :=
  (if_pos hp).trans (if_neg (by simp [Hub.hpCause, hc]))

theorem Hub.hpPowerupStep_of_3 (hs : h.spk.powerup = 3) (hd : h.due .hpPowerup = true) :
    h.hpPowerupStep = ((h.cancel .hpPowerup).modSpk (fun x => { x with powerup := 4 })).start .hpPowerup (ms 3) := by
  unfold Hub.hpPowerupStep
  rw [hs]
  exact Hub.whenDue_due hd

theorem Hub.hpPowerupStep_of_4 (hs : h.spk.powerup = 4) (hd : h.due .hpPowerup = true) (hb : 1 ≤ h.boot.service) :
    h.hpPowerupStep =
      (((h.cancel .hpPowerup).modSpk (fun x => { x with powerup := 5 })).forAll (upTo 1 4) Hub.hpStep4).start .hpPowerup (ms 27) := by
  unfold Hub.hpPowerupStep
  rw [hs]
  exact (if_pos hb).trans (Hub.whenDue_due hd)

theorem Hub.hpPowerupStep_of_5 (hs : h.spk.powerup = 5) (hd : h.due .hpPowerup = true) :
    h.hpPowerupStep = (h.cancel .hpPowerup).spkSequenceEnd.modSpk (fun x => { x with powerup := 6 }) := by
  unfold Hub.hpPowerupStep
  rw [hs]
  exact Hub.whenDue_due hd

end

/-- All of the hub but headphones and timers. -/
def Hub.withoutSensing (h : Hub) : Hub := { h with hps := [], timers := [] }

/-- All of the hub but the speaker and timers. -/
def Hub.besideSpk (h : Hub) : Hub := { h with spk := {}, timers := [] }

section
variable (h : Hub) (j k : Nat) (t : Timer) (d : Nat)

@[simp] theorem Hub.modHeadphone_withoutSensing (f : Headphone → Headphone) : (h.modHeadphone j f).withoutSensing = h.withoutSensing := rfl
@[simp] theorem Hub.start_withoutSensing : (h.start t d).withoutSensing = h.withoutSensing := rfl
@[simp] theorem Hub.cancel_withoutSensing : (h.cancel t).withoutSensing = h.withoutSensing := rfl
@[simp] theorem Hub.setGate_withoutSensing : (h.setGate j).withoutSensing = h.withoutSensing := by unfold Hub.setGate; dsimp only; split <;> rfl
@[simp] theorem Hub.setGate_openAt : ((h.setGate j).headphone k).openAt = (h.headphone k).openAt := by
  unfold Hub.setGate
  dsimp only
  split <;> by_cases hk : k = j <;> simp [hk]
@[simp] theorem Hub.setGate_fade : ((h.setGate j).headphone k).fade = (h.headphone k).fade := by
  unfold Hub.setGate
  dsimp only
  split <;> by_cases hk : k = j <;> simp [hk]
@[simp] theorem Hub.setGate_fast : ((h.setGate j).headphone k).fast = (h.headphone k).fast := by
  unfold Hub.setGate
  dsimp only
  split <;> by_cases hk : k = j <;> simp [hk]

@[simp] theorem Hub.jackSense_withoutSensing : (h.jackSense j).withoutSensing = h.withoutSensing := by
  unfold Hub.jackSense
  dsimp only
  repeat' split
  all_goals simp

@[simp] theorem Hub.jackSense_openAt : ((h.jackSense j).headphone k).openAt = (h.headphone k).openAt := by
  unfold Hub.jackSense
  dsimp only
  repeat' split
  all_goals by_cases hk : k = j <;> simp [hk]

theorem Hub.jackSense_deadline (hd : t ≠ .jdDebounce j) (hr : t ≠ .jackRemove j) : (h.jackSense j).deadline t = h.deadline t := by
  unfold Hub.jackSense
  dsimp only
  repeat' split
  all_goals simp [hd, hr]

theorem Hub.hpStep4_besidePhones : (h.hpStep4 j).besidePhones = h.besidePhones := by
  unfold Hub.hpStep4
  dsimp only
  split <;> simp

theorem Hub.hpStep4_headphone_other (hk : k ≠ j) : (h.hpStep4 j).headphone k = h.headphone k := by
  unfold Hub.hpStep4
  dsimp only
  split <;> simp [hk, Hub.setGate_headphone_other]

theorem Hub.hpStep4_fade (hf : (h.headphone j).fast = false) :
    ((h.hpStep4 j).headphone j).fade = (h.headphone j).fade.to unity h.now (h.hpMuteTime j) := by
  unfold Hub.hpStep4
  dsimp only
  split <;> simp [hf, Hub.now_of_besidePhones (Hub.setGate_besidePhones _ j), Hub.now_of_besidePhones (Hub.connectMic_besidePhones _ j)]

theorem Hub.spkSequenceEnd_besideSpk : h.spkSequenceEnd.besideSpk = h.besideSpk := by
  unfold Hub.spkSequenceEnd Hub.whenDue
  dsimp only
  repeat' split
  all_goals rfl

theorem Hub.spkSequenceEnd_deadline (ht : t ≠ .spkSequence) : h.spkSequenceEnd.deadline t = h.deadline t := by
  unfold Hub.spkSequenceEnd Hub.whenDue
  dsimp only
  repeat' split
  all_goals simp [ht]

end

theorem Hub.forAll_hpStep4_fade {h : Hub} {j : Nat} (hj : isHeadphone j = true) (hf : (h.headphone j).fast = false) :
    ((h.forAll (upTo 1 4) Hub.hpStep4).headphone j).fade = (h.headphone j).fade.to unity h.now (h.hpMuteTime j) := by
  obtain ⟨hlo, hhi⟩ := isHeadphone_range hj
  obtain ⟨g, hg, hk, he⟩ := Hub.forAll_at (R := Hub.headphone) (K := Hub.besidePhones) (fun g n m hm => Hub.hpStep4_headphone_other g n m hm)
    (fun g n => Hub.hpStep4_besidePhones g n) (nodup_upTo 1 4) (mem_upTo.mpr ⟨hlo, hhi⟩) h
  have htime : g.hpMuteTime j = h.hpMuteTime j := congrArg us (Hub.live?_of_besidePhones hk _ _)
  rw [he, Hub.hpStep4_fade _ _ (by rw [hg]; exact hf), hg, htime, Hub.now_of_besidePhones hk]

/-- A channel's mute switch is told to open over 20 ms (R117). -/
def Hub.hpOpen (h : Hub) (j : Nat) : Hub := h.modHeadphone j (fun x => { x with openAt := if x.fast then none else some (h.now + ms 20) })

theorem Hub.forAll_hpOpen_openAt {h : Hub} {j : Nat} (hj : isHeadphone j = true) :
    ((h.forAll (upTo 1 4) Hub.hpOpen).headphone j).openAt = if (h.headphone j).fast then none else some (h.now + 20 * 96) := by
  obtain ⟨g, hg, hk, he⟩ := Hub.forAll_headphone (step := Hub.hpOpen) (fun g n m hm => by simp [Hub.hpOpen, hm]) (fun g n => rfl) hj h
  rw [he]
  simp [Hub.hpOpen, hg, Hub.now_of_withoutHeadphones hk, ms]

section
variable {g k h : Hub}

theorem Hub.eq_of_withoutHeadphones (hg : g.withoutHeadphones = h.withoutHeadphones) :
    { g with hps := h.hps, spk := h.spk, timers := h.timers } = h :=
  (congrArg (fun x : Hub => { x with hps := h.hps, spk := h.spk, timers := h.timers }) hg :)

theorem Hub.eq_of_withoutSensing (hg : g.withoutSensing = k.withoutSensing)
    (hk : { k with hps := h.hps, spk := h.spk, timers := h.timers } = h) : { g with hps := h.hps, spk := h.spk, timers := h.timers } = h :=
  (congrArg (fun x : Hub => { x with hps := h.hps, spk := h.spk, timers := h.timers }) hg :).trans hk

end

/-- The charge pump is up: the mute switches open and jack sensing starts (R117). -/
def Hub.hpOpened (h : Hub) : Hub :=
  (((h.forAll (upTo 1 4) Hub.hpOpen).modSpk (fun x => { x with powerup := 3 })).start .hpPowerup (ms 20)).forAll (upTo 1 4) Hub.jackSense

theorem Hub.hpPowerupStep_of_2 {h : Hub} (hs : h.spk.powerup = 2) (hd : h.due .hpPowerup = true) :
    h.hpPowerupStep = (h.cancel .hpPowerup).hpOpened := by
  unfold Hub.hpPowerupStep
  rw [hs]
  exact Hub.whenDue_due hd

theorem Hub.hpOpened_reads (h : Hub) :
    (∀ j, isHeadphone j = true → (h.hpOpened.headphone j).openAt = if (h.headphone j).fast then none else some (h.now + 20 * 96)) ∧
    h.hpOpened.spk = { h.spk with powerup := 3 } ∧ h.hpOpened.deadline .hpPowerup = some (h.now + 20 * 96) ∧
    (h.hpOpened.deadline .spkSequence = h.deadline .spkSequence) ∧
    (∀ ts, { h.hpOpened with hps := h.hps, spk := h.spk, timers := ts } = { h with timers := ts }) := by
  have hphones : (h.forAll (upTo 1 4) Hub.hpOpen).withoutHeadphones = h.withoutHeadphones :=
    Hub.forAll_keeps (step := Hub.hpOpen) (fun g n => rfl) _ h
  have hopen : ∀ j, isHeadphone j = true →
      ((h.forAll (upTo 1 4) Hub.hpOpen).headphone j).openAt = if (h.headphone j).fast then none else some (h.now + 20 * 96) :=
    fun j hj => Hub.forAll_hpOpen_openAt hj
  unfold Hub.hpOpened
  generalize h.forAll (upTo 1 4) Hub.hpOpen = g at hphones hopen
  generalize hk : (g.modSpk (fun x => { x with powerup := 3 })).start .hpPowerup (ms 20) = k
  have hsense : (k.forAll (upTo 1 4) Hub.jackSense).withoutSensing = k.withoutSensing := Hub.forAll_keeps (fun g n => Hub.jackSense_withoutSensing g n) _ k
  have hdeadline : ∀ t : Timer, (∀ j, t ≠ .jdDebounce j) → (∀ j, t ≠ .jackRemove j) → (k.forAll (upTo 1 4) Hub.jackSense).deadline t = k.deadline t :=
    fun t hd hr => Hub.forAll_keeps (K := fun h => h.deadline t) (fun g n => Hub.jackSense_deadline g n t (hd n) (hr n)) _ k
  refine ⟨fun j hj => ?_, ?_, ?_, ?_, ?_⟩
  · exact (Hub.forAll_keeps (K := fun h => (h.headphone j).openAt) (fun g n => Hub.jackSense_openAt g n j) _ k).trans
      ((by rw [← hk]; rfl : (k.headphone j).openAt = (g.headphone j).openAt).trans (hopen j hj))
  · exact (congrArg Hub.spk hsense :).trans (by rw [← hk]; exact congrArg (fun x : Hub => { x.spk with powerup := 3 }) hphones)
  · rw [hdeadline _ (by simp) (by simp), ← hk]
    simp [Hub.modSpk, Hub.now_of_withoutHeadphones hphones, ms]
  · rw [hdeadline _ (by simp) (by simp), ← hk]
    have htimer : g.deadline .spkSequence = h.deadline .spkSequence := (congrArg (fun x : Hub => x.deadline .spkSequence) hphones :)
    simpa using htimer
  · intro ts
    have hbefore : ({ k with hps := h.hps, spk := h.spk, timers := h.timers } : Hub) = h := by
      rw [← hk]
      exact Eq.trans (by simp [Hub.modSpk]) (Hub.eq_of_withoutHeadphones hphones)
    have hall := Hub.eq_of_withoutSensing hsense hbefore
    exact (congrArg (fun x : Hub => { x with timers := ts }) hall :)

/-- Settles O15: the steps of the power-up leave what earlier ones set. -/
theorem headphonesProtectAndPowerUp : Obligations.HeadphonesProtectAndPowerUp := by
  refine ⟨?limit, ?step2, ?step3, ?step4, ?step5⟩
  case limit =>
    intro s j hj hp hc
    refine answers_of_run (f := (·.hpOvercurrent j)) rfl hj ?_
    rw [Hub.hpOvercurrent_of_powered hp hc]
    refine ⟨?_, ?_, ?_, ?_, ?_, ?_, fun k hk => ⟨?_, ?_⟩, Hub.eq_of_besidePhones ?_⟩
    all_goals simp [*, Hub.startClassify_headphone, Hub.startClassify_headMic_other, Hub.startClassify_deadline_classify, Hub.hpCause, Jack.classifying!, ms]
  case step2 =>
    intro s hs hd
    refine answers_of_always (f := Hub.hpPowerupStep) rfl ?_
    rw [Hub.hpPowerupStep_of_2 hs hd]
    obtain ⟨hopen, hspk, hstarted, hkept, hrest⟩ := Hub.hpOpened_reads (s.hub.cancel .hpPowerup)
    exact ⟨hopen, hspk, hstarted, hkept.trans (by simp), hrest s.hub.timers⟩
  case step3 =>
    intro s hs hd
    refine answers_of_always (f := Hub.hpPowerupStep) rfl ?_
    rw [Hub.hpPowerupStep_of_3 hs hd]
    exact ⟨rfl, by simp [Hub.modSpk, ms], by simp [Hub.modSpk]⟩
  case step4 =>
    intro s hs hd hb
    refine answers_of_always (f := Hub.hpPowerupStep) rfl ?_
    rw [Hub.hpPowerupStep_of_4 hs hd hb]
    generalize hg : (s.hub.cancel .hpPowerup).modSpk (fun x => { x with powerup := 5 }) = g
    have hnow : g.now = s.hub.now := by rw [← hg]; rfl
    have hrest : (g.forAll (upTo 1 4) Hub.hpStep4).besidePhones = g.besidePhones := Hub.forAll_keeps (fun g n => Hub.hpStep4_besidePhones g n) _ g
    have hnow' : (g.forAll (upTo 1 4) Hub.hpStep4).now = s.hub.now := (Hub.now_of_besidePhones hrest).trans hnow
    have hrest' := Hub.eq_of_besidePhones_spk (h := s.hub) hrest (by rw [← hg]; rfl)
    refine ⟨fun j hj hf => ?_, ?_, by simp [hnow', ms], by simpa using hrest'⟩
    · rw [Hub.start_headphone, Hub.forAll_hpStep4_fade hj (by rw [← hg]; exact hf), ← hg]
      rfl
    · rw [Hub.start_spk, Hub.spk_of_besidePhones hrest, ← hg]
      rfl
  case step5 =>
    intro s hs hd
    refine answers_of_always (f := Hub.hpPowerupStep) rfl ?_
    rw [Hub.hpPowerupStep_of_5 hs hd]
    refine ⟨rfl, (Hub.spkSequenceEnd_deadline _ _ (by simp)).trans (by simp), ?_⟩
    exact (congrArg (fun k : Hub => { k with spk := s.hub.spk, timers := s.hub.timers }) (Hub.spkSequenceEnd_besideSpk (s.hub.cancel .hpPowerup)) :)

end Sys2Proof.Machine
end

section
/-! SUPPORT. Edges, classifications and buttons of the jacks (R122 to R125): each row where its condition holds. -/

namespace Sys2Proof.Machine

section
variable (h : Hub) (j : Nat)

@[simp] theorem Hub.modHeadphone_jackSensing (f : Headphone → Headphone) : (h.modHeadphone j f).jackSensing = h.jackSensing := rfl
@[simp] theorem Hub.cancel_jackSensing (t : Timer) : (h.cancel t).jackSensing = h.jackSensing := rfl
@[simp] theorem Hub.modHeadphone_jackSetting (f : Headphone → Headphone) (i sub : Nat) :
    (h.modHeadphone j f).jackSetting i sub = h.jackSetting i sub := rfl
@[simp] theorem Hub.cancel_jackSetting (t : Timer) (i sub : Nat) : (h.cancel t).jackSetting i sub = h.jackSetting i sub := rfl
@[simp] theorem Hub.cause_jackSetting (e i sub : Nat) : (h.cause e).jackSetting i sub = h.jackSetting i sub := rfl
@[simp] theorem Hub.start_jackSetting (t : Timer) (d i sub : Nat) : (h.start t d).jackSetting i sub = h.jackSetting i sub := rfl
@[simp] theorem Hub.modHeadphone_rawInserted (f : Headphone → Headphone) (i : Nat) (b : Bool) :
    (h.modHeadphone j f).rawInserted i b = h.rawInserted i b := rfl
@[simp] theorem Hub.cancel_rawInserted (t : Timer) (i : Nat) (b : Bool) : (h.cancel t).rawInserted i b = h.rawInserted i b := rfl
@[simp] theorem Hub.modHeadphone_causes (f : Headphone → Headphone) (e : Nat) : (h.modHeadphone j f).causes e ↔ h.causes e := Iff.rfl
@[simp] theorem Hub.modHeadMic_causes (f : HeadMic → HeadMic) (e : Nat) : (h.modHeadMic j f).causes e ↔ h.causes e := Iff.rfl

end

/-! ## Edges (R122, R123) -/

section
variable {h : Hub} {j : Nat}

/-- A jack that shows inserted starts its 50 ms (R122). -/
theorem Hub.jackSense_of_inserting (hs : h.jackSensing = true) (hm : h.jackSetting j 1 ≠ 0)
    (hr : h.rawInserted j (h.headphone j).jack.pin = true) (hi : (h.headphone j).jack.inserted = false)
    (hq : (h.headphone j).jack.removing = false) (ht : h.armed (.jdDebounce j) = false) :
    h.jackSense j = h.start (.jdDebounce j) (ms 50) := by
  simp [Hub.jackSense, hs, hm, hr, hi, hq, ht]

/-- The gate of a jack that begins to be removed closes with JACK_GATE 1 (R123). -/
def Hub.removalGate (h : Hub) (j : Nat) : Hub :=
  if h.jackSetting j 3 = 1 then h.modHeadphone j (fun x => { x with gate := x.gate.to 0 h.now (ms 1) }) else h

/-- A jack that shows removed starts its 5 ms (R123). -/
theorem Hub.jackSense_of_removing (hs : h.jackSensing = true) (hm : h.jackSetting j 1 ≠ 0)
    (hr : h.rawInserted j (h.headphone j).jack.pin = false) (hi : (h.headphone j).jack.inserted = true)
    (hq : (h.headphone j).jack.removing = false) :
    h.jackSense j =
      (((h.cancel (.jdDebounce j)).modHeadphone j (fun x => { x with jack := { x.jack with removing := true } })).start (.jackRemove j) (ms 5)).removalGate j := by
  simp [Hub.jackSense, Hub.removalGate, hs, hm, hr, hi, hq]
  rfl

theorem Hub.jdEdge_of_new {level : Bool} (hp : (h.headphone j).jack.pin ≠ level) (hi : (h.headphone j).jack.inserted = false) :
    h.jdEdge j level = ((h.modHeadphone j (fun x => { x with jack := { x.jack with pin := level } })).cancel (.jdDebounce j)).jackSense j := by
  simp [Hub.jdEdge, hp, hi]

theorem Hub.jdEdge_of_inserted {level : Bool} (hp : (h.headphone j).jack.pin ≠ level) (hi : (h.headphone j).jack.inserted = true) :
    h.jdEdge j level = (h.modHeadphone j (fun x => { x with jack := { x.jack with pin := level } })).jackSense j := by
  simp [Hub.jdEdge, hp, hi]

theorem Hub.jackInsertAccept_of_due (hd : h.due (.jdDebounce j) = true) :
    h.jackInsertAccept j =
      ((((h.cancel (.jdDebounce j)).modJack j (fun x => { x with inserted := true })).hpCause j 3).startClassify j).cause (evJack j) :=
  Hub.whenDue_due hd

end

theorem Hub.eq_of_besidePhones_cause {g h : Hub} (hb : g.besidePhones = h.besidePhones) (e : Nat) :
    { g.cause e with hps := h.hps, hms := h.hms, timers := h.timers, evDue := h.evDue } = h :=
  (congrArg (fun k : Hub => { k with hps := h.hps, hms := h.hms, timers := h.timers, evDue := h.evDue }) hb :)

theorem Hub.startClassify_deadline_other (h : Hub) (j : Nat) {t : Timer} (hc : t ≠ .classify j) (hb : t ≠ .hmBias j) (hl : t ≠ .longPress j) :
    (h.startClassify j).deadline t = h.deadline t := by
  simp [Hub.startClassify_eq, hc, hb, hl]

/-- A jack as an accepted removal leaves it (R123). -/
def Jack.removed (x : Jack) : Jack :=
  { x with inserted := false, removing := false, classifying := false, accessory := 0, buttons := 0, micSwapped := false
           tip := 0xFFFFFFFF, ring := 0xFFFFFFFF }

/-- The rest of an accepted removal, before its event (R123). -/
def Hub.jackRemoved (h : Hub) (j : Nat) : Hub :=
  ((((((h.modJack j Jack.removed).unprotect j).cancel (.classify j)).unbias j).releaseMic j).setGate j).hpCause j 4

theorem Hub.jackRemoveAccept_of_due {h : Hub} {j : Nat} (hd : h.due (.jackRemove j) = true) :
    h.jackRemoveAccept j = ((h.cancel (.jackRemove j)).jackRemoved j).cause (evJack j) :=
  Hub.whenDue_due hd

section
variable (h : Hub) (j : Nat)

theorem Hub.jackRemoved_jack : ((h.jackRemoved j).headphone j).jack = (h.headphone j).jack.removed := by simp [Hub.jackRemoved, Hub.hpCause]
theorem Hub.jackRemoved_cause : ((h.jackRemoved j).headphone j).cause = (h.headphone j).cause ||| 16 := by
  simp [Hub.jackRemoved, Hub.hpCause]
theorem Hub.jackRemoved_deadline (t : Timer) : (h.jackRemoved j).deadline t =
    if t = .longPress j then none else if t = .hmBias j then none else if t = .classify j then none else h.deadline t := by
  simp [Hub.jackRemoved]
theorem Hub.jackRemoved_besidePhones : (h.jackRemoved j).besidePhones = h.besidePhones := by simp [Hub.jackRemoved]
theorem Hub.jackRemoved_headphone_other {k : Nat} (hk : k ≠ j) : (h.jackRemoved j).headphone k = h.headphone k := by
  simp [Hub.jackRemoved, Hub.hpCause, Hub.setGate_headphone_other, Hub.unprotect_headphone_other, hk]
theorem Hub.jackRemoved_headMic_other {k : Nat} (hk : k ≠ j) : (h.jackRemoved j).headMic k = h.headMic k := by
  simp [Hub.jackRemoved, Hub.releaseMic_headMic_other, Hub.unbias_headMic_other, hk]

end

/-- Settles O17: an edge through the sensing it starts, an acceptance through the parts it is made of. -/
theorem jackEdgesAreDebounced : Obligations.JackEdgesAreDebounced := by
  refine ⟨?inserting, ?removing, ?inserted, ?removed⟩
  case inserting =>
    intro s j level hj hp hs hm hr hi hq
    refine answers_of_run (f := (·.jdEdge j level)) rfl hj ?_
    rw [Hub.jdEdge_of_new hp hi,
      Hub.jackSense_of_inserting (by simpa using hs) (by simpa using hm) (by simpa using hr) (by simpa using hi) (by simpa using hq) (by simp [Hub.armed])]
    exact ⟨by simp, by simp [ms], fun k hk => by simp [hk], by simp⟩
  case removing =>
    intro s j level hj hp hs hm hr hi hq
    refine answers_of_run (f := (·.jdEdge j level)) rfl hj ?_
    rw [Hub.jdEdge_of_inserted hp hi,
      Hub.jackSense_of_removing (by simpa using hs) (by simpa using hm) (by simpa using hr) (by simpa using hi) (by simpa using hq)]
    unfold Hub.removalGate
    split
    · next hg => exact ⟨by simp, by simp_all [ms], by simp [ms], fun k hk => by simp [hk], by simp⟩
    · next hg => exact ⟨by simp, by simp_all, by simp [ms], fun k hk => by simp [hk], by simp⟩
  case inserted =>
    intro s j hj hd
    refine answers_of_run (f := (·.jackInsertAccept j)) rfl hj ?_
    rw [Hub.jackInsertAccept_of_due hd]
    refine ⟨?_, ?_, ?_, ?_, ?_, ?_, fun k hk => ⟨?_, ?_⟩, Hub.eq_of_besidePhones_cause (by simp) _⟩
    · simp [Hub.startClassify_headphone, Hub.hpCause, Jack.classifying!]
    · simp [Hub.startClassify_headphone, Hub.hpCause]
    · simp [Hub.startClassify_headphone, Hub.hpCause, ms]
    · simp [Hub.startClassify_deadline_classify, Hub.hpCause]
    · simp [Hub.startClassify_deadline_other]
    · exact Hub.cause_causes_same _ _
    · simp [Hub.startClassify_headphone, Hub.hpCause, hk]
    · simp [Hub.startClassify_headMic_other, hk]
  case removed =>
    intro s j hj hd hp
    refine answers_of_run (f := (·.jackRemoveAccept j)) rfl hj ?_
    rw [Hub.jackRemoveAccept_of_due hd]
    refine ⟨?_, ?_, ?_, ?_, ?_, ?_, fun k hk => ⟨?_, ?_⟩, Hub.eq_of_besidePhones_cause ?_ _⟩
    · simp [Hub.jackRemoved_jack, Jack.removed]
    · simp [Hub.jackRemoved_cause]
    · simp [Hub.jackRemoved_deadline]
    · simp [Hub.jackRemoved_deadline]
    · simp [Hub.jackRemoved_deadline]
    · exact Hub.cause_causes_same _ _
    · simp [Hub.jackRemoved_headphone_other, hk]
    · simp [Hub.jackRemoved_headMic_other, hk]
    · simp [Hub.jackRemoved_besidePhones]

/-! ## Classification and bias (R124) -/

/-- A jack as a classification leaves it (R124). -/
def Jack.classified (x : Jack) (a : Nat) (m : JackMeasure) : Jack :=
  { x with accessory := a, classifying := false, tip := loadWord m.tip, ring := loadWord m.ring, micSwapped := decide (a = 4) }

/-- A headset's microphone as AUTO_BIAS leaves it (R124, R45). -/
def HeadMic.biased (x : HeadMic) : HeadMic := { x with autoBias := true, biasEnable := true, bias := x.bias.byHub true, key := Fade.steady 0 }

/-- A class that changes gives the bias back (R124). -/
def Hub.unbiasUnless (h : Hub) (j a : Nat) : Hub := if a = (h.headphone j).jack.before then h else h.unbias j

/-- Any class but a fault ends the protection (R111). -/
def Hub.unprotectUnless (h : Hub) (j a : Nat) : Hub := if a = 6 then h else h.unprotect j

/-- A classification with its result `a`, before its event (R124). -/
def Hub.classified (h : Hub) (j a : Nat) (m : JackMeasure) : Hub :=
  ((((((h.unbiasUnless j a).modJack j (·.classified a m)).connectMic j).hpCause j 5).unprotectUnless j a).setGate j)

section
variable (h : Hub) (j a k : Nat) (t : Timer) (m : JackMeasure)

@[simp] theorem Hub.unbiasUnless_headphone : (h.unbiasUnless j a).headphone k = h.headphone k := by unfold Hub.unbiasUnless; split <;> simp
@[simp] theorem Hub.unbiasUnless_deadline : (h.unbiasUnless j a).deadline t = h.deadline t := by unfold Hub.unbiasUnless; split <;> simp
@[simp] theorem Hub.unbiasUnless_besidePhones : (h.unbiasUnless j a).besidePhones = h.besidePhones := by unfold Hub.unbiasUnless; split <;> simp
theorem Hub.unbiasUnless_headMic_other (hk : k ≠ j) : (h.unbiasUnless j a).headMic k = h.headMic k := by
  unfold Hub.unbiasUnless; split <;> simp [Hub.unbias_headMic_other, hk]

@[simp] theorem Hub.unprotectUnless_headMic : (h.unprotectUnless j a).headMic k = h.headMic k := by unfold Hub.unprotectUnless; split <;> simp
@[simp] theorem Hub.unprotectUnless_deadline : (h.unprotectUnless j a).deadline t = h.deadline t := by unfold Hub.unprotectUnless; split <;> simp
@[simp] theorem Hub.unprotectUnless_besidePhones : (h.unprotectUnless j a).besidePhones = h.besidePhones := by
  unfold Hub.unprotectUnless; split <;> simp
@[simp] theorem Hub.unprotectUnless_jack : ((h.unprotectUnless j a).headphone j).jack = (h.headphone j).jack := by
  unfold Hub.unprotectUnless; split <;> simp
@[simp] theorem Hub.unprotectUnless_cause : ((h.unprotectUnless j a).headphone j).cause = (h.headphone j).cause := by
  unfold Hub.unprotectUnless; split <;> simp
theorem Hub.unprotectUnless_headphone_other (hk : k ≠ j) : (h.unprotectUnless j a).headphone k = h.headphone k := by
  unfold Hub.unprotectUnless; split <;> simp [Hub.unprotect_headphone_other, hk]

/-- What the hub makes of the bias leaves a fault a fault, and makes nothing else one (R45). -/
theorem BiasState.byHub_fault (b : BiasState) (v : Bool) : b.byHub v = .fault ↔ b = .fault := by
  cases b <;> cases v <;> decide

theorem Hub.unbiasUnless_fault : ((h.unbiasUnless j a).headMic j).bias = .fault ↔ (h.headMic j).bias = .fault := by
  unfold Hub.unbiasUnless Hub.unbias
  dsimp only
  repeat' split
  all_goals simp [BiasState.byHub_fault]

theorem Hub.classified_jack : ((h.classified j a m).headphone j).jack = (h.headphone j).jack.classified a m := by
  simp [Hub.classified, Hub.hpCause]
theorem Hub.classified_cause : ((h.classified j a m).headphone j).cause = (h.headphone j).cause ||| 32 := by
  simp [Hub.classified, Hub.hpCause]
theorem Hub.classified_deadline : (h.classified j a m).deadline t = h.deadline t := by simp [Hub.classified]
theorem Hub.classified_besidePhones : (h.classified j a m).besidePhones = h.besidePhones := by simp [Hub.classified]
theorem Hub.classified_headphone_other (hk : k ≠ j) : (h.classified j a m).headphone k = h.headphone k := by
  simp [Hub.classified, Hub.hpCause, Hub.setGate_headphone_other, Hub.unprotectUnless_headphone_other, hk]
theorem Hub.classified_headMic_other (hk : k ≠ j) : (h.classified j a m).headMic k = h.headMic k := by
  simp [Hub.classified, Hub.connectMic_headMic_other, Hub.unbiasUnless_headMic_other, hk]
theorem Hub.classified_fault : ((h.classified j a m).headMic j).bias = .fault ↔ (h.headMic j).bias = .fault := by
  simp [Hub.classified, Hub.connectMic, Hub.unbiasUnless_fault]

end

/-- With AUTO_BIAS 1 a headset's microphone is biased for 20 ms (R124). -/
def Hub.autoBias (h : Hub) (j a : Nat) : Hub :=
  if isHeadset a && decide (h.jackSetting j 4 = 1) then (h.modHeadMic j HeadMic.biased).start (.hmBias j) (ms 20) else h

theorem Hub.classifyComplete_of_due {h : Hub} {j : Nat} {m : JackMeasure} (hd : h.due (.classify j) = true) :
    h.classifyComplete j m =
      (((h.cancel (.classify j)).classified j (classify (h.jackSetting j 2) m) m).cause (evJack j)).autoBias j (classify (h.jackSetting j 2) m) :=
  Hub.whenDue_due hd

section
variable (h : Hub) (j a : Nat)

theorem Hub.autoBias_headphone (k : Nat) : (h.autoBias j a).headphone k = h.headphone k := by unfold Hub.autoBias; split <;> simp
theorem Hub.autoBias_causes (e : Nat) : (h.autoBias j a).causes e ↔ h.causes e := by unfold Hub.autoBias; split <;> simp
theorem Hub.autoBias_deadline_other {t : Timer} (ht : t ≠ .hmBias j) : (h.autoBias j a).deadline t = h.deadline t := by
  unfold Hub.autoBias; split <;> simp [ht]
theorem Hub.autoBias_headMic_other {k : Nat} (hk : k ≠ j) : (h.autoBias j a).headMic k = h.headMic k := by
  unfold Hub.autoBias; split <;> simp [hk]
theorem Hub.autoBias_besideJacks : (h.autoBias j a).besideJacks = h.besideJacks := by unfold Hub.autoBias; split <;> simp

theorem Hub.autoBias_of_headset (ha : isHeadset a = true) (hs : h.jackSetting j 4 = 1) :
    h.autoBias j a = (h.modHeadMic j HeadMic.biased).start (.hmBias j) (ms 20) := if_pos (by simp [ha, hs])

end

/-! ## Buttons (R125) -/

section
variable {h : Hub} {j : Nat}

theorem Hub.hmBiasSettled_of_due {m : Nat} (hd : h.due (.hmBias m) = true) (hb : h.buttonMutes m = false) :
    h.hmBiasSettled m = (h.cancel (.hmBias m)).modHeadMic m (fun x => { x with key := x.key.to unity h.now (ms 10) }) :=
  (Hub.whenDue_due hd).trans (if_neg (ne_true_of_eq_false hb))

/-- A press, before its mute (R125). -/
def Hub.pressed (h : Hub) (j k : Nat) : Hub :=
  ((h.modHeadphone j (fun x => { x with jack := { x.jack with buttons := 2 ^ k, buttonCause := x.jack.buttonCause ||| 2 ^ k } })).start
    (.longPress j) (us (h.jackSetting j 5))).cause (evButton j)

theorem Hub.buttonPress_of_headset {ohms k : Nat} (hb : buttonOf ohms = some k) (hh : isHeadset (h.headphone j).jack.accessory = true)
    (hon : (h.headMic j).bias = .on) (h0 : (h.headphone j).jack.buttons = 0) :
    h.buttonPress j ohms =
      if h.jackSetting j 6 = 1 then (h.pressed j k).modHeadMic j (fun m => { m with key := m.key.to 0 h.now (ms 2) }) else h.pressed j k := by
  unfold Hub.buttonPress
  rw [hb]
  exact if_pos (by simp [hh, hon, h0])

theorem Hub.buttonLongPress_of_due (hd : h.due (.longPress j) = true) :
    h.buttonLongPress j = ((h.cancel (.longPress j)).modHeadphone j (fun x => { x with jack := { x.jack with
      buttons := x.jack.buttons ||| 16 * ((h.headphone j).jack.buttons &&& 15)
      buttonCause := x.jack.buttonCause ||| 16 * ((h.headphone j).jack.buttons &&& 15) } })).cause (evButton j) :=
  Hub.whenDue_due hd

/-- A release, before its fade-in (R125). -/
def Hub.unpressed (h : Hub) (j : Nat) : Hub :=
  ((h.modHeadphone j (fun x => { x with jack := { x.jack with buttons := 0 } })).cancel (.longPress j)).cause (evButton j)

theorem Hub.buttonRelease_of_pressed (hb : (h.headphone j).jack.buttons ≠ 0) :
    h.buttonRelease j =
      if (h.headMic j).key.m1 = 0 ∧ h.armed (.hmBias j) = false then
        (h.unpressed j).modHeadMic j (fun m => { m with key := m.key.to unity h.now (ms 10) })
      else h.unpressed j := by
  have harmed : (h.unpressed j).armed (.hmBias j) = h.armed (.hmBias j) := by simp [Hub.armed, Hub.unpressed]
  rw [← harmed]
  exact if_neg hb

end

/-- Settles O18: a classification through the parts it is made of, a button through its press or release and its mute. -/
theorem headsetsAndButtons : Obligations.HeadsetsAndButtons := by
  refine ⟨?classified, ?biased, ?press, ?long, ?release⟩
  case classified =>
    intro s j m hj hd
    refine answers_of_run (f := (·.classifyComplete j m)) rfl hj ?_
    rw [Hub.classifyComplete_of_due hd]
    generalize ha : classify (s.hub.jackSetting j 2) m = a
    have hrest : ((s.hub.cancel (.classify j)).classified j a m).besidePhones = s.hub.besidePhones := by simp [Hub.classified_besidePhones]
    have hset : (((s.hub.cancel (.classify j)).classified j a m).cause (evJack j)).jackSetting j 4 = s.hub.jackSetting j 4 :=
      Hub.jackSetting_of_besidePhones hrest j 4
    refine ⟨?_, ?_, ?_, ?_, fun hh h1 => ?_, fun k hk => ⟨?_, ?_⟩, Hub.eq_of_besideJacks ?_⟩
    · simp [Hub.autoBias_headphone, Hub.classified_jack, Jack.classified]
    · simp [Hub.autoBias_headphone, Hub.classified_cause]
    · exact (Hub.autoBias_causes _ _ _ _).mpr (Hub.cause_causes_same _ _)
    · simp [Hub.autoBias_deadline_other, Hub.classified_deadline]
    · rw [Hub.autoBias_of_headset _ _ _ hh (hset.trans h1)]
      refine ⟨?_, by simp [HeadMic.biased], by simp [HeadMic.biased], by simp [ms, Hub.now_of_besidePhones hrest]⟩
      simp [HeadMic.biased, BiasState.byHub, Hub.classified_fault]
    · simp [Hub.autoBias_headphone, Hub.classified_headphone_other, hk]
    · simp [Hub.autoBias_headMic_other, Hub.classified_headMic_other, hk]
    · rw [Hub.autoBias_besideJacks, Hub.cause_besideJacks, Hub.besideJacks_of_besidePhones hrest]
  case biased =>
    intro s m hm hd hb
    refine answers_of_run (f := (·.hmBiasSettled m)) rfl hm ?_
    rw [Hub.hmBiasSettled_of_due hd hb]
    exact ⟨by simp [ms], by simp, fun k hk => by simp [hk], by simp⟩
  case press =>
    intro s j ohms k hj hb hh hon h0
    refine answers_of_run (f := (·.buttonPress j ohms)) rfl hj ?_
    rw [Hub.buttonPress_of_headset hb hh hon h0]
    split
    · exact ⟨by simp [Hub.pressed], by simp [Hub.pressed, ms], by simp [Hub.pressed], Hub.cause_causes_same _ _,
        fun i hi => by simp [Hub.pressed, hi], by simp [Hub.pressed]⟩
    · exact ⟨by simp [Hub.pressed], by simp [Hub.pressed], by simp [Hub.pressed], Hub.cause_causes_same _ _,
        fun i hi => by simp [Hub.pressed, hi], by simp [Hub.pressed]⟩
  case long =>
    intro s j hj hd
    refine answers_of_run (f := (·.buttonLongPress j)) rfl hj ?_
    rw [Hub.buttonLongPress_of_due hd]
    exact ⟨by simp, by simp, Hub.cause_causes_same _ _, fun i hi => by simp [hi], by simp⟩
  case release =>
    intro s j hj hb
    refine answers_of_run (f := (·.buttonRelease j)) rfl hj ?_
    rw [Hub.buttonRelease_of_pressed hb]
    split
    · exact ⟨by simp [Hub.unpressed], by simp [Hub.unpressed], Hub.cause_causes_same _ _, by simp [Hub.unpressed, ms],
        fun i hi => by simp [Hub.unpressed, hi], by simp [Hub.unpressed]⟩
    · exact ⟨by simp [Hub.unpressed], by simp [Hub.unpressed], Hub.cause_causes_same _ _, by simp [Hub.unpressed],
        fun i hi => by simp [Hub.unpressed, hi], by simp [Hub.unpressed]⟩

end Sys2Proof.Machine
end

section
/-! SUPPORT. Lane faults, the takeover by L8, its patrol and recheck (R189 to R193): each row where its condition holds. -/

namespace Sys2Proof.Machine

/-! ## A pass that gives every process of a list its bypass -/

/-- A process in bypass, which will resume from `c` (R188, R192). -/
def Process.bypassed (x : Process) (c : Option Checkpoint) : Process := { x with wet := Fade.steady 0, restore := c }

/-- What a process resumes from does not change in bypass. -/
def KeepsInBypass (c : Nat → Process → Option Checkpoint) : Prop := ∀ p x r, c p (x.bypassed r) = c p x

theorem Hub.forAll_bypass_proc {c : Nat → Process → Option Checkpoint} (hc : KeepsInBypass c) (ns : List Nat) (h : Hub) (p : Nat) :
    (h.forAll ns (fun h p => h.modProc p (fun x => x.bypassed (c p x)))).proc p = if p ∈ ns then (h.proc p).bypassed (c p (h.proc p)) else h.proc p := by
  induction ns generalizing h with
  | nil => simp [Hub.forAll]
  | cons n ns ih =>
    refine (ih _).trans ?_
    by_cases hp : p = n
    · subst hp
      by_cases hm : p ∈ ns
      · rw [if_pos hm, if_pos List.mem_cons_self, Hub.modProc_proc, hc]
        rfl
      · simp [hm]
    · simp [hp]

/-- All of the hub but the processes. -/
def Hub.besideProcs (h : Hub) : Hub := { h with procs := [] }

/-- The processes replaced. -/
def Hub.withProcs (h : Hub) (ps : Table Process) : Hub := { h with procs := ps }

@[simp] theorem Hub.withProcs_lane (h : Hub) (ps : Table Process) (n : Nat) : (h.withProcs ps).lane n = h.lane n := rfl

section
variable (h : Hub) (k : Nat) (c : Nat → Process → Option Checkpoint)

theorem Hub.bypassLane_besideProcs : (h.bypassLane k c).besideProcs = h.besideProcs := 
  Hub.forAll_keeps (K := Hub.besideProcs) (step := fun h p => h.modProc p (fun x => x.bypassed (c p x))) (fun _ _ => rfl) _ h

theorem Hub.bypassLane_proc (hc : KeepsInBypass c) (p : Nat) :
    (h.bypassLane k c).proc p = if p ∈ h.onPosition k then (h.proc p).bypassed (c p (h.proc p)) else h.proc p :=
  Hub.forAll_bypass_proc hc _ h p

/-- The bypass of a lane changes the processes only. -/
theorem Hub.bypassLane_eq : h.bypassLane k c = h.withProcs (h.bypassLane k c).procs :=
  (congrArg (fun x : Hub => { x with procs := (h.bypassLane k c).procs }) (h.bypassLane_besideProcs k c) :)

end

theorem keepsInBypass_newest : KeepsInBypass (fun _ x => x.newest) := fun _ _ _ => rfl

/-! ## Lane faults (R190 to R193) -/

/-- The lanes' common state replaced. -/
def Hub.withDsp (h : Hub) (d : Dsp) : Hub := { h with dsp := d }

section
variable (h : Hub) (d : Dsp) (n : Nat)

@[simp] theorem Hub.withDsp_lane : (h.withDsp d).lane n = h.lane n := rfl
@[simp] theorem Hub.withDsp_proc : (h.withDsp d).proc n = h.proc n := rfl
@[simp] theorem Hub.withDsp_deadline (t : Timer) : (h.withDsp d).deadline t = h.deadline t := rfl
@[simp] theorem Hub.withDsp_dsp : (h.withDsp d).dsp = d := rfl
@[simp] theorem Hub.withDsp_now : (h.withDsp d).now = h.now := rfl

end

section
variable {h : Hub}

/-- A declared fault with the relief lane free begins a takeover (R192). -/
theorem Hub.declareLaneFault_of_free {k : Nat} {c : Nat → Process → Option Checkpoint} (ht : h.dsp.takeover = none) (hr : h.dsp.relief = 0xFF) :
    h.declareLaneFault k true c =
      (((h.withProcs (h.bypassLane k c).procs).modLane k (fun x => { x with faulty := true, faultDue := false })).cancel .l8Patrol).withDsp
        { h.dsp with takeover := some k, loaded := false, resumed := false, recheck := false } := by
  have hb := h.bypassLane_eq k c
  unfold Hub.declareLaneFault
  generalize h.bypassLane k c = g at hb
  rw [hb]
  exact if_pos (by simp [Hub.takingOver, Hub.modLane, Hub.withProcs, ht, hr])

theorem Hub.laneFault_missed {k : Nat} (hk : k < 8) (hr : (h.lane k).retired = false) (hf : (h.lane k).faulty = false) (ho : h.reportOnly = false) :
    h.laneFault k .missedDeadline = h.declareLaneFault k true (fun _ x => x.newest) := by
  have hk8 : k ≠ 8 := by omega
  simp [Hub.laneFault, hr, hf, hk8, ho]

theorem Hub.laneFault_missed_8 (hr : (h.lane 8).retired = false) (hf : (h.lane 8).faulty = false) (hs : h.dsp.relief ≠ 0xFE) :
    h.laneFault 8 .missedDeadline = h.l8Fault := by
  simp [Hub.laneFault, hr, hf, hs]

theorem Hub.laneFault_mismatch {k : Nat} (hk : k < 8) (hr : (h.lane k).retired = false) (hf : (h.lane k).faulty = false) (ho : h.reportOnly = false) :
    h.laneFault k .patrolMismatch =
      h.declareLaneFault k true (fun p x => ((h.dsp.mismatchAt.find? (fun e => decide (e.1 = p))).map (·.2)).getD x.newest) := by
  have hk8 : k ≠ 8 := by omega
  simp [Hub.laneFault, hr, hf, hk8, ho]

/-- L8 fails while it serves no position (R193). -/
theorem Hub.l8Fault_of_idle (ht : h.dsp.takeover = none) (hr : 8 ≤ h.dsp.relief) :
    h.l8Fault = (((h.cancel .takeover).cancel .l8Patrol).withDsp
      { h.dsp with relief := 0xFE, takeover := none, loaded := false, resumed := false, recheck := false }).cause evHealth := by
  have hr' : ¬ h.dsp.relief < 8 := by omega
  unfold Hub.l8Fault
  simp [ht, hr']
  rfl

theorem Hub.reliefLaneLoaded_of_takeover {k : Nat} (ht : h.dsp.takeover = some k) (hr : h.dsp.resumed = false) :
    h.reliefLaneLoaded = (h.withDsp { h.dsp with loaded := true }).loadL8 k := by
  unfold Hub.reliefLaneLoaded
  rw [ht]
  exact if_neg (ne_true_of_eq_false hr)

theorem Hub.takeoverComplete_of_due {k : Nat} (ht : h.dsp.takeover = some k) (hd : h.due .takeover = true) :
    h.takeoverComplete =
      (((h.cancel .takeover).withDsp { h.dsp with relief := k, takeover := none, loaded := false, resumed := false }).modLane k
        (fun x => { x with retired := true, faulty := false })).cancel .l8Patrol := by
  refine (Hub.whenDue_due hd).trans ?_
  have ht' : (h.cancel .takeover).dsp.takeover = some k := ht
  rw [ht']
  rfl

/-! ## The patrol (R189, R191) -/

theorem Hub.shadow8_eq (k : Nat) :
    h.shadow8 k = ((h.withDsp { h.dsp with patrolLane := k }).modLane 8 (fun x => { x with microcode := tgetD h.dsp.images k [] })).start .l8Patrol 96000 := rfl

theorem Hub.patrolPeriodEnd_of_due {k : Nat} (hp : h.patrolling = true) (hr : h.dsp.recheck = false) (hd : h.due .l8Patrol = true)
    (hn : h.nextPatrol h.dsp.patrolLane = some k) :
    h.patrolPeriodEnd = ((h.cancel .l8Patrol).withDsp { h.dsp with cycles := satInc 4294967295 h.dsp.cycles }).shadow8 k := by
  refine (if_pos ⟨hp, hr⟩).trans ((Hub.whenDue_due hd).trans ?_)
  have hn' : ((h.cancel .l8Patrol).withDsp { h.dsp with cycles := satInc 4294967295 h.dsp.cycles }).nextPatrol h.dsp.patrolLane = some k := hn
  dsimp only [Hub.withDsp, Hub.cancel] at hn' ⊢
  rw [hn']

theorem Hub.patrolMismatch_of_shadowed (hp : h.patrolling = true) (ha : h.armed .l8Patrol = true) (hr : h.dsp.recheck = false) :
    h.patrolMismatch =
      { h with dsp := { h.dsp with recheck := true, mismatchAt := (h.onPosition h.dsp.patrolLane).map (fun p => (p, (h.proc p).newest)) } } :=
  if_pos ⟨hp, ha, hr⟩

theorem Hub.recheckComplete_of_recheck (hr : h.dsp.recheck = true) :
    h.recheckComplete .agreesWithLane = { h with dsp := { h.dsp with recheck := false, errors := satInc 65535 h.dsp.errors } } ∧
    h.recheckComplete .resultsDiffer = ((h.cancel .l8Patrol).withDsp { h.dsp with recheck := false, relief := 0xFE }).cause evHealth ∧
    h.recheckComplete .differsFromLane = (h.withDsp { h.dsp with recheck := false }).laneFault h.dsp.patrolLane .patrolMismatch :=
  ⟨if_pos hr, if_pos hr, if_pos hr⟩

end

/-- Settles O20: each row is an equation where its condition holds. -/
theorem reliefLaneTakesOver : Obligations.ReliefLaneTakesOver := by
  refine ⟨?lane, ?l8, ?loaded, ?served, ?period, ?mismatch, ?agrees, ?differ, ?differs⟩
  case lane =>
    intro s k hk hr hf ho ht hl
    refine answers_of_run (f := (·.laneFault k .missedDeadline)) rfl (by simp [isLane]; omega) ?_
    rw [Hub.laneFault_missed hk hr hf ho, Hub.declareLaneFault_of_free ht hl]
    have hproc := fun p => s.hub.bypassLane_proc k _ keepsInBypass_newest p
    refine ⟨by simp, fun p hp => (hproc p).trans (if_pos hp), fun p hp => (hproc p).trans (if_neg hp), rfl, by simp, fun m hm => by simp [hm],
      by simp [Hub.withDsp, Hub.withProcs, Hub.modLane]⟩
  case l8 =>
    intro s hr hf ht hl hs
    refine answers_of_run (f := (·.laneFault 8 .missedDeadline)) rfl rfl ?_
    rw [Hub.laneFault_missed_8 hr hf hs, Hub.l8Fault_of_idle ht hl]
    exact ⟨by simp [Hub.withDsp, ht], Hub.cause_causes_same _ _, by simp, by simp [Hub.withDsp]⟩
  case loaded =>
    intro s k ht hr
    refine answers_of_always (f := Hub.reliefLaneLoaded) rfl ?_
    rw [Hub.reliefLaneLoaded_of_takeover ht hr]
    exact ⟨rfl, by simp [Hub.loadL8], fun m hm => by simp [Hub.loadL8, hm], by simp [Hub.loadL8, Hub.withDsp, Hub.modLane]⟩
  case served =>
    intro s k ht hd
    refine answers_of_always (f := Hub.takeoverComplete) rfl ?_
    rw [Hub.takeoverComplete_of_due ht hd]
    exact ⟨rfl, by simp, by simp, fun m hm => by simp [hm], by simp [Hub.withDsp, Hub.modLane]⟩
  case period =>
    intro s k hp hr hd hn
    refine answers_of_always (f := Hub.patrolPeriodEnd) rfl ?_
    rw [Hub.patrolPeriodEnd_of_due hp hr hd hn]
    exact ⟨by simp [Hub.shadow8_eq, Hub.modLane, satInc], by simp [Hub.shadow8_eq], by simp [Hub.shadow8_eq], fun m hm => by simp [Hub.shadow8_eq, hm],
      by simp [Hub.shadow8_eq, Hub.withDsp, Hub.modLane]⟩
  case mismatch =>
    intro s hp ha hr
    refine answers_of_always (f := Hub.patrolMismatch) rfl ?_
    rw [Hub.patrolMismatch_of_shadowed hp ha hr]
    exact ⟨rfl, rfl⟩
  case agrees =>
    intro s hr
    refine answers_of_always (f := (·.recheckComplete .agreesWithLane)) rfl ?_
    rw [(Hub.recheckComplete_of_recheck hr).1]
    exact ⟨rfl, rfl⟩
  case differ =>
    intro s hr
    refine answers_of_always (f := (·.recheckComplete .resultsDiffer)) rfl ?_
    rw [(Hub.recheckComplete_of_recheck hr).2.1]
    exact ⟨rfl, Hub.cause_causes_same _ _, by simp, by simp [Hub.withDsp]⟩
  case differs =>
    intro s hr hk hret hf ho ht hl
    refine answers_of_always (f := (·.recheckComplete .differsFromLane)) rfl ?_
    rw [(Hub.recheckComplete_of_recheck hr).2.2, Hub.laneFault_mismatch hk (by exact hret) (by exact hf) (by exact ho), Hub.declareLaneFault_of_free (by exact ht) (by exact hl)]
    exact ⟨by simp, rfl, rfl, by simp [Hub.withDsp, Hub.withProcs, Hub.modLane]⟩

end Sys2Proof.Machine
end

section
/-! SUPPORT. The course of a relief, the self-tests and the sample memory (R27, R28, R349 to R356): each row where its condition holds. -/

namespace Sys2Proof.Machine

/-! ## Reads across a unit, a slice and a request -/

section
variable (h : Hub) (u : ReliefUnit) (f : Relief → Relief) (n : Nat) (t : Timer)

@[simp] theorem Hub.modRelief_input : (h.modRelief u f).input n = h.input n := by cases u <;> rfl
@[simp] theorem Hub.modRelief_output : (h.modRelief u f).output n = h.output n := by cases u <;> rfl
@[simp] theorem Hub.modRelief_deadline : (h.modRelief u f).deadline t = h.deadline t := by cases u <;> rfl
@[simp] theorem Hub.modRelief_now : (h.modRelief u f).now = h.now := by cases u <;> rfl
@[simp] theorem Hub.modRelief_live? (idx sub : Nat) : (h.modRelief u f).live? idx sub = h.live? idx sub := by cases u <;> rfl
@[simp] theorem Hub.modRelief_store : (h.modRelief u f).store = h.store := by cases u <;> rfl

theorem Hub.modRelief_relief_other {v : ReliefUnit} (hv : v ≠ u) : (h.modRelief u f).relief v = h.relief v := by
  cases u <;> cases v <;> simp_all [Hub.modRelief, Hub.relief, tget_tput_other]

end

section
variable (h : Hub) (n k : Nat) (t : Timer)

@[simp] theorem Hub.modInput_relief (f : Input → Input) (u : ReliefUnit) : (h.modInput n f).relief u = h.relief u := by cases u <;> rfl
@[simp] theorem Hub.modOutput_relief (f : Output → Output) (u : ReliefUnit) : (h.modOutput n f).relief u = h.relief u := by cases u <;> rfl
@[simp] theorem Hub.modSlice_of_input (f : Slice → Slice) : h.modSlice (.input n) f = h.modInput n (fun x => { x with slice := f x.slice }) := rfl
@[simp] theorem Hub.modSlice_of_output (f : Slice → Slice) : h.modSlice (.output n) f = h.modOutput n (fun x => { x with slice := f x.slice }) := rfl

variable (r : StoreReq)

@[simp] theorem Hub.request_input : (h.request r).input n = h.input n := by unfold Hub.request Hub.when; dsimp only; split <;> rfl
@[simp] theorem Hub.request_output : (h.request r).output n = h.output n := by unfold Hub.request Hub.when; dsimp only; split <;> rfl
@[simp] theorem Hub.request_relief (u : ReliefUnit) : (h.request r).relief u = h.relief u := by
  unfold Hub.request Hub.when
  dsimp only
  split <;> cases u <;> rfl
@[simp] theorem Hub.request_deadline : (h.request r).deadline t = h.deadline t := by unfold Hub.request Hub.when; dsimp only; split <;> rfl
@[simp] theorem Hub.request_queue : (h.request r).store.queue = h.store.queue ++ [r] := by unfold Hub.request Hub.when; dsimp only; split <;> rfl

/-- A request leaves what is due due. -/
theorem Hub.request_causes {e : Nat} (he : h.causes e) : (h.request r).causes e := by
  unfold Hub.request Hub.when
  dsimp only
  split
  · exact Hub.causes_cause he _ _
  · exact he

end

theorem Hub.modStream_of_input (h : Hub) {n : Nat} (hn : n ≤ 48) (f : Stream → Stream) :
    h.modStream n f = h.modInput n (fun x => { x with stream := f x.stream }) := if_pos hn
theorem Hub.setFe_of_input (h : Hub) {n : Nat} (hn : n ≤ 48) (x : FeState) : h.setFe n x = h.modInput n (fun i => { i with fe := x }) := if_pos hn

/-! ## Settling (R349 to R351) -/

section
variable {h : Hub} {k n : Nat}

theorem Hub.reliefSettled_of_input (hs : (h.relief (.irs k)).state = 1) (hn : (h.relief (.irs k)).serves = n) (hd : (h.relief (.irs k)).direct = false)
    (ht : h.due (.reliefSettle (.irs k)) = true) :
    h.reliefSettled (.irs k) =
      ((((h.cancel (.reliefSettle (.irs k))).modRelief (.irs k) (fun r => { r with settled := true })).modInput n (fun x =>
        { x with slice := { x.slice with matchSince := some h.now } })).start (.reliefMatch (.irs k)) (secs 2)).start (.reliefTimeout (.irs k))
          (us (h.live? 0xC000 3)) := by
  subst hn
  refine (if_pos hs).trans ((Hub.whenDue_due ht).trans ?_)
  simp [sliceOf, hd]

theorem Hub.reliefSettled_of_direct (hs : (h.relief (.irs k)).state = 1) (hn : (h.relief (.irs k)).serves = n) (hd : (h.relief (.irs k)).direct = true)
    (ht : h.due (.reliefSettle (.irs k)) = true) :
    h.reliefSettled (.irs k) = ((h.cancel (.reliefSettle (.irs k))).modRelief (.irs k) (fun r => { r with settled := true })).reliefDirect (.irs k) n := by
  subst hn
  refine (if_pos hs).trans ((Hub.whenDue_due ht).trans ?_)
  simp [sliceOf, hd]

theorem Hub.reliefSettled_of_output (hs : (h.relief (.ors k)).state = 1) (hn : (h.relief (.ors k)).serves = n)
    (ht : h.due (.reliefSettle (.ors k)) = true) :
    h.reliefSettled (.ors k) =
      (((h.cancel (.reliefSettle (.ors k))).modRelief (.ors k) (fun r => { r with settled := true })).modOutput n (fun x =>
        { x with slice := { x.slice with matchSince := some h.now } })).start (.reliefMatch (.ors k)) (secs 2) := by
  subst hn
  refine (if_pos hs).trans ((Hub.whenDue_due ht).trans ?_)
  simp [sliceOf]

/-- An input as its relief after a total loss finds it: the factory set, and the fade-in (R350). -/
def Input.direct (x : Input) (n now : Nat) : Input :=
  { x with slice := { x.slice with state := .crossfading }, tandem := { x.tandem.setInactive (reliefFactory n) with swapReq := true, swapFactory := true }
           lossZero := false, stream := { x.stream with gate := (Fade.steady 0).to unity now 960 } }

theorem Input.direct_inactive (x : Input) (n now : Nat) : (x.direct n now).tandem.inactive = reliefFactory n := Tandem.inactive_setInactive _ _

theorem Hub.reliefDirect_eq (hn : n ≤ 48) (u : ReliefUnit) :
    h.reliefDirect u n =
      (((h.clearMatchTimers u).modRelief u (fun r => { r with state := 2 })).modInput n (·.direct n h.now)).start (.reliefXfade u) (ms 10) := by
  simp [Hub.reliefDirect, Hub.zeroStream, Hub.fadeInStream, Hub.modStream_of_input _ hn, Hub.modInput_modInput, Input.direct, ms, Hub.clearMatchTimers]

end

/-! ## The end of a relief crossfade (R349, R351) -/

/-- A slice as the end of its relief crossfade leaves it. -/
def Slice.relieve (x : Slice) : Slice :=
  { x with state := .relieved, retired := true, totalLoss := false, matchConf := 0, cause := x.cause ||| x.dueCause, dueCause := 0 }

/-- A path as its relief takes it over. -/
def PathState.cleared (p : PathState) : PathState := { p with excluded := false, probation := false, overloads := [] }

/-- The paths of an input as its relief takes them over. -/
def Tandem.cleared (t : Tandem) : Tandem := { t with l := t.l.cleared, m := t.m.cleared, h := t.h.cleared }

/-- Paths, estimates and set of an input as its relief takes them over; `x` is its slice. -/
def Tandem.relieve (t : Tandem) (x : Slice) : Tandem :=
  let t := t.cleared
  if x.failingSet.isNone then t
  else { t with est := x.est, l := { t.l with line := x.lineL }, m := { t.m with line := x.lineM }, h := { t.h with line := x.lineH } }

@[simp] theorem Tandem.relieve_exclusions (t : Tandem) (x : Slice) : (t.relieve x).exclusions = 0 := by
  unfold Tandem.relieve
  dsimp only
  split <;> rfl

/-- A slice's match working state, emptied. -/
def Slice.unmatched (x : Slice) : Slice :=
  { x with reliefSet := none, failingSet := none, lineL := [], lineM := [], lineH := [], block := [], est := {} }

/-- The stream of an input that its loss kept at zero fades in (R350). -/
def Input.restored (x : Input) (now : Nat) : Input :=
  if x.lossZero then { x with lossZero := false, stream := { x.stream with gate := (Fade.steady 0).to unity now 960 } } else x

section
variable (x : Input) (now : Nat)

@[simp] theorem Input.restored_slice : (x.restored now).slice = x.slice := by unfold Input.restored; split <;> rfl
@[simp] theorem Input.restored_tandem : (x.restored now).tandem = x.tandem := by unfold Input.restored; split <;> rfl

end

/-- An input as the end of its relief crossfade leaves it (R349 step 5). -/
def Input.relieve (x : Input) (now : Nat) : Input :=
  let y := ({ x with slice := x.slice.relieve } : Input).restored now
  { y with fe := .onRelief, tandem := y.tandem.relieve y.slice, slice := y.slice.unmatched }

/-- The store's request for the exclusions that a relief ends. -/
def Hub.requestExclusion (h : Hub) (n before : Nat) : Hub := if before = 0 then h else h.request (.exclusion n)

/-- The stream of an input that its loss kept at zero fades in (R350). -/
def Hub.restoreLoss (h : Hub) (n : Nat) : Hub :=
  if (h.input n).lossZero then ((h.modInput n (fun x => { x with lossZero := false })).zeroStream n).fadeInStream n else h

/-- An input takes over the estimates that its relief's match reached. -/
def Hub.takeEstimate (h : Hub) (n : Nat) (x : Slice) : Hub :=
  if x.failingSet.isNone then h
  else h.modTandem n (fun t => { t with est := x.est, l := { t.l with line := x.lineL }, m := { t.m with line := x.lineM }, h := { t.h with line := x.lineH } })

/-- The end of an input's relief crossfade in its steps, from its slice on. -/
def Hub.inputRelieved (h : Hub) (n : Nat) : Hub :=
  let g := (h.modSlice (.input n) Slice.relieve).restoreLoss n
  (((((((g.setFe n .onRelief).modTandem n Tandem.cleared).takeEstimate n (g.slice (.input n))).requestExclusion n (g.input n).tandem.exclusions).modSlice
    (.input n) Slice.unmatched).cause evReliefInput).request (.retired false n))

section
variable {h : Hub} {k n : Nat}

theorem Hub.modInput_request (f : Input → Input) (r : StoreReq) : (h.request r).modInput n f = (h.modInput n f).request r := by
  cases hd : h.supply.dip <;> cases he : h.store.e5Done <;> simp [Hub.request, Hub.when, hd, he] <;> rfl

theorem Hub.modInput_requestExclusion (f : Input → Input) (m before : Nat) :
    (h.requestExclusion m before).modInput n f = (h.modInput n f).requestExclusion m before := by
  unfold Hub.requestExclusion
  split
  · rfl
  · exact Hub.modInput_request f _

theorem Hub.modInput_congr {f g : Input → Input} (hf : f (h.input n) = g (h.input n)) : h.modInput n f = h.modInput n g :=
  congrArg (h.setInput n) hf

theorem Hub.restoreLoss_eq (hn : n ≤ 48) (f : Input → Input) :
    (h.modInput n f).restoreLoss n = h.modInput n (fun x => (f x).restored h.now) := by
  unfold Hub.restoreLoss
  split
  · next hl =>
    simp only [Hub.zeroStream, Hub.fadeInStream, Hub.modStream_of_input _ hn, modInput_modInput, Hub.modInput_now]
    exact Hub.modInput_congr (by simp_all [Input.restored, ms])
  · next hl => exact Hub.modInput_congr (by simp_all [Input.restored])

theorem Hub.takeEstimate_eq (x : Slice) :
    (h.modTandem n Tandem.cleared).takeEstimate n x = h.modInput n (fun i => { i with tandem := i.tandem.relieve x }) := by
  unfold Hub.takeEstimate
  split
  · next hx => exact Hub.modInput_congr (by simp [Tandem.relieve, hx])
  · next hx =>
    rw [Hub.modTandem_eq, Hub.modTandem_eq, Hub.modInput_modInput]
    exact Hub.modInput_congr (by simp [Tandem.relieve, hx])

/-- The end of an input's relief crossfade, from its slice on (R349 step 5). -/
theorem Hub.inputRelieved_eq (hn : n ≤ 48) :
    h.inputRelieved n =
      (((h.modInput n (·.relieve h.now)).requestExclusion n (h.input n).tandem.exclusions).cause evReliefInput).request (.retired false n) := by
  have hg : (h.modSlice (.input n) Slice.relieve).restoreLoss n = h.modInput n (fun x => ({ x with slice := x.slice.relieve } : Input).restored h.now) := by
    exact Hub.restoreLoss_eq hn _
  unfold Hub.inputRelieved
  rw [hg]
  dsimp only
  rw [Hub.takeEstimate_eq, Hub.setFe_of_input _ hn, Hub.modSlice_of_input, Hub.modInput_requestExclusion, Hub.modInput_modInput, Hub.modInput_modInput,
    Hub.modInput_modInput]
  congr 3
  · exact Hub.modInput_congr (by simp [Input.relieve, Hub.slice])
  · simp

theorem Hub.reliefXfadeEnd_of_input (hn : n ≤ 48) (hs : (h.relief (.irs k)).state = 2) (hr : (h.relief (.irs k)).serves = n)
    (ht : h.due (.reliefXfade (.irs k)) = true) :
    h.reliefXfadeEnd (.irs k) =
      ((((((h.cancel (.reliefXfade (.irs k))).modRelief (.irs k) (fun r => { r with state := 3, since := h.now, direct := false })).modInput n
        (·.relieve h.now)).requestExclusion n (h.input n).tandem.exclusions).cause evReliefInput).request (.retired false n)) := by
  subst hr
  refine (if_pos hs).trans ((Hub.whenDue_due ht).trans ?_)
  exact (Hub.inputRelieved_eq (h := (h.cancel (.reliefXfade (.irs k))).modRelief (.irs k) (fun r => { r with state := 3, since := h.now, direct := false })) hn)

theorem Hub.reliefXfadeEnd_of_output (hs : (h.relief (.ors k)).state = 2) (hr : (h.relief (.ors k)).serves = n)
    (ht : h.due (.reliefXfade (.ors k)) = true) :
    h.reliefXfadeEnd (.ors k) =
      (((((h.cancel (.reliefXfade (.ors k))).modRelief (.ors k) (fun r => { r with state := 3, since := h.now, direct := false })).modOutput n
        (fun o => { o with slice := o.slice.relieve, onRelief := true, reliefXfade := false })).cause evReliefOutput).request (.retired true n)) := by
  subst hr
  refine (if_pos hs).trans ((Hub.whenDue_due ht).trans ?_)
  simp [sliceOf, modOutput_modOutput]
  rfl

/-! ## The self-tests (R352) -/

variable {u : ReliefUnit}

theorem Hub.unitFault_of_testing (hs : (h.relief u).state = 6) :
    h.unitFault u =
      (((h.clearMatchTimers u).cancel (.reliefXfade u)).modRelief u (fun r => { r with state := 4, serves := 0 })).cause evHealth := by
  simp [Hub.unitFault, hs]

theorem Hub.reliefSelfTest_of_due (hs : (h.relief u).state = 6) (ht : h.due (.reliefTest u) = true) :
    h.reliefSelfTest u true = (h.cancel (.reliefTest u)).modRelief u (fun r => { r with state := 0 }) ∧
    h.reliefSelfTest u false = (h.cancel (.reliefTest u)).unitFault u :=
  ⟨(if_pos hs).trans (Hub.whenDue_due ht), (if_pos hs).trans (Hub.whenDue_due ht)⟩

end

section
variable (h : Hub) (n before : Nat)

@[simp] theorem Hub.requestExclusion_input (m : Nat) : (h.requestExclusion n before).input m = h.input m := by
  unfold Hub.requestExclusion; split <;> simp
@[simp] theorem Hub.requestExclusion_relief (u : ReliefUnit) : (h.requestExclusion n before).relief u = h.relief u := by
  unfold Hub.requestExclusion; split <;> simp
theorem Hub.requestExclusion_queue :
    (h.requestExclusion n before).store.queue = h.store.queue ++ (if before = 0 then [] else [.exclusion n]) := by
  unfold Hub.requestExclusion; split <;> simp

end

/-- All of the hub but store and what is due. -/
def Hub.besideRequest (h : Hub) : Hub := { h with store := {}, evDue := [] }

theorem Hub.request_besideRequest (h : Hub) (r : StoreReq) : (h.request r).besideRequest = h.besideRequest := by
  unfold Hub.request Hub.when
  dsimp only
  split <;> rfl

theorem Hub.requestExclusion_besideRequest (h : Hub) (n before : Nat) : (h.requestExclusion n before).besideRequest = h.besideRequest := by
  unfold Hub.requestExclusion
  split
  · rfl
  · exact Hub.request_besideRequest h _

theorem Hub.cause_besideRequest (h : Hub) (e : Nat) : (h.cause e).besideRequest = h.besideRequest := rfl

theorem Hub.eq_of_besideRequest_input {g h k : Hub} (hb : g.besideRequest = k.besideRequest)
    (hk : { k with ins := h.ins, irs := h.irs, timers := h.timers } = h) :
    { g with ins := h.ins, irs := h.irs, timers := h.timers, evDue := h.evDue, store := h.store } = h :=
  (congrArg (fun x : Hub => { x with ins := h.ins, irs := h.irs, timers := h.timers, evDue := h.evDue, store := h.store }) hb :).trans
    (congrArg (fun x : Hub => { x with evDue := h.evDue, store := h.store }) hk :)

theorem Hub.eq_of_besideRequest_output {g h k : Hub} (hb : g.besideRequest = k.besideRequest)
    (hk : { k with outs := h.outs, ors := h.ors, timers := h.timers } = h) :
    { g with outs := h.outs, ors := h.ors, timers := h.timers, evDue := h.evDue, store := h.store } = h :=
  (congrArg (fun x : Hub => { x with outs := h.outs, ors := h.ors, timers := h.timers, evDue := h.evDue, store := h.store }) hb :).trans
    (congrArg (fun x : Hub => { x with evDue := h.evDue, store := h.store }) hk :)

/-- Settles O22: the rows of a relief as equations, an input's or an output's changes gathered in one. -/
theorem reliefRunsItsCourse : Obligations.ReliefRunsItsCourse := by
  refine ⟨?settled, ?direct, ?settledOut, ?served, ?servedOut, ?passed, ?failed⟩
  case settled =>
    intro s k n hk hs hn hd ht
    refine answers_of_run (f := (·.reliefSettled (.irs k))) rfl (decide_eq_true hk) ?_
    rw [Hub.reliefSettled_of_input hs hn hd ht]
    exact ⟨by simp, by simp, by simp [secs], by simp, by simp, fun m hm => by simp [hm], by simp [Hub.modRelief]⟩
  case direct =>
    intro s k n hk hs hn hd hi ht
    refine answers_of_run (f := (·.reliefSettled (.irs k))) rfl (decide_eq_true hk) ?_
    have hn48 : n ≤ 48 := by have := isInput_range hi; omega
    rw [Hub.reliefSettled_of_direct hs hn hd ht, Hub.reliefDirect_eq hn48]
    refine ⟨by simp [Hub.clearMatchTimers], by simp [Hub.clearMatchTimers, Input.direct], by simp [Hub.clearMatchTimers, Input.direct],
      by simp [Hub.clearMatchTimers, Input.direct_inactive], by simp [Hub.clearMatchTimers, Input.direct], by simp [Hub.clearMatchTimers, Input.direct],
      by simp [Hub.clearMatchTimers, Input.direct], by simp [Hub.clearMatchTimers, ms], fun m hm => by simp [Hub.clearMatchTimers, hm],
      by simp [Hub.clearMatchTimers, Hub.modRelief]⟩
  case settledOut =>
    intro s k n hk hs hn ht
    refine answers_of_run (f := (·.reliefSettled (.ors k))) rfl (decide_eq_true hk) ?_
    rw [Hub.reliefSettled_of_output hs hn ht]
    exact ⟨by simp, by simp, by simp [secs], fun m hm => by simp [hm], by simp [Hub.modRelief]⟩
  case served =>
    intro s k n hk hs hn hi ht
    refine answers_of_run (f := (·.reliefXfadeEnd (.irs k))) rfl (decide_eq_true hk) ?_
    have hn48 : n ≤ 48 := by have := isInput_range hi; omega
    rw [Hub.reliefXfadeEnd_of_input hn48 hs hn ht]
    refine ⟨by simp, by simp, by simp [Input.relieve, Slice.unmatched, Slice.relieve], by simp [Input.relieve, Slice.unmatched, Slice.relieve],
      by simp [Input.relieve], Hub.request_causes _ _ (Hub.cause_causes_same _ _), ?_, by simp [Input.relieve], fun m hm => by simp [hm],
      Hub.eq_of_besideRequest_input ((Hub.request_besideRequest _ _).trans ((Hub.cause_besideRequest _ _).trans (Hub.requestExclusion_besideRequest _ _ _))) ?_⟩
    · rw [Hub.request_queue, Hub.cause_store, Hub.requestExclusion_queue]
      split <;> simp
    · simp [Hub.modRelief]
  case servedOut =>
    intro s k n hk hs hn ht
    refine answers_of_run (f := (·.reliefXfadeEnd (.ors k))) rfl (decide_eq_true hk) ?_
    rw [Hub.reliefXfadeEnd_of_output hs hn ht]
    exact ⟨by simp, by simp [Slice.relieve], by simp [Slice.relieve], by simp, Hub.request_causes _ _ (Hub.cause_causes_same _ _), by simp,
      fun m hm => by simp [hm],
      Hub.eq_of_besideRequest_output ((Hub.request_besideRequest _ _).trans (Hub.cause_besideRequest _ _)) (by simp [Hub.modRelief])⟩
  case passed =>
    intro s u hu hs ht
    refine answers_of_run (f := (·.reliefSelfTest u true)) rfl hu ?_
    rw [(Hub.reliefSelfTest_of_due hs ht).1]
    exact ⟨by simp, fun v hv => by simp [Hub.modRelief_relief_other, hv], by cases u <;> simp [Hub.modRelief]⟩
  case failed =>
    intro s u hu hs ht
    refine answers_of_run (f := (·.reliefSelfTest u false)) rfl hu ?_
    rw [(Hub.reliefSelfTest_of_due hs ht).2, Hub.unitFault_of_testing (by simpa using hs)]
    exact ⟨by simp [Hub.clearMatchTimers], Hub.cause_causes_same _ _, fun v hv => by simp [Hub.modRelief_relief_other, Hub.clearMatchTimers, hv],
      by cases u <;> simp [Hub.modRelief, Hub.clearMatchTimers]⟩

/-! ## The sample memory (R27, R28, R356) -/

section
variable {h : Hub} {b : Nat}

theorem Hub.retireBank_of_spare (hr : h.sram.retired.testBit b = false) (hc : b ∉ h.sram.copying) (hs : b ∉ h.sram.switchDue) (h0 : h.sram.spares ≠ 0) :
    h.retireBank b = (h.modSram (fun x => { x with spares := x.spares - 1, copying := x.copying ++ [b] })).cause evSramCorrected := by
  have hbit : bit h.sram.retired b = false := hr
  simp [Hub.retireBank, hbit, hc, hs, h0]

/-- The corrected words of a bank in the last hour. -/
def Hub.correctedWords (h : Hub) (b : Nat) : List Nat := (tgetD h.sram.corrected b []).filter (fun f => decide (h.now < f + 345600000))

theorem Hub.sramError_of_few (hl : (h.correctedWords b).length < 16) :
    h.sramError b .corrected =
      (h.modSram (fun x => { x with corrected := tput x.corrected b (h.correctedWords b ++ [h.now]) })).cause evSramCorrected :=
  if_neg (show ¬ 16 < (h.correctedWords b ++ [h.now]).length by rw [List.length_append, List.length_singleton]; omega)

theorem Hub.sramCopied_of_copying (hb : b ∈ h.sram.copying) :
    h.sramCopied b = h.modSram (fun x => { x with copying := without x.copying b, switchDue := x.switchDue ++ [b] }) :=
  if_pos (by simpa using hb)

end

/-- Settles O23: each row is an equation where its condition holds. -/
theorem sampleMemoryBanksRetire : Obligations.SampleMemoryBanksRetire := by
  refine ⟨?uncorrectable, ?corrected, ?copied⟩
  case uncorrectable =>
    intro s b word hb hr hc hw h0
    refine answers_of_run (f := (·.sramError b (.uncorrectable word))) rfl (decide_eq_true hb) ?_
    have he : s.hub.sramError b (.uncorrectable word) =
        ((s.hub.modSram (fun x => { x with zeroed := withOne x.zeroed word })).cause evSramUncorrectable).retireBank b := rfl
    rw [he, Hub.retireBank_of_spare (by exact hr) (by exact hc) (by exact hw) (by exact h0)]
    exact ⟨by simp [Hub.modSram], Hub.causes_cause (Hub.cause_causes_same _ _) _ _, Hub.cause_causes_same _ _, by simp [Hub.modSram]⟩
  case corrected =>
    intro s b hb hl
    refine answers_of_run (f := (·.sramError b .corrected)) rfl (decide_eq_true hb) ?_
    rw [Hub.sramError_of_few hl]
    exact ⟨by simp [Hub.modSram, Hub.correctedWords], by simp [Hub.modSram], Hub.cause_causes_same _ _, by simp [Hub.modSram]⟩
  case copied =>
    intro s b hb hc
    refine answers_of_run (f := (·.sramCopied b)) rfl (decide_eq_true hb) ?_
    rw [Hub.sramCopied_of_copying hc]
    exact ⟨rfl, rfl, rfl, rfl⟩

end Sys2Proof.Machine
end

section
/-! SUPPORT. The Rein loop and the crystal (R204, R211 to R219): what a phase sample does in each state of the loop, and each row where its
condition holds. -/

namespace Sys2Proof.Machine

/-! ## The clock replaced -/

/-- All of the hub but clock, timers and what is due. -/
def Hub.besideClk (h : Hub) : Hub := { h with clk := { storedHold := 0 }, timers := [], evDue := [] }

section
variable (h : Hub) (f : Clock → Clock) (t : Timer) (d e : Nat)

@[simp] theorem Hub.modClk_clk : (h.modClk f).clk = f h.clk := rfl
@[simp] theorem Hub.modClk_now : (h.modClk f).now = h.now := rfl
@[simp] theorem Hub.modClk_evDue : (h.modClk f).evDue = h.evDue := rfl
@[simp] theorem Hub.modClk_deadline : (h.modClk f).deadline t = h.deadline t := rfl
@[simp] theorem Hub.modClk_causes : (h.modClk f).causes e ↔ h.causes e := Iff.rfl
@[simp] theorem Hub.modClk_besideClk : (h.modClk f).besideClk = h.besideClk := rfl
@[simp] theorem Hub.startAt_besideClk : (h.startAt t d).besideClk = h.besideClk := rfl
@[simp] theorem Hub.start_besideClk : (h.start t d).besideClk = h.besideClk := rfl
@[simp] theorem Hub.cancel_besideClk : (h.cancel t).besideClk = h.besideClk := rfl
@[simp] theorem Hub.cause_besideClk : (h.cause e).besideClk = h.besideClk := rfl
@[simp] theorem Hub.when_cause_besideClk (c : Bool) : (h.when c (·.cause e)).besideClk = h.besideClk := by cases c <;> rfl

end

theorem Hub.eq_of_besideClk {g h : Hub} (hb : g.besideClk = h.besideClk) : { g with clk := h.clk, timers := h.timers, evDue := h.evDue } = h :=
  (congrArg (fun k : Hub => { k with clk := h.clk, timers := h.timers, evDue := h.evDue }) hb :)

theorem Hub.eq_of_besideClk_quiet {g h : Hub} (hb : g.besideClk = h.besideClk) (he : g.evDue = h.evDue) :
    { g with clk := h.clk, timers := h.timers } = h := by
  have hq : { g with clk := h.clk, timers := h.timers } = { g with clk := h.clk, timers := h.timers, evDue := h.evDue } := by rw [← he]
  exact hq.trans (Hub.eq_of_besideClk hb)

/-! ## Leaving a state of the loop (R212) -/

/-- The clock of a loop that goes to state `st`. -/
def Clock.left (c : Clock) (st : Nat) : Clock := { c with rein := st, badSamples := 0, nearSince := none, narrowAt := none }

section
variable (h : Hub) (st : Nat)

@[simp] theorem Hub.reinLeave_clk : (h.reinLeave st).clk = h.clk.left st := by simp [Hub.reinLeave, Clock.left]
@[simp] theorem Hub.reinLeave_besideClk : (h.reinLeave st).besideClk = h.besideClk := by simp [Hub.reinLeave]
@[simp] theorem Hub.reinLeave_deadline (t : Timer) :
    (h.reinLeave st).deadline t = if t = .reinLimit then none else if t = .reinLock then none else h.deadline t := by
  simp [Hub.reinLeave]

theorem Hub.reinLeave_causes (hl : h.clk.rein = 2) : (h.reinLeave st).causes 32 := by
  have hlocked : h.reinLocked = true := by simp [Hub.reinLocked, hl]
  simp only [Hub.reinLeave, hlocked, Hub.cancel_causes, Hub.modClk_causes]
  exact Hub.when_cause_causes h 32 _

theorem Hub.reinLeave_keeps_causes {e : Nat} (he : h.causes e) : (h.reinLeave st).causes e := by
  unfold Hub.reinLeave Hub.when
  dsimp only
  split
  · exact Hub.causes_cause he _ _
  · exact he

theorem Hub.reinLeave_evDue (hl : h.clk.rein ≠ 2) : (h.reinLeave st).evDue = h.evDue := by
  simp [Hub.reinLeave, Hub.reinLocked, hl, Hub.when]

end

/-! ## A phase sample (R211, R212) -/

/-- The first part of a sample's judgement: the time within the window, and the timers of lock and limit. -/
def Hub.reinTimed (h : Hub) (e : Int) : Hub :=
  let inside := decide (h.steerLow < h.clk.steer) && decide (h.clk.steer < h.steerHigh)
  let near := phaseWithin e (5 * h.lockWindow)
  let h := h.modClk (fun c =>
    let since := if near then some (c.nearSince.getD h.now) else none
    { c with nearSince := since
             narrowAt := match c.narrowAt, since with
               | none, some f => if f + ms 100 ≤ h.now then some h.now else none
               | n, _ => n })
  let h :=
    if h.clk.rein = 1 ∧ phaseWithin e h.lockWindow = true ∧ inside = true then if h.armed .reinLock then h else h.start .reinLock (secs 1)
    else h.cancel .reinLock
  if inside then h.cancel .reinLimit else if h.armed .reinLimit then h else h.start .reinLimit (secs 10)

section
variable (h : Hub) (e : Int)

theorem Hub.reinTimed_besideClk : (h.reinTimed e).besideClk = h.besideClk := by
  unfold Hub.reinTimed
  dsimp only
  repeat' split
  all_goals simp

theorem Hub.reinTimed_evDue : (h.reinTimed e).evDue = h.evDue := by
  unfold Hub.reinTimed
  dsimp only
  repeat' split
  all_goals simp

theorem Hub.reinTimed_clk : ∃ a b, (h.reinTimed e).clk = { h.clk with nearSince := a, narrowAt := b } := by
  unfold Hub.reinTimed
  dsimp only
  repeat' split
  all_goals exact ⟨_, _, rfl⟩

/-- The second part: a locked loop counts what lies beyond five windows. -/
theorem Hub.reinJudge_eq :
    h.reinJudge e =
      if (h.reinTimed e).clk.rein = 2 then
        if phaseWithin e (5 * h.lockWindow) then (h.reinTimed e).modClk (fun c => { c with badSamples := 0 })
        else if 8 ≤ (h.reinTimed e).clk.badSamples + 1 then (h.reinTimed e).reinLeave 1
        else (h.reinTimed e).modClk (fun c => { c with badSamples := c.badSamples + 1 })
      else h.reinTimed e := rfl

end

/-- A hub that follows its anchor: the loop runs and takes samples (R211). -/
def Hub.follows (h : Hub) : Prop := h.clk.running = true ∧ h.clk.xtalFail = false ∧ h.pwr.state = 0 ∧ h.anchorUsable = true

/-- The loop filter's step and the steering's, before the sample is judged. -/
def Hub.reinSteered (h : Hub) (e : Int) : Hub := (h.loopFilter e).2.slewTo (h.loopFilter e).1

/-- The sample `e` has left the detector. -/
def Hub.sampled (h : Hub) (e : Int) : Hub := h.modClk (fun c => { c with sample := none, phaseError := e })

section
variable (h : Hub) (e : Int)

theorem Hub.reinSteered_besideClk : (h.reinSteered e).besideClk = h.besideClk := (Hub.modClk_besideClk _ _).trans (Hub.modClk_besideClk _ _)
theorem Hub.reinSteered_evDue : (h.reinSteered e).evDue = h.evDue := rfl
theorem Hub.reinSteered_clk : ∃ a b c d, (h.reinSteered e).clk =
    { h.clk with loop := a, loopBw := b, slewAt := c, slewCredit := d, steer := (h.slewTo (h.loopFilter e).1).clk.steer } := ⟨_, _, _, _, rfl⟩
theorem Hub.reinSteered_lockWindow : (h.reinSteered e).lockWindow = h.lockWindow := rfl
theorem Hub.sampled_besideClk : (h.sampled e).besideClk = h.besideClk := rfl
theorem Hub.sampled_lockWindow : (h.sampled e).lockWindow = h.lockWindow := rfl
theorem Hub.sampled_evDue : (h.sampled e).evDue = h.evDue := rfl
theorem Hub.sampled_steer : ((h.sampled e).slewTo ((h.sampled e).loopFilter e).1).clk.steer = (h.slewTo (h.loopFilter e).1).clk.steer := rfl

variable {h e}

/-- In ACQUIRING and LOCKED a sample goes through the filter and is judged (R211, R212). -/
theorem Hub.reinPhaseSample_of_followed {port : Nat} (hs : h.clk.sample = some e) (hf : h.followed h.clk.anchor port = true) (hr : h.follows)
    (hq : h.clk.rein = 1 ∨ h.clk.rein = 2) : h.reinPhaseSample h.clk.anchor port = ((h.sampled e).reinSteered e).reinJudge e := by
  obtain ⟨hrun, hxtal, hpwr, husable⟩ := hr
  have husable' : (h.modClk (fun c => { c with sample := none })).anchorUsable = true := husable
  unfold Hub.reinPhaseSample
  rw [hs]
  refine (if_pos hf).trans ((if_neg (by simp [hrun, hxtal, husable']; exact hpwr)).trans ?_)
  dsimp only [Hub.modClk_clk]
  rcases hq with hq | hq
  · rw [hq]
    rfl
  · rw [hq]
    rfl

end

/-- Without a sample, or for another detector, the row does nothing (R209). -/
theorem Hub.reinPhaseSample_of_idle {h : Hub} {anchor port : Nat} (hi : h.clk.sample = none ∨ h.followed anchor port = false) :
    h.reinPhaseSample anchor port = h := by
  unfold Hub.reinPhaseSample
  split
  · next e he =>
    rcases hi with hn | hf
    · rw [hn] at he
      cases he
    · exact if_neg (ne_true_of_eq_false hf)
  · rfl

section
variable {h : Hub} {e : Int}

/-- What a sample leaves outside LOCKED. -/
theorem Hub.reinJudge_of_acquiring (hr : h.clk.rein ≠ 2) : ∃ a b, (h.reinJudge e).clk = { h.clk with nearSince := a, narrowAt := b } := by
  obtain ⟨a, b, hclk⟩ := h.reinTimed_clk e
  rw [Hub.reinJudge_eq, if_neg (by rw [hclk]; exact hr)]
  exact ⟨a, b, hclk⟩

/-- What a sample within five windows leaves in LOCKED. -/
theorem Hub.reinJudge_of_near (hr : h.clk.rein = 2) (hw : phaseWithin e (5 * h.lockWindow) = true) :
    ∃ a b, (h.reinJudge e).clk = { h.clk with nearSince := a, narrowAt := b, badSamples := 0 } := by
  obtain ⟨a, b, hclk⟩ := h.reinTimed_clk e
  rw [Hub.reinJudge_eq, if_pos (by rw [hclk]; exact hr), if_pos hw]
  exact ⟨a, b, by rw [Hub.modClk_clk, hclk]⟩

/-- The eighth sample beyond five windows takes LOCKED away (R212). -/
theorem Hub.reinJudge_of_eighth (hr : h.clk.rein = 2) (hw : phaseWithin e (5 * h.lockWindow) = false) (hb : h.clk.badSamples = 7) :
    (h.reinJudge e).clk = h.clk.left 1 ∧ (h.reinJudge e).causes 32 := by
  obtain ⟨a, b, hclk⟩ := h.reinTimed_clk e
  rw [Hub.reinJudge_eq, if_pos (by rw [hclk]; exact hr), if_neg (ne_true_of_eq_false hw), if_pos (by rw [hclk]; show 8 ≤ h.clk.badSamples + 1; omega)]
  exact ⟨by rw [Hub.reinLeave_clk, hclk]; rfl, Hub.reinLeave_causes _ _ (by rw [hclk]; exact hr)⟩

end

theorem Hub.reinJudge_besideClk (h : Hub) (e : Int) : (h.reinJudge e).besideClk = h.besideClk := by
  rw [Hub.reinJudge_eq]
  repeat' split
  all_goals simp [Hub.reinTimed_besideClk]

theorem Hub.reinJudge_evDue {h : Hub} {e : Int} (hq : h.clk.rein ≠ 2 ∨ phaseWithin e (5 * h.lockWindow) = true) : (h.reinJudge e).evDue = h.evDue := by
  obtain ⟨a, b, hclk⟩ := h.reinTimed_clk e
  rw [Hub.reinJudge_eq]
  rcases hq with hr | hw
  · rw [if_neg (by rw [hclk]; exact hr), Hub.reinTimed_evDue]
  · by_cases hr : (h.reinTimed e).clk.rein = 2
    · rw [if_pos hr, if_pos hw, Hub.modClk_evDue, Hub.reinTimed_evDue]
    · rw [if_neg hr, Hub.reinTimed_evDue]

/-- All that a followed sample changes lies in the clock, its timers and what is due. -/
theorem Hub.reinFollowed_besideClk (h : Hub) (e : Int) : (((h.sampled e).reinSteered e).reinJudge e).besideClk = h.besideClk := by
  rw [Hub.reinJudge_besideClk, Hub.reinSteered_besideClk, Hub.sampled_besideClk]

theorem Hub.reinFollowed_evDue {h : Hub} {e : Int} (hq : h.clk.rein ≠ 2 ∨ phaseWithin e (5 * h.lockWindow) = true) :
    (((h.sampled e).reinSteered e).reinJudge e).evDue = h.evDue := by
  have hq' : ((h.sampled e).reinSteered e).clk.rein ≠ 2 ∨ phaseWithin e (5 * ((h.sampled e).reinSteered e).lockWindow) = true := hq
  rw [Hub.reinJudge_evDue hq', Hub.reinSteered_evDue, Hub.sampled_evDue]

/-! ## Lock, limit and losses (R212, R213, R218, R219) -/

section
variable {h : Hub}

theorem Hub.reinLock_of_due (hr : h.clk.rein = 1) (hd : h.due .reinLock = true) :
    h.reinLock = ((h.cancel .reinLock).modClk (fun c => { c with rein := 2, badSamples := 0, lockTime := h.frameCount })).cause evReinLock :=
  (if_pos hr).trans (Hub.whenDue_due hd)

theorem Hub.reinLimit_of_due (hr : h.clk.rein = 2) (ha : h.anchorUsable = true) (hd : h.due .reinLimit = true) :
    h.reinLimit = (h.cancel .reinLimit).reinLeave 4 :=
  (if_pos ⟨Or.inr hr, ha⟩).trans (Hub.whenDue_due hd)

theorem Hub.reinLoss_of_locked (hr : h.clk.rein = 2) : h.reinLoss = h.reinLeave 3 := if_pos (Or.inr (Or.inl hr))

theorem Hub.anchorLoss_of_locked (hr : h.clk.rein = 2) (ha : h.anchorUsable = false) : h.anchorLoss = h.reinLeave 3 :=
  (if_neg (ne_true_of_eq_false ha)).trans (Hub.reinLoss_of_locked hr)

/-- What lies outside the hub replaced. -/
def Hub.withExt (h : Hub) (x : Outside) : Hub := { h with ext := x }

@[simp] theorem Hub.withExt_clk (h : Hub) (x : Outside) : (h.withExt x).clk = h.clk := rfl
@[simp] theorem Hub.withExt_evDue (h : Hub) (x : Outside) : (h.withExt x).evDue = h.evDue := rfl
@[simp] theorem Hub.withExt_now (h : Hub) (x : Outside) : (h.withExt x).now = h.now := rfl
@[simp] theorem Hub.withExt_deadline (h : Hub) (x : Outside) (t : Timer) : (h.withExt x).deadline t = h.deadline t := rfl

theorem Hub.eq_of_besideClk_ext {g h : Hub} {x : Outside} (hb : g.besideClk = (h.withExt x).besideClk) :
    { g with clk := h.clk, ext := h.ext, timers := h.timers, evDue := h.evDue } = h :=
  (congrArg (fun k : Hub => { k with clk := h.clk, ext := h.ext, timers := h.timers, evDue := h.evDue }) hb :)

theorem Hub.eq_of_besideClk_ext_quiet {g h : Hub} {x : Outside} (hb : g.besideClk = (h.withExt x).besideClk) (he : g.evDue = h.evDue) :
    { g with clk := h.clk, ext := h.ext, timers := h.timers } = h := by
  have hq : { g with clk := h.clk, ext := h.ext, timers := h.timers } =
      { g with clk := h.clk, ext := h.ext, timers := h.timers, evDue := h.evDue } := by rw [← he]
  exact hq.trans (Hub.eq_of_besideClk_ext hb)

/-- XIN fails while the loop is locked (R219). -/
theorem Hub.xtalFailure_of_locked (hp : h.clk.pllLocked = true) (hr : h.clk.rein = 2) :
    h.xtalFailure =
      ((((h.withExt { h.ext with xinOk := false }).modClk (fun c => { c with xtalFail := true, pllLocked := false })).cause evReinUnlock).cancel
        .storedHold).reinLeave 3 :=
  (if_pos (by exact hp)).trans (if_pos (Or.inr (by exact hr)))

end

/-- Settles O24: a sample by the state of the loop, the other rows as equations. -/
theorem reinLoopFollowsItsAnchor : Obligations.ReinLoopFollowsItsAnchor := by
  refine ⟨?acquiring, ?eighth, ?near, ?idle, ?lock, ?limit, ?loss, ?xtal⟩
  case acquiring =>
    intro s e port hs hf hrun hx hp hu hr
    refine answers_of_always (f := (·.reinPhaseSample s.hub.clk.anchor port)) rfl ?_
    rw [Hub.reinPhaseSample_of_followed hs hf ⟨hrun, hx, hp, hu⟩ (Or.inl hr)]
    obtain ⟨a, b, c, d, hsteer⟩ := (s.hub.sampled e).reinSteered_clk e
    have hne : ((s.hub.sampled e).reinSteered e).clk.rein ≠ 2 := by rw [hsteer]; show s.hub.clk.rein ≠ 2; omega
    obtain ⟨a', b', hclk⟩ := Hub.reinJudge_of_acquiring (e := e) hne
    refine ⟨?_, ?_, ?_, ?_, Hub.eq_of_besideClk_quiet (Hub.reinFollowed_besideClk _ _) (Hub.reinFollowed_evDue (Or.inl (by omega)))⟩
    · rw [hclk, hsteer]; rfl
    · rw [hclk, hsteer]; exact hr
    · rw [hclk, hsteer]; rfl
    · rw [hclk, hsteer]; exact Hub.sampled_steer _ _
  case eighth =>
    intro s e port hs hf hrun hx hp hu hr hw hb
    refine answers_of_always (f := (·.reinPhaseSample s.hub.clk.anchor port)) rfl ?_
    rw [Hub.reinPhaseSample_of_followed hs hf ⟨hrun, hx, hp, hu⟩ (Or.inr hr)]
    obtain ⟨a, b, c, d, hsteer⟩ := (s.hub.sampled e).reinSteered_clk e
    obtain ⟨hclk, hcause⟩ := Hub.reinJudge_of_eighth (h := (s.hub.sampled e).reinSteered e) (e := e) hr (by rw [Hub.reinSteered_lockWindow, Hub.sampled_lockWindow]; exact hw) hb
    refine ⟨?_, ?_, ?_, hcause, Hub.eq_of_besideClk (Hub.reinFollowed_besideClk _ _)⟩
    · rw [hclk]; rfl
    · rw [hclk, hsteer]; rfl
    · rw [hclk, hsteer]; rfl
  case near =>
    intro s e port hs hf hrun hx hp hu hr hw
    refine answers_of_always (f := (·.reinPhaseSample s.hub.clk.anchor port)) rfl ?_
    rw [Hub.reinPhaseSample_of_followed hs hf ⟨hrun, hx, hp, hu⟩ (Or.inr hr)]
    obtain ⟨a, b, c, d, hsteer⟩ := (s.hub.sampled e).reinSteered_clk e
    obtain ⟨a', b', hclk⟩ := Hub.reinJudge_of_near (h := (s.hub.sampled e).reinSteered e) (e := e) hr
      (by rw [Hub.reinSteered_lockWindow, Hub.sampled_lockWindow]; exact hw)
    refine ⟨?_, ?_, ?_, ?_, ?_, Hub.eq_of_besideClk_quiet (Hub.reinFollowed_besideClk _ _) (Hub.reinFollowed_evDue (Or.inr hw))⟩
    · rw [hclk, hsteer]; exact hr
    · rw [hclk]
    · rw [hclk, hsteer]; rfl
    · rw [hclk, hsteer]; rfl
    · rw [hclk, hsteer]; exact Hub.sampled_steer _ _
  case idle =>
    intro s anchor port hi
    refine answers_of_always (f := (·.reinPhaseSample anchor port)) rfl ?_
    exact Hub.reinPhaseSample_of_idle hi
  case lock =>
    intro s hr hd
    refine answers_of_always (f := Hub.reinLock) rfl ?_
    rw [Hub.reinLock_of_due hr hd]
    exact ⟨rfl, Hub.cause_causes_same _ _, by simp, Hub.eq_of_besideClk (by simp)⟩
  case limit =>
    intro s hr ha hd
    refine answers_of_always (f := Hub.reinLimit) rfl ?_
    rw [Hub.reinLimit_of_due hr ha hd]
    exact ⟨by simp [Clock.left], Hub.reinLeave_causes _ _ hr, by simp, Hub.eq_of_besideClk (by simp)⟩
  case loss =>
    intro s hr ha
    refine answers_of_always (f := Hub.anchorLoss) rfl ?_
    rw [Hub.anchorLoss_of_locked hr ha]
    exact ⟨by simp [Clock.left], Hub.reinLeave_causes _ _ hr, Hub.eq_of_besideClk (by simp)⟩
  case xtal =>
    intro s hp hr
    refine answers_of_always (f := Hub.xtalFailure) rfl ?_
    rw [Hub.xtalFailure_of_locked hp hr]
    have hbeside : (((((s.hub.withExt { s.hub.ext with xinOk := false }).modClk (fun c => { c with xtalFail := true, pllLocked := false })).cause
        evReinUnlock).cancel .storedHold).reinLeave 3).besideClk = (s.hub.withExt { s.hub.ext with xinOk := false }).besideClk := by simp
    exact ⟨by simp [Clock.left], Hub.reinLeave_keeps_causes _ _ (Hub.cause_causes_same _ evReinUnlock), congrArg Hub.ext hbeside, by simp,
      Hub.eq_of_besideClk_ext hbeside⟩

/-! ## The crystal and the hold value (R204, R219) -/

section
variable {h : Hub}

theorem Hub.xinStartTimeout_of_step (hb : h.boot.step = 3) (hf : h.framesRun = false) (hx : h.ext.xinOk = false) :
    h.xinStartTimeout = (h.modClk (fun c => { c with bootHold := true, xtalFail := true, rein := 3 })).cause evReinUnlock :=
  if_pos ⟨hb, hf, hx⟩

theorem Hub.storedHoldStore_of_due {v : Int} (hp : h.clk.pllLocked = true) (hd : h.due .storedHold = true) (hn : h.supply.dip = false) :
    h.storedHoldStore v =
      (((h.cancel .storedHold).modClk (fun c => { c with storedHold := v, holdStoredAt := some h.now })).modStore (fun s =>
        { s with queue := s.queue ++ [.storedHold], e5Done := false })).start .storedHold (secs 3600) := by
  refine (if_pos hp).trans ((Hub.whenDue_due hd).trans ?_)
  rw [Hub.request_of_no_dip _ (by exact hn)]
  rfl

/-- When the hold value is stored next (R204). -/
def Hub.holdDue (h : Hub) : Nat := match h.clk.holdStoredAt with | some f => max (h.now + secs 60) (f + secs 3600) | none => h.now + secs 60

theorem Hub.pllLock_eq : h.pllLock = (h.modClk (fun c => { c with pllLocked := true })).startAt .storedHold h.holdDue := rfl

/-- The clock of a loop that starts (R213, R214). -/
def Clock.started (c : Clock) (bw : Nat) : Clock :=
  if c.anchor = 0 then c.left 0 else { c.left 1 with loop := Config.loopStart c.steer, loopBw := max bw 500 }

theorem Hub.clockSetting_of_besideClk {g : Hub} (hb : g.besideClk = h.besideClk) (sub : Nat) : g.clockSetting sub = h.clockSetting sub :=
  (congrArg (fun k : Hub => k.clockSetting sub) hb :)

/-- The bandwidth a loop starts with (R211). -/
theorem Hub.reinBandwidth_of_left (hr : h.clk.rein = 1) (hn : h.clk.narrowAt = none) : h.reinBandwidth = max (h.clockSetting 6) 500 := by
  simp [Hub.reinBandwidth, hr, hn]

theorem Hub.reinStart_clk (hx : h.clk.xtalFail = false) : h.reinStart.clk = h.clk.started (h.clockSetting 6) := by
  refine (congrArg Hub.clk (if_neg (ne_true_of_eq_false hx))).trans ?_
  unfold Clock.started
  split
  · exact Hub.reinLeave_clk h 0
  · have hset := Hub.clockSetting_of_besideClk (Hub.reinLeave_besideClk h 1) 6
    have hbw := Hub.reinBandwidth_of_left (h := h.reinLeave 1) (by rw [Hub.reinLeave_clk]; rfl) (by rw [Hub.reinLeave_clk]; rfl)
    unfold Hub.loopStart
    rw [Hub.modClk_clk, hbw, hset, Hub.reinLeave_clk]
    rfl

theorem Hub.reinStart_besideClk (hx : h.clk.xtalFail = false) : h.reinStart.besideClk = h.besideClk := by
  refine (congrArg Hub.besideClk (if_neg (ne_true_of_eq_false hx))).trans ?_
  split
  · exact Hub.reinLeave_besideClk h 0
  · exact (Hub.modClk_besideClk _ _).trans (Hub.reinLeave_besideClk h 1)

theorem Hub.reinStart_evDue (hx : h.clk.xtalFail = false) (hr : h.clk.rein ≠ 2) : h.reinStart.evDue = h.evDue := by
  refine (congrArg Hub.evDue (if_neg (ne_true_of_eq_false hx))).trans ?_
  split
  · exact Hub.reinLeave_evDue h 0 hr
  · exact (Hub.modClk_evDue _ _).trans (Hub.reinLeave_evDue h 1 hr)

theorem Hub.reinStart_deadline (hx : h.clk.xtalFail = false) {t : Timer} (hl : t ≠ .reinLock) (hm : t ≠ .reinLimit) : h.reinStart.deadline t = h.deadline t := by
  refine (congrArg (fun k : Hub => k.deadline t) (if_neg (ne_true_of_eq_false hx))).trans ?_
  split
  · simp [hl, hm]
  · exact (Hub.modClk_deadline _ _ _).trans (by simp [hl, hm])

/-- The hub whose loop starts once XIN is valid. -/
def Hub.xinBack (h : Hub) : Hub :=
  ((h.withExt { h.ext with xinOk := true }).modClk (fun c =>
    { c with xtalFail := false, bootHold := false, slewAt := h.now, slewCredit := 0, sample := none })).pllLock

/-- XIN is valid again: the PLL takes it, and the loop starts (R219). -/
theorem Hub.xinRecovered_of_failed (hx : h.clk.xtalFail = true) (hr : h.clk.running = true) (hq : h.clk.rein = 3) :
    h.xinRecovered =
      h.xinBack.reinStart :=
  (if_pos (by exact hx)).trans (if_neg (by simp [Hub.pllLock, hr, hq]))

theorem Hub.xinBack_clk : h.xinBack.clk =
    { h.clk with xtalFail := false, bootHold := false, slewAt := h.now, slewCredit := 0, sample := none, pllLocked := true } := rfl
theorem Hub.xinBack_deadline : h.xinBack.deadline .storedHold = some h.holdDue := by
  unfold Hub.xinBack
  rw [Hub.pllLock_eq, Hub.startAt_deadline]
  rfl
theorem Hub.xinBack_evDue : h.xinBack.evDue = h.evDue := by simp [Hub.xinBack, Hub.pllLock_eq]
theorem Hub.xinBack_besideClk : h.xinBack.besideClk = (h.withExt { h.ext with xinOk := true }).besideClk := by simp [Hub.xinBack, Hub.pllLock_eq]

end

/-- Settles O25: each row is an equation where its condition holds. -/
theorem crystalAndHoldValue : Obligations.CrystalAndHoldValue := by
  refine ⟨?timeout, ?store, ?recovered⟩
  case timeout =>
    intro s hb hf hx
    refine answers_of_always (f := Hub.xinStartTimeout) rfl ?_
    rw [Hub.xinStartTimeout_of_step hb hf hx]
    exact ⟨rfl, Hub.cause_causes_same _ _, by simp [Hub.modClk]⟩
  case store =>
    intro s v hp hd hn
    refine answers_of_always (f := (·.storedHoldStore v)) rfl ?_
    rw [Hub.storedHoldStore_of_due hp hd hn]
    exact ⟨rfl, rfl, by simp [Hub.modStore, Hub.modClk, secs], by simp [Hub.modStore, Hub.modClk]⟩
  case recovered =>
    intro s hx hr hq
    refine answers_of_always (f := Hub.xinRecovered) rfl ?_
    rw [Hub.xinRecovered_of_failed hx hr hq]
    have hfail : s.hub.xinBack.clk.xtalFail = false := rfl
    have hrein : s.hub.xinBack.clk.rein ≠ 2 := by rw [Hub.xinBack_clk]; show s.hub.clk.rein ≠ 2; omega
    have hset := Hub.clockSetting_of_besideClk (Hub.xinBack_besideClk (h := s.hub)) 6
    have hbeside := (Hub.reinStart_besideClk hfail).trans Hub.xinBack_besideClk
    refine ⟨?_, congrArg Hub.ext hbeside, ?_, ?_⟩
    · rw [Hub.reinStart_clk hfail, hset, Hub.xinBack_clk]
      have hanchor : (s.hub.withExt { s.hub.ext with xinOk := true }).clockSetting 6 = s.hub.clockSetting 6 := rfl
      rw [hanchor]
      by_cases ha : s.hub.clk.anchor = 0 <;> simp [Clock.started, Clock.left, ha]
    · exact (Hub.reinStart_deadline hfail (by simp) (by simp)).trans (Hub.xinBack_deadline.trans rfl)
    · exact Hub.eq_of_besideClk_ext_quiet hbeside ((Hub.reinStart_evDue hfail hrein).trans Hub.xinBack_evDue)

end Sys2Proof.Machine
end

section
/-! SUPPORT. Periods of WCKIN (R209, R216, R217): what an edge is to the tracker, and each row where its condition holds. -/

namespace Sys2Proof.Machine

/-! ## The tracker -/

theorem Tracker.edge_of_absent {t : Tracker} (hp : t.present = false) (since : Nat) :
    t.edge since = ({ t with periods := (since :: t.periods).take 32 }, .gathered) := if_neg (ne_true_of_eq_false hp)

/-- A period of one mean, within 0.5 % of it, joins the last 16 (R216). -/
theorem Tracker.edge_of_mean {t : Tracker} {since : Nat} (hp : t.present = true) (hs : t.spoiled = false)
    (hk : (2 * since * t.periods.length + t.periods.sum) / (2 * t.periods.sum) = 1)
    (hm : ((since * t.periods.length : Nat) - (t.periods.sum : Nat) : Int).natAbs * 200 ≤ t.periods.sum) :
    t.edge since = ({ t with periods := (since :: t.periods).take 16, run := t.run + 1, missed := 0, spoiled := false }, .accepted) := by
  unfold Tracker.edge
  rw [if_pos hp]
  dsimp only
  rw [hk, Nat.max_self, Nat.one_mul, if_pos hm, if_neg (ne_true_of_eq_false hs), Nat.div_one]

/-- The class of a rate holds it (R217). -/
theorem inClass_of_classOf {rate c : Nat} (hc : classOf rate = c) (hlo : 1 ≤ c) (hhi : c ≤ 7) : inClass rate c = true := by
  unfold classOf at hc
  cases hf : (upTo 1 7).find? (inClass rate) with
  | none =>
    rw [hf] at hc
    simp at hc
    omega
  | some d =>
    rw [hf] at hc
    obtain rfl : d = c := hc
    exact List.find?_some hf

/-! ## The rows -/

section
variable {h : Hub}

/-- The tracker of WCKIN replaced. -/
def Hub.withWck (h : Hub) (t : Tracker) : Hub := h.modClk (fun c => { c with wck := t })

theorem Hub.wckinEdge_of_absent (hs : h.wckinSeen = true) (hp : h.clk.wck.present = false) (since tick : Nat) :
    h.wckinEdge ⟨since, tick⟩ = h.withWck { h.clk.wck with periods := (since :: h.clk.wck.periods).take 32 } := by
  unfold Hub.wckinEdge
  rw [if_neg (by simp [hs]), Tracker.edge_of_absent hp]
  rfl

theorem Hub.wckinEdge_of_accepted {t : Tracker} {since tick : Nat} (hs : h.wckinSeen = true) (he : h.clk.wck.edge since = (t, .accepted)) :
    h.wckinEdge ⟨since, tick⟩ =
      ((h.withWck t).modClk (fun c => { c with wckGlitched := c.wckGlitched || c.wckFresh, wckFresh := false })).wckinDetect tick := by
  unfold Hub.wckinEdge
  rw [if_neg (by simp [hs]), he]
  rfl

/-- An accepted edge's phase sample (R209). -/
theorem Hub.wckinDetect_eq (tick : Nat) :
    h.wckinDetect tick = h.modClk (fun c =>
      { c with wckNear := h.rootNow + 4 * nearestTick h.clk.wck.cls tick
               sample := if h.clk.anchor = 1 then some (128 * ((nearestTick h.clk.wck.cls tick : Int) - tick)) else c.sample }) := by
  by_cases ha : h.clk.anchor = 1 <;> simp [Hub.wckinDetect, Hub.detect, Hub.modClk, ha]

theorem Hub.wckinMissed_of_clean (hp : h.clk.wck.present = true) (hs : h.clk.wck.spoiled = false) (hw : h.wckinSeen = true) :
    h.wckinMissed = h.wckDiscard false := by
  simp [Hub.wckinMissed, hp, hs, hw]

theorem Hub.wckDiscard_of_few (hm : h.clk.wck.missed < 3) (spoiled : Bool) :
    h.wckDiscard spoiled = h.modClk (fun c => { c with wckFresh := true, wck := { c.wck with missed := h.clk.wck.missed + 1, spoiled := spoiled } }) :=
  if_neg (by omega)

/-- The fourth discarded period loses the clock, and with it the anchor (R216, R218). -/
theorem Hub.wckDiscard_of_fourth (hm : 3 ≤ h.clk.wck.missed) (ha : h.clk.anchor = 1) (hr : h.clk.rein = 2) (spoiled : Bool) :
    h.wckDiscard spoiled = ((h.modClk (fun c => { c with wckFresh := false, wck := {} })).cause evWckinLoss).reinLeave 3 :=
  (if_pos (by omega)).trans ((if_pos (by exact ha)).trans (Hub.reinLoss_of_locked (by exact hr)))

/-- A rate is found of a clock that is not the anchor (R217). -/
theorem Hub.wckinRate_of_found {rate : Nat} (hw : h.wckinSeen = true) (hp : h.clk.wck.present = false) (hc : consistent h.clk.wck.periods = true)
    (ha : h.clk.anchor ≠ 1) :
    h.wckinRate rate = h.modClk (fun c =>
      { c with wck := h.clk.wck.found rate, repeatClass := if isHouseClass (classOf rate) then classOf rate else c.repeatClass }) :=
  (if_pos (by simp [Tracker.ready, hw, hp, hc])).trans (if_neg (fun hq => ha hq.1))

end

/-- Settles O26: each row is an equation where its condition holds. -/
theorem wordClockIsTracked : Obligations.WordClockIsTracked := by
  refine ⟨?gathered, ?accepted, ?missed, ?lost, ?found⟩
  case gathered =>
    intro s since tick hw hp
    refine answers_of_always (f := (·.wckinEdge ⟨since, tick⟩)) rfl ?_
    rw [Hub.wckinEdge_of_absent hw hp]
    exact ⟨rfl, rfl⟩
  case accepted =>
    intro s since tick hw hp hs hk hm
    refine answers_of_always (f := (·.wckinEdge ⟨since, tick⟩)) rfl ?_
    rw [Hub.wckinEdge_of_accepted hw (Tracker.edge_of_mean hp hs hk hm), Hub.wckinDetect_eq]
    refine ⟨?_, by simp [Hub.withWck, Hub.modClk]⟩
    simp only [Hub.withWck, Hub.modClk_clk]
    rfl
  case missed =>
    intro s hp hs hm hw
    refine answers_of_always (f := Hub.wckinMissed) rfl ?_
    rw [Hub.wckinMissed_of_clean hp hs hw, Hub.wckDiscard_of_few hm]
    exact ⟨by simp [hs], rfl⟩
  case lost =>
    intro s hp hs hm ha hr hw
    refine answers_of_always (f := Hub.wckinMissed) rfl ?_
    rw [Hub.wckinMissed_of_clean hp hs hw, Hub.wckDiscard_of_fourth hm ha hr]
    exact ⟨by simp [Clock.left], by simp [Clock.left], by simp [Clock.left], Hub.reinLeave_keeps_causes _ _ (Hub.cause_causes_same _ _),
      Hub.reinLeave_causes _ _ (by exact hr), Hub.eq_of_besideClk (by simp)⟩
  case found =>
    intro s rate hp hc ha hw
    refine answers_of_always (f := (·.wckinRate rate)) rfl ?_
    rw [Hub.wckinRate_of_found hw hp hc ha]
    exact ⟨rfl, rfl, rfl, fun c hcls hlo hhi => inClass_of_classOf hcls hlo hhi, rfl, rfl⟩

end Sys2Proof.Machine
end

section
/-! SUPPORT. Serial ports and rate-conversion contexts (R226 to R241, R252 to R258): what a release of contexts leaves, and each row where its
condition holds. -/

namespace Sys2Proof.Machine

/-! ## Contexts -/

section
variable (h : Hub) (k m p : Nat)

@[simp] theorem Hub.ctx_modCtx (f : Context → Context) : (h.modCtx k f).ctx m = if m = k then f (h.ctx m) else h.ctx m := by
  split
  · next hm => rw [hm, Hub.modCtx_ctx]
  · next hm => simp [Hub.modCtx, Hub.ctx, tget_tput_other _ _ hm]

@[simp] theorem Hub.modCtx_port (f : Context → Context) : (h.modCtx k f).port p = h.port p := rfl
@[simp] theorem Hub.modPort_ctx (f : Port → Port) : (h.modPort p f).ctx k = h.ctx k := rfl
@[simp] theorem Hub.modAsrc_port (f : Asrc → Asrc) : (h.modAsrc f).port p = h.port p := rfl
@[simp] theorem Hub.modAsrc_deadline (f : Asrc → Asrc) (t : Timer) : (h.modAsrc f).deadline t = h.deadline t := rfl
@[simp] theorem Hub.modCtx_deadline (f : Context → Context) (t : Timer) : (h.modCtx k f).deadline t = h.deadline t := rfl

end

/-- All of the hub but contexts and timers. -/
def Hub.besideAsrc (h : Hub) : Hub := { h with asrc := {}, timers := [] }

theorem Hub.port_of_besideAsrc {g h : Hub} (hb : g.besideAsrc = h.besideAsrc) (p : Nat) : g.port p = h.port p := (congrArg (fun k : Hub => k.port p) hb :)

/-! ## The release of a port's contexts (R252) -/

section
variable (h : Hub) (k p : Nat)

theorem Hub.releaseCtx_besideAsrc : (h.releaseCtx k).besideAsrc = h.besideAsrc := rfl
theorem Hub.releaseCtx_contexts : (h.releaseCtx k).asrc.contexts = h.asrc.contexts := rfl
theorem Hub.releaseCtx_releasing : (h.releaseCtx k).asrc.releasing = withOne h.asrc.releasing k := rfl

/-- Every context of a pass is being released after it. -/
theorem Hub.releasing_forAll {m : Nat} (ns : List Nat) (h : Hub) (hm : m ∈ ns ∨ m ∈ h.asrc.releasing) : m ∈ (h.forAll ns Hub.releaseCtx).asrc.releasing := by
  induction ns generalizing h with
  | nil => simpa [Hub.forAll] using hm
  | cons n ns ih =>
    refine ih (h.releaseCtx n) ?_
    rw [Hub.releaseCtx_releasing]
    rcases hm with hm | hm
    · rcases List.mem_cons.mp hm with rfl | hm
      · exact Or.inr (mem_withOne _ _)
      · exact Or.inl hm
    · exact Or.inr (mem_withOne_of_mem hm)

theorem Hub.releaseAll_besideAsrc : (h.releaseAll p).besideAsrc = h.besideAsrc := by
  have hk : (h.forAll (h.ctxsOf p) Hub.releaseCtx).besideAsrc = h.besideAsrc := Hub.forAll_keeps Hub.releaseCtx_besideAsrc _ h
  exact hk

theorem Hub.releaseAll_contexts : (h.releaseAll p).asrc.contexts = h.asrc.contexts := by
  have hk : (h.forAll (h.ctxsOf p) Hub.releaseCtx).asrc.contexts = h.asrc.contexts :=
    Hub.forAll_keeps (K := fun h => h.asrc.contexts) Hub.releaseCtx_contexts _ h
  exact hk

theorem Hub.releaseAll_port (q : Nat) : (h.releaseAll p).port q = h.port q := Hub.port_of_besideAsrc (h.releaseAll_besideAsrc p) q

theorem Hub.releaseAll_deadline {t : Timer} (ht : ∀ k, t ≠ .contextLock k) : (h.releaseAll p).deadline t = h.deadline t := by
  have hk : (h.forAll (h.ctxsOf p) Hub.releaseCtx).deadline t = h.deadline t :=
    Hub.forAll_keeps (K := fun h => h.deadline t) (fun g k => by simp [Hub.releaseCtx, ht]) _ h
  exact hk

/-- After a release the port holds no context. -/
theorem Hub.ctxsOf_releaseAll : (h.releaseAll p).ctxsOf p = [] := by
  unfold Hub.ctxsOf
  rw [Hub.releaseAll_contexts, List.map_eq_nil_iff, List.filter_eq_nil_iff]
  intro e he hc
  simp only [Bool.and_eq_true, decide_eq_true_eq, Bool.not_eq_true', List.contains_eq_mem, decide_eq_false_iff_not] at hc
  obtain ⟨⟨hfree, hport⟩, hrel⟩ := hc
  refine hrel (Hub.releasing_forAll (h.ctxsOf p) h ?_)
  by_cases hin : e.1 ∈ h.asrc.releasing
  · exact Or.inr hin
  · exact Or.inl (List.mem_map.mpr ⟨e, List.mem_filter.mpr ⟨he, by simp [hfree, hport, hin]⟩, rfl⟩)

end

/-- The contexts of a port depend on the pool only. -/
theorem Hub.ctxsOf_congr {g h : Hub} (hg : g.asrc = h.asrc) (p : Nat) : g.ctxsOf p = h.ctxsOf p := by
  unfold Hub.ctxsOf
  rw [hg]

/-! ## Start and stop (R235 to R238) -/

/-- A port whose clock has locked begins its preamble (R236). -/
def Port.locked (x : Port) (left : Nat) : Port :=
  { x with state := .preamble, preambleLeft := left, fade := Fade.steady 0, maskFrames := 0, pins := { x.pins with phase := 0 }
           din := { x.din with fill := targetFill }, dout := { x.dout with fill := targetFill } }

@[simp] theorem Port.locked_measClass (x : Port) (left : Nat) : (x.locked left).measClass = x.measClass := rfl

section
variable {h : Hub} {p : Nat}

/-- A port that waits for its clock and has what a lock takes (R236). -/
def Hub.mayLock (h : Hub) (p : Nat) : Prop :=
  (h.port p).state = .waitClock ∧ (h.port p).measClass ≠ 0 ∧ 2 ≤ (h.port p).exactFrames ∧ h.padsHeld p = false

theorem Hub.portClockLock_of_reduced (hl : h.mayLock p) (hb : h.boot.full = false) :
    h.portClockLock p = (h.modPort p (·.locked (h.portCfg p 0x0B))).modPort p (fun x => { x with synchronous := true }) :=
  (if_pos hl).trans (if_pos (by simp [hb]))

@[simp] theorem Hub.portCfg_modPort_locked (left sub : Nat) : (h.modPort p (·.locked left)).portCfg p sub = h.portCfg p sub := by
  simp [Hub.portCfg, Port.locked]

theorem Hub.portClockLock_of_synchronous (hl : h.mayLock p) (hs : h.isSyncSlave p = true) (ha : h.syncAllowed p = true) (hr : (h.port p).reserve = false) :
    h.portClockLock p = ((h.modPort p (·.locked (h.portCfg p 0x0B))).modPort p (fun x =>
      { x with synchronous := true, onAsrc := false, handover := false, chanFade := [] })).releaseAll p := by
  have hs' : (h.modPort p (·.locked (h.portCfg p 0x0B))).isSyncSlave p = true := by simpa [Hub.isSyncSlave] using hs
  have ha' : (h.modPort p (·.locked (h.portCfg p 0x0B))).syncAllowed p = true := by
    have hlocked : (h.modPort p (·.locked (h.portCfg p 0x0B))).reinLocked = h.reinLocked := rfl
    simpa [Hub.syncAllowed, hlocked] using ha
  have hb : h.boot.full = true := by simp only [Hub.isSyncSlave, Bool.and_eq_true] at hs; exact hs.2
  exact (if_pos hl).trans ((if_neg (by simp [hb])).trans ((if_pos hs').trans ((if_pos ha').trans (if_neg (ne_true_of_eq_false hr)))))

theorem Hub.portPreambleEnd_of_locked (hs : (h.port p).state = .preamble) (hl : (h.port p).preambleLeft = 0) (ha : h.allLocked p = true) :
    h.portPreambleEnd p = (h.modPort p (fun x =>
      { x with state := .fadeIn, fade := if x.rateFault then Fade.steady 0 else { m0 := 0, m1 := unity, t0 := h.now, len := ms 2 } })).start (.portFade p) (ms 2) :=
  if_pos ⟨hs, hl, ha⟩

theorem Hub.portFadeInEnd_of_due (hs : (h.port p).state = .fadeIn) (hd : h.due (.portFade p) = true) :
    h.portFadeInEnd p = (h.cancel (.portFade p)).modPort p (fun x => { x with state := .running }) :=
  (if_pos hs).trans (Hub.whenDue_due hd)

theorem Hub.capPortGone_of_idle (hc : h.cap.state ≠ 2) : h.capPortGone p = h := if_neg (fun hq => hc hq.1)

/-- A port as its stop leaves it (R237). -/
def Port.stop (x : Port) (master : Bool) (low : Nat) : Port :=
  { x with state := .stopped, fade := Fade.steady 0, startDue := x.startDue || x.startHeld, startHeld := false, maskPending := false
           maskFrames := 0, onAsrc := false, synchronous := false, reserve := false, handover := false, chanFade := [], rateFault := false
           alignLost := false, relocked := false, divider := 0, bclk := {}, conv := []
           pins := { x.pins with fs := [], dout := [], tail := none, lowUntil := low }
           track := if master then {} else x.track, recountDue := false, rateMeas := if master then 0 else x.rateMeas
           measClass := if master then 0 else x.measClass }

theorem Hub.portFlushEnd_of_over (hs : (h.port p).state = .flush) (hl : (h.port p).flushLeft = 0) (hc : h.cap.state ≠ 2)
    (ha : h.isAnchorPort p = false) :
    ∃ low, h.portFlushEnd p = (((h.releaseAll p).modPort p (·.stop (h.isMaster p) low)).cancel (.portFade p)).cancel (.handover p) := by
  have hclk : (h.releaseAll p).clk = h.clk := (congrArg Hub.clk (h.releaseAll_besideAsrc p) :)
  have hstop : h.portFlushEnd p = h.portStopped p := if_pos ⟨hs, hl⟩
  rw [hstop]
  unfold Hub.portStopped
  rw [Hub.capPortGone_of_idle hc]
  exact ⟨_, if_neg (by simpa [Hub.isAnchorPort, hclk] using ha)⟩

theorem Hub.maskApply_of_second (hm : (h.port p).maskPending = true) (hf : 1 ≤ (h.port p).maskFrames) :
    h.maskApply p = h.modPort p (fun x =>
      { x with maskPending := false, maskFrames := 0, maskEventDue := true, recountDue := true
               din := { x.din with mask := h.accepted (portIdx p) 0x0E }, dout := { x.dout with mask := h.accepted (portIdx p) 0x0F } }) :=
  if_pos ⟨hm, hf⟩

end

/-- All of the hub but ports, contexts and timers. -/
def Hub.besidePorts (h : Hub) : Hub := { h with ports := [], asrc := {}, timers := [] }

section
variable (h : Hub) (n d : Nat) (t : Timer)

@[simp] theorem Hub.modPort_besidePorts (f : Port → Port) : (h.modPort n f).besidePorts = h.besidePorts := rfl
@[simp] theorem Hub.modCtx_besidePorts (f : Context → Context) : (h.modCtx n f).besidePorts = h.besidePorts := rfl
@[simp] theorem Hub.modAsrc_besidePorts (f : Asrc → Asrc) : (h.modAsrc f).besidePorts = h.besidePorts := rfl
@[simp] theorem Hub.start_besidePorts : (h.start t d).besidePorts = h.besidePorts := rfl
@[simp] theorem Hub.cancel_besidePorts : (h.cancel t).besidePorts = h.besidePorts := rfl

variable {h} {g : Hub}

theorem Hub.besidePorts_of_besideAsrc (hb : g.besideAsrc = h.besideAsrc) : g.besidePorts = h.besidePorts :=
  (congrArg (fun k : Hub => { k with ports := [] }) hb :)

theorem Hub.eq_of_besidePorts (hb : g.besidePorts = h.besidePorts) : { g with ports := h.ports, asrc := h.asrc, timers := h.timers } = h :=
  (congrArg (fun k : Hub => { k with ports := h.ports, asrc := h.asrc, timers := h.timers }) hb :)

end

/-- Settles O27: each row is an equation where its condition holds. -/
theorem portsStartAndStop : Obligations.PortsStartAndStop := by
  refine ⟨?reduced, ?synchronous, ?preamble, ?fadedIn, ?stopped, ?masks⟩
  case reduced =>
    intro s p hp hs hm he hh hb
    refine answers_of_run (f := (·.portClockLock p)) rfl hp ?_
    rw [Hub.portClockLock_of_reduced ⟨hs, hm, he, hh⟩ hb]
    exact ⟨by simp [Port.locked, targetFill], fun q hq => by simp [hq], by simp⟩
  case synchronous =>
    intro s p hp hs hm he hh hy ha hr
    refine answers_of_run (f := (·.portClockLock p)) rfl hp ?_
    rw [Hub.portClockLock_of_synchronous ⟨hs, hm, he, hh⟩ hy ha hr]
    exact ⟨by simp [Hub.releaseAll_port, Port.locked], by simp [Hub.releaseAll_port], by simp [Hub.releaseAll_port],
      fun q hq => by simp [Hub.releaseAll_port, hq], Hub.eq_of_besidePorts (by simp [Hub.besidePorts_of_besideAsrc (Hub.releaseAll_besideAsrc _ p)])⟩
  case preamble =>
    intro s p hp hs hl ha hr
    refine answers_of_run (f := (·.portPreambleEnd p)) rfl hp ?_
    rw [Hub.portPreambleEnd_of_locked hs hl ha]
    exact ⟨by simp [hr, ms], by simp [ms], fun q hq => by simp [hq], by simp⟩
  case fadedIn =>
    intro s p hp hs hd
    refine answers_of_run (f := (·.portFadeInEnd p)) rfl hp ?_
    rw [Hub.portFadeInEnd_of_due hs hd]
    exact ⟨by simp, by simp, fun q hq => by simp [hq], by simp⟩
  case stopped =>
    intro s p hp hs hl hc ha
    refine answers_of_run (f := (·.portFlushEnd p)) rfl hp ?_
    obtain ⟨low, he⟩ := Hub.portFlushEnd_of_over hs hl hc ha
    rw [he]
    refine ⟨by simp [Port.stop], by simp [Port.stop, Hub.releaseAll_port], by simp [Port.stop], by simp [Port.stop], by simp,
      (Hub.ctxsOf_congr (by simp) p).trans (Hub.ctxsOf_releaseAll s.hub p), fun q hq => by simp [Hub.releaseAll_port, hq], ?_⟩
    exact Hub.eq_of_besidePorts (by simp [Hub.besidePorts_of_besideAsrc (Hub.releaseAll_besideAsrc s.hub p)])
  case masks =>
    intro s p hp hm hf
    refine answers_of_run (f := (·.maskApply p)) rfl hp ?_
    rw [Hub.maskApply_of_second hm hf]
    exact ⟨by simp, by simp, by simp, by simp, by simp, fun q hq => by simp [hq], by simp⟩

end Sys2Proof.Machine
end

section
/-! SUPPORT. What a port makes of its pins (R226, R232, R238 to R241): clock loss, rates, a frame, and slips. -/

namespace Sys2Proof.Machine

/-! ## Clock loss and rates (R232, R238) -/

/-- A running port that loses its clock (R238). -/
def Port.clockLost (x : Port) (now : Nat) : Port :=
  { x with state := .waitClock, fade := x.fade.to 0 now (ms 1), exactFrames := 0, dout := { x.dout with frames := [] }, handover := false
           pins := { x.pins with fs := [], dout := [], tail := none } }

section
variable {h : Hub} {p : Nat}

theorem Hub.modPort_modPort (f g : Port → Port) : (h.modPort p f).modPort p g = h.modPort p (fun x => g (f x)) := by
  simp [Hub.modPort, Hub.setPort, Hub.port, tput_tput]

theorem Hub.modPort_congr {f g : Port → Port} (hf : f (h.port p) = g (h.port p)) : h.modPort p f = h.modPort p g := congrArg (h.setPort p) hf

theorem Hub.rateEvent_of_change {rate cls : Nat} (hc : cls ≠ (h.port p).measClass) :
    h.rateEvent p rate cls = (h.modPort p (fun x => { x with rateMeas := rate, measClass := cls, cause := x.cause ||| 1 })).cause (evRateChange p) := by
  simp [Hub.rateEvent, Hub.when, hc]

theorem Hub.rateEvent_of_same {rate : Nat} :
    h.rateEvent p rate (h.port p).measClass = h.modPort p (fun x => { x with rateMeas := rate, measClass := (h.port p).measClass }) := by
  unfold Hub.rateEvent
  simp [Hub.when]

theorem Hub.portClockLoss_of_running (hm : h.isMaster p = false) (hs : (h.port p).state = .running) (hc : (h.port p).measClass ≠ 0)
    (hcap : h.cap.state ≠ 2) (ha : h.isAnchorPort p = false) :
    h.portClockLoss p =
      (((((h.modPort p (fun x => { x with rateMeas := 0, measClass := 0, cause := x.cause ||| 1 })).cause (evRateChange p)).modPort p (fun x =>
        { x with track := {}, exactFrames := 0 })).modPort p (·.clockLost h.now)).cancel (.portFade p)).cancel (.handover p) := by
  refine (if_neg (ne_true_of_eq_false hm)).trans ?_
  rw [Hub.rateEvent_of_change (fun hq => hc hq.symm)]
  generalize hg : ((h.modPort p (fun x => { x with rateMeas := 0, measClass := 0, cause := x.cause ||| 1 })).cause (evRateChange p)).modPort p (fun x =>
    { x with track := {}, exactFrames := 0 }) = g
  have hstate : (g.port p).state = .running := by rw [← hg]; simpa using hs
  have hnow : g.now = h.now := by rw [← hg]; rfl
  have hgcap : g.cap.state ≠ 2 := by rw [← hg]; exact hcap
  have hganchor : g.isAnchorPort p = false := by rw [← hg]; exact ha
  dsimp only
  rw [hstate, Hub.capPortGone_of_idle hgcap, ← hnow]
  exact if_neg (ne_true_of_eq_false hganchor)

theorem Hub.rateFaulty_modPort {f : Port → Port} (hf : ∀ x, (f x).cfg = x.cfg) (rate cls : Nat) :
    (h.modPort p f).rateFaulty p rate cls = h.rateFaulty p rate cls := by
  unfold Hub.rateFaulty Hub.portCfg
  rw [Hub.modPort_port, hf]

@[simp] theorem Hub.modPort_causes (f : Port → Port) (e : Nat) : (h.modPort p f).causes e ↔ h.causes e := Iff.rfl

/-- A slave's rate goes to its tracker, and is reported where it is new (R231, R232). -/
theorem Hub.portRateChange_of_stopped {rate : Nat} (hh : h.padsHeld p = false) (hm : h.isMaster p = false) (hr : rate ≠ 0)
    (hs : (h.port p).state = .stopped) (ht : (h.port p).track.ready = true) (hc : classOf rate ≠ (h.port p).measClass) :
    h.portRateChange p rate = (h.modPort p (fun x =>
      { x with rateMeas := rate, measClass := classOf rate, cause := x.cause ||| 1, track := x.track.found rate })).cause (evRateChange p) := by
  have hclass : classOf rate ≠ ((h.modPort p (fun x => { x with track := x.track.found rate })).port p).measClass := by simpa using hc
  unfold Hub.portRateChange
  dsimp only
  rw [if_neg (by simp [hh, ht]), if_neg (ne_true_of_eq_false hm), if_neg hr, Hub.rateEvent_of_change hclass, Hub.modPort_modPort]
  exact if_pos (by simpa using hs)

theorem Hub.portRateChange_of_faulty {rate : Nat} (hh : h.padsHeld p = false) (hm : h.isMaster p = false) (hr : rate ≠ 0)
    (hs : (h.port p).state = .running) (ht : (h.port p).track.ready = true) (hc : classOf rate = (h.port p).measClass)
    (hf : h.rateFaulty p rate (classOf rate) = true) :
    h.portRateChange p rate = h.modPort p (fun x =>
      { x with rateMeas := rate, rateFault := true, fade := Fade.steady 0, track := x.track.found rate }) := by
  have hclass : classOf rate = ((h.modPort p (fun x => { x with track := x.track.found rate })).port p).measClass := by simpa using hc
  unfold Hub.portRateChange
  dsimp only
  rw [if_neg (by simp [hh, ht]), if_neg (ne_true_of_eq_false hm), if_neg hr]
  rw [hclass, Hub.rateEvent_of_same, ← hclass, Hub.modPort_modPort]
  refine (if_neg (by simp [hs])).trans ((if_pos rfl).trans ?_)
  rw [Hub.modPort_modPort]
  refine Hub.modPort_congr ?_
  simp only [Hub.rateFaulty_modPort, implies_true, hf, if_true]
  rw [← hc]

end

/-! ## A frame at the pins (R226, R236, R239) -/

/-- FS as sampled last, once a frame has passed. -/
def Port.fsAfter (x : Port) (all : List (Bool × Bool)) : Port :=
  { x with pins := { x.pins with fsBefore := ((all.getLast?).map (·.1)).getD x.pins.fsBefore } }

section
variable {h : Hub} {p : Nat}

@[simp] theorem Hub.padsHeld_modPort (f : Port → Port) (q : Nat) : (h.modPort p f).padsHeld q = h.padsHeld q := rfl

theorem Hub.portEdge_of_absent (ht : (h.port p).track.present = false) (since : Nat) :
    h.portEdge p since = h.modPort p (fun x => { x with track := ((h.port p).track.edge since).1 }) := by
  unfold Hub.portEdge
  rw [Tracker.edge_of_absent ht]

/-- The periods of a frame as sampled. -/
def Hub.sampledOf (h : Hub) (p : Nat) (f : PortFrame) : List (Bool × Bool) := f.periods.map (h.format p).sampled

/-- The port once the frame's edge has gone to its tracker. -/
def Hub.frameBegun (h : Hub) (p : Nat) (f : PortFrame) : Hub :=
  (h.modPort p (·.fsAfter (h.sampledOf p f))).modPort p (fun x => { x with track := ((h.port p).track.edge f.sinceNs).1 })

theorem Hub.frameBegun_eq {f : PortFrame} (ht : (h.port p).track.present = false) :
    (h.modPort p (fun x => { x with pins := { x.pins with
      fsBefore := (((f.periods.map (h.format p).sampled).getLast?).map (·.1)).getD x.pins.fsBefore } })).portEdge p f.sinceNs = h.frameBegun p f := by
  rw [Hub.portEdge_of_absent (by simpa using ht), Hub.modPort_port]
  rfl

@[simp] theorem Hub.frameBegun_state (f : PortFrame) : ((h.frameBegun p f).port p).state = (h.port p).state := by simp [Hub.frameBegun, Port.fsAfter]

@[simp] theorem Hub.frameBegun_padsHeld (f : PortFrame) (q : Nat) : (h.frameBegun p f).padsHeld q = h.padsHeld q := rfl

/-- In WAIT_CLOCK a slave counts exact frames (R236). -/
theorem Hub.portFrame_of_waiting {f : PortFrame} {frame : List (Bool × Bool)} (hh : h.padsHeld p = false) (hm : h.isMaster p = false)
    (hs : (h.port p).state = .waitClock) (ht : (h.port p).track.present = false)
    (ha : (h.format p).aligned (h.port p).pins.fsBefore (h.sampledOf p f) = frame) (hf : frame ≠ []) :
    h.portFrame p f = (h.frameBegun p f).modPort p (fun x =>
      { x with exactFrames :=
          if (h.format p).whole (h.port p).pins.fsBefore frame ((h.format p).sampled f.after).1 && decide (x.measClass ≠ 0) then x.exactFrames + 1 else 0 }) := by
  subst ha
  have hne : ((h.format p).aligned (h.port p).pins.fsBefore (h.sampledOf p f)).isEmpty = false := by simpa using hf
  unfold Hub.sampledOf at hne
  unfold Hub.portFrame
  simp only [hm, hs, hh, hne, Hub.padsHeld_modPort, ne_eq, not_true_eq_false, decide_false, Bool.and_false, Bool.or_false, Bool.false_or,
    Bool.false_eq_true, if_false, Bool.not_false, Bool.and_true, Bool.and_self, if_true, Hub.frameBegun_eq ht]
  rw [if_neg (by simp [Hub.frameBegun, hh]), Hub.frameBegun_state, hs]
  rfl

end

/-! ## A frame of a running port (R239, R240, R244) -/

/-- All of the hub but the ports. -/
def Hub.withoutPorts (h : Hub) : Hub := { h with ports := [] }

/-- A port without the samples its filters hold. -/
def Port.besideConv (x : Port) : Port := { x with conv := [] }

section
variable (h : Hub) (p q : Nat)

theorem Hub.feed_besideConv (out : Bool) (c : Nat) (xs : List Int) : ((h.feed p out c xs).port q).besideConv = (h.port q).besideConv := by
  by_cases hq : q = p <;> simp [Hub.feed, hq, Port.besideConv]

theorem Hub.feed_withoutPorts (out : Bool) (c : Nat) (xs : List Int) : (h.feed p out c xs).withoutPorts = h.withoutPorts := rfl

theorem Hub.feed_port_other (out : Bool) (c : Nat) (xs : List Int) (hq : q ≠ p) : (h.feed p out c xs).port q = h.port q := by simp [Hub.feed, hq]

variable {h p}

theorem Hub.maskApply_of_none (hm : (h.port p).maskPending = false) : h.maskApply p = h := if_neg (fun hq => by rw [hm] at hq; cases hq.1)

theorem Hub.capFrame_of_idle (hc : h.cap.state = 0) (out : Bool) (word : Nat → Int) : h.capFrame p out word = h := if_neg (by simp [hc])

/-- An FIFO within its limits, or without a mask, does not slip (R240). -/
theorem Hub.frameSlip_of_within {out : Bool} (hd : (h.dirOf p out).mask = 0 ∨ (32768 < (h.dirOf p out).fill ∧ (h.dirOf p out).fill < 229376)) :
    h.frameSlip p out = h := by
  unfold Hub.frameSlip PortDir.full PortDir.low
  dsimp only
  rcases hd with hmask | ⟨hlo, hhi⟩
  · rw [if_pos hmask]
  · have hfull : decide (229376 ≤ (h.dirOf p out).fill) = false := decide_eq_false (by omega)
    have hlow : decide ((h.dirOf p out).fill ≤ 32768) = false := decide_eq_false (by omega)
    rw [hfull, hlow]
    exact ite_self h

/-- A frame enters the FIFO of a port that is not synchronous (R239). -/
theorem Hub.push_of_within {out : Bool} (hs : (h.port p).synchronous = false)
    (hd : (h.dirOf p out).mask = 0 ∨ (32768 < (h.dirOf p out).fill ∧ (h.dirOf p out).fill < 229376)) (frame : List (Nat × Int)) (drift : Int) :
    h.push p out frame drift = h.modDir p out (fun d => { d with frames := pushFrame frame d.frames }) := by
  unfold Hub.push
  simp only [hs, Bool.false_and, Bool.false_eq_true, if_false]
  refine (ite_congr rfl (fun _ => rfl) (fun _ => Hub.frameSlip_of_within ?_)).trans (ite_self _)
  cases out <;> simpa [Hub.modDir, Hub.dirOf] using hd

/-- The words of a frame, by channel. -/
def Hub.wordsIn (h : Hub) (p : Nat) (di : List Bool) : List (Nat × Int) :=
  (channelsOf (h.compact p) (h.port p).din.mask).map (fun e => (e.2, (h.format p).word di (shifted (h.format p).slots e.1 (h.port p).din.shift)))

/-- The input side of an exact frame: the words enter the FIFO, and the channels' samples wait for their filters. -/
theorem Hub.frameIn_of_exact (hs : (h.port p).synchronous = false) (hc : h.cap.state = 0) (hlo : 32768 < (h.port p).din.fill)
    (hhi : (h.port p).din.fill < 229376) (di : List Bool) (drift : Int) :
    h.frameIn p true di drift =
      (h.modPort p (fun x => { x with din := { x.din with frames := pushFrame (h.wordsIn p di) x.din.frames } })).forAll
        ((channelsOf (h.compact p) (h.port p).din.mask).map (·.2)) (fun h c => h.feed p false c [wordOf (h.port p).din.next c]) := by
  unfold Hub.frameIn
  dsimp only
  rw [if_pos rfl, if_pos rfl, Hub.capFrame_of_idle hc, Hub.push_of_within hs (out := false) (Or.inr ⟨hlo, hhi⟩)]
  rfl

/-- A pass that feeds the channels of an input leaves the ports but for what their filters hold. -/
theorem Hub.forAll_feed_besideConv (ns : List Nat) (q : Nat) :
    ((h.forAll ns (fun h c => h.feed p false c [wordOf (h.port p).din.next c])).port q).besideConv = (h.port q).besideConv :=
  Hub.forAll_keeps (K := fun h => (h.port q).besideConv) (fun g c => Hub.feed_besideConv g p q false c _) ns h

theorem Hub.forAll_feed_port_other (ns : List Nat) {q : Nat} (hq : q ≠ p) :
    (h.forAll ns (fun h c => h.feed p false c [wordOf (h.port p).din.next c])).port q = h.port q :=
  Hub.forAll_keeps (K := fun h => h.port q) (fun g c => Hub.feed_port_other g p q false c _ hq) ns h

theorem Hub.forAll_feed_withoutPorts (ns : List Nat) :
    (h.forAll ns (fun h c => h.feed p false c [wordOf (h.port p).din.next c])).withoutPorts = h.withoutPorts :=
  Hub.forAll_keeps (K := Hub.withoutPorts) (fun g c => Hub.feed_withoutPorts g p false c _) ns h

@[simp] theorem slotsOf_zero : slotsOf 0 = [] := by
  unfold slotsOf
  rw [List.filter_eq_nil_iff]
  intro k _
  simp [bit]

theorem Hub.useOf_of_unused {out : Bool} (hm : (h.dirOf p out).mask = 0) : h.useOf p out = [] := by
  unfold Hub.useOf chansInUse channelsOf
  rw [hm, slotsOf_zero]
  simp

theorem Hub.slip_of_unused {out aligned : Bool} (hm : (h.dirOf p out).mask = 0) : h.slip p out aligned = h := if_pos hm

theorem Hub.when_slip_of_unused {early : Bool} (hm : (h.port p).dout.mask = 0) : h.when early (fun h => h.slip p true true) = h := by
  have hslip : h.slip p true true = h := Hub.slip_of_unused (out := true) hm
  unfold Hub.when
  exact (ite_congr rfl (fun _ => hslip) (fun _ => rfl)).trans (ite_self h)

/-- The draw of a frame's dither. -/
def Hub.drawn (h : Hub) : Hub := { h with draws := h.draws + 1 }

@[simp] theorem Hub.drawn_port (q : Nat) : h.drawn.port q = h.port q := rfl

/-- The words of a frame have entered the FIFO of the outputs. -/
def Hub.outPushed (h : Hub) (p : Nat) : Hub := h.drawn.modDir p true (fun d => { d with frames := pushFrame (h.drawn.outWords p h.draws) d.frames })

theorem Hub.outPushed_port : (h.outPushed p).port p =
    { h.port p with dout := { (h.port p).dout with frames := pushFrame (h.drawn.outWords p h.draws) (h.port p).dout.frames } } := by
  simp [Hub.outPushed, Hub.modDir]

theorem Hub.drivePins_port (n : Nat) (frame : List (Nat × Int)) : ∃ pins, (h.drivePins p n frame).port p = { h.port p with pins := pins } :=
  ⟨_, Hub.modPort_port _ _ _⟩

/-- The output side of a port without outputs: the FIFO takes an empty frame, and the pins carry what a disabled slot does. -/
theorem Hub.frameOut_of_unused (hs : (h.port p).synchronous = false) (hc : h.cap.state = 0) (hm : (h.port p).dout.mask = 0) (n : Nat) (early : Bool)
    (drift : Int) : h.frameOut p n early drift = (h.outPushed p).drivePins p n ((h.outPushed p).port p).dout.next := by
  have hpush : h.drawn.push p true (h.drawn.outWords p h.draws) drift = h.outPushed p :=
    Hub.push_of_within (h := h.drawn) (out := true) hs (Or.inl hm) _ _
  have hdraw : h.draw = (h.draws, h.drawn) := rfl
  have huse : h.drawn.useOf p true = [] := Hub.useOf_of_unused (out := true) hm
  unfold Hub.frameOut
  rw [hdraw]
  dsimp only
  rw [huse]
  dsimp only [Hub.forAll, List.foldl]
  rw [hpush, Hub.capFrame_of_idle (by exact hc), Hub.when_slip_of_unused (by rw [Hub.outPushed_port]; exact hm)]

end

/-! ### A whole frame -/

/-- A port without its pins, its rate tracker and its counts of frames. -/
def Port.besidePins (x : Port) : Port := { x with pins := {}, track := {}, maskFrames := 0, preambleLeft := 0, flushLeft := 0 }

/-- A frame counted in a port whose masks stand. -/
def Hub.frameCounted (h : Hub) (p begun : Nat) : Hub :=
  h.modPort p (fun x =>
    { x with maskFrames := if x.maskPending then x.maskFrames + 1 else 0
             preambleLeft := if x.state = .preamble then x.preambleLeft - 1 else x.preambleLeft
             flushLeft := if x.state = .flush then x.flushLeft - 1 else x.flushLeft
             pins := { x.pins with coreFrame := h.now, begun := begun + 1 } })

section
variable {h k : Hub} {p : Nat}

theorem Hub.portDetect_of_free (ha : h.isAnchorPort p = false) (drift : Int) : ∃ f : Port → Port, (∀ x, (f x).besidePins = x.besidePins) ∧
    h.portDetect p drift = h.modPort p f := by
  refine ⟨_, ?_, if_neg (fun hq => ?_)⟩
  · intro x
    rfl
  · rw [show (h.modPort p _).isAnchorPort p = h.isAnchorPort p from rfl, ha] at hq
    cases hq

/-- A frame of a running port has begun: its edge is tracked and it is counted. -/
theorem Hub.portFrame_of_running {f : PortFrame} {frame : List (Bool × Bool)} (hh : h.padsHeld p = false) (hm : h.isMaster p = false)
    (hs : (h.port p).state = .running) (hraw : h.portCfg p 0x0A = 0)
    (ht : (h.port p).track.present = false) (hmask : (h.port p).maskPending = false)
    (ha : (h.format p).aligned (h.port p).pins.fsBefore (h.sampledOf p f) = frame) (hf : frame ≠ [])
    (hw : (h.format p).whole (h.port p).pins.fsBefore frame ((h.format p).sampled f.after).1 = true) :
    ∃ early, h.portFrame p f =
      ((((h.frameBegun p f).frameCounted p (if (h.port p).pins.coreFrame = h.now then (h.port p).pins.begun else 0)).portDetect p f.driftIn).frameIn p true ((frame ++ [(h.format p).sampled f.after]).map (·.2)) f.driftIn).frameOut
        p frame.length early f.driftOut := by
  subst ha
  have hne : ((h.format p).aligned (h.port p).pins.fsBefore (h.sampledOf p f)).isEmpty = false := by simpa using hf
  have hkeep : (h.frameBegun p f).maskApply p = h.frameBegun p f := Hub.maskApply_of_none (by simpa [Hub.frameBegun, Port.fsAfter] using hmask)
  unfold Hub.sampledOf at hne hw
  refine ⟨decide (((h.format p).aligned (h.port p).pins.fsBefore (f.periods.map (h.format p).sampled)).length < (h.format p).periods), ?_⟩
  unfold Hub.portFrame
  simp only [hm, hraw, hh, hne, hw, Hub.padsHeld_modPort, Bool.false_eq_true, if_false, Bool.not_false, Bool.and_true, Bool.and_self, if_true,
    Hub.frameBegun_eq ht, Bool.false_or, Bool.false_and, Bool.and_false, Bool.or_self, decide_false, Nat.zero_ne_one, hkeep, Hub.frameBegun_padsHeld, Hub.frameBegun_state, hs]
  rfl

theorem Hub.wordsIn_congr (hc : (k.port p).cfg = (h.port p).cfg) (hd : (k.port p).din = (h.port p).din) (di : List Bool) :
    k.wordsIn p di = h.wordsIn p di := by
  have hcfg : k.portCfg p = h.portCfg p := by
    funext sub
    rw [Hub.portCfg, hc, Hub.portCfg]
  rw [Hub.wordsIn, Hub.compact, Hub.format, hcfg, hd]
  rfl

/-- What a whole frame leaves of a port that is not synchronous, its FIFO within its limits and none of its outputs in use. -/
theorem Hub.frameInOut_of_exact (hs : (k.port p).synchronous = false) (hc : k.cap.state = 0) (hlo : 32768 < (k.port p).din.fill)
    (hhi : (k.port p).din.fill < 229376) (hm : (k.port p).dout.mask = 0) (di : List Bool) (drift drift' : Int) (n : Nat) (early : Bool) :
    ∃ r, (k.frameIn p true di drift).frameOut p n early drift' = r ∧
      (r.port p).din = { (k.port p).din with frames := pushFrame (k.wordsIn p di) (k.port p).din.frames } ∧
      (r.port p).state = (k.port p).state ∧ (r.port p).dout.fill = (k.port p).dout.fill ∧
      (∀ q, q ≠ p → r.port q = k.port q) ∧ r.withoutPorts = { k.withoutPorts with draws := k.draws + 1 } := by
  refine ⟨_, rfl, ?_⟩
  rw [Hub.frameIn_of_exact hs hc hlo hhi]
  generalize hg : (k.modPort p _).forAll _ _ = g
  have hport : (g.port p).besideConv =
      ({ k.port p with din := { (k.port p).din with frames := pushFrame (k.wordsIn p di) (k.port p).din.frames } } : Port).besideConv := by
    rw [← hg, Hub.forAll_feed_besideConv, Hub.modPort_port]
  have hother : ∀ q, q ≠ p → g.port q = k.port q := by
    intro q hq
    rw [← hg, Hub.forAll_feed_port_other _ hq]
    simp [hq]
  have hrest : g.withoutPorts = k.withoutPorts := by
    rw [← hg, Hub.forAll_feed_withoutPorts]
    rfl
  have hdout : (g.port p).dout = (k.port p).dout := (congrArg Port.dout hport :)
  have hsync : (g.port p).synchronous = (k.port p).synchronous := (congrArg Port.synchronous hport :)
  have hcap : g.cap.state = 0 := (congrArg (fun k : Hub => k.cap.state) hrest).trans hc
  have hmask : (g.port p).dout.mask = 0 := (congrArg PortDir.mask hdout).trans hm
  rw [Hub.frameOut_of_unused (hsync.trans hs) hcap hmask]
  obtain ⟨pins, hpins⟩ := Hub.drivePins_port (h := g.outPushed p) (p := p) n ((g.outPushed p).port p).dout.next
  rw [hpins, Hub.outPushed_port]
  refine ⟨(congrArg Port.din hport :), (congrArg Port.state hport :), (congrArg PortDir.fill hdout :), fun q hq => ?_, ?_⟩
  · rw [← hother q hq]
    simp [Hub.drivePins, Hub.outPushed, Hub.modDir, hq]
  · exact (congrArg (fun k : Hub => { k with draws := k.draws + 1 }) hrest :)

theorem Hub.frameBegun_besidePins (f : PortFrame) : ((h.frameBegun p f).port p).besidePins = (h.port p).besidePins := by
  rw [Hub.frameBegun, Hub.modPort_port, Hub.modPort_port]
  rfl

theorem Hub.frameCounted_besidePins (n : Nat) : ((h.frameCounted p n).port p).besidePins = (h.port p).besidePins := by
  rw [Hub.frameCounted, Hub.modPort_port]
  rfl

theorem Hub.frameBegun_port_other (f : PortFrame) {q : Nat} (hq : q ≠ p) : (h.frameBegun p f).port q = h.port q := by simp [Hub.frameBegun, hq]
theorem Hub.frameCounted_port_other (n : Nat) {q : Nat} (hq : q ≠ p) : (h.frameCounted p n).port q = h.port q := by simp [Hub.frameCounted, hq]
theorem Hub.frameBegun_withoutPorts (f : PortFrame) : (h.frameBegun p f).withoutPorts = h.withoutPorts := rfl
theorem Hub.frameCounted_withoutPorts (n : Nat) : (h.frameCounted p n).withoutPorts = h.withoutPorts := rfl
theorem Hub.isAnchorPort_of_withoutPorts (hk : k.withoutPorts = h.withoutPorts) (q : Nat) : k.isAnchorPort q = h.isAnchorPort q :=
  (congrArg (fun k : Hub => k.isAnchorPort q) hk :)

/-- A frame of a running port, once begun, has changed nothing but the pins, the tracker and the counts of frames. -/
theorem Hub.frameStarted_keeps (ha : h.isAnchorPort p = false) (f : PortFrame) (n : Nat) (drift : Int) :
    ∃ k, ((h.frameBegun p f).frameCounted p n).portDetect p drift = k ∧ (k.port p).besidePins = (h.port p).besidePins ∧
      (∀ q, q ≠ p → k.port q = h.port q) ∧ k.withoutPorts = h.withoutPorts := by
  have hrest : ((h.frameBegun p f).frameCounted p n).withoutPorts = h.withoutPorts :=
    (Hub.frameCounted_withoutPorts n).trans (Hub.frameBegun_withoutPorts f)
  obtain ⟨g, hg, hdetect⟩ := Hub.portDetect_of_free ((Hub.isAnchorPort_of_withoutPorts hrest p).trans ha) drift
  refine ⟨_, hdetect, ?_, fun q hq => ?_, hrest⟩
  · rw [Hub.modPort_port, hg, Hub.frameCounted_besidePins, Hub.frameBegun_besidePins]
  · rw [Hub.modPort_port_other _ _ hq, Hub.frameCounted_port_other n hq, Hub.frameBegun_port_other f hq]

end

/-! ## Slips in raw mode (R241) -/

section
variable {h : Hub} {p : Nat}

/-- A word dropped or repeated at a fill limit counts as a slip and turns the channels. -/
def PortDir.turned (d : PortDir) (dropped : Bool) (word : Nat) : PortDir :=
  { d with slips := d.slips + 1, slippedNow := true, shift := if dropped then d.shift + 1 else d.shift - 1
           fill := if dropped then d.fill - word else d.fill + word }

theorem Hub.rawSlip_of_limit {dropped : Bool} (hraw : h.portCfg p 0x0A = 1) (hs : (h.port p).state = .running) (hm : (h.port p).din.mask ≠ 0)
    (ha : (h.port p).alignLost = false) (hn : (h.port p).din.slips < 65534) (hc : h.cap.port ≠ p)
    (hl : if dropped then 229376 ≤ (h.port p).din.fill else (h.port p).din.fill ≤ 32768) :
    h.rawSlip p false dropped = (h.modPort p (fun x =>
      { x with din := x.din.turned dropped (65536 / h.portCfg p 4), alignLost := true, cause := x.cause ||| 8 })).cause evAlignLost := by
  have hunsat : (h.port p).din.slips + 1 ≠ 65535 := by omega
  have hcount : satInc 65535 (h.port p).din.slips = (h.port p).din.slips + 1 := if_pos (by omega)
  have hcounted : h.countSlip p false = h.modPort p (fun x => { x with din := { x.din with slips := (h.port p).din.slips + 1 } }) := by
    unfold Hub.countSlip
    simp [hunsat, hcount, Hub.when]
  have hslip : h.slip p false false = (h.countSlip p false).modDir p false (fun d => { d with slippedNow := true }) := by
    unfold Hub.slip
    dsimp only
    rw [if_neg (by exact hm)]
    refine (if_neg Bool.false_ne_true).trans (if_neg fun hq => ?_)
    rw [hcounted] at hq
    exact hc hq.1
  have hlimit : (if dropped then (h.dirOf p false).full else (h.dirOf p false).low) = true := by
    cases dropped
    · exact decide_eq_true hl
    · exact decide_eq_true hl
  unfold Hub.rawSlip
  dsimp only
  rw [if_pos ⟨hraw, by simp [hs], by simp [hs], hm, hlimit⟩, if_neg (ne_true_of_eq_false ha), hslip, hcounted]
  simp only [Hub.modDir, Hub.modPort_modPort]
  refine congrArg (Hub.cause · evAlignLost) (Hub.modPort_congr ?_)
  rfl

end

/-- Settles O28: each row is an equation where its condition holds; a whole frame is the counting of the frame, then what its words leave. -/
theorem portsFollowTheirPins : Obligations.PortsFollowTheirPins := by
  refine ⟨?lost, ?rate, ?faulty, ?waiting, ?running, ?raw⟩
  case lost =>
    intro s p hp hm hs hc hcap ha
    refine answers_of_run (f := (·.portClockLoss p)) rfl hp ?_
    rw [Hub.portClockLoss_of_running hm hs hc hcap ha]
    exact ⟨by simp [Port.clockLost], by simp [Port.clockLost, ms], by simp [Port.clockLost], by simp [Port.clockLost], by simp [Port.clockLost],
      by simp [Port.clockLost], by simp [evRateChange], fun q hq => by simp [hq], by simp [Hub.modPort, Hub.setPort]⟩
  case rate =>
    intro s p rate hp hh hm hr hs ht hc
    refine answers_of_run (f := (·.portRateChange p rate)) rfl hp ?_
    rw [Hub.portRateChange_of_stopped hh hm hr hs ht hc]
    exact ⟨by simp, by simp [evRateChange], fun q hq => by simp [hq], by simp [Hub.modPort, Hub.setPort]⟩
  case faulty =>
    intro s p rate hp hh hm hr hs ht hc hf
    refine answers_of_run (f := (·.portRateChange p rate)) rfl hp ?_
    rw [Hub.portRateChange_of_faulty hh hm hr hs ht hc hf]
    exact ⟨by simp, fun q hq => by simp [hq], by simp [Hub.modPort, Hub.setPort]⟩
  case waiting =>
    intro s p f frame hp hh hm hs hc ht ha hf
    refine answers_of_run (f := (·.portFrame p f)) rfl hp ?_
    rw [Hub.portFrame_of_waiting hh hm hs ht ha hf]
    exact ⟨by simp [Hub.frameBegun, Port.fsAfter, hc], by simp [Hub.frameBegun], by simp [Hub.frameBegun, Port.fsAfter],
      by simp [Hub.frameBegun, Port.fsAfter], by simp [hs], fun q hq => by simp [Hub.frameBegun, hq], by simp [Hub.frameBegun, Hub.modPort, Hub.setPort]⟩
  case running =>
    intro s p f frame hp hh hm hs hraw hsync ht hmask ha hcap hf hne hw hlo hhi hout
    refine answers_of_run (f := (·.portFrame p f)) rfl hp ?_
    obtain ⟨early, he⟩ := Hub.portFrame_of_running hh hm hs hraw ht hmask hf hne hw
    obtain ⟨k, hk, hkport, hkother, hkrest⟩ := Hub.frameStarted_keeps ha f
      (if (s.hub.port p).pins.coreFrame = s.hub.now then (s.hub.port p).pins.begun else 0) f.driftIn
    have hkdin : (k.port p).din = (s.hub.port p).din := (congrArg Port.din hkport :)
    have hkdout : (k.port p).dout = (s.hub.port p).dout := (congrArg Port.dout hkport :)
    have hkcfg : (k.port p).cfg = (s.hub.port p).cfg := (congrArg Port.cfg hkport :)
    have hkstate : (k.port p).state = .running := (congrArg Port.state hkport :).trans hs
    have hksync : (k.port p).synchronous = false := (congrArg Port.synchronous hkport :).trans hsync
    have hkcap : k.cap.state = 0 := (congrArg (fun g : Hub => g.cap.state) hkrest :).trans hcap
    obtain ⟨r, hr, hdin, hstate, hfill, hother, hrest⟩ := Hub.frameInOut_of_exact (k := k) (p := p) hksync hkcap (by rw [hkdin]; exact hlo)
      (by rw [hkdin]; exact hhi) (by rw [hkdout]; exact hout) ((frame ++ [(s.hub.format p).sampled f.after]).map (·.2)) f.driftIn f.driftOut frame.length early
    rw [he, hk, hr]
    refine ⟨?_, hstate.trans hkstate, ?_, ?_, fun q hq => (hother q hq).trans (hkother q hq), ?_⟩
    · rw [hdin, Hub.wordsIn_congr hkcfg hkdin, hkdin]
      rfl
    · rw [hfill, hkdout]
    · exact (congrArg Hub.draws hrest :).trans (congrArg (fun g : Hub => g.draws + 1) hkrest :)
    · rw [hkrest] at hrest
      exact (congrArg (fun g : Hub => { g with ports := s.hub.ports, draws := s.hub.draws }) hrest :)
  case raw =>
    intro s p dropped hp hraw hs hm ha hn hc hl
    refine answers_of_run (f := (·.rawSlip p false dropped)) rfl hp ?_
    rw [Hub.rawSlip_of_limit hraw hs hm ha hn hc hl]
    exact ⟨by simp [PortDir.turned], by simp, by simp, by simp [evAlignLost], fun q hq => by simp [hq], by simp [Hub.modPort, Hub.setPort]⟩

end Sys2Proof.Machine
end

section
/-! SUPPORT. Rate-conversion contexts: the lock, the relock and the end of a hand-over (R253, R254, R258). -/

namespace Sys2Proof.Machine

/-! ## Locks and relocks (R253, R254) -/

section
variable {h : Hub} {k : Nat}

theorem Hub.lockCtx_of_running (hs : (h.port (h.ctx k).port).state = .running) :
    h.lockCtx k = (h.modCtx k (fun c =>
      { c with state := .locked, fade := { m0 := c.fade.at (h.now - 1), m1 := unity, t0 := h.now, len := ms 2 } })).cancel (.contextLock k) := by
  simp [Hub.lockCtx, hs]

theorem Hub.lockCtx_port (p : Nat) : (h.lockCtx k).port p = h.port p := rfl
theorem Hub.lockCtx_state : ((h.lockCtx k).ctx k).state = .locked := by simp [Hub.lockCtx]
theorem Hub.lockCtx_ctx_other {j : Nat} (hj : j ≠ k) : (h.lockCtx k).ctx j = h.ctx j := by simp [Hub.lockCtx, hj]
theorem Hub.lockCtx_besidePorts : (h.lockCtx k).besidePorts = h.besidePorts := rfl

theorem Hub.contextLock_of_acquiring (hc : (h.ctx k).state = .acquiring) (hd : h.due (.contextLock k) = true)
    (hl : h.lockable (h.ctx k).port = true) (hs : (h.port (h.ctx k).port).synchronous = false) (hf : (h.port (h.ctx k).port).chanFade = []) :
    h.contextLock k = (h.cancel (.contextLock k)).lockCtx k := by
  have hkeep : ∀ i, ((h.cancel (.contextLock k)).lockCtx k).fadedOut (h.ctx k).port i = false := by
    intro i
    rw [Hub.fadedOut, Hub.lockCtx_port, Hub.cancel_port, hf]
    rfl
  unfold Hub.contextLock
  dsimp only
  rw [if_neg (by simp [hl]), if_pos hc, Hub.whenDue_due hd, if_neg (by simp [hkeep]), Hub.lockCtx_port, Hub.cancel_port, hs]
  rfl

/-- A relocking context locks; where it was the last of its port, the port's relock is reported. -/
theorem Hub.contextLock_of_relocking (hc : (h.ctx k).state = .relocking) (hd : h.due (.contextLock k) = true)
    (hl : h.lockable (h.ctx k).port = true) : ∃ g, h.contextLock k = g ∧ (g = (h.cancel (.contextLock k)).lockCtx k ∨
      g = ((h.cancel (.contextLock k)).lockCtx k).modPort (h.ctx k).port (fun x => { x with relocked := true })) := by
  refine ⟨_, rfl, ?_⟩
  unfold Hub.contextLock
  dsimp only
  rw [if_neg (by simp [hl]), if_neg (by simp [hc]), if_pos hc, Hub.whenDue_due hd]
  split
  · exact Or.inr rfl
  · exact Or.inl rfl

theorem Hub.relock_of_locked (hc : (h.ctx k).state = .locked) :
    h.relock k = (h.modCtx k (fun c =>
      { c with state := .relocking, relockDue := false, fade := c.fade.to 0 h.now (ms 1) })).start (.contextLock k) (ms 21) := by
  unfold Hub.relock
  rw [hc]

theorem Hub.relock_of_handover (hc : (h.ctx k).state = .handover) : h.relock k = h.modCtx k (fun c => { c with relockDue := true }) := by
  unfold Hub.relock
  rw [hc]

theorem Hub.relock_ctx_other {j : Nat} (hj : j ≠ k) : (h.relock k).ctx j = h.ctx j := by
  unfold Hub.relock
  split
  · simp [hj]
  · simp [hj]
  · rfl

theorem Hub.relock_besideAsrc : (h.relock k).besideAsrc = h.besideAsrc := by
  unfold Hub.relock
  split
  · rfl
  · rfl
  · rfl

theorem Hub.relock_deadline {t : Timer} (ht : t ≠ .contextLock k) : (h.relock k).deadline t = h.deadline t := by
  unfold Hub.relock
  split
  · simp [ht]
  · simp
  · rfl

end

/-! ## The end of a hand-over (R258) -/

/-- A context at the end of a hand-over toward the contexts: locked, and relocking where a cause waited (R259). -/
def Hub.ctxHanded (h : Hub) (k : Nat) : Hub :=
  if (h.ctx k).state = .handover then
    let due := (h.ctx k).relockDue
    let h := h.modCtx k (fun c => { c with state := .locked, weight := Fade.steady unity })
    if due then h.relock k else h
  else h

section
variable (h : Hub) {j k : Nat}

theorem Hub.ctxHanded_of_handover (hs : (h.ctx k).state = .handover) (hr : (h.ctx k).relockDue = false) :
    h.ctxHanded k = h.modCtx k (fun c => { c with state := .locked, weight := Fade.steady unity }) := by
  unfold Hub.ctxHanded
  rw [if_pos hs, hr]
  rfl

theorem Hub.ctxHanded_of_locked (hs : (h.ctx k).state = .locked) : h.ctxHanded k = h := if_neg (by simp [hs])

theorem Hub.ctxHanded_ctx_other (hj : j ≠ k) : (h.ctxHanded k).ctx j = h.ctx j := by
  unfold Hub.ctxHanded
  dsimp only
  split
  · split
    · simp [Hub.relock_ctx_other hj, hj]
    · simp [hj]
  · rfl

theorem Hub.ctxHanded_besideAsrc (k : Nat) : (h.ctxHanded k).besideAsrc = h.besideAsrc := by
  unfold Hub.ctxHanded
  dsimp only
  split
  · split
    · exact Hub.relock_besideAsrc.trans rfl
    · rfl
  · rfl

theorem Hub.ctxHanded_deadline {t : Timer} (ht : ∀ k, t ≠ .contextLock k) (k : Nat) : (h.ctxHanded k).deadline t = h.deadline t := by
  unfold Hub.ctxHanded
  dsimp only
  split
  · split
    · simp [Hub.relock_deadline (ht k)]
    · simp
  · rfl

/-- A context the pass has locked stays so, however often the pass meets it. -/
theorem Hub.forAll_ctxHanded_of_locked (ns : List Nat) (h : Hub) (hs : (h.ctx k).state = .locked) : (h.forAll ns Hub.ctxHanded).ctx k = h.ctx k := by
  induction ns generalizing h with
  | nil => rfl
  | cons n ns ih =>
    have hkeep : (h.ctxHanded n).ctx k = h.ctx k := by
      by_cases hn : k = n
      · subst hn
        rw [Hub.ctxHanded_of_locked h hs]
      · exact Hub.ctxHanded_ctx_other h hn
    exact (ih _ (by rw [hkeep, hs])).trans hkeep

/-- The pass locks a context in hand-over for which no relock waits. -/
theorem Hub.forAll_ctxHanded (ns : List Nat) (h : Hub) (hk : k ∈ ns) (hs : (h.ctx k).state = .handover) (hr : (h.ctx k).relockDue = false) :
    (h.forAll ns Hub.ctxHanded).ctx k = { h.ctx k with state := .locked, weight := Fade.steady unity } := by
  induction ns generalizing h with
  | nil => cases hk
  | cons n ns ih =>
    by_cases hn : k = n
    · subst hn
      refine (Hub.forAll_ctxHanded_of_locked ns (h.ctxHanded k) ?_).trans ?_
      · simp [Hub.ctxHanded_of_handover h hs hr]
      · simp [Hub.ctxHanded_of_handover h hs hr]
    · have hkeep : (h.ctxHanded n).ctx k = h.ctx k := Hub.ctxHanded_ctx_other h hn
      have hmem : k ∈ ns := (List.mem_cons.mp hk).resolve_left hn
      exact (ih _ hmem (by rw [hkeep, hs]) (by rw [hkeep, hr])).trans (by rw [hkeep])

end

section
variable {h : Hub} {p : Nat}

/-- The hub at the end of a hand-over, its contexts not yet visited. -/
def Hub.handed (h : Hub) (p : Nat) : Hub := (h.cancel (.handover p)).modPort p (fun x => { x with handover := false })

theorem Hub.handed_port : (h.handed p).port p = { h.port p with handover := false } := by simp [Hub.handed]
theorem Hub.handed_port_other {q : Nat} (hq : q ≠ p) : (h.handed p).port q = h.port q := by simp [Hub.handed, hq]

/-- A hand-over toward the contexts ends synchronous operation once no context is still to lock. -/
theorem Hub.handoverEnd_of_toward (hd : h.due (.handover p) = true) (ht : h.towardAsrc p = true) :
    ∃ g, h.handoverEnd p = g ∧ (g = (h.handed p).forAll (h.ctxsOf p) Hub.ctxHanded ∨
      g = ((h.handed p).forAll (h.ctxsOf p) Hub.ctxHanded).modPort p (fun x => { x with synchronous := false })) := by
  refine ⟨_, rfl, ?_⟩
  unfold Hub.handoverEnd
  rw [Hub.whenDue_due hd]
  dsimp only
  rw [show (h.cancel (.handover p)).towardAsrc p = true from ht, if_pos rfl]
  split
  · exact Or.inr rfl
  · exact Or.inl rfl

theorem Hub.handoverEnd_of_back (hd : h.due (.handover p) = true) (ht : h.towardAsrc p = false) (hr : (h.port p).reserve = false) :
    h.handoverEnd p = ((h.handed p).modPort p (fun x => { x with onAsrc := false, chanFade := [] })).releaseAll p := by
  unfold Hub.handoverEnd
  rw [Hub.whenDue_due hd]
  dsimp only
  rw [show (h.cancel (.handover p)).towardAsrc p = false from ht, if_neg Bool.false_ne_true]
  exact if_neg (by simp [hr])

end

/-- Settles O29: a context's lock and relock are equations; the pass at the end of a hand-over locks each context it meets. -/
theorem contextsLockAndRelock : Obligations.ContextsLockAndRelock := by
  refine ⟨?acquired, ?relocked, ?relock, ?later, ?toward, ?back⟩
  case acquired =>
    intro s k hk hc hd hl hs hy hf
    refine answers_of_run (f := (·.contextLock k)) rfl hk ?_
    rw [Hub.contextLock_of_acquiring hc hd hl hy hf, Hub.lockCtx_of_running (by exact hs)]
    exact ⟨by simp [ms], by simp, fun j hj => by simp [hj], by simp⟩
  case relocked =>
    intro s k hk hc hd hl
    refine answers_of_run (f := (·.contextLock k)) rfl hk ?_
    obtain ⟨g, he, hg⟩ := Hub.contextLock_of_relocking hc hd hl
    rw [he]
    rcases hg with rfl | rfl
    · exact ⟨Hub.lockCtx_state, fun j hj => Hub.lockCtx_ctx_other hj, Hub.eq_of_besidePorts (Hub.lockCtx_besidePorts.trans (by simp))⟩
    · exact ⟨by simp [Hub.lockCtx_state], fun j hj => by simp [Hub.lockCtx_ctx_other hj],
        Hub.eq_of_besidePorts (by simp [Hub.lockCtx_besidePorts])⟩
  case relock =>
    intro s k hk hc
    refine answers_of_run (f := (·.relock k)) rfl hk ?_
    rw [Hub.relock_of_locked hc]
    exact ⟨by simp [ms], by simp [ms], fun j hj => by simp [hj], by simp⟩
  case later =>
    intro s k hk hc
    refine answers_of_run (f := (·.relock k)) rfl hk ?_
    rw [Hub.relock_of_handover hc]
    exact ⟨by simp, fun j hj => by simp [hj], by simp⟩
  case toward =>
    intro s p hp hd ht
    refine answers_of_run (f := (·.handoverEnd p)) rfl hp ?_
    obtain ⟨g, he, hg⟩ := Hub.handoverEnd_of_toward hd ht
    rw [he]
    generalize hn : s.hub.ctxsOf p = ns at hg
    have hbeside : ((s.hub.handed p).forAll ns Hub.ctxHanded).besideAsrc = (s.hub.handed p).besideAsrc :=
      Hub.forAll_keeps Hub.ctxHanded_besideAsrc ns _
    have hport := Hub.port_of_besideAsrc hbeside
    have hdead : ((s.hub.handed p).forAll ns Hub.ctxHanded).deadline (.handover p) = none :=
      (Hub.forAll_keeps (K := fun h => h.deadline (.handover p)) (fun g k => Hub.ctxHanded_deadline g (by simp) k) ns _).trans (by simp [Hub.handed])
    have hctx : ∀ k, k ∈ ns → (s.hub.ctx k).state = .handover → (s.hub.ctx k).relockDue = false →
        ((s.hub.handed p).forAll ns Hub.ctxHanded).ctx k = { s.hub.ctx k with state := .locked, weight := Fade.steady unity } :=
      fun k hk hs hr => Hub.forAll_ctxHanded ns _ hk hs hr
    have hrest : ((s.hub.handed p).forAll ns Hub.ctxHanded).besidePorts = s.hub.besidePorts :=
      (Hub.besidePorts_of_besideAsrc hbeside).trans (by simp [Hub.handed])
    rcases hg with rfl | rfl
    · exact ⟨by simp [hport, Hub.handed_port], hdead, hctx, fun q hq => by simp [hport, Hub.handed_port_other hq], Hub.eq_of_besidePorts hrest⟩
    · exact ⟨by simp [hport, Hub.handed_port], by simp [hdead], fun k hk hs hr => by simp [hctx k hk hs hr], fun q hq => by simp [hport, Hub.handed_port_other hq, hq],
        Hub.eq_of_besidePorts (by simp [hrest])⟩
  case back =>
    intro s p hp hd ht hr
    refine answers_of_run (f := (·.handoverEnd p)) rfl hp ?_
    rw [Hub.handoverEnd_of_back hd ht hr]
    exact ⟨by simp [Hub.releaseAll_port, Hub.handed], Hub.ctxsOf_releaseAll _ p, Hub.releaseAll_contexts _ p,
      fun q hq => by simp [Hub.releaseAll_port, Hub.handed, hq],
      Hub.eq_of_besidePorts ((Hub.besidePorts_of_besideAsrc (Hub.releaseAll_besideAsrc _ p)).trans (by simp [Hub.handed]))⟩

end Sys2Proof.Machine
end

section
/-! SUPPORT. The store: a request that is queued, and a row that is written, moved to a spare, or lost (R276 to R278, R357). -/

namespace Sys2Proof.Machine

section
variable {h : Hub}

theorem Hub.autoStore_of_ready {idx sub : Nat} (hk : idx ≠ 0xA000 ∨ sub ≠ 2) (hr : h.autoReady (key idx sub) = true) :
    h.autoStore idx sub = h.request (.auto (key idx sub)) := by
  unfold Hub.autoStore
  rw [if_neg (fun hq => hk.elim (· hq.1) (· hq.2))]
  exact if_pos hr

theorem Hub.armRows_of_idle (hw : h.upd.armWait = false) : h.armRows = h := by simp [Hub.armRows, hw]

/-! ## Spares (R357) -/

/-- All of the hub but its spare rows, the failures counted, and the events due. -/
def Hub.besideRemap (h : Hub) : Hub := { h with store := { h.store with spareRows := 0, fails := 0, headFailed := false }, evDue := [] }

theorem Hub.valueOf_besideRemap {g : Hub} (hr : g.besideRemap = h.besideRemap) (k : Nat) : g.valueOf k = h.valueOf k :=
  (congrArg (fun g : Hub => g.valueOf k) hr :)

theorem Hub.remap_of_spare (hs : h.store.spareRows ≠ 0) : ∃ g, h.remap = (g, true) ∧ g.store.spareRows = h.store.spareRows - 1 ∧
    g.store.fails = h.store.fails ∧ g.causes evNvRemapped ∧ g.besideRemap = h.besideRemap := by
  refine ⟨_, if_neg hs, ?_⟩
  unfold Hub.when
  split
  · exact ⟨by simp [Hub.modStore], by simp [Hub.modStore], by simp [Hub.causes_cause], by simp [Hub.besideRemap, Hub.modStore]⟩
  · exact ⟨by simp [Hub.modStore], by simp [Hub.modStore], by simp, by simp [Hub.besideRemap, Hub.modStore]⟩

theorem Hub.remap_of_none (hs : h.store.spareRows = 0) :
    h.remap = (h.modStore (fun s => { s with fails := satInc 65535 s.fails, headFailed := true }), false) := if_pos hs

/-- A row moves to the first spare that verifies. -/
theorem Hub.remaps_of_spare (n : Nat) (h : Hub) (hs : n < h.store.spareRows) : ∃ g, h.remaps n = (g, true) ∧
    g.store.spareRows = h.store.spareRows - 1 - n ∧ g.causes evNvRemapped ∧ g.besideRemap = h.besideRemap := by
  induction n generalizing h with
  | zero =>
    obtain ⟨g, he, hrows, -, hev, hrest⟩ := Hub.remap_of_spare (h := h) (by omega)
    exact ⟨g, he, hrows, hev, hrest⟩
  | succ n ih =>
    obtain ⟨g, he, hrows, -, -, hrest⟩ := Hub.remap_of_spare (h := h) (by omega)
    obtain ⟨k, hk, hkrows, hkev, hkrest⟩ := ih g (by omega)
    refine ⟨k, ?_, by omega, hkev, hkrest.trans hrest⟩
    rw [Hub.remaps, he]
    exact hk

/-- A row finds no spare: a failure is counted (R278). -/
theorem Hub.remaps_of_none (n : Nat) (h : Hub) (hs : h.store.spareRows ≤ n) : ∃ g, h.remaps n = (g, false) ∧ g.store.spareRows = 0 ∧
    g.store.fails = satInc 65535 h.store.fails ∧ (h.store.spareRows = 0 → g.evDue = h.evDue) ∧ g.besideRemap = h.besideRemap := by
  induction n generalizing h with
  | zero => exact ⟨_, Hub.remap_of_none (by omega), by simpa [Hub.modStore] using hs, rfl, fun _ => rfl, rfl⟩
  | succ n ih =>
    by_cases h0 : h.store.spareRows = 0
    · refine ⟨h.modStore (fun s => { s with fails := satInc 65535 s.fails, headFailed := true }), ?_, h0, rfl, fun _ => rfl, rfl⟩
      rw [Hub.remaps, Hub.remap_of_none h0]
      rfl
    · obtain ⟨g, he, hrows, hfails, -, hrest⟩ := Hub.remap_of_spare h0
      obtain ⟨k, hk, hkrows, hkfails, -, hkrest⟩ := ih g (by omega)
      refine ⟨k, ?_, hkrows, by rw [hkfails, hfails], fun hq => absurd hq h0, hkrest.trans hrest⟩
      rw [Hub.remaps, he]
      exact hk

/-! ## Rows (R277, R278) -/

theorem Hub.rowWrite_of_verified {k fails : Nat} (hn : tgetD h.ext.rowWrites k 0 + 1 < wornWrites) :
    h.rowWrite true fails (.auto k) = (h.countRow k (tgetD h.ext.rowWrites k 0 + 1)).writeRow k := if_pos ⟨rfl, hn⟩

theorem Hub.rowWrite_of_moved {g : Hub} {verified : Bool} {k fails : Nat} (hn : verified = false ∨ wornWrites ≤ tgetD h.ext.rowWrites k 0 + 1)
    (hm : h.remaps fails = (g, true)) : h.rowWrite verified fails (.auto k) = (g.countRow k 1).writeRow k := by
  unfold Hub.rowWrite
  dsimp only [rowNumber]
  rw [if_neg (fun hq => hn.elim (fun hv => by simp [hv] at hq) (fun hw => absurd hq.2 (by omega))), hm]
  rfl

theorem Hub.rowWrite_of_lost {g : Hub} {k fails : Nat} (hm : h.remaps fails = (g, false)) :
    h.rowWrite false fails (.auto k) = g.countRow k (min (tgetD h.ext.rowWrites k 0 + 1) wornWrites) := by
  unfold Hub.rowWrite
  dsimp only [rowNumber]
  rw [if_neg (by simp), hm]
  rfl

/-- The request at the head of the queue is gone. -/
def Hub.popped (h : Hub) (rest : List StoreReq) : Hub := h.modStore (fun s => { s with queue := rest, rows := none, headFailed := false })

theorem Hub.popRequest_of_auto {k : Nat} {rest : List StoreReq} (hq : h.store.queue = .auto k :: rest) : h.popRequest = h.popped rest := by
  unfold Hub.popRequest
  rw [hq]
  rfl

theorem Hub.popped_nv (rest : List StoreReq) : (h.popped rest).nv = h.nv := rfl
theorem Hub.popped_ext (rest : List StoreReq) : (h.popped rest).ext = h.ext := rfl

/-- The store's queue while a write at its head completes. -/
def Hub.written (h : Hub) : Hub := h.modStore (fun s => { s with started := false })

theorem Hub.written_rowWrites : h.written.ext.rowWrites = h.ext.rowWrites := rfl

theorem Hub.written_nv : h.written.nv = h.nv := rfl
theorem Hub.countRow_nv (row n : Nat) : (h.countRow row n).nv = h.nv := rfl
theorem Hub.written_valueOf (k : Nat) : h.written.valueOf k = h.valueOf k := rfl
theorem Hub.countRow_valueOf (row n k : Nat) : (h.countRow row n).valueOf k = h.valueOf k := rfl

/-- What a verified row write leaves. -/
theorem Hub.writeRow_nv (k : Nat) : (h.writeRow k).nv = tput h.nv k (h.valueOf k) := rfl
theorem Hub.writeRow_ext (k : Nat) : (h.writeRow k).ext = h.ext := rfl
theorem Hub.writeRow_store (k : Nat) :
    (h.writeRow k).store = { h.store with storedAt := tput h.store.storedAt k h.now, lastStore := h.frameCount } := rfl

theorem Hub.storeRowWritten_of_auto {verified : Bool} {fails k : Nat} {rest : List StoreReq} (hr : h.rowsRun = true)
    (hq : h.store.queue = .auto k :: rest) : h.storeRowWritten verified fails = (h.written.rowWrite verified fails (.auto k)).popRequest := by
  unfold Hub.storeRowWritten
  rw [if_pos (by simp [hr])]
  dsimp only
  rw [show (h.modStore (fun s => { s with started := false })).store.queue = .auto k :: rest from hq]
  rfl

/-- The last row of a STORE readies its result (R278). -/
theorem Hub.storeRowWritten_of_last {verified : Bool} {fails k : Nat} {w : Who} {rest : List StoreReq} (hr : h.rowsRun = true)
    (hq : h.store.queue = .command w :: rest) (hrows : h.store.rows = some [k]) :
    h.storeRowWritten verified fails = ((h.written.rowWrite verified fails (.auto k)).modStore (fun s => { s with rows := some [] })).popRequest := by
  unfold Hub.storeRowWritten
  rw [if_pos (by simp [hr])]
  dsimp only
  rw [show (h.modStore (fun s => { s with started := false })).store.queue = .command w :: rest from hq]
  dsimp only
  rw [show (h.modStore (fun s => { s with started := false })).store.rows = some [k] from hrows]
  rfl

theorem Hub.modMailbox_upd (w : Who) (f : Mailbox → Mailbox) : (h.modMailbox w f).upd = h.upd := (congrArg Hub.upd (h.modMailbox_rest w f) :)

theorem Hub.popRequest_of_command {w : Who} {rest : List StoreReq} (hq : h.store.queue = .command w :: rest)
    (hw : (h.mailbox w).waiting = .store) (hf : h.store.headFailed = false) :
    h.popRequest = (h.popped rest).modMailbox w (fun m => { m with waiting := .none, outcome := some (0, 0, []) }) := by
  unfold Hub.popRequest
  rw [hq]
  dsimp only
  rw [if_pos (by exact hw), hf]
  rfl

end

/-- Settles O30: a row write is a count and a value, of the row itself or of the spare it moved to; then the request at the head is gone. -/
theorem storeWritesItsRows : Obligations.StoreWritesItsRows := by
  refine ⟨?queued, ?verified, ?moved, ?lost, ?last⟩
  case queued =>
    intro s idx sub hk hr hd
    refine answers_of_always (f := (·.autoStore idx sub)) rfl ?_
    rw [Hub.autoStore_of_ready hk hr, Hub.request_of_no_dip _ hd]
    exact ⟨by simp [Hub.modStore], by simp [Hub.modStore]⟩
  case verified =>
    intro s fails k rest hr hq hw hn
    refine answers_of_always (f := fun h => (h.storeRowWritten true fails).armRows) rfl ?_
    rw [Hub.storeRowWritten_of_auto hr hq, Hub.rowWrite_of_verified (by rw [Hub.written_rowWrites, wornWrites]; exact hn), Hub.popRequest_of_auto (by exact hq), Hub.armRows_of_idle (by exact hw)]
    refine ⟨?_, ?_, ?_, ?_⟩
    · rw [Hub.popped_nv, Hub.writeRow_nv, Hub.countRow_valueOf, Hub.written_valueOf, Hub.countRow_nv, Hub.written_nv]
    · rfl
    · simp [Hub.popped, Hub.writeRow, Hub.countRow, Hub.written, Hub.modStore, Hub.frameCount]
    · simp [Hub.popped, Hub.writeRow, Hub.countRow, Hub.written, Hub.modStore]
  case moved =>
    intro s verified fails k rest hr hq hw hs hn
    refine answers_of_always (f := fun h => (h.storeRowWritten verified fails).armRows) rfl ?_
    obtain ⟨g, hg, hspares, hev, hrest⟩ := Hub.remaps_of_spare fails s.hub.written (by change fails < s.hub.store.spareRows; omega)
    have hqueue : g.store.queue = .auto k :: rest := (congrArg (fun g : Hub => g.store.queue) hrest :).trans hq
    have hupd : g.upd.armWait = false := (congrArg (fun g : Hub => g.upd.armWait) hrest :).trans hw
    have hvalue : g.valueOf k = s.hub.valueOf k := (Hub.valueOf_besideRemap hrest k).trans (s.hub.written_valueOf k)
    have hnv : g.nv = s.hub.nv := (congrArg Hub.nv hrest :)
    have hext : g.ext = s.hub.ext := (congrArg Hub.ext hrest :)
    have hother : { g with nv := s.hub.nv, store := s.hub.store, evDue := s.hub.evDue, ext := s.hub.ext } = s.hub :=
      (congrArg (fun g : Hub => { g with nv := s.hub.nv, store := s.hub.store, evDue := s.hub.evDue, ext := s.hub.ext }) hrest :)
    rw [Hub.storeRowWritten_of_auto hr hq, Hub.rowWrite_of_moved (by rw [Hub.written_rowWrites, wornWrites]; exact hn) hg, Hub.popRequest_of_auto (by exact hqueue),
      Hub.armRows_of_idle (by exact hupd)]
    refine ⟨?_, hspares, rfl, hev, ?_, hother⟩
    · rw [Hub.popped_nv, Hub.writeRow_nv, Hub.countRow_valueOf, Hub.countRow_nv, hvalue, hnv]
    · rw [Hub.popped_ext, Hub.writeRow_ext, Hub.countRow, hext]
  case lost =>
    intro s fails k rest hr hq hw hs
    refine answers_of_always (f := fun h => (h.storeRowWritten false fails).armRows) rfl ?_
    obtain ⟨g, hg, hspares, hfails, hev, hrest⟩ := Hub.remaps_of_none fails s.hub.written (by exact hs)
    have hqueue : g.store.queue = .auto k :: rest := (congrArg (fun g : Hub => g.store.queue) hrest :).trans hq
    have hupd : g.upd.armWait = false := (congrArg (fun g : Hub => g.upd.armWait) hrest :).trans hw
    rw [Hub.storeRowWritten_of_auto hr hq, Hub.rowWrite_of_lost hg, Hub.popRequest_of_auto (by exact hqueue), Hub.armRows_of_idle (by exact hupd)]
    exact ⟨(congrArg Hub.nv hrest :), hfails, rfl, hspares, hev,
      (congrArg (fun g : Hub => { g with store := s.hub.store, ext := s.hub.ext, evDue := s.hub.evDue }) hrest :)⟩
  case last =>
    intro s fails w k rest hr hq hrows hf hu hw hn
    refine answers_of_always (f := fun h => (h.storeRowWritten true fails).armRows) rfl ?_
    rw [Hub.storeRowWritten_of_last hr hq hrows, Hub.rowWrite_of_verified (by rw [Hub.written_rowWrites, wornWrites]; exact hn)]
    generalize hy : ((s.hub.written.countRow k _).writeRow k).modStore (fun s => { s with rows := some [] }) = y
    have hnv : y.nv = tput s.hub.nv k (s.hub.valueOf k) := by
      rw [← hy, ← Hub.written_valueOf, ← Hub.countRow_valueOf]
      rfl
    have hrest : { y with nv := s.hub.nv, store := s.hub.store, ext := s.hub.ext } = s.hub := by
      rw [← hy]
      simp [Hub.writeRow, Hub.countRow, Hub.written, Hub.modStore]
    have hqueue : y.store.queue = .command w :: rest := by
      rw [← hy]
      exact hq
    have hfailed : y.store.headFailed = false := by
      rw [← hy]
      exact hf
    have hbox : y.mailbox w = s.hub.mailbox w := (congrArg (fun g : Hub => g.mailbox w) hrest :)
    have hupd : y.upd.armWait = false := (congrArg (fun g : Hub => g.upd.armWait) hrest :).trans hu
    rw [Hub.popRequest_of_command hqueue (by rw [hbox, hw]) hfailed]
    rw [Hub.armRows_of_idle (by rw [Hub.modMailbox_upd]; exact hupd)]
    have hmail := Hub.modMailbox_rest (y.popped rest) w (fun m => { m with waiting := .none, outcome := some (0, 0, []) })
    refine ⟨(congrArg Hub.nv hmail :).trans hnv, (congrArg (fun g : Hub => g.store.queue) hmail :), ?_, ?_⟩
    · rw [Hub.modMailbox_mailbox, ← hbox]
      rfl
    · refine (congrArg (fun g : Hub => { g with
        nv := s.hub.nv, store := s.hub.store, ext := s.hub.ext, mailTwi := s.hub.mailTwi, mailTether := s.hub.mailTether }) hmail :).trans ?_
      exact (congrArg (fun g : Hub => { g with mailTwi := s.hub.mailTwi, mailTether := s.hub.mailTether }) hrest :)

end Sys2Proof.Machine
end

section
/-! SUPPORT. Mailboxes of other hosts and frames sent; the supervisor's stop and return (R23, R24). -/

namespace Sys2Proof.Machine

/-! ## Mailboxes and frames -/

section
variable (h : Hub)

theorem Hub.modMailbox_mailbox_other {w v : Who} (f : Mailbox → Mailbox) (hv : v ≠ w) : (h.modMailbox w f).mailbox v = h.mailbox v := by
  obtain ⟨via, k⟩ := w
  obtain ⟨via', k'⟩ := v
  cases via
  · cases via'
    · have hk : k' ≠ k := fun hq => hv (by rw [hq])
      simp [Hub.modMailbox, Hub.mailbox, tget_tput_other _ _ hk]
    · rfl
  · cases via'
    · rfl
    · have hk : k' ≠ k := fun hq => hv (by rw [hq])
      simp [Hub.modMailbox, Hub.mailbox, tget_tput_other _ _ hk]

theorem Hub.mailbox_modMailbox (w v : Who) (f : Mailbox → Mailbox) :
    (h.modMailbox w f).mailbox v = if v = w then f (h.mailbox v) else h.mailbox v := by
  by_cases hv : v = w
  · rw [hv, Hub.modMailbox_mailbox, if_pos rfl]
  · rw [Hub.modMailbox_mailbox_other _ _ hv, if_neg hv]

@[simp] theorem Hub.modHost_mailbox (k : Nat) (f : HostSlot → HostSlot) (w : Who) : (h.modHost k f).mailbox w = h.mailbox w := rfl
@[simp] theorem Hub.cancel_mailbox (t : Timer) (w : Who) : (h.cancel t).mailbox w = h.mailbox w := rfl
@[simp] theorem Hub.modTet_mailbox (f : Tether → Tether) (w : Who) : (h.modTet f).mailbox w = h.mailbox w := rfl
@[simp] theorem Hub.modSup_mailbox (f : Supervisor → Supervisor) (w : Who) : (h.modSup f).mailbox w = h.mailbox w := rfl
@[simp] theorem Hub.modBoot_mailbox (f : Boot → Boot) (w : Who) : (h.modBoot f).mailbox w = h.mailbox w := rfl

/-- A frame that is sent changes the link alone. -/
theorem Hub.transmit_eq (p : TetherPort) (k : TxKind) (bs : List Byte) (abortEnd : Bool) : ∃ f, h.transmit p k bs abortEnd = h.modTet f := by
  unfold Hub.transmit
  split
  · exact ⟨_, rfl⟩
  · exact ⟨id, rfl⟩

theorem Hub.sendResp_eq (fromDown : Bool) (bs : List Byte) : ∃ f, h.sendResp fromDown bs = h.modTet f := by
  unfold Hub.sendResp
  split
  · exact ⟨id, rfl⟩
  · exact h.transmit_eq _ _ _ _

end

/-! ## What commands, sessions and frames leave of the hub -/

/-- All of the hub but the mailboxes, the hosts, the link and the timers. -/
def Hub.besideHosts (h : Hub) : Hub := { h with mailTwi := [], mailTether := [], hosts := [], tet := {}, timers := [] }

theorem Hub.upd_of_besideHosts {g h : Hub} (hb : g.besideHosts = h.besideHosts) : g.upd = h.upd := (congrArg Hub.upd hb :)
theorem Hub.sup_of_besideHosts {g h : Hub} (hb : g.besideHosts = h.besideHosts) : g.sup = h.sup := (congrArg Hub.sup hb :)
theorem Hub.boot_of_besideHosts {g h : Hub} (hb : g.besideHosts = h.besideHosts) : g.boot = h.boot := (congrArg Hub.boot hb :)

section
variable (h : Hub)

theorem Hub.modMailbox_besideHosts (w : Who) (f : Mailbox → Mailbox) : (h.modMailbox w f).besideHosts = h.besideHosts :=
  (congrArg Hub.besideHosts (h.modMailbox_rest w f) :)
theorem Hub.modTet_besideHosts (f : Tether → Tether) : (h.modTet f).besideHosts = h.besideHosts := rfl
theorem Hub.modHost_besideHosts (k : Nat) (f : HostSlot → HostSlot) : (h.modHost k f).besideHosts = h.besideHosts := rfl
theorem Hub.cancel_besideHosts (t : Timer) : (h.cancel t).besideHosts = h.besideHosts := rfl
theorem Hub.start_besideHosts (t : Timer) (d : Nat) : (h.start t d).besideHosts = h.besideHosts := rfl

/-! ## Commands cut by the supervisor's stop (R24) -/

/-- A command begun and not yet accepted ends with abort 0x08. -/
def Mailbox.cut (m : Mailbox) : Mailbox :=
  if m.result = 1 ∧ m.outcome = none ∧ m.waiting = .none then { m with result := 3, abort := 0x08, len := 0, data := [] } else m

theorem Mailbox.cut_cut (m : Mailbox) : m.cut.cut = m.cut := by
  unfold Mailbox.cut
  split
  · rfl
  · rfl

theorem Hub.cutCommand_eq (w : Who) : ∃ f, h.cutCommand w = (h.modMailbox w Mailbox.cut).modTet f ∨ h.cutCommand w = h ∧ (h.mailbox w).cut = h.mailbox w := by
  unfold Hub.cutCommand
  dsimp only
  split
  · next hm =>
    have hcut : h.modMailbox w (fun m => { m with result := 3, abort := 0x08, len := 0, data := [] }) = h.modMailbox w Mailbox.cut := by
      have hbox : (h.mailbox w).cut = { h.mailbox w with result := 3, abort := 0x08, len := 0, data := [] } := if_pos hm
      unfold Hub.modMailbox
      rw [hbox]
    rw [hcut]
    split
    · exact ⟨id, Or.inl rfl⟩
    · split
      · exact ⟨id, Or.inl rfl⟩
      · obtain ⟨f, hf⟩ := Hub.sendResp_eq (h.modMailbox w Mailbox.cut) (h.mailbox w).fromDown _
        exact ⟨f, Or.inl hf⟩
  · next hm => exact ⟨id, Or.inr ⟨rfl, if_neg hm⟩⟩

theorem Hub.cutCommand_mailbox (w v : Who) : (h.cutCommand w).mailbox v = if v = w then (h.mailbox v).cut else h.mailbox v := by
  obtain ⟨f, hf | ⟨hf, hm⟩⟩ := h.cutCommand_eq w
  · rw [hf, Hub.modTet_mailbox, Hub.mailbox_modMailbox]
  · rw [hf]
    split
    · next hv => rw [hv, hm]
    · rfl

theorem Hub.cutCommand_besideHosts (w : Who) : (h.cutCommand w).besideHosts = h.besideHosts := by
  obtain ⟨f, hf | ⟨hf, -⟩⟩ := h.cutCommand_eq w
  · rw [hf, Hub.modTet_besideHosts, Hub.modMailbox_besideHosts]
  · rw [hf]

theorem Hub.cutCommand_hosts (w : Who) : (h.cutCommand w).hosts = h.hosts := by
  obtain ⟨f, hf | ⟨hf, -⟩⟩ := h.cutCommand_eq w
  · rw [hf]
    exact (congrArg Hub.hosts (h.modMailbox_rest w _) :)
  · rw [hf]

/-- Both commands of a host. -/
def Hub.cutBoth (h : Hub) (k : Nat) : Hub := (h.cutCommand ⟨.twoWire, k⟩).cutCommand ⟨.tether, k⟩

theorem Hub.cutBoth_mailbox (k : Nat) (w : Who) : (h.cutBoth k).mailbox w = if w.host = k then (h.mailbox w).cut else h.mailbox w := by
  obtain ⟨via, j⟩ := w
  unfold Hub.cutBoth
  rw [Hub.cutCommand_mailbox, Hub.cutCommand_mailbox]
  cases via
  · simp
  · simp

theorem Hub.cutBoth_besideHosts (k : Nat) : (h.cutBoth k).besideHosts = h.besideHosts := by
  rw [Hub.cutBoth, Hub.cutCommand_besideHosts, Hub.cutCommand_besideHosts]

/-- The pass over the hosts cuts every command, however often it meets one. -/
theorem Hub.forAll_cutBoth_mailbox (ns : List Nat) (h : Hub) (w : Who) :
    (h.forAll ns Hub.cutBoth).mailbox w = if w.host ∈ ns then (h.mailbox w).cut else h.mailbox w := by
  induction ns generalizing h with
  | nil => simp [Hub.forAll]
  | cons n ns ih =>
    refine (ih (h.cutBoth n)).trans ?_
    rw [Hub.cutBoth_mailbox]
    by_cases hn : w.host = n
    · simp [hn, Mailbox.cut_cut]
    · simp [hn]

/-! ## Sessions pause and run on (R24, R166) -/

/-- One host's session timer pauses. -/
def Hub.pauseSession (h : Hub) (k : Nat) : Hub :=
  match h.deadline (.session k) with
  | some d => (h.cancel (.session k)).modHost k (fun x => { x with pausedLeft := some (d - h.now) })
  | none => h

theorem Hub.pauseSessions_eq : h.pauseSessions = h.forAll (List.range 8) Hub.pauseSession := rfl

theorem Hub.pauseSession_deadline (k : Nat) : (h.pauseSession k).deadline (.session k) = none := by
  unfold Hub.pauseSession
  split
  · simp
  · assumption

theorem Hub.pauseSession_deadline_other {k m : Nat} (hm : m ≠ k) : (h.pauseSession k).deadline (.session m) = h.deadline (.session m) := by
  unfold Hub.pauseSession
  split
  · simp [hm]
  · rfl

theorem Hub.pauseSession_held (k m : Nat) : ((h.pauseSession k).host m).held = (h.host m).held := by
  unfold Hub.pauseSession
  split
  · by_cases hm : m = k <;> simp [hm]
  · rfl

theorem Hub.pauseSession_mailbox (k : Nat) (w : Who) : (h.pauseSession k).mailbox w = h.mailbox w := by
  unfold Hub.pauseSession
  split <;> rfl

theorem Hub.pauseSession_besideHosts (k : Nat) : (h.pauseSession k).besideHosts = h.besideHosts := by
  unfold Hub.pauseSession
  split <;> rfl

theorem Hub.pauseSessions_deadline {k : Nat} (hk : k < 8) : h.pauseSessions.deadline (.session k) = none := by
  rw [Hub.pauseSessions_eq]
  obtain ⟨g, -, -, he⟩ := Hub.forAll_at (R := fun g m => g.deadline (.session m)) (K := fun _ => ()) (fun g n m hm => g.pauseSession_deadline_other hm)
    (fun _ _ => rfl) List.nodup_range (List.mem_range.mpr hk) h
  exact he.trans (g.pauseSession_deadline k)

theorem Hub.pauseSessions_held (m : Nat) : (h.pauseSessions.host m).held = (h.host m).held :=
  Hub.forAll_keeps (K := fun g => (g.host m).held) (fun g n => g.pauseSession_held n m) _ h

theorem Hub.pauseSessions_mailbox (w : Who) : h.pauseSessions.mailbox w = h.mailbox w :=
  Hub.forAll_keeps (K := fun g => g.mailbox w) (fun g n => g.pauseSession_mailbox n w) _ h

theorem Hub.pauseSessions_besideHosts : h.pauseSessions.besideHosts = h.besideHosts :=
  Hub.forAll_keeps (K := Hub.besideHosts) (fun g n => g.pauseSession_besideHosts n) _ h

/-- One host's session timer runs on. -/
def Hub.resumeSession (h : Hub) (k : Nat) : Hub :=
  match (h.host k).pausedLeft with
  | some n => (h.modHost k (fun x => { x with pausedLeft := none })).start (.session k) n
  | none => h

theorem Hub.resumeSessions_of_running (hp : h.sessionsPaused = false) : h.resumeSessions = h.forAll (List.range 8) Hub.resumeSession :=
  if_neg (ne_true_of_eq_false hp)

/-- All of the hub but hosts, timers and the two-wire port. -/
def Hub.besideSessions (h : Hub) : Hub := { h with hosts := [], timers := [], twi := {} }

theorem Hub.resumeSession_besideSessions (k : Nat) : (h.resumeSession k).besideSessions = h.besideSessions := by
  unfold Hub.resumeSession
  split <;> rfl

theorem Hub.resumeSessions_besideSessions : h.resumeSessions.besideSessions = h.besideSessions := by
  unfold Hub.resumeSessions
  split
  · rfl
  · exact Hub.forAll_keeps (K := Hub.besideSessions) (fun g n => g.resumeSession_besideSessions n) _ h

theorem Hub.alertSettle_besideSessions : h.alertSettle.besideSessions = h.besideSessions := by
  unfold Hub.alertSettle
  split <;> rfl

theorem Hub.alertSettle_deadline {t : Timer} (ht : t ≠ .alertRepeat) : h.alertSettle.deadline t = h.deadline t := by
  unfold Hub.alertSettle
  split
  · rfl
  · exact Hub.cancel_deadline_other _ ht

/-- What the pass reads and sets of a host's session. -/
def Hub.sessionOf (h : Hub) (k : Nat) : Option Nat × Option Nat := ((h.host k).pausedLeft, h.deadline (.session k))

theorem Hub.resumeSession_sessionOf_other {k m : Nat} (hm : m ≠ k) : (h.resumeSession k).sessionOf m = h.sessionOf m := by
  unfold Hub.resumeSession
  split
  · simp [Hub.sessionOf, hm]
  · rfl

theorem Hub.resumeSession_now (k : Nat) : (h.resumeSession k).now = h.now := by
  unfold Hub.resumeSession
  split <;> rfl

theorem Hub.resumeSession_deadline {k n : Nat} (hn : (h.host k).pausedLeft = some n) : (h.resumeSession k).deadline (.session k) = some (h.now + n) := by
  unfold Hub.resumeSession
  rw [hn]
  exact Hub.start_deadline _ _ _

theorem Hub.resumeSessions_deadline (hp : h.sessionsPaused = false) {k n : Nat} (hk : k < 8) (hn : (h.host k).pausedLeft = some n) :
    h.resumeSessions.deadline (.session k) = some (h.now + n) := by
  rw [Hub.resumeSessions_of_running h hp]
  obtain ⟨g, hg, hnow, he⟩ := Hub.forAll_at (R := Hub.sessionOf) (K := Hub.now) (fun g n m hm => g.resumeSession_sessionOf_other hm)
    (fun g n => g.resumeSession_now n) List.nodup_range (List.mem_range.mpr hk) h
  rw [← hnow]
  exact (congrArg Prod.snd he).trans (g.resumeSession_deadline ((congrArg Prod.fst hg).trans hn))

/-! ## The watchdog and the restart (R23, R24) -/

/-- The hub whose supervisor goes down, its commands cut and its batches lost. -/
def Hub.stopped (h : Hub) : Hub :=
  ((h.modSup (fun s => { s with restarting := true })).forAll (List.range 8) Hub.cutBoth).forAll (List.range 8)
    (fun h k => h.modHost k (fun x => { x with held := [] }))

theorem Hub.supervisorDown_eq : h.supervisorDown = h.stopped.pauseSessions := rfl

theorem Hub.stopped_held {k : Nat} (hk : k < 8) : (h.stopped.host k).held = [] := by
  obtain ⟨g, -, -, he⟩ := Hub.forAll_at (R := Hub.host) (K := fun _ => ()) (step := fun h k => h.modHost k (fun x => { x with held := [] }))
    (fun g n m hm => g.modHost_host_other _ hm) (fun _ _ => rfl) List.nodup_range (List.mem_range.mpr hk)
    ((h.modSup (fun s => { s with restarting := true })).forAll (List.range 8) Hub.cutBoth)
  exact congrArg HostSlot.held (he.trans (g.modHost_host k _))

theorem Hub.stopped_mailbox {w : Who} (hw : isWho w = true) : h.stopped.mailbox w = (h.mailbox w).cut := by
  have hmem : w.host ∈ List.range 8 := List.mem_range.mpr (of_decide_eq_true hw)
  refine (Hub.forAll_keeps (K := fun g => g.mailbox w) (fun g n => Hub.modHost_mailbox g n _ w) _ _).trans ?_
  exact (Hub.forAll_cutBoth_mailbox _ _ w).trans (if_pos hmem)

theorem Hub.stopped_besideHosts : h.stopped.besideHosts = (h.modSup (fun s => { s with restarting := true })).besideHosts :=
  (Hub.forAll_keeps (K := Hub.besideHosts) (fun g n => g.modHost_besideHosts n _) _ _).trans
    (Hub.forAll_keeps (K := Hub.besideHosts) Hub.cutBoth_besideHosts _ _)

theorem Hub.supervisorDown_besideHosts : h.supervisorDown.besideHosts = (h.modSup (fun s => { s with restarting := true })).besideHosts :=
  h.stopped.pauseSessions_besideHosts.trans h.stopped_besideHosts

theorem Hub.supervisorDown_upd : h.supervisorDown.upd = h.upd := (Hub.upd_of_besideHosts h.supervisorDown_besideHosts).trans rfl

theorem Hub.supervisorDown_held {k : Nat} (hk : k < 8) : (h.supervisorDown.host k).held = [] :=
  (h.stopped.pauseSessions_held k).trans (h.stopped_held hk)

theorem Hub.supervisorDown_deadline {k : Nat} (hk : k < 8) : h.supervisorDown.deadline (.session k) = none :=
  h.stopped.pauseSessions_deadline hk

theorem Hub.supervisorDown_mailbox {w : Who} (hw : isWho w = true) : h.supervisorDown.mailbox w = (h.mailbox w).cut :=
  (h.stopped.pauseSessions_mailbox w).trans (h.stopped_mailbox hw)

end

section
variable {h : Hub}

theorem Hub.cutReceive_of_idle (hu : h.upd.state = 0) : h.modUpd Update.cutReceive = h := by
  have hcut : h.upd.cutReceive = h.upd := if_neg (by simp [hu])
  unfold Hub.modUpd
  rw [hcut]

/-- The watchdog of a running hub with no update in progress stops the managing layer, and no more. -/
theorem Hub.watchdogExpiry_of_idle (hr : h.sup.running = true) (hn : h.sup.restarting = false) (hu : h.upd.state = 0) (hp : h.pwr.state = 0)
    (hs : h.pwr.stable = false) : ∃ f : Supervisor → Supervisor, (∀ x, (f x).restarting = x.restarting) ∧
      h.watchdogExpiry true = (h.modBoot (fun b => { b with resetFlags := b.resetFlags ||| 256 })).supervisorDown.modSup f := by
  have hupd : (h.modBoot (fun b => { b with resetFlags := b.resetFlags ||| 256 })).supervisorDown.upd = h.upd :=
    Hub.supervisorDown_upd _
  unfold Hub.watchdogExpiry
  dsimp only
  rw [if_neg (by simp [hr, hn, hu, hp, hs]), if_neg (by simp [hu])]
  generalize (h.modBoot (fun b => { b with resetFlags := b.resetFlags ||| 256 })).supervisorDown = d at hupd ⊢
  have hstate : d.upd.state = 0 := by rw [hupd, hu]
  refine ⟨_, ?_, Hub.cutReceive_of_idle (by exact hstate)⟩
  exact fun _ => rfl

theorem Hub.restartComplete_of_restarting (hr : h.sup.restarting = true) (hu : h.upd.state ≠ 6) (he : h.upd.everything = false)
    (hc : h.sup.heldClaims = []) : h.restartComplete = (Hub.alertSettle (Hub.resumeSessions { h with
      sup := { h.sup with restarting := false, heldClaims := [] }
      shadow := h.shadow.filter (fun e => decide ((h.host e.2.2).commitState ≠ 0)) })).cause evSupRestarted := by
  unfold Hub.restartComplete Hub.supervisorUp
  rw [if_pos ⟨hr, hu, he⟩, hc]
  rfl

end

/-- Settles O31: the stop cuts each begun command and each held batch and pauses each session; the restart undoes the pauses. -/
theorem supervisorRestarts : Obligations.SupervisorRestarts := by
  refine ⟨?expiry, ?restart⟩
  case expiry =>
    intro s hr hn hu hp hs
    refine answers_of_always (f := (·.watchdogExpiry true)) rfl ?_
    obtain ⟨f, hf, he⟩ := Hub.watchdogExpiry_of_idle hr hn hu hp hs
    rw [he]
    generalize hb : s.hub.modBoot (fun b => { b with resetFlags := b.resetFlags ||| 256 }) = b
    have hrest := b.supervisorDown_besideHosts
    have hheld : ∀ k, k < 8 → (b.supervisorDown.host k).held = [] := fun _ => b.supervisorDown_held
    have htimer : ∀ k, k < 8 → b.supervisorDown.deadline (.session k) = none := fun _ => b.supervisorDown_deadline
    have hbox : ∀ w, isWho w = true → b.supervisorDown.mailbox w = (s.hub.mailbox w).cut := by
      intro w hw
      rw [Hub.supervisorDown_mailbox b hw, ← hb, Hub.modBoot_mailbox]
    generalize b.supervisorDown = d at hrest hheld htimer hbox
    refine ⟨?_, ?_, hheld, htimer, fun w hw hres ho hwait => ?_, fun w hw hres => ?_, ?_⟩
    · exact (hf _).trans (congrArg Supervisor.restarting (Hub.sup_of_besideHosts hrest))
    · refine (Hub.boot_of_besideHosts hrest).trans ?_
      rw [← hb]
      rfl
    · rw [Hub.modSup_mailbox, hbox w hw, Mailbox.cut, if_pos ⟨hres, ho, hwait⟩]
      exact ⟨rfl, rfl⟩
    · rw [Hub.modSup_mailbox, hbox w hw, Mailbox.cut, if_neg (fun hq => hres hq.1)]
    · refine (congrArg (fun g : Hub => { g with
        sup := s.hub.sup, boot := s.hub.boot, hosts := s.hub.hosts, timers := s.hub.timers, mailTwi := s.hub.mailTwi
        mailTether := s.hub.mailTether, tet := s.hub.tet }) hrest :).trans ?_
      rw [← hb]
      simp [Hub.modSup, Hub.modBoot, Hub.besideHosts]
  case restart =>
    intro s hr hu he hc
    refine answers_of_always (f := Hub.restartComplete) rfl ?_
    rw [Hub.restartComplete_of_restarting hr hu he hc]
    generalize hg : ({ s.hub with
      sup := { s.hub.sup with restarting := false, heldClaims := [] }
      shadow := s.hub.shadow.filter (fun e => decide ((s.hub.host e.2.2).commitState ≠ 0)) } : Hub) = g
    have hrest : g.resumeSessions.alertSettle.besideSessions = g.besideSessions :=
      (Hub.alertSettle_besideSessions _).trans g.resumeSessions_besideSessions
    have hshadow : g.resumeSessions.alertSettle.shadow = g.shadow := (congrArg Hub.shadow hrest :)
    refine ⟨?_, by simp [evSupRestarted], fun e => ?_, fun hp hq hs k n hk hn => ?_, ?_⟩
    · refine (congrArg Hub.sup hrest :).trans ?_
      rw [← hg]
      rfl
    · rw [Hub.cause_shadow, hshadow, ← hg, List.mem_filter]
      simp
    · have hpaused : g.sessionsPaused = false := by
        rw [← hg]
        simp [Hub.sessionsPaused, hp, hq, hs]
      rw [Hub.cause_deadline, Hub.alertSettle_deadline _ (by simp), Hub.resumeSessions_deadline g hpaused hk (by rw [← hg]; exact hn), ← hg]
    · refine (congrArg (fun g : Hub => { g with
        sup := s.hub.sup, shadow := s.hub.shadow, hosts := s.hub.hosts, timers := s.hub.timers, twi := s.hub.twi, evDue := s.hub.evDue }) hrest :).trans ?_
      rw [← hg]
      rfl

end Sys2Proof.Machine
end

section
/-! SUPPORT. Two-wire transactions, faults of the bus and alert responses (R286 to R303). -/

namespace Sys2Proof.Machine

/-! ## What a transaction leaves of the hub -/

/-- All of the hub but the two-wire port, the clock gating and the timers. -/
def Hub.besideTwi (h : Hub) : Hub := { h with twi := {}, pwr := {}, timers := [] }

/-- The same without the hosts' sessions. -/
def Hub.besideAccess (h : Hub) : Hub := { h with twi := {}, pwr := {}, timers := [], hosts := [] }

section
variable (h : Hub)

@[simp] theorem Hub.modTwi_besideTwi (f : Twi → Twi) : (h.modTwi f).besideTwi = h.besideTwi := rfl
@[simp] theorem Hub.modTwi_besideAccess (f : Twi → Twi) : (h.modTwi f).besideAccess = h.besideAccess := rfl
@[simp] theorem Hub.modHost_besideAccess (k : Nat) (f : HostSlot → HostSlot) : (h.modHost k f).besideAccess = h.besideAccess := rfl

@[simp] theorem Hub.ungate_besideTwi : h.ungate.besideTwi = h.besideTwi := (congrArg Hub.besideTwi h.ungate_rest :)
@[simp] theorem Hub.ungate_besideAccess : h.ungate.besideAccess = h.besideAccess := (congrArg Hub.besideAccess h.ungate_rest :)
@[simp] theorem Hub.ungate_twi : h.ungate.twi = h.twi := (congrArg Hub.twi h.ungate_rest :)
@[simp] theorem Hub.ungate_host (k : Nat) : h.ungate.host k = h.host k := (congrArg (fun g : Hub => g.host k) h.ungate_rest :)
@[simp] theorem Hub.ungate_causes (e : Nat) (sc : Scope) : h.ungate.causes e sc ↔ h.causes e sc := by
  unfold Hub.causes
  rw [show h.ungate.evDue = h.evDue from (congrArg Hub.evDue h.ungate_rest :)]

@[simp] theorem Hub.touch_besideAccess (k : Nat) : (h.touch k).besideAccess = h.besideAccess := (congrArg Hub.besideAccess (h.touch_rest k) :)
@[simp] theorem Hub.touch_twi (k : Nat) : (h.touch k).twi = h.twi := (congrArg Hub.twi (h.touch_rest k) :)

@[simp] theorem Hub.modTwi_twi (f : Twi → Twi) : (h.modTwi f).twi = f h.twi := rfl
@[simp] theorem Hub.modTwi_host (f : Twi → Twi) (k : Nat) : (h.modTwi f).host k = h.host k := rfl
@[simp] theorem Hub.modTwi_causes (f : Twi → Twi) (e : Nat) (sc : Scope) : (h.modTwi f).causes e sc ↔ h.causes e sc := Iff.rfl

variable {h} {g : Hub}

theorem Hub.eq_of_besideTwi (hb : g.besideTwi = h.besideTwi) : { g with twi := h.twi, pwr := h.pwr, timers := h.timers } = h :=
  (congrArg (fun k : Hub => { k with twi := h.twi, pwr := h.pwr, timers := h.timers }) hb :)

theorem Hub.eq_of_besideAccess (hb : g.besideAccess = h.besideAccess) :
    { g with twi := h.twi, pwr := h.pwr, timers := h.timers, hosts := h.hosts } = h :=
  (congrArg (fun k : Hub => { k with twi := h.twi, pwr := h.pwr, timers := h.timers, hosts := h.hosts }) hb :)

theorem Hub.besideAccess_of_besideTwi (hb : g.besideTwi = h.besideTwi) : g.besideAccess = h.besideAccess :=
  (congrArg Hub.besideAccess hb :)

end

/-! ## START (R286, R298) -/

section
variable {h : Hub}

/-- The port serves transactions: straps sampled, out of Stable and its entry, out of factory test. -/
structure Hub.ServesStart (h : Hub) : Prop where
  bus : h.twi.brstLow = false
  awake : h.pwr.stable = false
  service : 6 ≤ h.boot.step
  entering : h.pwr.progress ≠ 3
  test : h.boot.factoryTest = false

theorem State.twiStart_of_serving {s : State} {addr : Nat} (isRead : Bool) (n : Nat) (hs : s.hub.ServesStart) (ht : s.hub.targetOf addr ≠ .ignored) :
    s.twiStart addr isRead n = s.mapHub (·.startServed (s.hub.targetOf addr) isRead n) := by
  unfold State.twiStart
  dsimp only
  have hstep := hs.service
  rw [if_neg (by simp [hs.bus]), if_neg ht, if_neg (by simp [hs.awake]), if_neg (by simp [hs.test]; omega), if_neg (by omega)]

theorem answers_of_start {s : State} {addr n : Nat} {isRead : Bool} {t : TwiTarget} {P : Hub → Prop} (hs : s.hub.ServesStart)
    (ht : s.hub.targetOf addr = t) (hn : t ≠ .ignored) (hp : P (s.hub.startServed t isRead n)) : Answers (.twiAddressMatch addr isRead n) s P := by
  subst ht
  refine ⟨s.mapHub (·.startServed (s.hub.targetOf addr) isRead n), ?_, rfl, rfl, hp⟩
  change execTwiAddressMatch addr isRead n s = _
  rw [execTwiAddressMatch, State.twiStart_of_serving isRead n hs hn]

/-- The hub with a transaction open. -/
def Hub.startOpened (h : Hub) (t : TwiTarget) (isRead : Bool) : Hub :=
  h.startTiming.ungate.modTwi (fun x => { x with open_ := t, reading := isRead, sent := [] })

theorem Hub.ungate_progress : h.ungate.pwr.progress = h.pwr.progress := by
  unfold Hub.ungate
  split <;> rfl

theorem Hub.startServed_of_run {t : TwiTarget} (hp : h.pwr.progress ≠ 3) (isRead : Bool) (n : Nat) :
    h.startServed t isRead n = if isRead then (h.startOpened t isRead).serveRead t n else h.startOpened t isRead := by
  unfold Hub.startServed
  dsimp only
  have hentry : h.startTiming.ungate.pwr.progress ≠ 3 := by rwa [Hub.ungate_progress]
  rw [if_neg hentry]
  rfl

theorem Hub.startOpened_besideTwi (t : TwiTarget) (isRead : Bool) : (h.startOpened t isRead).besideTwi = h.besideTwi := by
  simp [Hub.startOpened, Hub.startTiming]

theorem Hub.startOpened_twi (t : TwiTarget) (isRead : Bool) : ∃ hold setup spike, (h.startOpened t isRead).twi =
    { h.twi with holdSteps := hold, setupSteps := setup, spikeFilter := spike, open_ := t, reading := isRead, sent := [] } :=
  ⟨_, _, _, by rw [Hub.startOpened, Hub.modTwi_twi, Hub.ungate_twi, Hub.startTiming, Hub.modTwi_twi]⟩

/-- The two-wire port without its latches of the quick window. -/
def Twi.besideLatches (t : Twi) : Twi := { t with frameLatch := 0, anyLatch := 0 }

theorem Hub.quickLatch_besideTwi (off : Nat) : (h.quickLatch off).besideTwi = h.besideTwi := by
  unfold Hub.quickLatch
  split
  · rfl
  · split <;> rfl

theorem Hub.quickLatch_twi (off : Nat) : (h.quickLatch off).twi.besideLatches = h.twi.besideLatches := by
  unfold Hub.quickLatch
  split
  · rfl
  · split <;> rfl

/-- A read of the quick window moves its latches alone, and gives as many bytes as are read. -/
theorem Hub.readQuickFrom_keeps (n : Nat) (h : Hub) (off : Nat) : (h.readQuickFrom off n).1.besideTwi = h.besideTwi ∧
    (h.readQuickFrom off n).1.twi.besideLatches = h.twi.besideLatches ∧ (h.readQuickFrom off n).2.length = n := by
  induction n generalizing h off with
  | zero => exact ⟨rfl, rfl, rfl⟩
  | succ n ih =>
    obtain ⟨hrest, htwi, hlen⟩ := ih (h.quickLatch (off % 64)) (off + 1)
    exact ⟨hrest.trans (Hub.quickLatch_besideTwi _), htwi.trans (Hub.quickLatch_twi _), congrArg (· + 1) hlen⟩

/-! ## STOP (R287, R290) -/

/-- The hub at a STOP, the transaction closed. -/
def Hub.atStop (h : Hub) : Hub := (h.modTwi (fun x => { x with open_ := .none })).ungate

@[simp] theorem Hub.atStop_twi : h.atStop.twi = { h.twi with open_ := .none } := by simp [Hub.atStop]
@[simp] theorem Hub.atStop_host (k : Nat) : h.atStop.host k = h.host k := by simp [Hub.atStop]
@[simp] theorem Hub.atStop_besideTwi : h.atStop.besideTwi = h.besideTwi := by simp [Hub.atStop]

theorem Hub.twiStop_of_pointer {a b : Byte} (hs : h.twoWireServes = true) (ho : h.twi.open_ = .main) (hr : h.twi.reading = false) :
    h.twiStop [a, b] = (h.atStop.modTwi (fun x =>
      { x with pointer := 8192 * (a.toNat / 32) + pageAfter 32 (a.toNat % 32 * 256 + b.toNat) 0 })).touch (a.toNat / 32) := by
  have hreading : h.atStop.twi.reading = false := by simpa using hr
  unfold Hub.twiStop
  rw [if_pos hs, ho]
  exact if_neg (ne_true_of_eq_false hreading)

theorem Hub.twiStop_of_byte {a : Byte} (hs : h.twoWireServes = true) (ho : h.twi.open_ = .main) (hr : h.twi.reading = false) :
    h.twiStop [a] = h.atStop.twiError 3 := by
  have hreading : h.atStop.twi.reading = false := by simpa using hr
  unfold Hub.twiStop
  rw [if_pos hs, ho]
  exact if_neg (ne_true_of_eq_false hreading)

theorem Hub.twiStop_of_main {a b c : Byte} {data : List Byte} (hs : h.twoWireServes = true) (ho : h.twi.open_ = .main) (hr : h.twi.reading = false) :
    h.twiStop (a :: b :: c :: data) = (h.atStop.modTwi (fun x =>
      { x with pointer := 8192 * (a.toNat / 32) + pageAfter 32 (a.toNat % 32 * 256 + b.toNat) (c :: data).length })).commitMain (a.toNat / 32)
        (stage 32 (a.toNat % 32 * 256 + b.toNat) (c :: data)) := by
  have hreading : h.atStop.twi.reading = false := by simpa using hr
  unfold Hub.twiStop
  rw [if_pos hs, ho]
  exact if_neg (ne_true_of_eq_false hreading)

theorem Hub.twiStop_of_quick {a : Byte} {data : List Byte} (hs : h.twoWireServes = true) (ho : h.twi.open_ = .quick) (hr : h.twi.reading = false) :
    h.twiStop (a :: data) = (h.atStop.modTwi (fun x => { x with quickPointer := pageAfter 64 (a.toNat % 64) data.length })).commitQuick
      (stage 64 (a.toNat % 64) data) := by
  have hreading : h.atStop.twi.reading = false := by simpa using hr
  unfold Hub.twiStop
  rw [if_pos hs, ho]
  exact if_neg (ne_true_of_eq_false hreading)

theorem pageAfter_zero (size off : Nat) : pageAfter size off 0 = off := by
  unfold pageAfter
  rw [Nat.add_zero, Nat.mul_comm]
  exact Nat.div_add_mod off size

/-! ## A claim in the host view (R163, R164) -/

theorem Hub.restartSession_host (h : Hub) (k : Nat) : ∃ p, (h.restartSession k).host k = { h.host k with pausedLeft := p } := by
  unfold Hub.restartSession
  dsimp only
  split
  · exact ⟨none, by simp⟩
  · split
    · exact ⟨_, by rw [Hub.modHost_host, Hub.cancel_host]⟩
    · exact ⟨_, rfl⟩

theorem Hub.restartSession_host_other (h : Hub) {k m : Nat} (hm : m ≠ k) : (h.restartSession k).host m = h.host m := by
  unfold Hub.restartSession
  dsimp only
  split
  · simp [hm]
  · split
    · simp [hm]
    · rfl

theorem Hub.restartSession_besideAccess (h : Hub) (k : Nat) : (h.restartSession k).besideAccess = h.besideAccess := by
  unfold Hub.restartSession
  dsimp only
  split
  · rfl
  · split <;> rfl

theorem Hub.touch_host (h : Hub) (k : Nat) : ∃ p, (h.touch k).host k = { h.host k with pausedLeft := p } := by
  unfold Hub.touch
  split
  · exact h.restartSession_host k
  · exact ⟨_, rfl⟩

theorem Hub.touch_host_other (h : Hub) {k m : Nat} (hm : m ≠ k) : (h.touch k).host m = h.host m := by
  unfold Hub.touch
  split
  · exact h.restartSession_host_other hm
  · rfl

theorem Hub.alertSettle_host (h : Hub) (k : Nat) : h.alertSettle.host k = h.host k := by
  unfold Hub.alertSettle
  split <;> rfl

theorem Hub.alertSettle_besideAccess (h : Hub) : h.alertSettle.besideAccess = h.besideAccess := by
  unfold Hub.alertSettle
  split <;> rfl

/-- A host number once a claim by a free host is taken. -/
def HostSlot.claimedBy (x : HostSlot) (tag : Nat) : HostSlot := { x with claimed := true, tag := tag, result := 1, onTwoWire := true }

theorem Hub.claimNow_of_free {k tag : Nat} (hc : (h.host k).claimed = false) (ht : tag ≠ 0) :
    h.claimNow ⟨.twoWire, k⟩ tag = (h.modHost k (·.claimedBy tag)).restartSession k := by
  unfold Hub.claimNow
  dsimp only
  rw [if_neg ht, if_pos (by simp [hc])]
  rfl

/-- The bytes staged by a claim word, and the word they make. -/
theorem stage_claim (hi lo : Byte) : stage 32 16 [hi, lo, 0#8, 1#8] = [(16, hi), (17, lo), (18, 0#8), (19, 1#8)] := rfl

theorem wholeField_claim (hi lo : Byte) :
    wholeField [(16, hi), (17, lo), (18, 0#8), (19, 1#8)] 19 = some (65536 * (256 * hi.toNat + lo.toNat) + 1) := by
  refine congrArg some (?_ : ofBytes [hi, lo, 0#8, 1#8] = _)
  simp [ofBytes]
  omega

theorem Hub.claimWrite_of_claim {w : Who} {tag : Nat} (hr : h.sup.restarting = false) : h.claimWrite w (65536 * tag + 1) = h.claimNow w tag := by
  unfold Hub.claimWrite Hub.claimCommand
  rw [show (65536 * tag + 1) % 4 = 1 by omega, show (65536 * tag + 1) / 65536 = tag by omega]
  simp [hr]

/-- A commit of a claim word by a free host number: nothing but the claim acts. -/
theorem Hub.commitMain_of_claim {k : Nat} {hi lo : Byte} (hc : (h.host k).claimed = false) (hr : h.sup.restarting = false)
    (ht : 256 * hi.toNat + lo.toNat ≠ 0) : h.commitMain k (stage 32 16 [hi, lo, 0#8, 1#8]) =
      (((h.modHost k (·.claimedBy (256 * hi.toNat + lo.toNat))).restartSession k).touch k).alertSettle := by
  have hskip : ∀ st off b, off ≠ 19 → h.viewWrite k st off b = h := by
    intro st off b hoff
    unfold Hub.viewWrite
    rw [if_neg hoff, if_pos (by simp [Hub.claimed, hc])]
  have hclaim : h.viewWrite k [(16, hi), (17, lo), (18, 0#8), (19, 1#8)] 19 1#8 =
      (h.modHost k (·.claimedBy (256 * hi.toNat + lo.toNat))).restartSession k := by
    unfold Hub.viewWrite
    rw [if_pos rfl, wholeField_claim]
    exact (Hub.claimWrite_of_claim hr).trans (Hub.claimNow_of_free hc ht)
  unfold Hub.commitMain
  rw [stage_claim]
  dsimp only [List.foldl]
  rw [hskip _ 16 _ (by decide), hskip _ 17 _ (by decide), hskip _ 18 _ (by decide), hclaim]
  rfl

theorem Hub.modTwi_besidePanic (h : Hub) (f : Twi → Twi) : (h.modTwi f).besidePanic = h.besidePanic := rfl

theorem Hub.eq_of_besidePanic_besideTwi {d f h : Hub} (hd : d.besidePanic = f.besidePanic) (hf : f.besideTwi = h.besideTwi) :
    { d with twi := h.twi, pwr := h.pwr, timers := h.timers, outs := h.outs, hps := h.hps, spk := h.spk } = h :=
  (congrArg (fun k : Hub => { k with twi := h.twi, pwr := h.pwr, timers := h.timers, outs := h.outs, hps := h.hps, spk := h.spk }) hd :).trans
    (congrArg (fun k : Hub => { k with twi := h.twi, pwr := h.pwr, timers := h.timers, outs := h.outs, hps := h.hps, spk := h.spk }) hf :)

theorem Hub.commitQuick_of_mute (h : Hub) : h.commitQuick (stage 64 48 [0xA5#8]) = h.panicMute := rfl

end

/-- Settles O32: a START opens a view and a read moves its pointer; a STOP commits the bytes staged, which a claim word takes whole. -/
theorem twoWireTransactions : Obligations.TwoWireTransactions := by
  refine ⟨?write, ?read, ?quick, ?pointer, ?byte, ?mute, ?claim⟩
  case write =>
    intro s n hb hs h6 hp ha hf
    have hserves : s.hub.ServesStart := ⟨hb, hs, h6, hp, hf⟩
    have ht : s.hub.targetOf (0x30 + s.hub.twi.adr) = .main := if_pos rfl
    refine answers_of_start hserves ht (by decide) ?_
    rw [Hub.startServed_of_run hp, if_neg Bool.false_ne_true]
    obtain ⟨a, b, c, htwi⟩ := Hub.startOpened_twi (h := s.hub) .main false
    rw [htwi]
    exact ⟨rfl, rfl, rfl, rfl, Hub.eq_of_besideTwi (Hub.startOpened_besideTwi _ _)⟩
  case read =>
    intro s n hb hs h6 hp ha hf
    have hserves : s.hub.ServesStart := ⟨hb, hs, h6, hp, hf⟩
    have ht : s.hub.targetOf (0x30 + s.hub.twi.adr) = .main := if_pos rfl
    refine answers_of_start hserves ht (by decide) ?_
    rw [Hub.startServed_of_run hp, if_pos rfl]
    obtain ⟨a, b, c, htwi⟩ := Hub.startOpened_twi (h := s.hub) .main true
    have hrest := Hub.startOpened_besideTwi (h := s.hub) .main true
    generalize s.hub.startOpened .main true = g at htwi hrest
    simp only [Hub.serveRead, Hub.readMain, Hub.touch_twi, Hub.modTwi_twi, htwi]
    refine ⟨trivial, trivial, by simp, trivial, Hub.eq_of_besideAccess ?_⟩
    rw [Hub.touch_besideAccess, Hub.modTwi_besideAccess]
    exact Hub.besideAccess_of_besideTwi hrest
  case quick =>
    intro s n hb hs h6 hp ha hf
    have hserves : s.hub.ServesStart := ⟨hb, hs, h6, hp, hf⟩
    have ht : s.hub.targetOf (0x38 + s.hub.twi.adr) = .quick := by simp [Hub.targetOf, Hub.mainAddress, Hub.quickAddress]
    refine answers_of_start hserves ht (by decide) ?_
    rw [Hub.startServed_of_run hp, if_pos rfl]
    obtain ⟨a, b, c, htwi⟩ := Hub.startOpened_twi (h := s.hub) .quick true
    have hrest := Hub.startOpened_besideTwi (h := s.hub) .quick true
    generalize s.hub.startOpened .quick true = g at htwi hrest
    obtain ⟨hkeep, hlatch, hlen⟩ := Hub.readQuickFrom_keeps n g g.twi.quickPointer
    simp only [Hub.serveRead, Hub.readQuick, Hub.modTwi_twi]
    refine ⟨?_, hlen, ?_, Hub.eq_of_besideTwi ?_⟩
    · refine (congrArg Twi.open_ hlatch :).trans ?_
      rw [htwi]
      rfl
    · rw [htwi]
    · rw [Hub.modTwi_besideTwi, hkeep, hrest]
  case pointer =>
    intro s a b hs ho hr
    refine answers_of_always (f := (·.twiStop [a, b])) rfl ?_
    rw [Hub.twiStop_of_pointer hs ho hr, pageAfter_zero, Nat.mul_comm (a.toNat % 32)]
    refine ⟨by simp, by simp, Hub.eq_of_besideAccess ?_⟩
    rw [Hub.touch_besideAccess, Hub.modTwi_besideAccess]
    exact Hub.besideAccess_of_besideTwi (by simp)
  case byte =>
    intro s a hs ho hr
    refine answers_of_always (f := (·.twiStop [a])) rfl ?_
    rw [Hub.twiStop_of_byte hs ho hr]
    refine ⟨by simp [Hub.twiError], by simp [Hub.twiError], by simp [Hub.twiError], mem_withOne _ _, ?_⟩
    have hrest : s.hub.atStop.besideTwi = s.hub.besideTwi := by simp
    exact (congrArg (fun g : Hub => { g with twi := s.hub.twi, pwr := s.hub.pwr, timers := s.hub.timers, evDue := s.hub.evDue }) hrest :)
  case mute =>
    intro s hs ho hr hp
    refine answers_of_always (f := (·.twiStop [0x30#8, 0xA5#8])) rfl ?_
    rw [Hub.twiStop_of_quick hs ho hr]
    have hrest : s.hub.atStop.besideTwi = s.hub.besideTwi := by simp
    have hpanic : s.hub.atStop.twi.panic = false := by simpa using hp
    generalize s.hub.atStop = g at hrest hpanic
    generalize hf : g.modTwi _ = f
    have hfrest : f.besideTwi = s.hub.besideTwi := by
      rw [← hf, Hub.modTwi_besideTwi, hrest]
    have hfpointer : f.twi.quickPointer = 0x31 := by
      rw [← hf]
      rfl
    have hfpanic : f.twi.panic = false := by
      rw [← hf]
      exact hpanic
    rw [show (0x30#8).toNat % 64 = 48 from rfl, Hub.commitQuick_of_mute, Hub.panicMute_of_off hfpanic]
    have hptwi := Hub.panicked_twi Hub.outputPanic_withoutOutputs (f.modTwi (fun t => { t with panic := true })) 0
    have hprest := Hub.panicked_besidePanic Hub.outputPanic_withoutOutputs (f.modTwi (fun t => { t with panic := true })) 0
    generalize (f.modTwi (fun t => { t with panic := true })).panicked Hub.outputPanic 0 = d at hptwi hprest
    rw [hptwi]
    exact ⟨rfl, hfpointer, Hub.eq_of_besidePanic_besideTwi (hprest.trans (Hub.modTwi_besidePanic f _)) hfrest⟩
  case claim =>
    intro s k hi lo hs ho hr hk hc hsup ht
    refine answers_of_always (f := (·.twiStop [BitVec.ofNat 8 (32 * k), 0x10#8, hi, lo, 0#8, 1#8])) rfl ?_
    have hview : (BitVec.ofNat 8 (32 * k)).toNat = 32 * k := by
      rw [BitVec.toNat_ofNat]
      omega
    have hoff : 32 * k % 32 * 256 + (0x10#8).toNat = 16 := by simp
    rw [Hub.twiStop_of_main hs ho hr, hview, hoff, Nat.mul_div_cancel_left k (by decide)]
    have hrest : s.hub.atStop.besideTwi = s.hub.besideTwi := by simp
    have hhost : ∀ j, s.hub.atStop.host j = s.hub.host j := fun j => by simp
    generalize s.hub.atStop = g at hrest hhost
    generalize hf : g.modTwi _ = f
    have hfrest : f.besideTwi = s.hub.besideTwi := by
      rw [← hf, Hub.modTwi_besideTwi, hrest]
    have hfhost : ∀ j, f.host j = s.hub.host j := fun j => by rw [← hf, Hub.modTwi_host, hhost]
    have hfsup : f.sup.restarting = false := (congrArg (fun g : Hub => g.sup.restarting) hfrest :).trans hsup
    rw [Hub.commitMain_of_claim (by rw [hfhost, hc]) hfsup ht]
    obtain ⟨p, hp⟩ := Hub.restartSession_host (f.modHost k (·.claimedBy (256 * hi.toNat + lo.toNat))) k
    obtain ⟨q, hq⟩ := Hub.touch_host ((f.modHost k (·.claimedBy (256 * hi.toNat + lo.toNat))).restartSession k) k
    rw [Hub.alertSettle_host, hq, hp, Hub.modHost_host]
    refine ⟨rfl, rfl, rfl, rfl, fun j hj => ?_, Hub.eq_of_besideAccess ?_⟩
    · rw [Hub.alertSettle_host, Hub.touch_host_other _ hj, Hub.restartSession_host_other _ hj, Hub.modHost_host_other _ _ hj, hfhost]
    · rw [Hub.alertSettle_besideAccess, Hub.touch_besideAccess, Hub.restartSession_besideAccess]
      rw [Hub.modHost_besideAccess]
      exact Hub.besideAccess_of_besideTwi hfrest

/-! ## Faults of the bus, alert responses and Watch (R290 to R302) -/

section
variable {h : Hub}

theorem Hub.protocolError_of_serving {code : Nat} (hs : h.twoWireServes = true) : h.protocolError code = (h.twiError code).ungate := if_pos hs

theorem Hub.brstReset_of_high (hb : h.twi.brstLow = false) : h.brstReset = (h.portReset 5).modTwi (fun t => { t with brstLow := true }) :=
  if_neg (ne_true_of_eq_false hb)

theorem Hub.busTimeout_of_on (ht : h.timeoutOn = true) (hs : h.twoWireServes = true) : h.busTimeout = h.portReset 4 := if_pos (by simp [ht, hs])

/-- The hub that answers an alert response with its address. -/
def Hub.alertAnswered (h : Hub) : Hub := h.modTwi (fun t => { t with sent := [BitVec.ofNat 8 (2 * h.mainAddress)] })

theorem Hub.alertResponse_of_lost (hs : h.twoWireServes = true) (ha : h.twi.alertState = 1) : h.alertResponse true = h.alertAnswered :=
  if_pos (by simp [hs, ha])

theorem Hub.alertResponse_of_won (hs : h.twoWireServes = true) (ha : h.twi.alertState = 1) :
    h.alertResponse false =
      if h.live? 0xE000 4 = 0 then (h.alertAnswered.modTwi (fun t => { t with alertState := 2, araWins := (t.araWins + 1) % 4294967296 })).cancel .alertRepeat
      else (h.alertAnswered.modTwi (fun t => { t with alertState := 2, araWins := (t.araWins + 1) % 4294967296 })).start .alertRepeat (us (h.live? 0xE000 4)) :=
  if_pos (by simp [hs, ha])

theorem Hub.alertRepeat_of_due (hd : h.due .alertRepeat = true) :
    h.alertRepeat = (h.cancel .alertRepeat).modTwi (fun t => { t with alertState := if h.twoWireAlerting then 1 else 0 }) := Hub.whenDue_due hd

theorem Hub.watchAccess_of_watch (hw : h.pwr.state = 1) :
    h.watchAccess = (h.modPwr (fun p => { p with hostGate := true })).start .watchRegate (ms 50) := if_pos hw

theorem Hub.watchRegate_of_due (hr : h.commandRuns = false) (hd : h.due .watchRegate = true) :
    h.watchRegate = (h.cancel .watchRegate).modPwr (fun p => { p with hostGate := false }) :=
  (if_neg (ne_true_of_eq_false hr)).trans (Hub.whenDue_due hd)

end

/-- Settles O33: each row is an equation where its condition holds. -/
theorem twoWireFaultsAndAlerts : Obligations.TwoWireFaultsAndAlerts := by
  refine ⟨?error, ?low, ?high, ?timeout, ?won, ?lost, ?again, ?access, ?gate⟩
  case error =>
    intro s code h1 h3 hs
    refine answers_of_run (f := (·.protocolError code)) rfl (by simp [h1, h3]) ?_
    rw [Hub.protocolError_of_serving hs]
    refine ⟨by simp [Hub.twiError, satInc], (Hub.ungate_causes _ _ _).mpr (mem_withOne _ _), ?_⟩
    have hrest := (s.hub.twiError code).ungate_besideTwi
    generalize (s.hub.twiError code).ungate = g at hrest
    refine (congrArg (fun g : Hub => { g with twi := s.hub.twi, pwr := s.hub.pwr, timers := s.hub.timers, evDue := s.hub.evDue }) hrest :).trans ?_
    simp [Hub.twiError, Hub.modTwi, Hub.besideTwi]
  case low =>
    intro s hb
    refine answers_of_always (f := Hub.brstReset) rfl ?_
    rw [Hub.brstReset_of_high hb]
    exact ⟨by simp [Hub.portReset, satInc], mem_withOne _ _, by simp [Hub.portReset, Hub.modTwi]⟩
  case high =>
    intro s
    exact answers_of_always (f := Hub.brstRelease) rfl ⟨rfl, rfl⟩
  case timeout =>
    intro s ht hs
    refine answers_of_always (f := Hub.busTimeout) rfl ?_
    rw [Hub.busTimeout_of_on ht hs]
    exact ⟨by simp [Hub.portReset, satInc], mem_withOne _ _, by simp [Hub.portReset, Hub.modTwi]⟩
  case won =>
    intro s hs ha
    refine answers_of_always (f := (·.alertResponse false)) rfl ?_
    rw [Hub.alertResponse_of_won hs ha]
    split
    · exact ⟨by simp [Hub.alertAnswered, Hub.mainAddress], by simp, by simp [Hub.alertAnswered, Hub.modTwi]⟩
    · exact ⟨by simp [Hub.alertAnswered, Hub.mainAddress], by simp [Hub.alertAnswered, Hub.modTwi], by simp [Hub.alertAnswered, Hub.modTwi]⟩
  case lost =>
    intro s hs ha
    refine answers_of_always (f := (·.alertResponse true)) rfl ?_
    rw [Hub.alertResponse_of_lost hs ha]
    exact ⟨by simp [Hub.alertAnswered, Hub.mainAddress], by simp [Hub.alertAnswered, Hub.modTwi]⟩
  case again =>
    intro s hd
    refine answers_of_always (f := Hub.alertRepeat) rfl ?_
    rw [Hub.alertRepeat_of_due hd]
    exact ⟨by simp, (s.hub.cancel_deadline .alertRepeat), by simp [Hub.modTwi]⟩
  case access =>
    intro s hw
    refine answers_of_always (f := Hub.watchAccess) rfl ?_
    rw [Hub.watchAccess_of_watch hw]
    exact ⟨by simp [Hub.modPwr], by simp [ms, Hub.modPwr], by simp [Hub.modPwr]⟩
  case gate =>
    intro s hr hd
    refine answers_of_always (f := Hub.watchRegate) rfl ?_
    rw [Hub.watchRegate_of_due hr hd]
    exact ⟨by simp [Hub.modPwr], s.hub.cancel_deadline .watchRegate, by simp [Hub.modPwr]⟩

end Sys2Proof.Machine
end

section
/-! SUPPORT. The Tether link: links that change, and frames that are forwarded, dropped or answered (R306 to R311, R318). -/

namespace Sys2Proof.Machine

section
variable {h : Hub} {p : TetherPort}

/-! ## Links (R306, R325) -/

@[simp] theorem Hub.modTet_causes (f : Tether → Tether) (e : Nat) : (h.modTet f).causes e ↔ h.causes e := Iff.rfl

theorem Hub.notify_of_unassigned (ha : h.tet.address = 0xFF) (host : Nat) (bs : List Byte) : h.notify host bs = h := if_pos ha

/-- The event a port's link raises. -/
def linkEvent (p : TetherPort) : Nat := if p = .up then 100 else 101

/-- A port's link, set. -/
def Tether.setLink (t : Tether) (p : TetherPort) (up : Bool) : Tether :=
  match p with | .up => { t with upLink := up } | .down => { t with downLink := up }

theorem Hub.linkUp_setLink (up : Bool) : (h.modTet (·.setLink p up)).linkUp p = up := by cases p <;> rfl

theorem Hub.linkUp_setLink_other (up : Bool) : (h.modTet (·.setLink p up)).linkUp (otherPort p) = h.linkUp (otherPort p) := by cases p <;> rfl

theorem Tether.setLink_rest (t : Tether) (up : Bool) : (t.setLink p up).tx = t.tx ∧ (t.setLink p up).address = t.address := by
  cases p
  · exact ⟨rfl, rfl⟩
  · exact ⟨rfl, rfl⟩

theorem Hub.linkChange_up (hl : h.linkUp p = false) (ha : h.tet.address = 0xFF) :
    h.linkChange p true = (h.modTet (·.setLink p true)).cause (linkEvent p) := by
  unfold Hub.linkChange
  rw [if_neg (by simp [hl])]
  cases p
  · exact Hub.notify_of_unassigned (by exact ha) _ _
  · exact Hub.notify_of_unassigned (by exact ha) _ _

theorem Hub.linkChange_down (hl : h.linkUp p = true) (ha : h.tet.address = 0xFF) :
    h.linkChange p false =
      ((h.modTet (·.setLink p false)).modTet (fun t => { t with tx := t.tx.filter (fun f => decide (f.port ≠ p)) })).cause (linkEvent p) := by
  unfold Hub.linkChange
  rw [if_neg (by simp [hl])]
  cases p
  · exact Hub.notify_of_unassigned (by exact ha) _ _
  · exact Hub.notify_of_unassigned (by exact ha) _ _

theorem Hub.linkRow_of_powered (ho : h.tet.on = true) (hs : h.pwr.stable = false) (hb : 6 ≤ h.boot.step) (up : Bool) :
    h.linkRow p up = h.linkChange p up := if_neg (by simp [ho, hs]; omega)

/-! ## Frames (R307, R308, R311) -/

theorem Hub.modTet_congr {f g : Tether → Tether} (hf : f h.tet = g h.tet) : h.modTet f = h.modTet g := congrArg (fun t => { h with tet := t }) hf

/-- The frame that a forwarded one becomes on an idle port. -/
def forwarded (p : TetherPort) (bs : List Byte) : TxFrame := { port := p, kind := .forwarded, bytes := bs, left := 24 * (bs.length + 2), started := true }

theorem Hub.forward_of_idle (hl : h.linkUp p = true) (ht : h.transmits = true) (hx : h.tet.tx = []) (hb : h.bursting = false) (bs : List Byte) :
    h.forward p .forwarded bs false = h.modTet (fun t => { t with tx := [forwarded p bs] }) := by
  unfold Hub.forward Hub.transmit
  dsimp only
  rw [if_pos (by simp [hl, ht]), hx]
  refine (if_neg (by simp)).trans ((if_pos (by simp [hl, ht])).trans ?_)
  refine Hub.modTet_congr ?_
  rw [hx, hb]
  simp [txInsert, txLength, forwarded]

theorem Hub.byDest_of_own (hr : h.receives p = true) {dest : Nat} (ho : h.isOwn dest = true) (bs : List Byte) (f : Hub → Hub) :
    h.byDest p dest bs f = f h := by
  unfold Hub.byDest
  rw [if_neg (by simp [hr]), if_pos ho]

theorem Hub.byDest_of_other (hr : h.receives p = true) {dest : Nat} (ho : h.isOwn dest = false) (hd : dest ≠ 63) (bs : List Byte) (f : Hub → Hub) :
    h.byDest p dest bs f = h.forward (otherPort p) .forwarded bs false := by
  unfold Hub.byDest
  rw [if_neg (by simp [hr]), if_neg (by simp [ho]), if_neg hd]

/-- A whole frame that is no roll call held until its end and no SYNC for everyone goes by its DEST. -/
theorem Hub.frameReceive_of_whole {bs : List Byte} (hr : h.receives p = true) (ho : frameOk bs = true) (hh : isHeldRoll p bs = false)
    (hs : ¬ (frameAt bs 3 = 5 ∧ frameAt bs 0 = 63)) (a : Nat) :
    h.frameReceive p ⟨bs, .eof, a⟩ = h.byDest p (frameAt bs 0) bs (fun h => h.consume p bs) := by
  unfold Hub.frameReceive
  dsimp only
  rw [if_neg (by simp [hr]), if_neg (by simp [ho]), if_neg (by simp [hh]), if_neg hs]

theorem Hub.frameReceive_of_violation {bs : List Byte} (hr : h.receives p = true) (ho : h.isOwn (frameAt bs 0) = true) (a : Nat) :
    h.frameReceive p ⟨bs, .violation, a⟩ = h.frameError := by
  have hown : h.frameError.isOwn (frameAt bs 0) = true := by
    rw [← ho]
    simp [Hub.isOwn, Hub.frameError, Hub.episode_eq, Hub.modTet]
  unfold Hub.frameReceive
  dsimp only
  rw [if_neg (by simp [hr]), if_pos (Or.inl rfl)]
  unfold Hub.faultyFrame
  exact if_pos (by rw [hown]; rfl)

theorem Hub.frameReceive_of_abort (bs : List Byte) (a : Nat) : h.frameReceive p ⟨bs, .abortEnd, a⟩ = h := if_pos (Or.inr rfl)

theorem Hub.linkUp_of_receives (hr : h.receives p = true) : h.linkUp p = true := by
  unfold Hub.receives at hr
  simp only [Bool.and_eq_true] at hr
  exact hr.1.1.1

theorem Hub.echoRow_of_ready (hr : h.receives p = true) (ht : h.transmits = true) :
    h.echoRow p = h.modTet (fun t => { t with tx := { port := p, kind := .echoRsp, bytes := [], left := 48, started := true } :: t.tx }) :=
  (if_pos hr).trans (if_pos (by simp [Hub.linkUp_of_receives hr, ht]))

end

/-- Settles O34: a link that changes sets its own flag; a frame goes by its ending, its checks and its DEST. -/
theorem tetherLinksAndFrames : Obligations.TetherLinksAndFrames := by
  refine ⟨?up, ?down, ?passed, ?faulty, ?aborted, ?echo⟩
  case up =>
    intro s p ho hs hb hl ha
    refine answers_of_always (f := (·.linkRow p true)) rfl ?_
    rw [Hub.linkRow_of_powered ho hs hb, Hub.linkChange_up hl ha]
    exact ⟨Hub.linkUp_setLink true, Hub.linkUp_setLink_other true, (Tether.setLink_rest _ _).1, Hub.cause_causes _ _ _, by simp [Hub.modTet]⟩
  case down =>
    intro s p hl ha
    refine answers_of_always (f := (·.linkRow p false)) rfl ?_
    rw [show s.hub.linkRow p false = s.hub.linkChange p false from if_neg (by simp), Hub.linkChange_down hl ha]
    refine ⟨Hub.linkUp_setLink false, fun f => ?_, Hub.cause_causes _ _ _, by simp [Hub.modTet]⟩
    rw [Hub.cause_tet]
    simp [Hub.modTet, (Tether.setLink_rest (p := p) _ _).1]
  case passed =>
    intro s p bs a hr hok hh hd ho hl ht hx hb
    refine answers_of_always (f := (·.frameReceive p ⟨bs, .eof, a⟩)) rfl ?_
    rw [Hub.frameReceive_of_whole hr hok hh (fun hq => hd hq.2), Hub.byDest_of_other hr ho hd, Hub.forward_of_idle hl ht hx hb]
    exact ⟨rfl, rfl⟩
  case faulty =>
    intro s p bs a hr ho
    refine answers_of_always (f := (·.frameReceive p ⟨bs, .violation, a⟩)) rfl ?_
    rw [Hub.frameReceive_of_violation hr ho, Hub.frameError, Hub.episode_eq]
    refine ⟨by simp [Hub.modTet, satInc], by simp [secs, Hub.modTet], fun he => ?_, by simp [Hub.modTet]⟩
    rw [Hub.startsEpisode_of_not_armed (by exact he)]
    exact Hub.cause_causes _ _ _
  case aborted =>
    intro s p bs a
    exact answers_of_always (f := (·.frameReceive p ⟨bs, .abortEnd, a⟩)) rfl (Hub.frameReceive_of_abort bs a)
  case echo =>
    intro s p hr ht
    refine answers_of_always (f := (·.echoRow p)) rfl ?_
    rw [Hub.echoRow_of_ready hr ht]
    exact ⟨rfl, rfl⟩

end Sys2Proof.Machine
end

section
/-! SUPPORT. The command path and the acceptance of a write: what a command leaves of the hub, and what a row's kind makes of its value
(R264 to R272). -/

namespace Sys2Proof.Machine

/-! ## What a command leaves of the hub (R268, R300) -/

section
variable (h : Hub)

/-- The hub after a command: the alert line settled, and the outcome in the mailbox. -/
def Hub.answered (g : Hub) (w : Who) (x : Nat × Nat × List Byte) : Hub := g.alertSettle.modMailbox w (fun m => { m with outcome := some x })

theorem Hub.alertSettle_besideCommand (o : Hub) : h.alertSettle.besideCommand o = h.besideCommand o := by
  unfold Hub.alertSettle
  split <;> rfl

theorem Hub.modMailbox_besideCommand (o : Hub) (w : Who) (f : Mailbox → Mailbox) : (h.modMailbox w f).besideCommand o = h.besideCommand o :=
  (congrArg (fun g : Hub => g.besideCommand o) (h.modMailbox_rest w f) :)

theorem Hub.answered_besideCommand (o : Hub) (w : Who) (x : Nat × Nat × List Byte) : (h.answered w x).besideCommand o = h.besideCommand o :=
  (Hub.modMailbox_besideCommand _ o w _).trans (h.alertSettle_besideCommand o)

theorem Hub.alertSettle_mailbox (w : Who) : h.alertSettle.mailbox w = h.mailbox w := by
  unfold Hub.alertSettle
  split <;> rfl

theorem Hub.answered_mailbox (w : Who) (x : Nat × Nat × List Byte) : (h.answered w x).mailbox w = { h.mailbox w with outcome := some x } := by
  rw [Hub.answered, Hub.modMailbox_mailbox, Hub.alertSettle_mailbox]

theorem Hub.modMailbox_deadline (w : Who) (f : Mailbox → Mailbox) (t : Timer) : (h.modMailbox w f).deadline t = h.deadline t :=
  (congrArg (fun g : Hub => g.deadline t) (h.modMailbox_rest w f) :)

theorem Hub.answered_deadline (w : Who) (x : Nat × Nat × List Byte) {t : Timer} (ht : t ≠ .alertRepeat) : (h.answered w x).deadline t = h.deadline t :=
  (Hub.modMailbox_deadline _ w _ t).trans (h.alertSettle_deadline ht)

end

section
variable {s : State} {i : Instr} {ok : Bool} {w : Who} {r : Request} {P : Hub → Prop} {Q : Hub → Hub → Prop}

/-- A command that is taken is processed on the hub that took it. -/
theorem answers_of_command (he : exec i s = run ok (fun h => h.rowCommand s.snap w r) s) (hok : ok = true) (ht : s.hub.takes w)
    (hp : P ((s.hub.opened w r).process s.snap w r)) : Answers i s P := by
  refine answers_of_run he hok ?_
  rw [Hub.rowCommand_of_takes ht]
  exact hp

/-- A command that does not wait ends with what it answers. -/
theorem Hub.process_of_answer {o snap g : Hub} {x : Nat × Nat × List Byte} (ha : o.answer snap w r = (x, g)) (hw : (g.mailbox w).waiting = .none) :
    o.process snap w r = g.answered w x := by
  unfold Hub.process
  rw [ha]
  exact if_pos (by rw [Hub.alertSettle_mailbox, hw])

/-- The hub that a command leaves, `g` being what it makes of the hub that took it. -/
structure Hub.Left (g o : Hub) (w : Who) (h : Hub) : Prop where
  rest : h.besideCommand o = g.besideCommand o
  deadline : ∀ t, t ≠ .alertRepeat → h.deadline t = g.deadline t

theorem Hub.left_answered (g o : Hub) (w : Who) (x : Nat × Nat × List Byte) : Hub.Left g o w (g.answered w x) :=
  ⟨g.answered_besideCommand o w x, fun _ ht => g.answered_deadline w x ht⟩

/-- A command that leaves its mailbox alone answers with its outcome. -/
theorem answers_of_answer {g : Hub} {x : Nat × Nat × List Byte} (he : exec i s = run ok (fun h => h.rowCommand s.snap w r) s) (hok : ok = true)
    (ht : s.hub.takes w) (ha : (s.hub.opened w r).answer s.snap w r = (x, g)) (hm : g.mailbox w = (s.hub.opened w r).mailbox w)
    (hp : ∀ h, Hub.Left g (s.hub.opened w r) w h → (h.mailbox w).result = 1 → (h.mailbox w).outcome = some x → P h) : Answers i s P := by
  obtain ⟨hresult, -, hwait⟩ := s.hub.opened_mailbox w r
  refine answers_of_command he hok ht ?_
  rw [Hub.process_of_answer ha (by rw [hm, hwait])]
  refine hp _ (Hub.left_answered _ _ _ _) ?_ ?_
  · rw [Hub.answered_mailbox, hm]
    exact hresult
  · rw [Hub.answered_mailbox]

theorem answersData_of_answer {g : Hub} {ty : Nat} {data : List Byte} (he : exec i s = run ok (fun h => h.rowCommand s.snap w r) s) (hok : ok = true)
    (ht : s.hub.takes w) (ha : (s.hub.opened w r).answer s.snap w r = ((0, ty, data), g)) (hm : g.mailbox w = (s.hub.opened w r).mailbox w)
    (hq : ∀ h, Hub.Left g (s.hub.opened w r) w h → Q (s.hub.opened w r) h) : AnswersData i w r s ty data Q :=
  answers_of_answer he hok ht ha hm (fun h hl hr ho => ⟨⟨hr, ho⟩, hq h hl⟩)

/-- A write that is accepted, and leaves its mailbox alone, succeeds. -/
theorem actsAtOnce_of_write {g : Hub} (he : exec i s = run ok (fun h => h.rowCommand s.snap w r) s) (hok : ok = true) (ht : s.hub.takes w)
    (hv : r.valid = true) (hc : r.cmd = 2) (hw : (s.hub.opened w r).writeObject w r.idx r.sub r.ty r.data = (0, g))
    (hm : g.mailbox w = (s.hub.opened w r).mailbox w) (hq : ∀ h, Hub.Left g (s.hub.opened w r) w h → Q (s.hub.opened w r) h) :
    ActsAtOnce i w r s Q := by
  refine answersData_of_answer he hok ht ?_ hm hq
  unfold Hub.answer
  rw [if_neg (by simp [hv]), hc]
  dsimp only
  rw [hw]
  rfl

end

/-! ## Acceptance (R266, R267) -/

/-- A write of this access clears bits or a counter, and sets nothing. -/
def Acc.clears : Acc → Bool
  | .w1c _ | .w1cHost | .zeroOnly => true
  | _ => false

/-- The dictionary with a value recorded, where it holds the object's. -/
def Hub.recordIf (h : Hub) (c : Bool) (k v : Nat) : Hub := if c then { h with objs := tput h.objs k v } else h

/-- The same in force. -/
def Hub.forceIf (h : Hub) (c : Bool) (k v : Nat) : Hub := if c then { h with live := tput h.live k v } else h

section
variable {h : Hub} {w : Who} {idx sub ty : Nat} {data : List Byte} {b : Blk} {r : Row}

/-- A row whose write acts at acceptance. -/
theorem Hub.accept_of_atOnce (hd : describe idx sub = some (b, r)) (hc : r.acc.clears = false) (hb : ∀ k, b = .bus k → h.bankMode w.host = false)
    (ha : actsAtOnce b r sub = true) (hn : ∀ g : Hub, g.onAccept b sub = g) :
    h.accept w idx sub data =
      (((((h.recordIf (recorded b r sub) (key idx sub) (settingValue b data)).forceIf (recorded b r sub) (key idx sub) (settingValue b data)).commandNow
        w b sub (settingValue b data) data).inForce b sub (settingValue b data) (h.live? idx sub)), []) := by
  unfold Hub.accept
  rw [hd]
  dsimp only
  split
  · next hacc => rw [hacc] at hc; cases hc
  · next hacc => rw [hacc] at hc; cases hc
  · next hacc => rw [hacc] at hc; cases hc
  · split
    · next k hm => simp [hb k rfl] at hm
    · rw [hn, if_pos ha]
      rfl

/-- A row whose write waits for its boundary. -/
theorem Hub.accept_of_waiting (hd : describe idx sub = some (b, r)) (hc : r.acc.clears = false) (hb : ∀ k, b = .bus k → h.bankMode w.host = false)
    (ha : actsAtOnce b r sub = false) (hr : r.cls < 3) (hp : ∀ p, b = .port p → sub ≠ 0x10) :
    h.accept w idx sub data =
      ((h.recordIf (recorded b r sub) (key idx sub) (settingValue b data)).onAccept b sub, [⟨key idx sub, settingValue b data⟩]) := by
  unfold Hub.accept
  rw [hd]
  dsimp only
  split
  · next hacc => rw [hacc] at hc; cases hc
  · next hacc => rw [hacc] at hc; cases hc
  · next hacc => rw [hacc] at hc; cases hc
  · split
    · next k hm => simp [hb k rfl] at hm
    · rw [if_neg (by simp [ha]), if_neg (by omega)]
      split
      · next p hsub _ => exact absurd (of_decide_eq_true hsub) (hp p rfl)
      · rfl

/-! ## A WRITE (R264 to R267) -/

theorem Hub.writeObject_of_refused {code : Nat} (ha : h.writeAbort w.host idx sub ty data = code) (hc : code ≠ 0) :
    h.writeObject w idx sub ty data = (code, h.refusal idx sub code data) := by
  unfold Hub.writeObject
  dsimp only
  rw [ha]
  exact if_pos hc

theorem Hub.writeObject_of_atOnce {g : Hub} (ha : h.writeAbort w.host idx sub ty data = 0) (hg : h.accept w idx sub data = (g, [])) :
    h.writeObject w idx sub ty data = (0, g) := by
  unfold Hub.writeObject
  dsimp only
  rw [ha, hg]
  rfl

theorem Hub.writeObject_of_waiting {g : Hub} {ws : List Wr} (ha : h.writeAbort w.host idx sub ty data = 0) (hg : h.accept w idx sub data = (g, ws))
    (hw : ws ≠ []) (hd : describe idx sub = some (b, r)) : h.writeObject w idx sub ty data =
      (0, if r.cls = 1 then { g.acceptOutputs h (batchOutputs ws) with frameQ := (g.acceptOutputs h (batchOutputs ws)).frameQ ++ ws }
        else { g.acceptOutputs h (batchOutputs ws) with batches := (g.acceptOutputs h (batchOutputs ws)).batches ++ [ws] }) := by
  have hws : ws.isEmpty = false := by simpa using hw
  unfold Hub.writeObject
  dsimp only
  rw [ha, hg]
  dsimp only
  rw [hws, hd]
  by_cases hc : r.cls = 1
  · simp [hc]
  · simp [hc]

end

/-! ## Bytes of a value (R11) -/

theorem toBytes_succ (n v : Nat) : toBytes (n + 1) v = toBytes n (v / 256) ++ [BitVec.ofNat 8 v] := by
  unfold toBytes
  rw [List.range_succ, List.map_append]
  congr 1
  · refine List.map_congr_left fun i hi => ?_
    have hlt : i < n := List.mem_range.mp hi
    rw [Nat.div_div_eq_div_mul, ← Nat.pow_succ', show n + 1 - 1 - i = n - 1 - i + 1 by omega]
  · simp

theorem ofBytes_append_byte (l : List Byte) (b : Byte) : ofBytes (l ++ [b]) = ofBytes l * 256 + b.toNat := by
  unfold ofBytes
  rw [List.foldl_append]
  rfl

theorem ofBytes_toBytes {n v : Nat} (hv : v < 256 ^ n) : ofBytes (toBytes n v) = v := by
  induction n generalizing v with
  | zero =>
    have hz : v = 0 := by simpa using hv
    rw [hz]
    rfl
  | succ n ih =>
    have hd : v / 256 < 256 ^ n := by
      rw [Nat.div_lt_iff_lt_mul (by decide), ← Nat.pow_succ]
      exact hv
    rw [toBytes_succ, ofBytes_append_byte, ih hd, BitVec.toNat_ofNat]
    omega

@[simp] theorem length_toBytes (n v : Nat) : (toBytes n v).length = n := by simp [toBytes]

/-! ## The tables of the indices (R274) -/

theorem describe_of_block {idx sub : Nat} {b : Blk} (hb : blockOf idx = some b) (hs : 0 < sub) :
    describe idx sub = (rowIn b.rows sub).map (fun r => (b, r)) := by
  unfold describe
  rw [hb]
  exact if_neg (Nat.pos_iff_ne_zero.mp hs)

/-- A row whose acceptance has no effect beside the dictionary. -/
def Blk.quiet (b : Blk) (sub : Nat) : Bool :=
  match b with
  | .port _ => decide (0x10 < sub)
  | .hmute => decide (4 < sub)
  | .outCfg _ => decide (3 < sub)
  | .name => false
  | _ => true

theorem Hub.onAccept_of_quiet (h : Hub) {b : Blk} {sub : Nat} (hq : b.quiet sub = true) : h.onAccept b sub = h := by
  unfold Hub.onAccept
  split
  · have hsub := of_decide_eq_true hq
    exact if_neg (by omega)
  · have hsub := of_decide_eq_true hq
    exact if_neg (by omega)
  · rfl

theorem settingValue_of_quiet {b : Blk} {sub : Nat} (hq : b.quiet sub = true) (data : List Byte) : settingValue b data = ofBytes data := by
  unfold settingValue
  split
  · cases hq
  · rfl

theorem key_div {idx sub : Nat} (hs : sub < 256) : key idx sub / 256 = idx := by
  unfold key
  omega

theorem key_mod {idx sub : Nat} (hs : sub < 256) : key idx sub % 256 = sub := by
  unfold key
  omega

/-- A write to anything but MODE, RANGE or WIRING flushes no queue. -/
theorem batchOutputs_of_quiet {idx sub v : Nat} {b : Blk} (hb : blockOf idx = some b) (hs : sub < 256) (hq : b.quiet sub = true) :
    batchOutputs [⟨key idx sub, v⟩] = [] := by
  simp only [batchOutputs, List.foldl, key_div hs, key_mod hs, hb]
  split
  · next n he =>
    have hsub : b.quiet sub = decide (3 < sub) := by rw [Option.some.inj he]; rfl
    rw [hsub] at hq
    exact if_neg (by simpa using hq)
  · rfl

theorem blockOf_of_describe {idx sub : Nat} {b : Blk} {r : Row} (hd : describe idx sub = some (b, r)) : blockOf idx = some b := by
  unfold describe at hd
  split at hd
  · cases hd
  · next c hc =>
    rw [hc]
    split at hd
    · exact congrArg (fun e => some e.1) (Option.some.inj hd)
    · obtain ⟨x, -, hx⟩ := Option.map_eq_some_iff.mp hd
      exact congrArg (fun e => some e.1) hx

theorem objectBytes_of_describe {idx sub : Nat} {b : Blk} {r : Row} (hd : describe idx sub = some (b, r)) (v : Nat) :
    objectBytes idx sub v = toBytes r.ty.bytes v := by
  unfold objectBytes
  rw [hd]

/-! ## A row of the frame or the block class (R266, R267) -/

/-- Where an accepted write waits: for the frame boundary, or as a batch of its own. -/
def Hub.await (h : Hub) (frame : Bool) (ws : List Wr) : Hub :=
  if frame then { h with frameQ := h.frameQ ++ ws } else { h with batches := h.batches ++ [ws] }

section
variable {h : Hub} {w : Who} {idx sub ty : Nat} {data : List Byte} {b : Blk} {r : Row}

/-- A write of the frame or the block class, of a row without effects of its own. -/
theorem Hub.writeObject_of_quiet (ha : h.writeAbort w.host idx sub ty data = 0) (hd : describe idx sub = some (b, r)) (hs : sub < 256)
    (hc : r.acc.clears = false) (hq : b.quiet sub = true) (hb : ∀ k, b = .bus k → h.bankMode w.host = false) (hact : actsAtOnce b r sub = false)
    (hr : r.cls < 3) :
    h.writeObject w idx sub ty data =
      (0, (h.recordIf (recorded b r sub) (key idx sub) (ofBytes data)).await (decide (r.cls = 1)) [⟨key idx sub, ofBytes data⟩]) := by
  have hp : ∀ p, b = .port p → sub ≠ 0x10 := by
    rintro p rfl rfl
    cases hq
  have hg := Hub.accept_of_waiting (w := w) (data := data) hd hc hb hact hr hp
  rw [Hub.onAccept_of_quiet _ hq, settingValue_of_quiet hq] at hg
  rw [Hub.writeObject_of_waiting ha hg (List.cons_ne_nil _ _) hd, batchOutputs_of_quiet (blockOf_of_describe hd) hs hq]
  by_cases hcls : r.cls = 1
  · rw [if_pos hcls, decide_eq_true hcls]
    rfl
  · rw [if_neg hcls, decide_eq_false hcls]
    rfl

/-- A write of the immediate class, of a row without effects of its own at acceptance. -/
theorem Hub.writeObject_of_immediate (ha : h.writeAbort w.host idx sub ty data = 0) (hd : describe idx sub = some (b, r))
    (hc : r.acc.clears = false) (hq : b.quiet sub = true) (hb : ∀ k, b ≠ .bus k) (hact : actsAtOnce b r sub = true) :
    h.writeObject w idx sub ty data =
      (0, ((((h.recordIf (recorded b r sub) (key idx sub) (ofBytes data)).forceIf (recorded b r sub) (key idx sub) (ofBytes data)).commandNow
        w b sub (ofBytes data) data).inForce b sub (ofBytes data) (h.live? idx sub))) := by
  have hg := Hub.accept_of_atOnce (h := h) (w := w) (data := data) hd hc (fun k hk => absurd hk (hb k)) hact (fun g => g.onAccept_of_quiet hq)
  rw [settingValue_of_quiet hq] at hg
  exact Hub.writeObject_of_atOnce ha hg

end

/-! ## The hub that took a command -/

section
variable (h : Hub) (w : Who) (r : Request)

@[simp] theorem Hub.opened_objs : (h.opened w r).objs = h.objs := (congrArg Hub.objs (h.opened_rest w r) :)
@[simp] theorem Hub.opened_live : (h.opened w r).live = h.live := (congrArg Hub.live (h.opened_rest w r) :)
@[simp] theorem Hub.opened_batches : (h.opened w r).batches = h.batches := (congrArg Hub.batches (h.opened_rest w r) :)
@[simp] theorem Hub.opened_frameQ : (h.opened w r).frameQ = h.frameQ := (congrArg Hub.frameQ (h.opened_rest w r) :)
@[simp] theorem Hub.opened_now : (h.opened w r).now = h.now := (congrArg Hub.now (h.opened_rest w r) :)
@[simp] theorem Hub.opened_supply : (h.opened w r).supply = h.supply := (congrArg Hub.supply (h.opened_rest w r) :)
@[simp] theorem Hub.opened_store : (h.opened w r).store = h.store := (congrArg Hub.store (h.opened_rest w r) :)
@[simp] theorem Hub.opened_sup : (h.opened w r).sup = h.sup := (congrArg Hub.sup (h.opened_rest w r) :)
@[simp] theorem Hub.opened_bankMode (k : Nat) : (h.opened w r).bankMode k = h.bankMode k := (congrArg (fun g : Hub => g.bankMode k) (h.opened_rest w r) :)
@[simp] theorem Hub.opened_live? (idx sub : Nat) : (h.opened w r).live? idx sub = h.live? idx sub :=
  (congrArg (fun g : Hub => g.live? idx sub) (h.opened_rest w r) :)

end

section
variable (h : Hub)

theorem Hub.await_mailbox (frame : Bool) (ws : List Wr) (w : Who) : (h.await frame ws).mailbox w = h.mailbox w := by
  unfold Hub.await
  split <;> rfl

theorem Hub.recordIf_mailbox (c : Bool) (k v : Nat) (w : Who) : (h.recordIf c k v).mailbox w = h.mailbox w := by
  unfold Hub.recordIf
  split <;> rfl

theorem Hub.forceIf_mailbox (c : Bool) (k v : Nat) (w : Who) : (h.forceIf c k v).mailbox w = h.mailbox w := by
  unfold Hub.forceIf
  split <;> rfl

end

/-! ## A row that writes one object -/

/-- The object's row waits for the boundary of class `cls`, without effects of its own at acceptance; `rec` where the dictionary holds its value. -/
structure WaitsFor (idx sub : Nat) (b : Blk) (r : Row) (cls : Nat) (rec : Bool) : Prop where
  described : describe idx sub = some (b, r)
  small : sub < 256
  sets : r.acc.clears = false
  quiet : b.quiet sub = true
  waits : actsAtOnce b r sub = false
  cls : r.cls = cls
  recorded : recorded b r sub = rec

section
variable {s : State} {i : Instr} {ok : Bool} {w : Who} {idx sub v : Nat} {b : Blk} {r : Row} {Q : Hub → Hub → Prop}

/-- A row whose write is accepted with `g`, and leaves its mailbox alone. -/
theorem actsAtOnce_of_row {g : Hub} (he : exec i s = runWrite ok w idx sub v s) (hok : ok = true) (ha : s.hub.admits w idx sub v)
    (hw : (s.hub.opened w (writeOf idx sub v)).writeObject w idx sub 0 (objectBytes idx sub v) = (0, g))
    (hm : g.mailbox w = (s.hub.opened w (writeOf idx sub v)).mailbox w)
    (hq : ∀ h, Hub.Left g (s.hub.opened w (writeOf idx sub v)) w h → Q (s.hub.opened w (writeOf idx sub v)) h) :
    ActsAtOnce i w (writeOf idx sub v) s Q := by
  obtain ⟨ht, -⟩ := ha
  exact actsAtOnce_of_write (r := writeOf idx sub v) he (by rw [hok, ht.1]; rfl) ht rfl rfl hw hm hq

/-- A row of the immediate class, without effects of its own at acceptance. -/
theorem actsAtOnce_of_immediate {g : Hub} (he : exec i s = runWrite ok w idx sub v s) (hok : ok = true) (ha : s.hub.admits w idx sub v)
    (hd : describe idx sub = some (b, r)) (hc : r.acc.clears = false) (hq : b.quiet sub = true) (hb : ∀ k, b ≠ .bus k)
    (hact : actsAtOnce b r sub = true) (hv : v < 256 ^ r.ty.bytes)
    (hg : ((((s.hub.opened w (writeOf idx sub v)).recordIf (recorded b r sub) (key idx sub) v).forceIf (recorded b r sub) (key idx sub) v).commandNow
      w b sub v (toBytes r.ty.bytes v)).inForce b sub v (s.hub.live? idx sub) = g)
    (hm : g.mailbox w = (s.hub.opened w (writeOf idx sub v)).mailbox w)
    (hQ : ∀ h, Hub.Left g (s.hub.opened w (writeOf idx sub v)) w h → Q (s.hub.opened w (writeOf idx sub v)) h) :
    ActsAtOnce i w (writeOf idx sub v) s Q := by
  refine actsAtOnce_of_row he hok ha ?_ hm hQ
  rw [Hub.writeObject_of_immediate ha.2 hd hc hq hb hact, objectBytes_of_describe hd, ofBytes_toBytes hv, Hub.opened_live?, hg]

/-- A setting of the block class, of a row without effects of its own. -/
theorem writesAsBatch_of_row (he : exec i s = runWrite ok w idx sub v s) (hok : ok = true) (ha : s.hub.admits w idx sub v)
    (hrow : WaitsFor idx sub b r 2 true) (hb : ∀ k, b ≠ .bus k) (hv : v < 256 ^ r.ty.bytes) : WritesAsBatch i w idx sub v s := by
  obtain ⟨hd, hs, hc, hq, hact, hr, hrec⟩ := hrow
  have hw := Hub.writeObject_of_quiet ha.2 hd hs hc hq (fun k hk => absurd hk (hb k)) hact (by omega)
  rw [objectBytes_of_describe hd, ofBytes_toBytes hv, hrec, decide_eq_false (by omega), ← objectBytes_of_describe hd] at hw
  refine actsAtOnce_of_row he hok ha hw ((Hub.await_mailbox _ _ _ _).trans (Hub.recordIf_mailbox _ _ _ _ _))
    (Q := fun o h => h.objs = tput s.hub.objs (key idx sub) v ∧ h.batches = s.hub.batches ++ [[⟨key idx sub, v⟩]] ∧
      { h.besideCommand o with objs := s.hub.objs, batches := s.hub.batches } = o) fun h hl => ⟨?_, ?_, ?_⟩
  · rw [← Hub.opened_objs s.hub w (writeOf idx sub v)]
    exact (congrArg Hub.objs hl.rest :)
  · rw [← Hub.opened_batches s.hub w (writeOf idx sub v)]
    exact (congrArg Hub.batches hl.rest :)
  · rw [hl.rest, ← Hub.opened_objs s.hub w (writeOf idx sub v), ← Hub.opened_batches s.hub w (writeOf idx sub v)]
    rfl

/-- A setting of the frame class, of a row without effects of its own. -/
theorem writesForFrame_of_row (he : exec i s = runWrite ok w idx sub v s) (hok : ok = true) (ha : s.hub.admits w idx sub v)
    (hrow : WaitsFor idx sub b r 1 true) (hb : ∀ k, b = .bus k → s.hub.bankMode w.host = false) (hv : v < 256 ^ r.ty.bytes) :
    WritesForFrame i w idx sub v s := by
  obtain ⟨hd, hs, hc, hq, hact, hr, hrec⟩ := hrow
  have hw := Hub.writeObject_of_quiet ha.2 hd hs hc hq (fun k hk => (Hub.opened_bankMode _ _ _ _).trans (hb k hk)) hact (by omega)
  rw [objectBytes_of_describe hd, ofBytes_toBytes hv, hrec, decide_eq_true hr, ← objectBytes_of_describe hd] at hw
  refine actsAtOnce_of_row he hok ha hw ((Hub.await_mailbox _ _ _ _).trans (Hub.recordIf_mailbox _ _ _ _ _))
    (Q := fun o h => h.objs = tput s.hub.objs (key idx sub) v ∧ h.frameQ = s.hub.frameQ ++ [⟨key idx sub, v⟩] ∧
      { h.besideCommand o with objs := s.hub.objs, frameQ := s.hub.frameQ } = o) fun h hl => ⟨?_, ?_, ?_⟩
  · rw [← Hub.opened_objs s.hub w (writeOf idx sub v)]
    exact (congrArg Hub.objs hl.rest :)
  · rw [← Hub.opened_frameQ s.hub w (writeOf idx sub v)]
    exact (congrArg Hub.frameQ hl.rest :)
  · rw [hl.rest, ← Hub.opened_objs s.hub w (writeOf idx sub v), ← Hub.opened_frameQ s.hub w (writeOf idx sub v)]
    rfl

/-- A command of the block class, of a row without effects of its own. -/
theorem commandsAsBatch_of_row (he : exec i s = runWrite ok w idx sub v s) (hok : ok = true) (ha : s.hub.admits w idx sub v)
    (hrow : WaitsFor idx sub b r 2 false) (hb : ∀ k, b ≠ .bus k) (hv : v < 256 ^ r.ty.bytes) : CommandsAsBatch i w idx sub v s := by
  obtain ⟨hd, hs, hc, hq, hact, hr, hrec⟩ := hrow
  have hw := Hub.writeObject_of_quiet ha.2 hd hs hc hq (fun k hk => absurd hk (hb k)) hact (by omega)
  rw [objectBytes_of_describe hd, ofBytes_toBytes hv, hrec, decide_eq_false (by omega), ← objectBytes_of_describe hd] at hw
  refine actsAtOnce_of_row he hok ha hw ((Hub.await_mailbox _ _ _ _).trans (Hub.recordIf_mailbox _ _ _ _ _))
    (Q := fun o h => h.batches = s.hub.batches ++ [[⟨key idx sub, v⟩]] ∧ { h.besideCommand o with batches := s.hub.batches } = o)
    fun h hl => ⟨?_, ?_⟩
  · rw [← Hub.opened_batches s.hub w (writeOf idx sub v)]
    exact (congrArg Hub.batches hl.rest :)
  · rw [hl.rest, ← Hub.opened_batches s.hub w (writeOf idx sub v)]
    rfl

end

end Sys2Proof.Machine
end

section
/-! SUPPORT. Reads, held batches and the completion of commands (R264, R268 to R273, R245, R322). -/

namespace Sys2Proof.Machine

/-! ## What a command answers (R269) -/

section
variable (o snap : Hub) (w : Who)

theorem Hub.answer_read (idx sub : Nat) : o.answer snap w (requestOf 1 idx sub 0 []) =
    if o.readAbort w.host idx sub = 0 then ((0, typeOf idx sub, o.readBytes snap w.host idx sub), o.readEffect idx sub)
    else ((o.readAbort w.host idx sub, 0, []), o) := rfl

theorem Hub.answer_write (idx sub ty : Nat) (data : List Byte) : o.answer snap w (requestOf 2 idx sub ty data) =
    (((o.writeObject w idx sub ty data).1, 0, []), (o.writeObject w idx sub ty data).2) := rfl

theorem Hub.answer_writeHeld (idx sub ty : Nat) (data : List Byte) : o.answer snap w (requestOf 3 idx sub ty data) =
    (((o.writeHeld w idx sub ty data).1, 0, []), (o.writeHeld w idx sub ty data).2) := rfl

theorem Hub.answer_release (hc : o.claimed w.host = true) : o.answer snap w (requestOf 4 0 0 0 []) =
    (((o.releaseBatch w).1, 0, if (o.releaseBatch w).1 = 0 then [BitVec.ofNat 8 (o.releaseBatch w).2.2] else []), (o.releaseBatch w).2.1) :=
  if_pos hc

theorem Hub.answer_discard (hc : o.claimed w.host = true) : o.answer snap w (requestOf 5 0 0 0 []) = ((0, 0, []), o.discardBatch w) := if_pos hc

theorem Hub.answer_info {idx sub : Nat} {b : Blk} {r : Row} (ha : o.infoAbort w.host idx sub = 0) (hd : describe idx sub = some (b, r)) :
    o.answer snap w (requestOf 6 idx sub 0 []) = ((0, typeOf idx sub, o.info b r), o) := by
  have hx : o.answer snap w (requestOf 6 idx sub 0 []) =
    (match describe idx sub with
      | some (b, row) =>
        if o.infoAbort w.host idx sub = 0 then ((0, typeOf idx sub, o.info b row), o) else ((o.infoAbort w.host idx sub, 0, []), o)
      | none => ((o.infoAbort w.host idx sub, 0, []), o)) := rfl
  rw [hx, hd]
  exact if_pos ha

end

/-! ## Reads (R264, R245) -/

theorem Hub.readEffect_of_plain {o : Hub} {idx sub : Nat} (hc : ¬(idx = 0x4200 ∧ sub = 0x0C)) (ht : ¬(idx = 0xD000 ∧ sub = 5)) :
    o.readEffect idx sub = o :=
  (if_neg hc).trans (if_neg ht)

theorem Hub.capData_of_ring {o : Hub} (hr : o.cap.ringBytes ≠ 0) : o.capData =
    ((Memory.readRing o.cap.ringBytes o.cap.mem o.cap.readPos (min 240 o.cap.ringBytes)).zipIdx.map
        (fun e => o.capByte ((o.cap.readPos + e.2) % o.cap.ringBytes) e.1),
      { o with cap := { o.cap with readPos := (o.cap.readPos + min 240 o.cap.ringBytes) % o.cap.ringBytes } }) :=
  if_neg hr

theorem Hub.readBytes_capData (o snap : Hub) (host : Nat) : o.readBytes snap host 0x4200 0x0C = o.capData.1 := rfl

theorem firstAbort_of_first {a : Nat} (l : List Nat) (ha : a ≠ 0) : firstAbort (a :: l) = a := if_neg ha

/-- An unclaimed host number reads the identity objects alone (R165). -/
theorem Hub.claimCheck_of_unclaimed {h : Hub} {host idx sub : Nat} (hc : h.claimed host = false) (hi : ¬(0x1000 ≤ idx ∧ idx ≤ 0x1018))
    (hs : ¬(0x1100 ≤ idx ∧ idx < 0x1108 ∧ sub = 1)) (write : Bool) : h.claimCheck host idx sub write = 0x0C := by
  simp only [Hub.claimCheck, abortUnless, hc]
  refine if_neg ?_
  simp only [Bool.false_or, Bool.or_eq_true, Bool.and_eq_true, decide_eq_true_eq]
  rintro (⟨⟨h1, h2⟩, h3⟩ | ⟨⟨-, h1⟩, h2⟩)
  · exact hs ⟨h1, h2, h3⟩
  · exact hi ⟨h1, h2⟩

theorem Hub.readAbort_of_claimCheck {h : Hub} {host idx sub : Nat} (hc : h.claimCheck host idx sub false = 0x0C) :
    h.readAbort host idx sub = 0x0C := by
  unfold Hub.readAbort
  split <;> rw [hc] <;> rfl

theorem Hub.writeAbort_of_claimCheck {h : Hub} {host idx sub : Nat} (hc : h.claimCheck host idx sub true = 0x0C) (ty : Nat) (data : List Byte) :
    h.writeAbort host idx sub ty data = 0x0C := by
  unfold Hub.writeAbort
  split
  · rw [hc]; rfl
  · rw [hc]; rfl
  · dsimp only
    rw [hc]
    rfl

section
variable (h : Hub) (w : Who) (r : Request)
@[simp] theorem Hub.opened_cap : (h.opened w r).cap = h.cap := (congrArg Hub.cap (h.opened_rest w r) :)
@[simp] theorem Hub.opened_sram : (h.opened w r).sram = h.sram := (congrArg Hub.sram (h.opened_rest w r) :)
end

end Sys2Proof.Machine

open Sys2Proof Sys2Proof.Machine

/-- Settles O47: a read answers from the snapshot and the settings, its checks in their order, and only CAP_DATA moves anything. -/
theorem readsAnswer : Obligations.ReadsAnswer := by
  unfold Obligations.ReadsAnswer
  refine ⟨?_, ?_, ?_, ?_, ?_⟩
  case refine_1 =>
    intro s w idx sub ht ha hc hd
    refine answersData_of_answer (r := requestOf 1 idx sub 0 []) rfl ht.1 ht ?_ rfl (fun h hl => hl.rest)
    rw [Hub.answer_read, if_pos ha, Hub.readEffect_of_plain hc hd]
  case refine_2 =>
    intro s w idx sub ht ha
    refine answers_of_answer (r := requestOf 1 idx sub 0 []) rfl ht.1 ht ((Hub.answer_read _ _ _ _ _).trans (if_neg ha)) rfl ?_
    exact fun h hl hr ho => ⟨hr, ho, hl.rest⟩
  case refine_3 =>
    intro s w idx sub b r ht ha hd
    exact answersData_of_answer (r := requestOf 6 idx sub 0 []) rfl ht.1 ht (Hub.answer_info _ _ _ ha hd) rfl (fun h hl => hl.rest)
  case refine_4 =>
    intro s w ht ha hr
    refine answersData_of_answer (r := requestOf 1 0x4200 0x0C 0 []) rfl ht.1 ht
      (g := { s.hub.opened w (requestOf 1 0x4200 0x0C 0 []) with
        cap := { s.hub.cap with readPos := (s.hub.cap.readPos + min 240 s.hub.cap.ringBytes) % s.hub.cap.ringBytes } })
      ?_ rfl (fun h hl => ⟨?_, ?_⟩)
    · rw [Hub.answer_read, if_pos ha, Hub.readBytes_capData, Hub.readEffect, if_pos ⟨rfl, rfl⟩, Hub.capData_of_ring (by simpa using hr)]
      simp [Hub.capByte]
    · rw [Hub.opened_cap]
      exact (congrArg Hub.cap hl.rest :)
    · rw [hl.rest]
      rfl
  case refine_5 =>
    intro h host idx sub hc hi hs
    exact ⟨Hub.readAbort_of_claimCheck (Hub.claimCheck_of_unclaimed hc hi hs false),
      Hub.writeAbort_of_claimCheck (Hub.claimCheck_of_unclaimed hc hi hs true)⟩
end

section
/-! SUPPORT. Where the instances' objects lie: the table each index names (R274). -/

namespace Sys2Proof.Machine

/-! ## Tables of an instance that has several -/

/-- The tables of input `n`, by their place in its 32 indices. -/
def inputBlk (n k : Nat) : Option Blk :=
  match k with
  | 0 => some (.inFront n) | 1 => some (.inTandem n) | 2 => some (.trims n) | 3 => some (.meters n)
  | 4 => some (.inCounters n) | 5 => some (.inRelief n) | _ => none

/-- The tables of headset microphone `m`. -/
def headMicBlk (m k : Nat) : Option Blk :=
  match k with
  | 0 => some (.hmFront m) | 2 => some (.trims (48 + m)) | 3 => some (.meters (48 + m)) | _ => none

/-- The tables of output `n`. -/
def outputBlk (n k : Nat) : Option Blk :=
  match k with
  | 0 => some (.outCfg n) | 1 => some (.outAudio n) | 2 => some (.outCv n) | 3 => some (.outPatrol n) | 5 => some (.outRelief n) | _ => none

/-- The tables of headphone `j`. -/
def headphoneBlk (j k : Nat) : Option Blk :=
  match k with
  | 0 => some (.hpAudio j) | 1 => some (.hpJack j) | _ => none

theorem blockOf_inputBlk {idx n k : Nat} (hlo : 0x2000 ≤ idx) (hhi : idx < 0x2600) (hn : (idx - 0x2000) / 32 + 1 = n)
    (hk : (idx - 0x2000) % 32 = k) : blockOf idx = inputBlk n k := by
  simp (disch := omega) only [blockOf, if_neg, if_pos, hn, hk]
  rfl

theorem blockOf_headMicBlk {idx n k : Nat} (hlo : 0x2600 ≤ idx) (hhi : idx < 0x2680) (hn : (idx - 0x2600) / 32 + 1 = n)
    (hk : (idx - 0x2600) % 32 = k) : blockOf idx = headMicBlk n k := by
  simp (disch := omega) only [blockOf, if_neg, if_pos, hn, hk]
  rfl

theorem blockOf_outputBlk {idx n k : Nat} (hlo : 0x3000 ≤ idx) (hhi : idx < 0x3400) (hn : (idx - 0x3000) / 32 + 1 = n)
    (hk : (idx - 0x3000) % 32 = k) : blockOf idx = outputBlk n k := by
  simp (disch := omega) only [blockOf, if_neg, if_pos, hn, hk]
  rfl

theorem blockOf_headphoneBlk {idx n k : Nat} (hlo : 0x3400 ≤ idx) (hhi : idx < 0x3480) (hn : (idx - 0x3400) / 32 + 1 = n)
    (hk : (idx - 0x3400) % 32 = k) : blockOf idx = headphoneBlk n k := by
  simp (disch := omega) only [blockOf, if_neg, if_pos, hn, hk]
  rfl

theorem isHeadMic_range {m : Nat} (hm : isHeadMic m = true) : 1 ≤ m ∧ m < 1 + 4 := by
  simp only [isHeadMic, Bool.and_eq_true, decide_eq_true_eq] at hm
  omega

theorem blockOf_inFrontIdx {n : Nat} (hn : isInput n = true) {k : Nat} (hk : k < 6) : blockOf (inFrontIdx n + k) = inputBlk n k := by
  obtain ⟨hlo, hhi⟩ := isInput_range hn
  have hq : (inFrontIdx n + k - 0x2000) / 32 + 1 = n := by unfold inFrontIdx; omega
  have hm : (inFrontIdx n + k - 0x2000) % 32 = k := by unfold inFrontIdx; omega
  exact blockOf_inputBlk (by unfold inFrontIdx; omega) (by unfold inFrontIdx; omega) hq hm

theorem blockOf_hmIdx {n : Nat} (hn : isHeadMic n = true) {k : Nat} (hk : k < 4) : blockOf (hmIdx n + k) = headMicBlk n k := by
  obtain ⟨hlo, hhi⟩ := isHeadMic_range hn
  have hq : (hmIdx n + k - 0x2600) / 32 + 1 = n := by unfold hmIdx; omega
  have hm : (hmIdx n + k - 0x2600) % 32 = k := by unfold hmIdx; omega
  exact blockOf_headMicBlk (by unfold hmIdx; omega) (by unfold hmIdx; omega) hq hm

theorem blockOf_outIdx {n : Nat} (hn : isOutput n = true) {k : Nat} (hk : k < 6) : blockOf (outIdx n + k) = outputBlk n k := by
  obtain ⟨hlo, hhi⟩ := isOutput_range hn
  have hq : (outIdx n + k - 0x3000) / 32 + 1 = n := by unfold outIdx; omega
  have hm : (outIdx n + k - 0x3000) % 32 = k := by unfold outIdx; omega
  exact blockOf_outputBlk (by unfold outIdx; omega) (by unfold outIdx; omega) hq hm

theorem blockOf_hpIdx {n : Nat} (hn : isHeadphone n = true) {k : Nat} (hk : k < 2) : blockOf (hpIdx n + k) = headphoneBlk n k := by
  obtain ⟨hlo, hhi⟩ := isHeadphone_range hn
  have hq : (hpIdx n + k - 0x3400) / 32 + 1 = n := by unfold hpIdx; omega
  have hm : (hpIdx n + k - 0x3400) % 32 = k := by unfold hpIdx; omega
  exact blockOf_headphoneBlk (by unfold hpIdx; omega) (by unfold hpIdx; omega) hq hm

theorem blockOf_trimIdx {n : Nat} (hn : isTrimSource n = true) : blockOf (trimIdx n) = some (.trims n) := by
  have hr : 1 ≤ n ∧ n ≤ 52 := by simpa [isTrimSource] using hn
  unfold trimIdx
  split
  · exact blockOf_inFrontIdx (n := n) (by simp [isInput]; omega) (k := 2) (by decide)
  · have hb := blockOf_hmIdx (n := n - 48) (by simp [isHeadMic]; omega) (k := 2) (by decide)
    have hs : 48 + (n - 48) = n := by omega
    rw [headMicBlk, hs] at hb
    rw [← hb, hmIdx]
    congr 3

/-! ## Tables of an instance that has one -/

theorem blockOf_hostSlotRange {idx k : Nat} (hlo : 0x1100 ≤ idx) (hhi : idx < 0x1108) (hk : idx - 0x1100 = k) :
    blockOf idx = some (.hostSlot k) := by
  simp (disch := omega) only [blockOf, if_neg, if_pos, hk]

theorem blockOf_hostIdx {k : Nat} (hk : isHost k = true) : blockOf (hostIdx k) = some (.hostSlot k) := by
  have hr : k < 8 := by simpa [isHost] using hk
  exact blockOf_hostSlotRange (by unfold hostIdx; omega) (by unfold hostIdx; omega) (by unfold hostIdx; omega)

theorem blockOf_portRange {idx k : Nat} (hlo : 0x4000 ≤ idx) (hhi : idx < 0x4200) (hk : (idx - 0x4000) / 64 = k) (hm : idx % 64 = 0) :
    blockOf idx = some (.port k) := by
  simp (disch := omega) only [blockOf, if_neg, if_pos, hk]

theorem blockOf_portIdx {k : Nat} (hk : isPort k = true) : blockOf (portIdx k) = some (.port k) := by
  have hr : k < 8 := by simpa [isPort] using hk
  exact blockOf_portRange (by unfold portIdx; omega) (by unfold portIdx; omega) (by unfold portIdx; omega) (by unfold portIdx; omega)

theorem blockOf_generatorRange {idx k : Nat} (hlo : 0x61C0 ≤ idx) (hhi : idx < 0x61C8) (hk : idx - 0x61C0 = k) :
    blockOf idx = some (.generator k) := by
  simp (disch := omega) only [blockOf, if_neg, if_pos, hk]

theorem blockOf_genIdx {k : Nat} (hk : k < 8) : blockOf (genIdx k) = some (.generator k) := by
  exact blockOf_generatorRange (by unfold genIdx; omega) (by unfold genIdx; omega) (by unfold genIdx; omega)

theorem blockOf_processRange {idx k : Nat} (hlo : 0x7100 ≤ idx) (hhi : idx < 0x7140) (hk : idx - 0x7100 = k) :
    blockOf idx = some (.process k) := by
  simp (disch := omega) only [blockOf, if_neg, if_pos, hk]

theorem blockOf_procIdx {k : Nat} (hk : isProcess k = true) : blockOf (procIdx k) = some (.process k) := by
  have hr : k < 64 := by simpa [isProcess] using hk
  exact blockOf_processRange (by unfold procIdx; omega) (by unfold procIdx; omega) (by unfold procIdx; omega)

theorem blockOf_busRange {idx k : Nat} (hlo : 0x5000 ≤ idx) (hhi : idx < 0x6000) (hf : idx ≠ 0x5F00) (ht : idx ≠ 0x5F20)
    (hk : (idx - 0x5000) / 64 = k) (hm : idx % 64 = 0) : blockOf idx = some (.bus k) := by
  simp (disch := omega) only [blockOf, if_neg, if_pos, hk]

theorem blockOf_busIdx {k : Nat} (hk : isBus k = true) : blockOf (busIdx k) = some (.bus k) := by
  have hr : k < 64 := by simpa [isBus] using hk
  unfold busIdx
  split
  · next h60 =>
    rw [h60]
    rfl
  · exact blockOf_busRange (by omega) (by omega) (by omega) (by omega) (by omega) (by omega)

end Sys2Proof.Machine
end

section
/-! SUPPORT. Writes that wait for the block boundary, held batches, and the completion of commands (R264 to R272, R322). -/

namespace Sys2Proof.Machine

theorem actsAtOnce_of_answer {s : State} {i : Instr} {ok : Bool} {w : Who} {r : Request} {Q : Hub → Hub → Prop} {g : Hub}
    (he : exec i s = run ok (fun h => h.rowCommand s.snap w r) s) (hok : ok = true) (ht : s.hub.takes w)
    (ha : (s.hub.opened w r).answer s.snap w r = ((0, 0, []), g)) (hm : g.mailbox w = (s.hub.opened w r).mailbox w)
    (hq : ∀ h, Hub.Left g (s.hub.opened w r) w h → Q (s.hub.opened w r) h) : ActsAtOnce i w r s Q :=
  answersData_of_answer he hok ht ha hm hq

theorem Hub.Left.host {g o h : Hub} {w : Who} (hl : Hub.Left g o w h) (k : Nat) : h.host k = g.host k :=
  (congrArg (fun x : Hub => x.host k) hl.rest :)

theorem Hub.cause_mailbox (h : Hub) (e : Nat) (sc : Scope) (w : Who) : (h.cause e sc).mailbox w = h.mailbox w := rfl

theorem Hub.modMailbox_now (h : Hub) (w : Who) (f : Mailbox → Mailbox) : (h.modMailbox w f).now = h.now :=
  (congrArg Hub.now (h.modMailbox_rest w f) :)

/-! ## Refused writes (R265) -/

/-- A refused write leaves a record only where its table keeps one. -/
theorem Hub.refusal_of_plain (h : Hub) {idx : Nat} (hcv : ∀ n, blockOf idx ≠ some (.outCv n)) (hproc : ∀ p, blockOf idx ≠ some (.process p))
    (hport : ∀ p, blockOf idx ≠ some (.port p)) (sub code : Nat) (data : List Byte) : h.refusal idx sub code data = h := by
  unfold Hub.refusal
  split
  · next n hb => exact absurd hb (hcv n)
  · next p hb => exact absurd hb (hproc p)
  · next p hb => exact absurd hb (hport p)
  · rfl

theorem Hub.refusal_of_front (h : Hub) {n : Nat} (hn : isInput n = true) (sub code : Nat) (data : List Byte) :
    h.refusal (inFrontIdx n) sub code data = h := by
  have hb : blockOf (inFrontIdx n) = some (.inFront n) := blockOf_inFrontIdx hn (k := 0) (by decide)
  exact h.refusal_of_plain (by simp [hb]) (by simp [hb]) (by simp [hb]) sub code data

/-! ## The settings of an input's front end -/

/-- The rows of a front end that hold settings. -/
def frontRow (sub : Nat) : Row :=
  match sub with
  | 1 => own 1 .bool 0 .any | 2 => own 2 .u8 0 (.le 1) | 3 => own 3 .bool 0 .any | _ => own 4 .u16 0 (.zeroOr 10 400)

theorem waitsFor_front {n sub : Nat} (hn : isInput n = true) (hs : sub = 1 ∨ sub = 2 ∨ sub = 3 ∨ sub = 4) :
    WaitsFor (inFrontIdx n) sub (.inFront n) (frontRow sub) 2 true := by
  have hb : blockOf (inFrontIdx n) = some (.inFront n) := blockOf_inFrontIdx hn (k := 0) (by decide)
  rcases hs with rfl | rfl | rfl | rfl <;> exact ⟨(describe_of_block hb (by decide)).trans rfl, by decide, rfl, rfl, rfl, rfl, rfl⟩

section
variable {h : Hub} {w : Who} {idx sub ty : Nat} {data : List Byte} {b : Blk} {r : Row}

/-- A setting of the block class, written with any bytes. -/
theorem Hub.writeObject_of_waitsFor (hrow : WaitsFor idx sub b r 2 true) (hb : ∀ k, b ≠ .bus k) (ha : h.writeAbort w.host idx sub ty data = 0) :
    h.writeObject w idx sub ty data = (0, { h with
      objs := tput h.objs (key idx sub) (ofBytes data), batches := h.batches ++ [[⟨key idx sub, ofBytes data⟩]] }) := by
  obtain ⟨hd, hs, hc, hq, hact, hcls, hrec⟩ := hrow
  rw [Hub.writeObject_of_quiet ha hd hs hc hq (fun k hk => absurd hk (hb k)) hact (by omega), hrec, decide_eq_false (by omega)]
  rfl

end

/-! ## Held batches (R272) -/

theorem Hub.answer_of_writeHeld {o g : Hub} {w : Who} {idx sub ty c : Nat} {data : List Byte} (hx : o.writeHeld w idx sub ty data = (c, g))
    (snap : Hub) : o.answer snap w (requestOf 3 idx sub ty data) = ((c, 0, []), g) := by
  rw [Hub.answer_writeHeld, hx]

theorem Hub.answer_of_release {o g : Hub} {w : Who} {c n : Nat} (hc : o.claimed w.host = true) (hx : o.releaseBatch w = (c, g, n)) (snap : Hub) :
    o.answer snap w (requestOf 4 0 0 0 []) = ((c, 0, if c = 0 then [BitVec.ofNat 8 n] else []), g) := by
  rw [Hub.answer_release _ _ _ hc, hx]

/-- Taking a command restarts its host's session timer, and leaves the host slots alone otherwise. -/
theorem Hub.opened_host (h : Hub) (w : Who) (r : Request) : ∃ p, (h.opened w r).host w.host = { h.host w.host with pausedLeft := p } := by
  obtain ⟨p, hp⟩ := h.touch_host w.host
  exact ⟨p, (congrArg (fun g : Hub => g.host w.host) ((h.touch w.host).ungate.modMailbox_rest w _) :).trans
    (((h.touch w.host).ungate_host _).trans hp)⟩

theorem Hub.opened_host_other (h : Hub) {w : Who} (r : Request) {k : Nat} (hk : k ≠ w.host) : (h.opened w r).host k = h.host k := by
  exact (congrArg (fun g : Hub => g.host k) ((h.touch w.host).ungate.modMailbox_rest w _) :).trans
    (((h.touch w.host).ungate_host k).trans (h.touch_host_other hk))

theorem Hub.opened_held (h : Hub) (w : Who) (r : Request) : ((h.opened w r).host w.host).held = (h.host w.host).held := by
  obtain ⟨p, hp⟩ := h.opened_host w r
  rw [hp]

theorem Hub.opened_claimed (h : Hub) (w : Who) (r : Request) (k : Nat) : (h.opened w r).claimed k = h.claimed k := by
  unfold Hub.claimed
  by_cases hk : k = w.host
  · obtain ⟨p, hp⟩ := h.opened_host w r
    rw [hk, hp]
  · rw [h.opened_host_other r hk]

theorem Hub.discardBatch_of_empty {h : Hub} {w : Who} (hh : (h.host w.host).held = []) (j : Nat) : (h.discardBatch w).host j = h.host j := by
  unfold Hub.discardBatch
  rw [Hub.host_modHost]
  split
  · next hj =>
    rw [hj, ← hh]
  · rfl

theorem Hub.discardBatch_held (h : Hub) (w : Who) : ((h.discardBatch w).host w.host).held = [] := by
  rw [Hub.discardBatch, Hub.modHost_host]

section
variable {h : Hub} {w : Who} {idx sub ty : Nat} {data : List Byte} {x : HeldWrite}

theorem Hub.writeHeld_of_room (ha : h.heldAbort w.host idx sub ty data = 0)
    (hn : (holdWrite (h.host w.host).held ⟨idx, sub, data⟩).length ≤ 32) (hb : heldBytes (holdWrite (h.host w.host).held ⟨idx, sub, data⟩) ≤ 1024) :
    h.writeHeld w idx sub ty data =
      (0, h.modHost w.host (fun x => { x with held := holdWrite (h.host w.host).held ⟨idx, sub, data⟩ })) := by
  unfold Hub.writeHeld
  dsimp only
  rw [ha, if_neg (by decide), if_neg (by omega)]

theorem Hub.releaseBatch_of_empty (hh : (h.host w.host).held = []) : h.releaseBatch w = (0, h.discardBatch w, 0) := by
  unfold Hub.releaseBatch
  rw [hh]
  rfl

/-- The hub on which the writes of a batch are accepted one after the other: the batch taken from its host, the combined configurations accepted. -/
def Hub.batchReady (h : Hub) (w : Who) : Hub :=
  ((h.discardBatch w).acceptCombined (h.host w.host).held).acceptOutputs (h.discardBatch w)
    (batchOutputs ((h.host w.host).held.map (fun x => ⟨key x.idx x.sub, 0⟩)))

theorem Hub.releaseBatch_of_accepted {g : Hub} {ws : List Wr} (hh : (h.host w.host).held ≠ [])
    (ha : (h.batchReady w).acceptHeld w (h.host w.host).held = (0, g, ws, none)) (hw : ws ≠ []) :
    h.releaseBatch w = (0, { g with batches := g.batches ++ [ws] }, (h.host w.host).held.length) := by
  unfold Hub.batchReady Hub.discardBatch at ha
  unfold Hub.releaseBatch
  dsimp only
  rw [ha, if_neg (by simpa using hh)]
  dsimp only
  rw [if_neg (by simp), if_neg (by simpa using hw)]

theorem Hub.releaseBatch_of_failed {g : Hub} {ws : List Wr} {c : Nat} (hh : (h.host w.host).held ≠ [])
    (ha : (h.batchReady w).acceptHeld w (h.host w.host).held = (c, g, ws, some x)) (hc : c ≠ 0) :
    h.releaseBatch w = (c, (h.discardBatch w).refusal x.idx x.sub c x.data, 0) := by
  unfold Hub.batchReady Hub.discardBatch at ha
  unfold Hub.releaseBatch
  dsimp only
  rw [ha, if_neg (by simpa using hh)]
  exact if_pos hc

theorem Hub.acceptHeld_of_accepted {g g' : Hub} {r : List HeldWrite} {ws rest : List Wr} {c : Nat} {bad : Option HeldWrite}
    (hr : h.releaseCheck w.host x = 0) (hg : h.accept w x.idx x.sub x.data = (g, ws)) (hrest : g.acceptHeld w r = (c, g', rest, bad)) :
    h.acceptHeld w (x :: r) = (c, g', ws ++ rest, bad) := by
  rw [Hub.acceptHeld]
  dsimp only
  rw [hr, if_neg (by simp), hg]
  dsimp only
  rw [hrest]

theorem Hub.acceptHeld_of_failed {r : List HeldWrite} (hr : h.releaseCheck w.host x ≠ 0) :
    h.acceptHeld w (x :: r) = (h.releaseCheck w.host x, h, [], some x) :=
  if_pos hr

/-- A held write to a front end's RAMP is ready as it stands: its rules depend on no other write. -/
theorem Hub.batchReady_of_front {n : Nat} (hn : isInput n = true) (hh : (h.host w.host).held = [⟨inFrontIdx n, sub, data⟩]) (hs : sub < 256) :
    h.batchReady w = h.discardBatch w := by
  have hb : blockOf (inFrontIdx n) = some (.inFront n) := blockOf_inFrontIdx hn (k := 0) (by decide)
  unfold Hub.batchReady
  rw [hh, List.map_singleton, batchOutputs_of_quiet hb hs rfl]
  simp only [Hub.acceptCombined, List.foldl, hb]
  rfl

end

section
variable {h : Hub} {w : Who} {n : Nat} {data : List Byte}

theorem Hub.releaseBatch_of_front (hn : isInput n = true) (hh : (h.host w.host).held = [⟨inFrontIdx n, 4, data⟩])
    (hr : (h.discardBatch w).releaseCheck w.host ⟨inFrontIdx n, 4, data⟩ = 0) : h.releaseBatch w =
      (0, { h.discardBatch w with objs := tput h.objs (key (inFrontIdx n) 4) (ofBytes data),
                                  batches := h.batches ++ [[⟨key (inFrontIdx n) 4, ofBytes data⟩]] }, 1) := by
  obtain ⟨hd, -, hclr, -, hact, hcls, -⟩ := waitsFor_front (sub := 4) hn (by simp)
  have hacc := Hub.accept_of_waiting (h := h.discardBatch w) (w := w) (data := data) hd hclr (by simp) hact (by omega) (by simp)
  have hone := Hub.acceptHeld_of_accepted (x := ⟨inFrontIdx n, 4, data⟩) hr hacc (r := []) rfl
  rw [Hub.releaseBatch_of_accepted (by simp [hh]) (by rw [Hub.batchReady_of_front hn hh (by decide), hh]; exact hone) (by simp), hh]
  rfl

theorem Hub.releaseBatch_of_front_failed {c : Nat} (hn : isInput n = true) (hh : (h.host w.host).held = [⟨inFrontIdx n, 4, data⟩])
    (hr : (h.discardBatch w).releaseCheck w.host ⟨inFrontIdx n, 4, data⟩ = c) (hc : c ≠ 0) :
    h.releaseBatch w = (c, h.discardBatch w, 0) := by
  have hone := Hub.acceptHeld_of_failed (h := h.discardBatch w) (x := ⟨inFrontIdx n, 4, data⟩) (r := []) (by rw [hr]; exact hc)
  rw [hr] at hone
  rw [Hub.releaseBatch_of_failed (by simp [hh]) (by rw [Hub.batchReady_of_front hn hh (by decide), hh]; exact hone) hc, Hub.refusal_of_front _ hn]

end

/-! ## Completion (R268, R271, R322) -/

section
variable {h snap : Hub} {k a ty : Nat} {data : List Byte}

theorem Mailbox.unprocessed_of_outcome {m : Mailbox} {x : Nat × Nat × List Byte} (ho : m.outcome = some x) : m.unprocessed = false := by
  simp [Mailbox.unprocessed, ho]

theorem Hub.commandComplete_twoWire (ho : (h.mailbox ⟨.twoWire, k⟩).outcome = some (a, ty, data)) :
    h.commandComplete snap ⟨.twoWire, k⟩ = (h.modMailbox ⟨.twoWire, k⟩ (fun m => m.finish a ty data)).cause 106 (.command k) := by
  unfold Hub.commandComplete
  dsimp only
  rw [if_neg (by simp [Mailbox.unprocessed_of_outcome ho]), ho]
  rfl

theorem Hub.commandComplete_tether (ho : (h.mailbox ⟨.tether, k⟩).outcome = some (a, ty, data)) (hs : (h.mailbox ⟨.tether, k⟩).silent = false) :
    ∃ f bs, h.commandComplete snap ⟨.tether, k⟩ =
      ((h.modMailbox ⟨.tether, k⟩ (fun m => m.finish a ty data)).modTet f).modMailbox ⟨.tether, k⟩
        (fun m => { m with lastSeq := some (m.seq, h.now), lastResp := bs }) := by
  unfold Hub.commandComplete
  dsimp only
  rw [if_neg (by simp [Mailbox.unprocessed_of_outcome ho]), ho]
  dsimp only
  rw [if_neg (by simp [hs])]
  obtain ⟨f, hf⟩ := (h.modMailbox ⟨.tether, k⟩ (fun m => m.finish a ty data)).sendResp_eq (h.mailbox ⟨.tether, k⟩).fromDown
    ((h.modMailbox ⟨.tether, k⟩ (fun m => m.finish a ty data)).respBytes k (h.mailbox ⟨.tether, k⟩).seq (h.mailbox ⟨.tether, k⟩).cmd
      (h.mailbox ⟨.tether, k⟩).index (h.mailbox ⟨.tether, k⟩).sub a (if a = 0 then data else []))
  rw [hf, Hub.modMailbox_now]
  exact ⟨f, _, rfl⟩

theorem Hub.tetherReply_rest (f g : Mailbox → Mailbox) (e : Tether → Tether) :
    { ((h.modMailbox ⟨.tether, k⟩ f).modTet e).modMailbox ⟨.tether, k⟩ g with mailTether := h.mailTether, tet := h.tet } = h := by
  have hmail : ∀ (x : Hub) (a : Mailbox → Mailbox), { x.modMailbox ⟨.tether, k⟩ a with mailTether := h.mailTether, tet := h.tet } =
      { x with mailTether := h.mailTether, tet := h.tet } := fun _ _ => rfl
  have htet : ∀ (x : Hub) (a : Tether → Tether), { x.modTet a with mailTether := h.mailTether, tet := h.tet } =
      { x with mailTether := h.mailTether, tet := h.tet } := fun _ _ => rfl
  rw [hmail, htet, hmail]

theorem Hub.commandComplete_of_none {w : Who} (ho : (h.mailbox w).outcome = none) (hr : (h.mailbox w).result ≠ 1 ∨ (h.mailbox w).waiting ≠ .none) :
    h.commandComplete snap w = h := by
  have hu : (h.mailbox w).unprocessed = false := by
    rcases hr with hr | hr <;> simp [Mailbox.unprocessed, hr]
  unfold Hub.commandComplete
  dsimp only
  rw [if_neg (by simp [hu]), ho]

end

end Sys2Proof.Machine

open Sys2Proof Sys2Proof.Machine

/-- Settles O48: a row of the block class makes its batch whatever row names the object, and a refusal leaves a record in three tables only. -/
theorem writesAreCheckedThenHeldForTheBlock : Obligations.WritesAreCheckedThenHeldForTheBlock := by
  have hwait : ∀ (i : Instr) s w n sub ty data, isInput n = true → sub = 1 ∨ sub = 2 ∨ sub = 3 ∨ sub = 4 →
      s.hub.admitsBytes w (inFrontIdx n) sub ty data → exec i s = runCommand w (requestOf 2 (inFrontIdx n) sub ty data) s →
      ActsAtOnce i w (requestOf 2 (inFrontIdx n) sub ty data) s fun o h =>
        h.objs = tput o.objs (key (inFrontIdx n) sub) (ofBytes data) ∧ h.batches = o.batches ++ [[⟨key (inFrontIdx n) sub, ofBytes data⟩]] ∧
        { h.besideCommand o with objs := o.objs, batches := o.batches } = o := by
    intro i s w n sub ty data hn hs ha he
    refine actsAtOnce_of_write (r := requestOf 2 (inFrontIdx n) sub ty data) he ha.1.1 ha.1 rfl rfl
      (Hub.writeObject_of_waitsFor (waitsFor_front hn hs) (by simp) ha.2) rfl (fun h hl => ⟨?_, ?_, ?_⟩)
    · exact (congrArg Hub.objs hl.rest :)
    · exact (congrArg Hub.batches hl.rest :)
    · rw [hl.rest]
      rfl
  refine ⟨?_, ?_, ?_⟩
  case refine_1 => exact fun s w n sub data hn hs ha => hwait _ s w n sub 0 data hn hs ha rfl
  case refine_2 => exact fun s w n sub ty data hn hs ha => hwait _ s w n sub ty data hn hs ha rfl
  case refine_3 =>
    intro s w idx sub ty data code ha hc hcv hproc hport
    obtain ⟨ht, hcode⟩ := ha
    refine answers_of_answer (r := requestOf 2 idx sub ty data) rfl ht.1 ht (g := s.hub.opened w (requestOf 2 idx sub ty data)) ?_ rfl
      (fun h hl hr ho => ⟨hr, ho, hl.rest⟩)
    rw [Hub.answer_write, Hub.writeObject_of_refused hcode hc, Hub.refusal_of_plain _ hcv hproc hport]

/-- Settles O49: a held batch is its host slot's list, and a release accepts its writes in turn. -/
theorem heldBatchesAreReleasedOrDiscarded : Obligations.HeldBatchesAreReleasedOrDiscarded := by
  unfold Obligations.HeldBatchesAreReleasedOrDiscarded
  refine ⟨?_, ?_, ?_, ?_, ?_⟩
  case refine_1 =>
    intro s w idx sub ty data ht ha hn hb
    have hheld := s.hub.opened_held w (requestOf 3 idx sub ty data)
    rw [← hheld] at hn hb ⊢
    refine actsAtOnce_of_answer (r := requestOf 3 idx sub ty data) rfl ht.1 ht
      (Hub.answer_of_writeHeld (Hub.writeHeld_of_room ha hn hb) _) rfl (fun h hl => ⟨?_, fun j hj => ?_, ?_⟩)
    · exact (hl.host _).trans (Hub.modHost_host _ _ _)
    · exact (hl.host _).trans (Hub.modHost_host_other _ _ hj)
    · rw [hl.rest]
      rfl
  case refine_2 =>
    intro s w ht hc hh
    have hh' : ((s.hub.opened w (requestOf 4 0 0 0 [])).host w.host).held = [] := (s.hub.opened_held w _).trans hh
    refine answersData_of_answer (r := requestOf 4 0 0 0 []) rfl ht.1 ht (g := (s.hub.opened w (requestOf 4 0 0 0 [])).discardBatch w)
      (Hub.answer_of_release ((s.hub.opened_claimed _ _ _).trans hc) (Hub.releaseBatch_of_empty hh') _) rfl (fun h hl => ⟨fun j => ?_, ?_⟩)
    · exact (hl.host _).trans (Hub.discardBatch_of_empty hh' j)
    · rw [hl.rest]
      rfl
  case refine_3 =>
    intro s w n data hn ht hc hh hr
    have hh' : ((s.hub.opened w (requestOf 4 0 0 0 [])).host w.host).held = [⟨inFrontIdx n, 4, data⟩] := (s.hub.opened_held w _).trans hh
    refine answersData_of_answer (r := requestOf 4 0 0 0 []) rfl ht.1 ht
      (Hub.answer_of_release ((s.hub.opened_claimed _ _ _).trans hc) (Hub.releaseBatch_of_front hn hh' hr) _) rfl (fun h hl => ⟨?_, ?_, ?_, ?_⟩)
    · rw [hl.host]
      exact Hub.discardBatch_held _ _
    · exact (congrArg Hub.objs hl.rest :)
    · exact (congrArg Hub.batches hl.rest :)
    · rw [hl.rest]
      rfl
  case refine_4 =>
    intro s w n data c hn ht hc hh hr hc0
    have hh' : ((s.hub.opened w (requestOf 4 0 0 0 [])).host w.host).held = [⟨inFrontIdx n, 4, data⟩] := (s.hub.opened_held w _).trans hh
    refine answers_of_answer (r := requestOf 4 0 0 0 []) rfl ht.1 ht
      (Hub.answer_of_release ((s.hub.opened_claimed _ _ _).trans hc) (Hub.releaseBatch_of_front_failed hn hh' hr hc0) _) rfl
      (fun h hl hres ho => ⟨?_, ?_, ?_, ?_⟩)
    · rw [if_neg hc0] at ho
      exact ho
    · rw [hl.host]
      exact Hub.discardBatch_held _ _
    · exact (congrArg Hub.objs hl.rest :).trans (Hub.opened_objs _ _ _)
    · exact (congrArg Hub.batches hl.rest :).trans (Hub.opened_batches _ _ _)
  case refine_5 =>
    intro s w ht hc
    refine actsAtOnce_of_answer (r := requestOf 5 0 0 0 []) rfl ht.1 ht (Hub.answer_discard _ _ _ ((s.hub.opened_claimed _ _ _).trans hc)) rfl
      (fun h hl => ⟨?_, fun j hj => ?_, ?_⟩)
    · exact (hl.host _).trans (Hub.modHost_host _ _ _)
    · exact (hl.host _).trans (Hub.modHost_host_other _ _ hj)
    · rw [hl.rest]
      rfl

/-- Settles O50: completion moves the outcome into the response fields, and tells the host by its transport's way. -/
theorem commandsComplete : Obligations.CommandsComplete := by
  unfold Obligations.CommandsComplete
  refine ⟨?_, ?_, ?_⟩
  case refine_1 =>
    intro s k a ty data hk ho
    refine answers_of_run (f := fun h => h.commandComplete s.snap ⟨.twoWire, k⟩) rfl (by simpa [isWho, isHost] using hk) ?_
    rw [Hub.commandComplete_twoWire ho]
    have hm : ((s.hub.modMailbox ⟨.twoWire, k⟩ (fun m => m.finish a ty data)).cause 106 (.command k)).mailbox ⟨.twoWire, k⟩ =
        (s.hub.mailbox ⟨.twoWire, k⟩).finish a ty data := (Hub.cause_mailbox _ _ _ _).trans (Hub.modMailbox_mailbox _ _ _)
    refine ⟨?_, ?_, ?_, fun ha => ?_, fun ha hc => ⟨?_, ?_⟩, Hub.cause_causes _ _ _, fun j hj => ?_, ?_⟩
    · rw [hm]; rfl
    · rw [hm]; rfl
    · rw [hm]; rfl
    · rw [hm]
      exact if_pos ha
    · rw [hm]
      exact if_pos (by simp [ha, hc, returnsData])
    · rw [hm]
      exact (if_neg (by simp [ha])).trans (if_pos (by simp [hc, returnsData]))
    · exact (Hub.cause_mailbox _ _ _ _).trans (Hub.modMailbox_mailbox_other _ _ (by simpa using hj))
    · rfl
  case refine_2 =>
    intro s k a ty data hk ho hs
    refine answers_of_run (f := fun h => h.commandComplete s.snap ⟨.tether, k⟩) rfl (by simpa [isWho, isHost] using hk) ?_
    obtain ⟨f, bs, hf⟩ := Hub.commandComplete_tether (snap := s.snap) ho hs
    rw [hf]
    have hm : (((s.hub.modMailbox ⟨.tether, k⟩ (fun m => m.finish a ty data)).modTet f).modMailbox ⟨.tether, k⟩
        (fun m => { m with lastSeq := some (m.seq, s.hub.now), lastResp := bs })).mailbox ⟨.tether, k⟩ =
        { (s.hub.mailbox ⟨.tether, k⟩).finish a ty data with lastSeq := some ((s.hub.mailbox ⟨.tether, k⟩).seq, s.hub.now), lastResp := bs } := by
      rw [Hub.modMailbox_mailbox, Hub.modTet_mailbox, Hub.modMailbox_mailbox]
      rfl
    refine ⟨?_, ?_, ?_, ?_, ?_⟩
    · rw [hm]; rfl
    · rw [hm]; rfl
    · rw [hm]; rfl
    · rw [hm]
    · exact Hub.tetherReply_rest _ _ _
  case refine_3 =>
    intro s w hw ho hr
    exact answers_of_run (f := fun h => h.commandComplete s.snap w) rfl hw (Hub.commandComplete_of_none ho hr)
end

section
/-! SUPPORT. Rows that write settings of the block class: front ends, processes, the speaker, clocks and power, port masks and output modes
(R77, R93, R235, R266, R267, R272). -/

namespace Sys2Proof.Machine

/-! ## Rows without effects of their own -/

theorem waitsFor_hmFront_polarity {m : Nat} (hm : isHeadMic m = true) : WaitsFor (hmIdx m) 3 (.hmFront m) (own 3 .bool 0 .any) 2 true := by
  have hb : blockOf (hmIdx m) = some (.hmFront m) := blockOf_hmIdx hm (k := 0) (by decide)
  exact ⟨(describe_of_block hb (by decide)).trans rfl, by decide, rfl, rfl, rfl, rfl, rfl⟩

theorem waitsFor_enable {p : Nat} (hp : isProcess p = true) : WaitsFor (procIdx p) 0x0C (.process p) (own 0x0C .bool 1 .any) 2 true :=
  ⟨(describe_of_block (blockOf_procIdx hp) (by decide)).trans rfl, by decide, rfl, rfl, rfl, rfl, rfl⟩

/-- The row of WATCH_INPUT. -/
def watchInputRow : Row := { inst 0x20 .u8 0 (.le 48) with hi := 0x23 }

theorem waitsFor_watchInput {c : Nat} (hc : isChannel c = true) : WaitsFor 0x9000 (0x20 + c) .power watchInputRow 2 true := by
  have hr : c < 4 := by simpa [isChannel] using hc
  refine ⟨?_, by omega, rfl, rfl, rfl, rfl, rfl⟩
  obtain rfl | rfl | rfl | rfl : c = 0 ∨ c = 1 ∨ c = 2 ∨ c = 3 := by omega
  all_goals rfl

/-! ## The masks of a port (R235) -/

section
variable (h : Hub) (p : Nat)

theorem Hub.maskStage_port : (h.maskStage p).port p =
    (if (h.port p).state = .stopped then h.port p else { h.port p with maskPending := true, maskFrames := 0 }) := by
  unfold Hub.maskStage
  split
  · rfl
  · exact Hub.modPort_port _ _ _

theorem Hub.maskStage_port_other {q : Nat} (hq : q ≠ p) : (h.maskStage p).port q = h.port q := by
  unfold Hub.maskStage
  split
  · rfl
  · exact Hub.modPort_port_other _ _ hq

theorem Hub.maskStage_rest : { h.maskStage p with ports := h.ports } = h := by
  unfold Hub.maskStage
  split <;> rfl

theorem Hub.maskStage_mailbox (w : Who) : (h.maskStage p).mailbox w = h.mailbox w := (congrArg (fun g : Hub => g.mailbox w) (h.maskStage_rest p) :)
theorem Hub.maskStage_objs : (h.maskStage p).objs = h.objs := (congrArg Hub.objs (h.maskStage_rest p) :)
theorem Hub.maskStage_batches : (h.maskStage p).batches = h.batches := (congrArg Hub.batches (h.maskStage_rest p) :)

end

theorem batchOutputs_of_port {idx p : Nat} (hb : blockOf idx = some (.port p)) {l : List Wr} (hl : ∀ w ∈ l, w.key / 256 = idx) :
    batchOutputs l = [] := by
  unfold batchOutputs
  refine List.foldlRecOn (motive := fun a => a = []) l _ rfl fun acc hacc w hw => ?_
  rw [hl w hw, hb]
  exact hacc

/-- What an accepted write of one mask leaves. -/
def Hub.maskWritten (h : Hub) (p sub v : Nat) : Hub :=
  let g := ({ h with objs := tput h.objs (key (portIdx p) sub) v } : Hub).maskStage p
  { g with batches := g.batches ++ [[⟨key (portIdx p) sub, v⟩]] }

/-- What an accepted write of both masks leaves. -/
def Hub.masksWritten (h : Hub) (p v : Nat) : Hub :=
  let g := ({ h with objs := tput h.objs (key (portIdx p) 0x10) v } : Hub).maskStage p
  { g with
    objs := tput (tput g.objs (key (portIdx p) 0x0E) (v / 4294967296)) (key (portIdx p) 0x0F) (v % 4294967296)
    batches := g.batches ++ [[⟨key (portIdx p) 0x0E, v / 4294967296⟩, ⟨key (portIdx p) 0x0F, v % 4294967296⟩]] }

theorem Hub.maskWritten_rest (h o : Hub) (p sub v : Nat) :
    { (h.maskWritten p sub v).besideCommand o with objs := h.objs, batches := h.batches, ports := h.ports } = h.besideCommand o :=
  (congrArg (fun g : Hub => { g.besideCommand o with objs := h.objs, batches := h.batches, ports := h.ports })
    (Hub.maskStage_rest { h with objs := tput h.objs (key (portIdx p) sub) v } p) :)

theorem Hub.masksWritten_rest (h o : Hub) (p v : Nat) :
    { (h.masksWritten p v).besideCommand o with objs := h.objs, batches := h.batches, ports := h.ports } = h.besideCommand o :=
  (congrArg (fun g : Hub => { g.besideCommand o with objs := h.objs, batches := h.batches, ports := h.ports })
    (Hub.maskStage_rest { h with objs := tput h.objs (key (portIdx p) 0x10) v } p) :)

theorem Hub.masksWritten_accepted (h : Hub) (p v : Nat) :
    (h.masksWritten p v).accepted (portIdx p) 0x0E = v / 4294967296 ∧ (h.masksWritten p v).accepted (portIdx p) 0x0F = v % 4294967296 := by
  have hne : key (portIdx p) 0x0E ≠ key (portIdx p) 0x0F := by unfold key; omega
  constructor
  · simp [Hub.masksWritten, Hub.accepted, tgetD_tput_other _ _ _ hne]
  · simp [Hub.masksWritten, Hub.accepted]

section
variable {h : Hub} {w : Who} {p sub ty : Nat} {data : List Byte}

theorem describe_mask (hp : isPort p = true) (hs : sub = 0x0E ∨ sub = 0x0F) : describe (portIdx p) sub = some (.port p, own sub .u32 0 .any) := by
  rcases hs with rfl | rfl <;> exact (describe_of_block (blockOf_portIdx hp) (by decide)).trans rfl

theorem describe_masks (hp : isPort p = true) :
    describe (portIdx p) 0x10 = some (.port p, { lo := 0x10, hi := 0x10, ty := .u64, acc := .rwOwner }) :=
  (describe_of_block (blockOf_portIdx hp) (by decide)).trans rfl

theorem Hub.writeObject_of_mask (hp : isPort p = true) (hs : sub = 0x0E ∨ sub = 0x0F)
    (ha : h.writeAbort w.host (portIdx p) sub ty data = 0) :
    h.writeObject w (portIdx p) sub ty data = (0, h.maskWritten p sub (ofBytes data)) := by
  have hd := describe_mask hp hs
  have hg := Hub.accept_of_waiting (h := h) (w := w) (data := data) hd rfl (by simp)
    (by rcases hs with rfl | rfl <;> rfl) (by simp [own]) (by rcases hs with rfl | rfl <;> simp)
  rw [Hub.writeObject_of_waiting ha hg (by simp) hd,
    batchOutputs_of_port (blockOf_portIdx hp) (by simpa using key_div (by omega)), if_neg (by simp [own])]
  rcases hs with rfl | rfl <;> rfl

theorem Hub.writeObject_of_masks (hp : isPort p = true) (ha : h.writeAbort w.host (portIdx p) 0x10 ty data = 0) :
    h.writeObject w (portIdx p) 0x10 ty data = (0, h.masksWritten p (ofBytes data)) := by
  have hd := describe_masks hp
  have hg : h.accept w (portIdx p) 0x10 data = ({ ({ h with objs := tput h.objs (key (portIdx p) 0x10) (ofBytes data) } : Hub).maskStage p with
      objs := tput (tput (({ h with objs := tput h.objs (key (portIdx p) 0x10) (ofBytes data) } : Hub).maskStage p).objs
        (key (portIdx p) 0x0E) (ofBytes data / 4294967296)) (key (portIdx p) 0x0F) (ofBytes data % 4294967296) },
      [⟨key (portIdx p) 0x0E, ofBytes data / 4294967296⟩, ⟨key (portIdx p) 0x0F, ofBytes data % 4294967296⟩]) := by
    unfold Hub.accept
    rw [hd]
    rfl
  rw [Hub.writeObject_of_waiting ha hg (by simp) hd, batchOutputs_of_port (blockOf_portIdx hp) (by simp [key_div]), if_neg (by decide)]
  rfl

end

/-! ## MODE, RANGE and WIRING of an output (R77, R93, R272) -/

/-- The rows of an output's configuration. -/
def cfgRow (sub : Nat) : Row :=
  match sub with
  | 1 => own 1 .u8 0 (.le 3) | 2 => own 2 .u8 0 (.le 3) | _ => own 3 .u8 0 (.le 1)

theorem blockOf_outIdx_cfg {n : Nat} (hn : isOutput n = true) : blockOf (outIdx n) = some (.outCfg n) := blockOf_outIdx hn (k := 0) (by decide)

theorem describe_cfg {n sub : Nat} (hn : isOutput n = true) (hs : sub = 1 ∨ sub = 2 ∨ sub = 3) :
    describe (outIdx n) sub = some (.outCfg n, cfgRow sub) := by
  rcases hs with rfl | rfl | rfl <;> exact (describe_of_block (blockOf_outIdx_cfg hn) (by decide)).trans rfl

theorem key_ne {idx sub sub' : Nat} (hs : sub ≠ sub') : key idx sub ≠ key idx sub' := by
  unfold key
  omega

/-- A recorded field shows in the configuration accepted. -/
theorem Hub.acceptedCfg_of_recorded (h : Hub) (n v : Nat) {sub : Nat} (hs : sub = 1 ∨ sub = 2 ∨ sub = 3) :
    ({ h with objs := tput h.objs (key (outIdx n) sub) v } : Hub).acceptedCfg n = (h.acceptedCfg n).with_ sub v := by
  rcases hs with rfl | rfl | rfl <;> simp [Hub.acceptedCfg, Hub.accepted, OutCfg.with_, tgetD_tput_other, key_ne]

section
variable (h : Hub) (n : Nat) (a c : OutCfg)

theorem Hub.outputAccept_rest : { h.outputAccept n a c with outs := h.outs } = h := by
  unfold Hub.outputAccept
  split <;> rfl

theorem Hub.outputAccept_objs : (h.outputAccept n a c).objs = h.objs := (congrArg Hub.objs (h.outputAccept_rest n a c) :)
theorem Hub.outputAccept_batches : (h.outputAccept n a c).batches = h.batches := (congrArg Hub.batches (h.outputAccept_rest n a c) :)

theorem Hub.outputAccept_queue : ((h.outputAccept n a c).output n).cv.queue = if c = a then (h.output n).cv.queue else [] := by
  unfold Hub.outputAccept
  split
  · rfl
  · rw [Hub.cvFlush, Hub.modCv_eq, Hub.modOutput_output]

theorem Hub.outputAccept_fault : ((h.outputAccept n a c).output n).fault = (h.output n).fault := by
  unfold Hub.outputAccept
  split
  · rfl
  · rw [Hub.cvFlush, Hub.modCv_eq, Hub.modOutput_output]

end

theorem batchOutputs_of_cfg {n sub v : Nat} (hn : isOutput n = true) (hs : sub = 1 ∨ sub = 2 ∨ sub = 3) :
    batchOutputs [⟨key (outIdx n) sub, v⟩] = [n] := by
  have hlt : sub < 256 := by omega
  simp only [batchOutputs, List.foldl, key_div hlt, key_mod hlt, blockOf_outIdx_cfg hn]
  exact if_pos (by omega)

/-- What an accepted write of one field leaves. -/
def Hub.cfgWritten (h : Hub) (n sub v : Nat) : Hub :=
  let g := ({ h with objs := tput h.objs (key (outIdx n) sub) v } : Hub).outputAccept n (h.acceptedCfg n) ((h.acceptedCfg n).with_ sub v)
  { g with batches := g.batches ++ [[⟨key (outIdx n) sub, v⟩]] }

theorem Hub.cfgWritten_mailbox (h : Hub) (n sub v : Nat) (w : Who) : (h.cfgWritten n sub v).mailbox w = h.mailbox w :=
  (congrArg (fun g : Hub => g.mailbox w) (Hub.outputAccept_rest { h with objs := tput h.objs (key (outIdx n) sub) v } n (h.acceptedCfg n)
    ((h.acceptedCfg n).with_ sub v)) :)

theorem Hub.cfgWritten_rest (h o : Hub) (n sub v : Nat) :
    { (h.cfgWritten n sub v).besideCommand o with objs := h.objs, batches := h.batches, outs := h.outs } = h.besideCommand o :=
  (congrArg (fun g : Hub => { g.besideCommand o with objs := h.objs, batches := h.batches, outs := h.outs })
    (Hub.outputAccept_rest { h with objs := tput h.objs (key (outIdx n) sub) v } n (h.acceptedCfg n) ((h.acceptedCfg n).with_ sub v)) :)

theorem Hub.accept_of_cfg (h : Hub) (w : Who) {n sub : Nat} (hn : isOutput n = true) (hs : sub = 1 ∨ sub = 2 ∨ sub = 3) (data : List Byte) :
    h.accept w (outIdx n) sub data =
      ({ h with objs := tput h.objs (key (outIdx n) sub) (ofBytes data) }, [⟨key (outIdx n) sub, ofBytes data⟩]) := by
  rw [Hub.accept_of_waiting (describe_cfg hn hs) (by rcases hs with rfl | rfl | rfl <;> rfl) (by simp)
    (by rcases hs with rfl | rfl | rfl <;> rfl) (by rcases hs with rfl | rfl | rfl <;> decide) (by simp)]
  rcases hs with rfl | rfl | rfl <;> rfl

theorem Hub.writeObject_of_cfg {h : Hub} {w : Who} {n sub ty : Nat} {data : List Byte} (hn : isOutput n = true) (hs : sub = 1 ∨ sub = 2 ∨ sub = 3)
    (ha : h.writeAbort w.host (outIdx n) sub ty data = 0) : h.writeObject w (outIdx n) sub ty data = (0, h.cfgWritten n sub (ofBytes data)) := by
  rw [Hub.writeObject_of_waiting ha (h.accept_of_cfg w hn hs data) (by simp) (describe_cfg hn hs), batchOutputs_of_cfg hn hs,
    if_neg (by rcases hs with rfl | rfl | rfl <;> decide), Hub.cfgWritten, ← Hub.acceptedCfg_of_recorded h n _ hs]
  rfl

/-! ## Several fields together: the checks (R264) -/

/-- An Installer in full service. -/
structure Hub.Installs (h : Hub) (k : Nat) : Prop where
  claimed : h.claimed k = true
  role : h.role k = 2
  full : h.boot.full = true
  loader : h.sup.loaderOnly = false
  run : h.pwr.state = 0

/-- One field of a configuration, held. -/
def cfgWrite (n sub v : Nat) : HeldWrite := ⟨outIdx n, sub, objectBytes (outIdx n) sub v⟩

/-- The highest value of a field. -/
def cfgMax (sub : Nat) : Nat := if sub = 3 then 1 else 3

section
variable {h : Hub} {n sub v k : Nat}

theorem objectBytes_cfg (hn : isOutput n = true) (hs : sub = 1 ∨ sub = 2 ∨ sub = 3) : objectBytes (outIdx n) sub v = toBytes 1 v := by
  rw [objectBytes_of_describe (describe_cfg hn hs)]
  rcases hs with rfl | rfl | rfl <;> rfl

theorem Hub.valueCheck_of_cfg (h : Hub) (k n : Nat) (hs : sub = 1 ∨ sub = 2 ∨ sub = 3) (hv : v ≤ cfgMax sub) :
    h.valueCheck k (.outCfg n) (cfgRow sub) sub (toBytes 1 v) = 0 := by
  have hval : ofBytes (toBytes 1 v) = v := ofBytes_toBytes (by unfold cfgMax at hv; split at hv <;> omega)
  have hchk : (cfgRow sub).chk.ok v = true := by
    rcases hs with rfl | rfl | rfl <;> exact decide_eq_true hv
  have htype : (cfgRow sub).ty.valueOk (toBytes 1 v) = true := by
    rcases hs with rfl | rfl | rfl <;> rfl
  have hacc : (cfgRow sub).acc = .rwOwner := by
    rcases hs with rfl | rfl | rfl <;> rfl
  unfold Hub.valueCheck
  rw [hval]
  dsimp only
  rw [hchk, htype, hacc]
  rfl

theorem Hub.heldAbort_of_cfg (hi : h.Installs k) (hn : isOutput n = true) (hs : sub = 1 ∨ sub = 2 ∨ sub = 3) (hv : v ≤ cfgMax sub) :
    h.heldAbort k (outIdx n) sub 0 (objectBytes (outIdx n) sub v) = 0 := by
  obtain ⟨hclaim, hrole, hfull, hload, hrun⟩ := hi
  have hval := h.valueCheck_of_cfg k n hs hv
  unfold Hub.heldAbort
  rw [blockOf_outIdx_cfg hn, describe_cfg hn hs, objectBytes_cfg hn hs]
  dsimp only
  have hheld : h.heldValueCheck k (.outCfg n) (cfgRow sub) sub (toBytes 1 v) = 0 := hval
  rw [hheld]
  rcases hs with rfl | rfl | rfl <;>
    simp [firstAbort, abortUnless, Hub.claimCheck, hclaim, Hub.directionCheck, cfgRow, own, Acc.writable, Hub.roleCheck, hrole, Hub.ownerCheck,
      typeCheck, Ty.lengthOk, Ty.bytes, Hub.serviceCheck, Hub.served, hfull, hload, hrun, Hub.holdable]

theorem Hub.releaseCheck_of_cfg (hi : h.Installs k) (hn : isOutput n = true) (hs : sub = 1 ∨ sub = 2 ∨ sub = 3) (hv : v ≤ cfgMax sub)
    (hc : cfgOk ((h.acceptedCfg n).with_ sub v) = true) : h.releaseCheck k (cfgWrite n sub v) = if (h.output n).fault then 0x08 else 0 := by
  obtain ⟨hclaim, hrole, hfull, hload, hrun⟩ := hi
  have hval := h.valueCheck_of_cfg k n hs hv
  have hnum : ofBytes (toBytes 1 v) = v := ofBytes_toBytes (by unfold cfgMax at hv; split at hv <;> omega)
  unfold Hub.releaseCheck cfgWrite
  rw [describe_cfg hn hs, objectBytes_cfg hn hs]
  dsimp only
  rw [hval, hnum]
  have hstate : h.stateCheck k (.outCfg n) (outIdx n) sub v = if (h.output n).fault then 0x08 else 0 := by
    have hle : ¬3 < sub := by omega
    cases hf : (h.output n).fault <;> simp [Hub.stateCheck, abortUnless, hf, hle]
  rw [hstate]
  rcases hs with rfl | rfl | rfl <;>
    simp [firstAbort, abortUnless, cfgRow, own, Hub.roleCheck, hrole, Hub.ownerCheck, Hub.combinationCheck, hc]

end

/-! ## Several fields together: the batch (R93, R272) -/

/-- A command that is taken, and leaves its mailbox alone. -/
theorem Hub.rowCommand_of_answer {h snap g : Hub} {w : Who} {r : Request} {x : Nat × Nat × List Byte} (ht : h.takes w)
    (ha : (h.opened w r).answer snap w r = (x, g)) (hm : g.mailbox w = (h.opened w r).mailbox w) : h.rowCommand snap w r = g.answered w x := by
  rw [Hub.rowCommand_of_takes ht]
  exact Hub.process_of_answer ha (by rw [hm]; exact (h.opened_mailbox w r).2.2)

/-- The hub with a batch of its host's. -/
def Hub.holding (h : Hub) (k : Nat) (ws : List HeldWrite) : Hub := h.modHost k (fun x => { x with held := ws })

theorem Hub.holding_takes {h : Hub} {w : Who} (ht : h.takes w) (ws : List HeldWrite) : (h.holding w.host ws).takes w := by
  obtain ⟨h1, h2, h3, h4, h5⟩ := ht
  exact ⟨h1, h2, by rw [Hub.holding, Hub.modHost_mailbox]; exact h3, h4, h5⟩

theorem Hub.holding_held (h : Hub) (k : Nat) (ws : List HeldWrite) : ((h.holding k ws).host k).held = ws := by
  rw [Hub.holding, Hub.modHost_host]

theorem Hub.holding_claimed (h : Hub) (k : Nat) (ws : List HeldWrite) (j : Nat) : (h.holding k ws).claimed j = h.claimed j := by
  unfold Hub.claimed Hub.holding
  rw [Hub.host_modHost]
  split
  · next hj => rw [hj]
  · rfl

/-- The three fields of a configuration. -/
def cfgBatch (n : Nat) (c : OutCfg) : List HeldWrite := [cfgWrite n 1 c.mode, cfgWrite n 2 c.range, cfgWrite n 3 c.wiring]

/-- The same as writes. -/
def cfgWrs (n : Nat) (c : OutCfg) : List Wr := [⟨key (outIdx n) 1, c.mode⟩, ⟨key (outIdx n) 2, c.range⟩, ⟨key (outIdx n) 3, c.wiring⟩]

/-- The dictionary with the three fields recorded. -/
def cfgRecorded (o : Table Nat) (n : Nat) (c : OutCfg) : Table Nat :=
  tput (tput (tput o (key (outIdx n) 1) c.mode) (key (outIdx n) 2) c.range) (key (outIdx n) 3) c.wiring

/-- A permitted configuration whose fields a host may write. -/
structure OutCfg.Fits (c : OutCfg) : Prop where
  mode : c.mode ≤ 3
  range : c.range ≤ 3
  wiring : c.wiring ≤ 1
  ok : cfgOk c = true

/-- A hub on which an Installer's configuration of an output stands as accepted. -/
structure Hub.CfgReady (h : Hub) (k n : Nat) (c : OutCfg) : Prop where
  installs : h.Installs k
  cfg : h.acceptedCfg n = c

section
variable {h : Hub} {w : Who} {k n sub v : Nat} {c : OutCfg}

theorem Hub.CfgReady.record (hr : h.CfgReady k n c) (hs : sub = 1 ∨ sub = 2 ∨ sub = 3) (hsame : c.with_ sub v = c) :
    ({ h with objs := tput h.objs (key (outIdx n) sub) v } : Hub).CfgReady k n c := by
  obtain ⟨⟨h1, h2, h3, h4, h5⟩, hcfg⟩ := hr
  exact ⟨⟨h1, h2, h3, h4, h5⟩, by rw [Hub.acceptedCfg_of_recorded h n v hs, hcfg, hsame]⟩

theorem Hub.CfgReady.releaseCheck (hr : h.CfgReady k n c) (hn : isOutput n = true) (hc : cfgOk c = true) (hs : sub = 1 ∨ sub = 2 ∨ sub = 3)
    (hv : v ≤ cfgMax sub) (hsame : c.with_ sub v = c) : h.releaseCheck k (cfgWrite n sub v) = if (h.output n).fault then 0x08 else 0 :=
  Hub.releaseCheck_of_cfg hr.installs hn hs hv (by rw [hr.cfg, hsame]; exact hc)

/-- One field of a batch is accepted, and the rest follows. -/
theorem Hub.acceptHeld_of_cfgWrite {g : Hub} {rest : List HeldWrite} {ws : List Wr} (hr : h.CfgReady w.host n c) (hn : isOutput n = true)
    (hc : cfgOk c = true) (hs : sub = 1 ∨ sub = 2 ∨ sub = 3) (hv : v ≤ cfgMax sub) (hsame : c.with_ sub v = c) (hf : (h.output n).fault = false)
    (hrest : ({ h with objs := tput h.objs (key (outIdx n) sub) v } : Hub).acceptHeld w rest = (0, g, ws, none)) :
    h.acceptHeld w (cfgWrite n sub v :: rest) = (0, g, [⟨key (outIdx n) sub, v⟩] ++ ws, none) := by
  have hcheck := hr.releaseCheck hn hc hs hv hsame
  rw [if_neg (by simp [hf])] at hcheck
  have hval : ofBytes (objectBytes (outIdx n) sub v) = v := by
    rw [objectBytes_cfg hn hs]
    exact ofBytes_toBytes (by unfold cfgMax at hv; split at hv <;> omega)
  have hacc := h.accept_of_cfg w hn hs (objectBytes (outIdx n) sub v)
  rw [hval] at hacc
  exact Hub.acceptHeld_of_accepted hcheck hacc hrest

theorem Hub.acceptHeld_of_cfgBatch (hr : h.CfgReady w.host n c) (hn : isOutput n = true) (hc : c.Fits) (hf : (h.output n).fault = false) :
    h.acceptHeld w (cfgBatch n c) = (0, { h with objs := cfgRecorded h.objs n c }, cfgWrs n c, none) := by
  obtain ⟨h1, h2, h3, hok⟩ := hc
  have r1 := hr.record (sub := 1) (v := c.mode) (by simp) rfl
  have r2 := r1.record (sub := 2) (v := c.range) (by simp) rfl
  exact Hub.acceptHeld_of_cfgWrite hr hn hok (by simp) h1 rfl hf
    (Hub.acceptHeld_of_cfgWrite r1 hn hok (by simp) h2 rfl hf (Hub.acceptHeld_of_cfgWrite r2 hn hok (by simp) h3 rfl hf rfl))

theorem Hub.acceptHeld_of_cfgBatch_fault (hr : h.CfgReady w.host n c) (hn : isOutput n = true) (hc : c.Fits) (hf : (h.output n).fault = true) :
    h.acceptHeld w (cfgBatch n c) = (0x08, h, [], some (cfgWrite n 1 c.mode)) := by
  have hcheck := hr.releaseCheck hn hc.ok (sub := 1) (by simp) hc.mode rfl
  rw [if_pos hf] at hcheck
  rw [cfgBatch, Hub.acceptHeld_of_failed (by rw [hcheck]; decide), hcheck]

theorem batchOutputs_of_cfgBatch (hn : isOutput n = true) : batchOutputs ((cfgBatch n c).map (fun x => ⟨key x.idx x.sub, 0⟩)) = [n] := by
  have hk : ∀ sub, sub < 256 → blockOf (key (outIdx n) sub / 256) = some (.outCfg n) := fun sub hs => by rw [key_div hs, blockOf_outIdx_cfg hn]
  simp [batchOutputs, cfgBatch, cfgWrite, hk, key_mod, withOne]

theorem Hub.acceptCombined_of_cfgBatch (hn : isOutput n = true) (hc : c.Fits) :
    h.acceptCombined (cfgBatch n c) = { h with objs := cfgRecorded h.objs n c } := by
  obtain ⟨h1, h2, h3, -⟩ := hc
  have hval : ∀ sub v, sub = 1 ∨ sub = 2 ∨ sub = 3 → v < 256 → ofBytes (objectBytes (outIdx n) sub v) = v := fun sub v hs hv => by
    rw [objectBytes_cfg hn hs]
    exact ofBytes_toBytes (by omega)
  simp only [Hub.acceptCombined, cfgBatch, cfgWrite, List.foldl, blockOf_outIdx_cfg hn, hval 1 c.mode (by simp) (by omega),
    hval 2 c.range (by simp) (by omega), hval 3 c.wiring (by simp) (by omega)]
  rfl

theorem Hub.acceptedCfg_of_cfgRecorded (h : Hub) (n : Nat) (c : OutCfg) :
    ({ h with objs := cfgRecorded h.objs n c } : Hub).acceptedCfg n = c := by
  have h1 := Hub.acceptedCfg_of_recorded h n c.mode (sub := 1) (by simp)
  have h2 := Hub.acceptedCfg_of_recorded { h with objs := tput h.objs (key (outIdx n) 1) c.mode } n c.range (sub := 2) (by simp)
  have h3 := Hub.acceptedCfg_of_recorded { h with objs := tput (tput h.objs (key (outIdx n) 1) c.mode) (key (outIdx n) 2) c.range } n c.wiring
    (sub := 3) (by simp)
  exact h3.trans (by rw [h2, h1]; rfl)

/-- The hub on which the three fields are accepted one after the other. -/
def Hub.cfgTogether (h : Hub) (w : Who) (n : Nat) (c : OutCfg) : Hub :=
  ({ h.discardBatch w with objs := cfgRecorded h.objs n c } : Hub).outputAccept n (h.acceptedCfg n) c

theorem Hub.batchReady_of_cfgBatch (hn : isOutput n = true) (hc : c.Fits) (hh : (h.host w.host).held = cfgBatch n c) :
    h.batchReady w = h.cfgTogether w n c := by
  unfold Hub.batchReady
  rw [hh, batchOutputs_of_cfgBatch hn, Hub.acceptCombined_of_cfgBatch hn hc]
  exact congrArg (fun x => ({ h.discardBatch w with objs := cfgRecorded h.objs n c } : Hub).outputAccept n (h.acceptedCfg n) x)
    (Hub.acceptedCfg_of_cfgRecorded (h.discardBatch w) n c)

theorem Hub.cfgTogether_rest (h : Hub) (w : Who) (n : Nat) (c : OutCfg) :
    { h.cfgTogether w n c with outs := h.outs } = { h.discardBatch w with objs := cfgRecorded h.objs n c } :=
  Hub.outputAccept_rest _ _ _ _

theorem Hub.cfgTogether_fault (h : Hub) (w : Who) (n : Nat) (c : OutCfg) : ((h.cfgTogether w n c).output n).fault = (h.output n).fault :=
  Hub.outputAccept_fault _ _ _ _

theorem Hub.cfgTogether_ready (hi : h.Installs w.host) : (h.cfgTogether w n c).CfgReady w.host n c := by
  obtain ⟨h1, h2, h3, h4, h5⟩ := hi
  have hrest := h.cfgTogether_rest w n c
  refine ⟨⟨?_, ?_, ?_, ?_, ?_⟩, ?_⟩
  · exact (congrArg (fun g : Hub => g.claimed w.host) hrest :).trans ((h.holding_claimed w.host [] w.host).trans h1)
  · exact (congrArg (fun g : Hub => g.role w.host) hrest :).trans h2
  · exact (congrArg (fun g : Hub => g.boot.full) hrest :).trans h3
  · exact (congrArg (fun g : Hub => g.sup.loaderOnly) hrest :).trans h4
  · exact (congrArg (fun g : Hub => g.pwr.state) hrest :).trans h5
  · exact (congrArg (fun g : Hub => g.acceptedCfg n) hrest :).trans (Hub.acceptedCfg_of_cfgRecorded (h.discardBatch w) n c)

theorem Hub.releaseBatch_of_cfgBatch (hi : h.Installs w.host) (hn : isOutput n = true) (hc : c.Fits)
    (hh : (h.host w.host).held = cfgBatch n c) (hf : (h.output n).fault = false) : h.releaseBatch w =
      (0, { h.cfgTogether w n c with
        objs := cfgRecorded (h.cfgTogether w n c).objs n c, batches := (h.cfgTogether w n c).batches ++ [cfgWrs n c] }, 3) := by
  have hacc := Hub.acceptHeld_of_cfgBatch (Hub.cfgTogether_ready hi (n := n) (c := c)) hn hc ((h.cfgTogether_fault w n c).trans hf)
  rw [Hub.releaseBatch_of_accepted (by simp [hh, cfgBatch]) (by rw [Hub.batchReady_of_cfgBatch hn hc hh, hh]; exact hacc) (by simp [cfgWrs]), hh]
  rfl

theorem Hub.releaseBatch_of_cfgBatch_fault (hi : h.Installs w.host) (hn : isOutput n = true) (hc : c.Fits)
    (hh : (h.host w.host).held = cfgBatch n c) (hf : (h.output n).fault = true) : h.releaseBatch w = (0x08, h.discardBatch w, 0) := by
  have hacc := Hub.acceptHeld_of_cfgBatch_fault (Hub.cfgTogether_ready hi (n := n) (c := c)) hn hc ((h.cfgTogether_fault w n c).trans hf)
  rw [Hub.releaseBatch_of_failed (by simp [hh, cfgBatch]) (by rw [Hub.batchReady_of_cfgBatch hn hc hh, hh]; exact hacc) (by decide)]
  have hb : blockOf (outIdx n) = some (.outCfg n) := blockOf_outIdx_cfg hn
  exact congrArg (fun g : Hub => (0x08, g, 0)) (Hub.refusal_of_plain (idx := outIdx n) _ (by simp [hb]) (by simp [hb]) (by simp [hb]) _ _ _)

/-! ## Several fields together: the row (R93) -/

/-- Several fields, each of which passes its checks, are released as one batch; the host's own is put back. -/
theorem Hub.writeTogether_of_cfgBatch {snap : Hub} (hi : h.Installs w.host) (hn : isOutput n = true) (hc : c.Fits) :
    h.writeTogether snap w (cfgBatch n c) =
      ((h.holding w.host (cfgBatch n c)).rowCommand snap w (requestOf 4 0 0 0 [])).holding w.host (h.host w.host).held := by
  have hnone : (cfgBatch n c).find? (fun x => decide (h.heldAbort w.host x.idx x.sub 0 x.data ≠ 0)) = none := by
    have h1 := Hub.heldAbort_of_cfg hi hn (sub := 1) (by simp) hc.mode
    have h2 := Hub.heldAbort_of_cfg hi hn (sub := 2) (by simp) hc.range
    have h3 := Hub.heldAbort_of_cfg hi hn (sub := 3) (by simp) hc.wiring
    simp [cfgBatch, cfgWrite, h1, h2, h3]
  unfold Hub.writeTogether
  dsimp only
  rw [hnone]
  rfl

theorem Hub.opened_state (h : Hub) (w : Who) (r : Request) : (h.opened w r).pwr.state = h.pwr.state := by
  have hungate : (h.touch w.host).ungate.pwr.state = (h.touch w.host).pwr.state := by
    unfold Hub.ungate
    split <;> rfl
  exact (congrArg (fun g : Hub => g.pwr.state) ((h.touch w.host).ungate.modMailbox_rest w _) :).trans
    (hungate.trans (congrArg (fun g : Hub => g.pwr.state) (h.touch_rest w.host) :))

/-- The hub that takes the release of the fields' batch. -/
def Hub.cfgTaken (h : Hub) (w : Who) (n : Nat) (c : OutCfg) : Hub := (h.holding w.host (cfgBatch n c)).opened w (requestOf 4 0 0 0 [])

theorem Hub.cfgTaken_rest (h : Hub) (w : Who) (n : Nat) (c : OutCfg) :
    { h.cfgTaken w n c with mailTwi := h.mailTwi, mailTether := h.mailTether, hosts := h.hosts, pwr := h.pwr, timers := h.timers } = h :=
  (congrArg (fun g : Hub => { g with hosts := h.hosts }) ((h.holding w.host (cfgBatch n c)).opened_rest w (requestOf 4 0 0 0 [])) :)

theorem Hub.cfgTaken_installs (hi : h.Installs w.host) : (h.cfgTaken w n c).Installs w.host := by
  obtain ⟨h1, h2, h3, h4, h5⟩ := hi
  have hrest := h.cfgTaken_rest w n c
  refine ⟨?_, ?_, ?_, ?_, ?_⟩
  · exact (Hub.opened_claimed _ _ _ _).trans ((h.holding_claimed _ _ _).trans h1)
  · exact (congrArg (fun g : Hub => g.role w.host) hrest :).trans h2
  · exact (congrArg (fun g : Hub => g.boot.full) hrest :).trans h3
  · exact (congrArg (fun g : Hub => g.sup.loaderOnly) hrest :).trans h4
  · exact (Hub.opened_state _ _ _).trans h5

theorem Hub.cfgTaken_held (h : Hub) (w : Who) (n : Nat) (c : OutCfg) : ((h.cfgTaken w n c).host w.host).held = cfgBatch n c :=
  (Hub.opened_held _ _ _).trans (h.holding_held _ _)

theorem Hub.cfgTaken_fault (h : Hub) (w : Who) (n : Nat) (c : OutCfg) : ((h.cfgTaken w n c).output n).fault = (h.output n).fault :=
  (congrArg (fun g : Hub => (g.output n).fault) (h.cfgTaken_rest w n c) :)

theorem Hub.cfgTogether_mailbox (h : Hub) (w : Who) (n : Nat) (c : OutCfg) (v : Who) : (h.cfgTogether w n c).mailbox v = h.mailbox v :=
  (congrArg (fun g : Hub => g.mailbox v) (h.cfgTogether_rest w n c) :)

/-- The hub as the row leaves it, `g` being what the release makes of it. -/
theorem Hub.writeTogether_of_release {snap g : Hub} {x n' : Nat} (hi : h.Installs w.host) (hn : isOutput n = true) (hc : c.Fits) (ht : h.takes w)
    (hx : (h.cfgTaken w n c).releaseBatch w = (x, g, n')) (hm : g.mailbox w = (h.cfgTaken w n c).mailbox w) :
    h.writeTogether snap w (cfgBatch n c) =
      (g.answered w (x, 0, if x = 0 then [BitVec.ofNat 8 n'] else [])).holding w.host (h.host w.host).held := by
  rw [Hub.writeTogether_of_cfgBatch hi hn hc]
  exact congrArg (fun e : Hub => e.holding w.host (h.host w.host).held)
    (Hub.rowCommand_of_answer (Hub.holding_takes ht _) (Hub.answer_of_release (Hub.cfgTaken_installs hi).claimed hx _) hm)

theorem Hub.answered_rest (g : Hub) (w : Who) (x : Nat × Nat × List Byte) :
    { g.answered w x with mailTwi := g.mailTwi, mailTether := g.mailTether, twi := g.twi, timers := g.timers } = g :=
  g.answered_besideCommand g w x

theorem Hub.accepted_of_cfgRecorded (h : Hub) (o : Table Nat) (n : Nat) (c : OutCfg) (ho : h.objs = cfgRecorded o n c) :
    h.accepted (outIdx n) 1 = c.mode ∧ h.accepted (outIdx n) 2 = c.range ∧ h.accepted (outIdx n) 3 = c.wiring := by
  simp [Hub.accepted, ho, cfgRecorded, tgetD_tput_other, key_ne]

end

end Sys2Proof.Machine

open Sys2Proof Sys2Proof.Machine

/-- Settles O51: each row's table entry decides that it waits, and the ports' masks and the outputs' modes add their own effect. -/
theorem blockSettingsWait : Obligations.BlockSettingsWait := by
  unfold Obligations.BlockSettingsWait
  refine ⟨?_, ?_, ?_, ?_, ?_, ?_, ?_, ?_, ?_, ?_, ?_, ?_, ?_⟩
  case refine_1 =>
    exact fun s w n v hn hv ha => writesAsBatch_of_row rfl hn ha (waitsFor_front hn (by simp)) (by simp) (by simp [frontRow, own, Ty.bytes]; omega)
  case refine_2 =>
    intro s w n v hn hv ha
    have hr : 1 ≤ n ∧ n ≤ 52 := by simpa [isTrimSource] using hn
    by_cases h48 : n ≤ 48
    · have hi : frontIdx n = inFrontIdx n := if_pos h48
      rw [hi] at ha ⊢
      exact writesAsBatch_of_row (by rw [← hi]; rfl) hn ha (waitsFor_front (by simp [isInput]; omega) (by simp)) (by simp)
        (by simp [frontRow, own, Ty.bytes]; omega)
    · have hi : frontIdx n = hmIdx (n - 48) := if_neg h48
      rw [hi] at ha ⊢
      exact writesAsBatch_of_row (by rw [← hi]; rfl) hn ha (waitsFor_hmFront_polarity (by simp [isHeadMic]; omega)) (by simp)
        (by simp [own, Ty.bytes]; omega)
  case refine_3 =>
    exact fun s w p v hp hv ha => writesAsBatch_of_row rfl hp ha (waitsFor_enable hp) (by simp) (by simp [own, Ty.bytes]; omega)
  case refine_4 =>
    exact fun s w v hv ha => writesAsBatch_of_row rfl rfl ha (b := .speaker) (r := own 6 .bool 0 .any) ⟨rfl, by decide, rfl, rfl, rfl, rfl, rfl⟩
      (by simp) (by simp [own, Ty.bytes]; omega)
  case refine_5 =>
    exact fun s w v hv ha => writesAsBatch_of_row rfl rfl ha (b := .clocks) (r := inst 4 .u8 0 (.le 3)) ⟨rfl, by decide, rfl, rfl, rfl, rfl, rfl⟩
      (by simp) (by simp [inst, Ty.bytes]; omega)
  case refine_6 =>
    exact fun s w v hv ha => writesAsBatch_of_row rfl rfl ha (b := .clocks) (r := inst 5 .u8 0 (.le 7)) ⟨rfl, by decide, rfl, rfl, rfl, rfl, rfl⟩
      (by simp) (by simp [inst, Ty.bytes]; omega)
  case refine_7 =>
    exact fun s w v hv ha => writesAsBatch_of_row rfl rfl ha (b := .power)
      (r := { lo := 7, hi := 7, ty := .u32, acc := .rw 2, deflt := 0xF00FFF }) ⟨rfl, by decide, rfl, rfl, rfl, rfl, rfl⟩ (by simp)
      (by simp [Ty.bytes]; omega)
  case refine_8 =>
    exact fun s w c v hc hv ha => writesAsBatch_of_row rfl hc ha (waitsFor_watchInput hc) (by simp) (by simp [watchInputRow, inst, Ty.bytes]; omega)
  case refine_9 =>
    intro s w p sub v hp hs hv ha
    have hval : ofBytes (objectBytes (portIdx p) sub v) = v := by
      rw [objectBytes_of_describe (describe_mask hp hs)]
      exact ofBytes_toBytes (by simp [own, Ty.bytes]; omega)
    have hw := Hub.writeObject_of_mask hp hs ha.2
    rw [hval] at hw
    have hok : (isPort p && (decide (sub = 0x0E) || decide (sub = 0x0F) || decide (sub = 0x10))) = true := by
      rcases hs with rfl | rfl <;> simp [hp]
    refine actsAtOnce_of_row rfl hok ha hw (Hub.maskStage_mailbox _ _ _) (fun h hl => ⟨?_, ?_, ?_, fun q hq => ?_, ?_⟩)
    · exact (congrArg Hub.objs hl.rest :).trans (Hub.maskStage_objs _ _)
    · exact (congrArg Hub.batches hl.rest :).trans (congrArg (· ++ _) (Hub.maskStage_batches _ _))
    · exact (congrArg (fun g : Hub => g.port p) hl.rest :).trans (Hub.maskStage_port _ _)
    · exact (congrArg (fun g : Hub => g.port q) hl.rest :).trans (Hub.maskStage_port_other _ _ hq)
    · rw [hl.rest]
      exact Hub.maskWritten_rest _ _ _ _ _
  case refine_10 =>
    intro s w p i u hp hi hu ha
    have hval : ofBytes (objectBytes (portIdx p) 0x10 (i * 2 ^ 32 + u)) = i * 2 ^ 32 + u := by
      rw [objectBytes_of_describe (describe_masks hp)]
      exact ofBytes_toBytes (by simp [Ty.bytes]; omega)
    have hw := Hub.writeObject_of_masks hp ha.2
    rw [hval] at hw
    have hdiv : (i * 2 ^ 32 + u) / 4294967296 = i := by omega
    have hmod : (i * 2 ^ 32 + u) % 4294967296 = u := by omega
    refine actsAtOnce_of_row rfl (by simp [hp]) ha hw (Hub.maskStage_mailbox _ _ _) (fun h hl => ⟨?_, ?_, ?_, ?_⟩)
    · exact (congrArg (fun g : Hub => g.accepted (portIdx p) 0x0E) hl.rest :).trans ((Hub.masksWritten_accepted _ _ _).1.trans hdiv)
    · exact (congrArg (fun g : Hub => g.accepted (portIdx p) 0x0F) hl.rest :).trans ((Hub.masksWritten_accepted _ _ _).2.trans hmod)
    · refine (congrArg Hub.batches hl.rest :).trans ((congrArg (· ++ _) (Hub.maskStage_batches _ _)).trans ?_)
      rw [hdiv, hmod]
    · rw [hl.rest]
      exact Hub.masksWritten_rest _ _ _ _
  case refine_11 =>
    intro s w n v hn hv ha
    have hval : ofBytes (objectBytes (outIdx n) 1 v) = v := by
      rw [objectBytes_cfg hn (by simp)]
      exact ofBytes_toBytes (by omega)
    have hw := Hub.writeObject_of_cfg hn (by simp) ha.2
    rw [hval] at hw
    refine actsAtOnce_of_row (ok := isOutput n) rfl hn ha hw (Hub.cfgWritten_mailbox _ _ _ _ _) (fun h hl => ⟨?_, ?_, ?_, ?_⟩)
    · exact (congrArg Hub.objs hl.rest :).trans (Hub.outputAccept_objs _ _ _ _)
    · exact (congrArg Hub.batches hl.rest :).trans (congrArg (· ++ _) (Hub.outputAccept_batches _ _ _ _))
    · exact (congrArg (fun g : Hub => (g.output n).cv.queue) hl.rest :).trans (Hub.outputAccept_queue _ _ _ _)
    · rw [hl.rest]
      exact Hub.cfgWritten_rest _ _ _ _ _
  case refine_12 =>
    intro s w n m r c hn ht hclaim hrole hfull hload hrun hm hr hc hok hf
    have hfits : OutCfg.Fits ⟨m, r, c⟩ := ⟨hm, hr, hc, hok⟩
    have hi : s.hub.Installs w.host := ⟨hclaim, hrole, hfull, hload, hrun⟩
    refine answers_of_run (f := fun h => h.writeTogether s.snap w (cfgBatch n ⟨m, r, c⟩)) rfl (by rw [ht.1, hn]; rfl) ?_
    have hto := s.hub.cfgTaken_rest w n ⟨m, r, c⟩
    have htog := (s.hub.cfgTaken w n ⟨m, r, c⟩).cfgTogether_rest w n ⟨m, r, c⟩
    rw [Hub.writeTogether_of_release hi hn hfits ht
      (Hub.releaseBatch_of_cfgBatch (Hub.cfgTaken_installs hi) hn hfits (s.hub.cfgTaken_held _ _ _) ((s.hub.cfgTaken_fault _ _ _).trans hf))
      (Hub.cfgTogether_mailbox _ _ _ _ _)]
    have hone : ((s.hub.cfgTaken w n ⟨m, r, c⟩).mailbox w).result = 1 := (Hub.opened_mailbox _ _ _).1
    generalize s.hub.cfgTaken w n ⟨m, r, c⟩ = o at hto htog hone ⊢
    have hmail : ((o.cfgTogether w n ⟨m, r, c⟩).mailbox w).result = 1 := by rw [Hub.cfgTogether_mailbox, hone]
    generalize o.cfgTogether w n ⟨m, r, c⟩ = e at htog hmail ⊢
    have hbatch : e.batches = s.hub.batches := (congrArg Hub.batches htog :).trans (congrArg Hub.batches hto :)
    have hlive : e.live = s.hub.live := (congrArg Hub.live htog :).trans (congrArg Hub.live hto :)
    have hans := Hub.answered_rest
      { e with objs := cfgRecorded e.objs n ⟨m, r, c⟩, batches := e.batches ++ [cfgWrs n ⟨m, r, c⟩] } w (0, 0, [3])
    obtain ⟨hmode, hrange, hwiring⟩ := Hub.accepted_of_cfgRecorded _ e.objs n ⟨m, r, c⟩ (congrArg Hub.objs hans :)
    refine ⟨⟨?_, ?_⟩, hmode, hrange, hwiring, ?_, Hub.holding_held _ _ _, ?_⟩
    · rw [Hub.holding, Hub.modHost_mailbox, if_pos rfl, Hub.answered_mailbox]
      exact hmail
    · rw [Hub.holding, Hub.modHost_mailbox, if_pos rfl, Hub.answered_mailbox]
      rfl
    · exact (congrArg Hub.batches hans :).trans (by rw [hbatch]; rfl)
    · exact (congrArg Hub.live hans :).trans hlive
  case refine_13 =>
    intro s w n m r c hn ht hclaim hrole hfull hload hrun hm hr hc hok hf
    have hfits : OutCfg.Fits ⟨m, r, c⟩ := ⟨hm, hr, hc, hok⟩
    have hi : s.hub.Installs w.host := ⟨hclaim, hrole, hfull, hload, hrun⟩
    refine answers_of_run (f := fun h => h.writeTogether s.snap w (cfgBatch n ⟨m, r, c⟩)) rfl (by rw [ht.1, hn]; rfl) ?_
    have hto := s.hub.cfgTaken_rest w n ⟨m, r, c⟩
    rw [Hub.writeTogether_of_release hi hn hfits ht
      (Hub.releaseBatch_of_cfgBatch_fault (Hub.cfgTaken_installs hi) hn hfits (s.hub.cfgTaken_held _ _ _) ((s.hub.cfgTaken_fault _ _ _).trans hf))
      rfl]
    generalize s.hub.cfgTaken w n ⟨m, r, c⟩ = o at hto ⊢
    have hans := (o.discardBatch w).answered_rest w (8, 0, [])
    refine ⟨?_, ?_, ?_, ?_, ?_, ?_⟩
    · rw [Hub.holding, Hub.modHost_mailbox, if_neg (by decide), Hub.answered_mailbox]
      rfl
    · exact (congrArg Hub.objs hans :).trans (congrArg Hub.objs hto :)
    · exact (congrArg Hub.batches hans :).trans (congrArg Hub.batches hto :)
    · exact (congrArg Hub.outs hans :).trans (congrArg Hub.outs hto :)
    · exact Hub.holding_held _ _ _
    · exact (congrArg Hub.live hans :).trans (congrArg Hub.live hto :)
end

section
/-! SUPPORT. Rows that write settings of the frame class, crosspoints in bank mode, and commands of the block class (R151, R172, R266, R267). -/

namespace Sys2Proof.Machine

/-! ## Rows without effects of their own -/

theorem waitsFor_source {k : Nat} (hk : isSink k = true) : WaitsFor (selIdx k) 1 (.selector k) (own 1 .u16 0 .any 1) 1 true :=
  ⟨(describe_of_block (blockOf_selIdx hk) (by decide)).trans rfl, by decide, rfl, rfl, rfl, rfl, rfl⟩

theorem waitsFor_generator {g : Nat} (hg : g < 8) : WaitsFor (genIdx g) 1 (.generator g) (oper 1 .u8 0 (.le 3) 1) 1 true :=
  ⟨(describe_of_block (blockOf_genIdx hg) (by decide)).trans rfl, by decide, rfl, rfl, rfl, rfl, rfl⟩

/-- The row of a source's trims. -/
def trimLevelRow : Row := { lo := 1, hi := 8, ty := .gain, acc := .rwHostInst, stored := true, cls := 1, chk := .level (-2000) 9000 }

theorem waitsFor_trim {n k : Nat} (hn : isTrimSource n = true) (hk : k < 8) : WaitsFor (trimIdx n) (k + 1) (.trims n) trimLevelRow 1 true := by
  have hrow : rowIn trimRows (k + 1) = some trimLevelRow := if_pos ⟨by simp, by simp; omega⟩
  exact ⟨(describe_of_block (blockOf_trimIdx hn) (by omega)).trans (congrArg _ hrow), by omega, rfl, rfl, rfl, rfl, rfl⟩

/-- The row of a bus's crosspoints. -/
def crosspointRow : Row := { lo := 1, hi := 0x40, ty := .u64, acc := .rwOwner, stored := true, cls := 1 }

theorem waitsFor_crosspoint {b k : Nat} (hb : isBus b = true) (hlo : 1 ≤ k) (hhi : k ≤ 64) :
    WaitsFor (busIdx b) k (.bus b) crosspointRow 1 true := by
  have hrow : rowIn busRows k = some crosspointRow := if_pos ⟨hlo, hhi⟩
  exact ⟨(describe_of_block (blockOf_busIdx hb) hlo).trans (congrArg _ hrow), by omega, rfl, rfl, rfl, rfl, rfl⟩

theorem waitsFor_remove {p : Nat} (hp : isProcess p = true) : WaitsFor (procIdx p) 6 (.process p) (go 6 .woOwner 2) 2 false :=
  ⟨(describe_of_block (blockOf_procIdx hp) (by decide)).trans rfl, by decide, rfl, rfl, rfl, rfl, rfl⟩

theorem waitsFor_start {p : Nat} (hp : isPort p = true) : WaitsFor (portIdx p) 0x11 (.port p) (go 0x11 .woOwner 2) 2 false :=
  ⟨(describe_of_block (blockOf_portIdx hp) (by decide)).trans rfl, by decide, rfl, rfl, rfl, rfl, rfl⟩

theorem waitsFor_stop {p : Nat} (hp : isPort p = true) : WaitsFor (portIdx p) 0x12 (.port p) (go 0x12 .woOwner 2) 2 false :=
  ⟨(describe_of_block (blockOf_portIdx hp) (by decide)).trans rfl, by decide, rfl, rfl, rfl, rfl, rfl⟩

/-! ## Trims through the host view (R172, R173, R294) -/

section
variable {h : Hub} {k n v : Nat}

theorem Hub.viewTrim_of_operator (hn : isTrimSource n = true) (hk : k < 8) (hc : h.claimed k = true) (hr : 1 ≤ h.role k) (hv : v < 2 ^ 32)
    (hlo : -2000 ≤ toS32 v) (hhi : toS32 v ≤ 9000) : h.viewTrim k n v =
      { h with objs := tput h.objs (key (trimIdx n) (k + 1)) v, frameQ := h.frameQ ++ [⟨key (trimIdx n) (k + 1), v⟩] } := by
  obtain ⟨hd, -, hclr, -, hact, hcls, -⟩ := waitsFor_trim hn hk
  have hrole : h.roleCheck k (.trims n) trimLevelRow (k + 1) = 0 := by
    simp [Hub.roleCheck, trimLevelRow, Blk.hostOf, abortUnless, hr]
  have hchk : trimLevelRow.chk.ok v = true := by
    simp [trimLevelRow, Check.ok, hlo, hhi]
  have hacc := Hub.accept_of_waiting (h := h) (w := ⟨.twoWire, k⟩) (data := toBytes 4 v) hd hclr (by simp) hact (by omega) (by simp)
  unfold Hub.viewTrim
  dsimp only
  rw [hd]
  dsimp only
  rw [hc, hrole, hchk, hacc, show settingValue (.trims n) (toBytes 4 v) = v from ofBytes_toBytes hv]
  rfl

end

theorem Hub.touch_claimed (h : Hub) (k : Nat) : ((h.touch k).ungate).claimed k = h.claimed k := by
  unfold Hub.claimed
  obtain ⟨p, hp⟩ := h.touch_host k
  rw [Hub.ungate_host, hp]

/-- The hub that took an access differs in the host slots, the deadlines and the power state alone. -/
theorem Hub.accessed_rest (h : Hub) (k : Nat) : { (h.touch k).ungate with hosts := h.hosts, timers := h.timers, pwr := h.pwr } = h :=
  (congrArg (fun g : Hub => { g with hosts := h.hosts, timers := h.timers, pwr := h.pwr }) (h.touch k).ungate_rest :).trans
    (congrArg (fun g : Hub => { g with pwr := h.pwr }) (h.touch_rest k) :)

/-! ## Crosspoints of a host in bank mode (R151) -/

theorem Hub.Left.bus {g o h : Hub} {w : Who} (hl : Hub.Left g o w h) (b : Nat) : h.bus b = g.bus b := (congrArg (fun x : Hub => x.bus b) hl.rest :)

section
variable {h : Hub} {w : Who} {b k ty : Nat} {data : List Byte}

theorem busOfKey_crosspoint (hb : isBus b = true) (hk : k ≤ 64) : busOfKey (key (busIdx b) k) = b := by
  have hlt : b < 64 := by simpa [isBus] using hb
  unfold busOfKey
  rw [key_div (by omega)]
  unfold busIdx
  dsimp only
  split
  · next h60 => rw [if_pos rfl, h60]
  · next h60 => rw [if_neg (by omega)]; omega

theorem Hub.writeObject_of_bank (hb : isBus b = true) (hlo : 1 ≤ k) (hhi : k ≤ 64) (hm : h.bankMode w.host = true)
    (ha : h.writeAbort w.host (busIdx b) k ty data = 0) :
    h.writeObject w (busIdx b) k ty data = (0, h.shadowWrite w.host (key (busIdx b) k) (ofBytes data)) := by
  refine Hub.writeObject_of_atOnce ha ?_
  have hd := (waitsFor_crosspoint hb hlo hhi).described
  unfold Hub.accept
  rw [hd]
  dsimp only [crosspointRow]
  rw [hm, decide_eq_true hhi]
  rfl

end

/-! ## The mask of a mute group (R52) -/

theorem firstAbort_eq_zero {l : List Nat} (hl : firstAbort l = 0) : ∀ a ∈ l, a = 0 := by
  induction l with
  | nil => simp
  | cons a r ih =>
    unfold firstAbort at hl
    split at hl
    · next ha => exact fun x hx => (List.mem_cons.mp hx).elim (fun he => he.trans ha) (ih hl x)
    · next ha => exact absurd hl ha

/-- The checks that an accepted write has passed (R264). -/
theorem Hub.checks_of_writeAbort {h : Hub} {host idx sub ty : Nat} {data : List Byte} {b : Blk} {r : Row} (hd : describe idx sub = some (b, r))
    (ha : h.writeAbort host idx sub ty data = 0) :
    h.roleCheck host b r sub = 0 ∧ typeCheck b r sub ty data = 0 ∧ h.valueCheck host b r sub data = 0 ∧
      h.stateCheck host b idx sub (ofBytes data) = 0 ∧ h.storeCheck b sub (ofBytes data) = 0 := by
  unfold Hub.writeAbort at ha
  rw [blockOf_of_describe hd, hd] at ha
  have hall := firstAbort_eq_zero ha
  exact ⟨hall _ (by simp), hall _ (by simp), hall _ (by simp), hall _ (by simp), hall _ (by simp)⟩

/-- The row of the mute masks. -/
def muteMaskRow : Row := { lo := 1, hi := 4, ty := .u64, acc := .rw 2, stored := true, cls := 4, chk := .mask (2 ^ 52 - 1) }

theorem describe_muteMask {k : Nat} (hk : isMuteGroup k = true) : describe 0x2700 (k + 1) = some (.hmute, muteMaskRow) := by
  have hlt : k < 4 := by simpa [isMuteGroup] using hk
  have hrow : rowIn hmuteRows (k + 1) = some muteMaskRow := if_pos ⟨by simp, by simp; omega⟩
  exact (describe_of_block (b := .hmute) rfl (by omega)).trans (congrArg _ hrow)

/-- A write to a mask is written through: it is recorded, and its row queued. -/
theorem Hub.writeObject_of_muteMask {h : Hub} {w : Who} {k ty : Nat} {data : List Byte} (hk : isMuteGroup k = true)
    (ha : h.writeAbort w.host 0x2700 (k + 1) ty data = 0) : h.writeObject w 0x2700 (k + 1) ty data =
      (0, ({ h with objs := tput h.objs (key 0x2700 (k + 1)) (ofBytes data) } : Hub).modStore
        (fun s => { s with queue := s.queue ++ [.muteMask k], e5Done := false })) := by
  have hlt : k < 4 := by simpa [isMuteGroup] using hk
  have hd := describe_muteMask hk
  obtain ⟨-, -, -, -, hstore⟩ := Hub.checks_of_writeAbort hd ha
  have hdip : h.supply.dip = false := by
    rw [Hub.storeCheck, if_pos (by omega)] at hstore
    cases hdip : h.supply.dip with
    | false => rfl
    | true => rw [hdip] at hstore; cases hstore
  refine Hub.writeObject_of_atOnce ha ?_
  have hreq := Hub.request_of_no_dip (h := { h with objs := tput h.objs (key 0x2700 (k + 1)) (ofBytes data) }) (.muteMask k) hdip
  unfold Hub.accept
  rw [hd, ← hreq]
  dsimp only [muteMaskRow]
  have hon : ({ h with objs := tput h.objs (key 0x2700 (k + 1)) (ofBytes data) } : Hub).onAccept .hmute (k + 1) =
      ({ h with objs := tput h.objs (key 0x2700 (k + 1)) (ofBytes data) } : Hub).request (.muteMask k) := if_pos (by omega)
  exact congrArg (fun g : Hub => (g, ([] : List Wr))) hon

end Sys2Proof.Machine

open Sys2Proof Sys2Proof.Machine

/-- Settles O52: each row's table entry decides that it waits for its boundary; bank mode and the host view take ways of their own. -/
theorem frameSettingsAndBlockCommandsWait : Obligations.FrameSettingsAndBlockCommandsWait := by
  unfold Obligations.FrameSettingsAndBlockCommandsWait
  refine ⟨?_, ?_, ?_, ?_, ?_, ?_, ?_, ?_, ?_, ?_⟩
  case refine_1 =>
    exact fun s w k v hk hv ha => writesForFrame_of_row rfl hk ha (waitsFor_source hk) (by simp) (by simp [own, Ty.bytes]; omega)
  case refine_2 =>
    exact fun s w g v hg hv ha => writesForFrame_of_row rfl (decide_eq_true hg) ha (waitsFor_generator hg) (by simp)
      (by simp [oper, Ty.bytes]; omega)
  case refine_3 =>
    intro s w n k v hn hk hv ha
    refine writesForFrame_of_row (ok := isTrimSource n && isHost k) ?_ (by simp [hn, isHost, hk]) ha (waitsFor_trim hn hk) (by simp)
      (by simp [trimLevelRow, Ty.bytes]; omega)
    rw [runWrite, ← Bool.and_assoc]
    rfl
  case refine_4 =>
    intro s w n k v hn hk hw hv hlo hhi hserve hclaim hrole
    refine answers_of_run (f := fun h => h.trimRow s.snap w true n k v) rfl (by simp [hw, hn, isHost, hk]) ?_
    have hrest := s.hub.accessed_rest w.host
    have htrim : s.hub.trimRow s.snap w true n k v = ((s.hub.touch w.host).ungate).viewTrim w.host n v := if_pos hserve
    rw [htrim, Hub.viewTrim_of_operator hn (of_decide_eq_true hw) ((s.hub.touch_claimed w.host).trans hclaim)
      (Nat.le_trans hrole (Nat.le_of_eq (congrArg (fun g : Hub => g.role w.host) hrest :).symm)) hv hlo hhi]
    refine ⟨?_, ?_, ?_⟩
    · exact congrArg (fun x => tput x (key (trimIdx n) (w.host + 1)) v) (congrArg Hub.objs hrest :)
    · exact congrArg (· ++ [(⟨key (trimIdx n) (w.host + 1), v⟩ : Wr)]) (congrArg Hub.frameQ hrest :)
    · exact (congrArg (fun g : Hub => { g with objs := s.hub.objs, frameQ := s.hub.frameQ }) hrest :)
  case refine_5 =>
    intro s w b k v hb hlo hhi hv hm ha
    exact writesForFrame_of_row rfl (by simp [hb, hlo, hhi]) ha (waitsFor_crosspoint hb hlo hhi) (fun _ _ => hm)
      (by simp [crosspointRow, Ty.bytes]; omega)
  case refine_6 =>
    intro s w b k v hb hlo hhi hv hm ha
    have hval : ofBytes (objectBytes (busIdx b) k v) = v := by
      rw [objectBytes_of_describe (waitsFor_crosspoint hb hlo hhi).described]
      exact ofBytes_toBytes (by simp [crosspointRow, Ty.bytes]; omega)
    have hw := Hub.writeObject_of_bank hb hlo hhi ((Hub.opened_bankMode _ _ _ _).trans hm) ha.2
    rw [hval, Hub.shadowWrite, busOfKey_crosspoint hb hhi] at hw
    refine actsAtOnce_of_row rfl (by simp [hb, hlo, hhi]) ha hw rfl (fun h hl => ⟨?_, ?_, fun c hc => ?_, ?_⟩)
    · exact (congrArg Hub.shadow hl.rest :)
    · exact (hl.bus b).trans (Hub.modBus_bus _ _ _)
    · exact (hl.bus c).trans (Hub.modBus_bus_other _ _ hc)
    · rw [hl.rest]
      rfl
  case refine_7 => exact fun s w p hp ha => commandsAsBatch_of_row rfl hp ha (waitsFor_remove hp) (by simp) (by decide)
  case refine_8 => exact fun s w p hp ha => commandsAsBatch_of_row rfl hp ha (waitsFor_start hp) (by simp) (by decide)
  case refine_9 => exact fun s w p hp ha => commandsAsBatch_of_row rfl hp ha (waitsFor_stop hp) (by simp) (by decide)
  case refine_10 =>
    intro s w k v hk hv ha
    have hval : ofBytes (objectBytes 0x2700 (k + 1) v) = v := by
      rw [objectBytes_of_describe (describe_muteMask hk)]
      exact ofBytes_toBytes (by simp [muteMaskRow, Ty.bytes]; omega)
    have hw := Hub.writeObject_of_muteMask hk ha.2
    rw [hval] at hw
    refine actsAtOnce_of_row rfl hk ha hw rfl (fun h hl => ⟨?_, ?_, ?_⟩)
    · exact (congrArg Hub.objs hl.rest :)
    · exact (congrArg (fun g : Hub => g.store.queue) hl.rest :)
    · rw [hl.rest]
      rfl
end

section
/-! SUPPORT. Rows of the hosts: claims and releases, roles, session timeouts, ownership and the shadow bank (R151 to R154, R162 to R170). -/

namespace Sys2Proof.Machine

/-! ## Sessions (R164, R166, R167) -/

section
variable (h : Hub) (k : Nat)

theorem Hub.restartSession_rest : { h.restartSession k with hosts := h.hosts, timers := h.timers } = h := by
  unfold Hub.restartSession
  dsimp only
  repeat' split
  all_goals rfl

theorem Hub.restartSession_causes (e : Nat) (sc : Scope) : (h.restartSession k).causes e sc ↔ h.causes e sc :=
  iff_of_eq (congrArg (fun g : Hub => g.causes e sc) (h.restartSession_rest k) :)

theorem Hub.touch_causes (e : Nat) (sc : Scope) : (h.touch k).causes e sc ↔ h.causes e sc :=
  iff_of_eq (congrArg (fun g : Hub => g.causes e sc) (h.touch_rest k) :)

theorem Hub.alertSettle_rest : { h.alertSettle with twi := h.twi, timers := h.timers } = h := by
  unfold Hub.alertSettle
  split <;> rfl

theorem Hub.alertSettle_causes (e : Nat) (sc : Scope) : h.alertSettle.causes e sc ↔ h.causes e sc :=
  iff_of_eq (congrArg (fun g : Hub => g.causes e sc) h.alertSettle_rest :)

theorem Hub.touch_of_unclaimed {h : Hub} {k : Nat} (hc : (h.host k).claimed = false) : h.touch k = h := if_neg (by simp [hc])

theorem Hub.restartSession_of_runs {h : Hub} {k : Nat} (hc : (h.host k).claimed = true) (ht : h.sessionTimeout k ≠ 0) (hp : h.sessionsPaused = false) :
    h.restartSession k = h.start (.session k) (secs (h.sessionTimeout k)) := by
  have hs : secs (h.sessionTimeout k) ≠ 0 := by unfold secs; omega
  unfold Hub.restartSession
  dsimp only
  rw [if_neg (by simp [hc, hs]), if_neg (by simp [hp])]

/-- A host number whose session ended. -/
def HostSlot.ended (x : HostSlot) : HostSlot :=
  { x with claimed := false, tag := 0, onTwoWire := false, onTether := false, pausedLeft := none, held := [] }

theorem Hub.endSession_eq : h.endSession k = (h.modHost k HostSlot.ended).cancel (.session k) := rfl

theorem Hub.endSession_host : (h.endSession k).host k = (h.host k).ended := by
  rw [Hub.endSession_eq, Hub.cancel_host, Hub.modHost_host]

theorem Hub.endSession_host_other {j : Nat} (hj : j ≠ k) : (h.endSession k).host j = h.host j := by
  rw [Hub.endSession_eq, Hub.cancel_host, Hub.modHost_host_other _ _ hj]

theorem Hub.endSession_deadline : (h.endSession k).deadline (.session k) = none := by
  rw [Hub.endSession_eq, Hub.cancel_deadline]

theorem Hub.releaseNow_of_tag {h : Hub} {k tag : Nat} (hc : (h.host k).claimed = true) (ht : (h.host k).tag = tag) (h0 : tag ≠ 0) :
    h.releaseNow k tag = (h.endSession k).modHost k (fun x => { x with result := 6 }) := by
  unfold Hub.releaseNow
  dsimp only
  rw [if_neg h0, if_pos (by simp [hc, ht])]

theorem Hub.claimNow_of_other_tag {h : Hub} {w : Who} {tag : Nat} (hc : (h.host w.host).claimed = true) (ht : (h.host w.host).tag ≠ tag) (h0 : tag ≠ 0) :
    h.claimNow w tag = (h.modHost w.host (fun x => { x with result := 3, conflicts := satInc 255 x.conflicts })).cause 98 (.hostAndInstallers w.host) := by
  unfold Hub.claimNow
  dsimp only
  rw [if_neg h0, if_neg (by simp [hc]), if_neg ht]
  rfl

/-- A host number once a claim by a free host is taken over the Tether link. -/
def HostSlot.claimedOver (x : HostSlot) (tag : Nat) : HostSlot := { x with claimed := true, tag := tag, result := 1, onTether := true }

theorem Hub.claimNow_of_free_tether {h : Hub} {k tag : Nat} (hc : (h.host k).claimed = false) (ht : tag ≠ 0) :
    h.claimNow ⟨.tether, k⟩ tag =
      (h.modHost k (·.claimedOver tag)).restartSession k := by
  unfold Hub.claimNow
  dsimp only
  rw [if_neg ht, if_pos (by simp [hc])]
  rfl

theorem Hub.claimCommand_of_claim {h : Hub} (hr : h.sup.restarting = false) (w : Who) (tag : Nat) : h.claimCommand w 1 tag = h.claimNow w tag := by
  simp [Hub.claimCommand, hr]

theorem Hub.claimCommand_of_release {h : Hub} (hr : h.sup.restarting = false) (w : Who) (tag : Nat) :
    h.claimCommand w 2 tag = h.releaseNow w.host tag := by
  simp [Hub.claimCommand, hr]

end

/-- A host slot's session is lost, and the hosts concerned are told. -/
def Hub.sessionLost (h : Hub) (k : Nat) : Hub := (h.endSession k).cause 99 (.hostAndInstallers k)

theorem Hub.sessionLost_rest (h : Hub) (k : Nat) : { h.sessionLost k with hosts := h.hosts, evDue := h.evDue, timers := h.timers } = h := rfl

theorem Hub.sessionLost_mailbox (h : Hub) (k : Nat) (w : Who) : (h.sessionLost k).mailbox w = h.mailbox w := rfl

section

theorem Hub.loseSession_of_retain {h : Hub} {k : Nat} (hp : h.live? (hostIdx k) 7 = 0) :
    h.loseSession k = h.sessionLost k := by
  have hp' : (h.endSession k).live? (hostIdx k) 7 ≠ 1 := by
    intro h1
    have h2 : h.live? (hostIdx k) 7 = 1 := h1
    omega
  unfold Hub.loseSession
  dsimp only
  rw [if_neg hp']
  rfl

theorem Hub.forceRelease_of_claimed {h : Hub} {k : Nat} (hc : (h.host k).claimed = true) : h.forceRelease k = h.loseSession k := if_pos hc

end

/-! ## Ownership (R168, R170) -/

theorem Hub.ownerWill_coming (h : Hub) (y : Nat) (o : Option Nat) : (h.ownerWill y o).ownerComing y = o := by
  unfold Hub.ownerWill
  split
  · next hc => exact hc
  · simp [Hub.ownerComing]

theorem Hub.ownerWill_coming_other (h : Hub) {y z : Nat} (o : Option Nat) (hz : z ≠ y) : (h.ownerWill y o).ownerComing z = h.ownerComing z := by
  unfold Hub.ownerWill
  split
  · rfl
  · simp [Hub.ownerComing, Hub.owner, hz.symm]

theorem Hub.ownerWill_rest (h : Hub) (y : Nat) (o : Option Nat) : { h.ownerWill y o with ownerDue := h.ownerDue } = h := by
  unfold Hub.ownerWill
  split <;> rfl

/-! ## Claims by the two-wire port (R163) -/

section
variable {h snap : Hub} {k tag : Nat}

theorem Hub.claimRow_of_serves (hs : h.twoWireServes = true) (ht : tag < 65536) (cmd : Nat) :
    h.claimRow snap ⟨.twoWire, k⟩ cmd tag = ((h.ungate.claimCommand ⟨.twoWire, k⟩ cmd tag).touch k).alertSettle := by
  refine (if_pos hs).trans ?_
  rw [Nat.mod_eq_of_lt ht]

theorem Hub.claimRow_of_tether (ht : tag < 65536) :
    h.claimRow snap ⟨.tether, k⟩ 1 tag = h.writeRowOf snap ⟨.tether, k⟩ (hostIdx k) 1 (tag * 65536 + 1) := by
  have hrow : h.claimRow snap ⟨.tether, k⟩ 1 tag = h.writeRowOf snap ⟨.tether, k⟩ (hostIdx k) 1 (tag % 65536 * 65536 + 1) := rfl
  rw [hrow, Nat.mod_eq_of_lt ht]

theorem Hub.claimWrite_of_tag {w : Who} (hr : h.sup.restarting = false) : h.claimWrite w (tag * 65536 + 1) = h.claimNow w tag := by
  rw [Nat.mul_comm, Hub.claimWrite_of_claim hr]

end

theorem Hub.Left.causes {g o h : Hub} {w : Who} (hl : Hub.Left g o w h) (e : Nat) (sc : Scope) : h.causes e sc ↔ g.causes e sc :=
  iff_of_eq (congrArg (fun x : Hub => x.causes e sc) hl.rest :)

theorem Hub.ownerWill_mailbox (h : Hub) (y : Nat) (o : Option Nat) (w : Who) : (h.ownerWill y o).mailbox w = h.mailbox w :=
  (congrArg (fun g : Hub => g.mailbox w) (h.ownerWill_rest y o) :)

theorem Hub.opened_sessionsPaused (h : Hub) (w : Who) (r : Request) : (h.opened w r).sessionsPaused = h.sessionsPaused := by
  have hungate : (h.touch w.host).ungate.sessionsPaused = (h.touch w.host).sessionsPaused := by
    unfold Hub.ungate
    split <;> rfl
  exact (congrArg Hub.sessionsPaused ((h.touch w.host).ungate.modMailbox_rest w _) :).trans
    (hungate.trans (congrArg Hub.sessionsPaused (h.touch_rest w.host) :))

/-- An owner named by a row stands as the coming one of its key, and of no other. -/
theorem ownerWill_acts {o h : Hub} {w : Who} {y : Nat} {x : Option Nat} (hl : Hub.Left (o.ownerWill y x) o w h) :
    h.ownerComing y = x ∧ (∀ z, z ≠ y → h.ownerComing z = o.ownerComing z) ∧ { h.besideCommand o with ownerDue := o.ownerDue } = o := by
  refine ⟨?_, fun z hz => ?_, ?_⟩
  · exact (congrArg (fun g : Hub => g.ownerComing y) hl.rest :).trans (o.ownerWill_coming y x)
  · exact (congrArg (fun g : Hub => g.ownerComing z) hl.rest :).trans (o.ownerWill_coming_other x hz)
  · rw [hl.rest]
    exact (congrArg (fun g : Hub => g.besideCommand o) (o.ownerWill_rest y x) :)

/-! ## Rows of the immediate class -/

/-- What an accepted value of the immediate class makes of the hub. -/
def Hub.immediate (o : Hub) (w : Who) (b : Blk) (r : Row) (idx sub v : Nat) (data : List Byte) (old : Nat) : Hub :=
  (((o.recordIf (recorded b r sub) (key idx sub) v).forceIf (recorded b r sub) (key idx sub) v).commandNow w b sub v data).inForce b sub v old

/-- The hub with a value accepted and in force. -/
def Hub.setNow (h : Hub) (y v : Nat) : Hub := { h with objs := tput h.objs y v, live := tput h.live y v }

theorem Hub.setNow_sessionTimeout (h : Hub) (k v : Nat) : (h.setNow (key (hostIdx k) 6) v).sessionTimeout k = v := tgetD_tput _ _ _ _

theorem Hub.setNow_rest (h : Hub) (y v : Nat) : { h.setNow y v with objs := h.objs, live := h.live } = h := rfl

/-- The row of an object of the immediate class without effects of its own at acceptance. -/
structure ActsNow (idx sub : Nat) (b : Blk) (r : Row) : Prop where
  described : describe idx sub = some (b, r)
  sets : r.acc.clears = false
  quiet : b.quiet sub = true
  own : ∀ k, b ≠ .bus k
  now : actsAtOnce b r sub = true

theorem actsAtOnce_of_now {s : State} {i : Instr} {ok : Bool} {w : Who} {idx sub v : Nat} {b : Blk} {r : Row} {Q : Hub → Hub → Prop} {g : Hub}
    (he : exec i s = runWrite ok w idx sub v s) (hok : ok = true) (ha : s.hub.admits w idx sub v) (hrow : ActsNow idx sub b r)
    (hv : v < 256 ^ r.ty.bytes)
    (hg : (s.hub.opened w (writeOf idx sub v)).immediate w b r idx sub v (toBytes r.ty.bytes v) (s.hub.live? idx sub) = g)
    (hm : g.mailbox w = (s.hub.opened w (writeOf idx sub v)).mailbox w)
    (hQ : ∀ h, Hub.Left g (s.hub.opened w (writeOf idx sub v)) w h → Q (s.hub.opened w (writeOf idx sub v)) h) :
    ActsAtOnce i w (writeOf idx sub v) s Q := by
  obtain ⟨hd, hc, hq, hb, hact⟩ := hrow
  exact actsAtOnce_of_immediate he hok ha hd hc hq hb hact hv hg hm hQ

/-- A command whose outcome waits for a boundary or a row of the store. -/
theorem Hub.process_of_waiting {o snap g : Hub} {w : Who} {r : Request} {x : Nat × Nat × List Byte} (ha : o.answer snap w r = (x, g))
    (hw : (g.mailbox w).waiting ≠ .none) : o.process snap w r = g.alertSettle := by
  unfold Hub.process
  rw [ha]
  exact if_neg (by rw [Hub.alertSettle_mailbox]; exact hw)

/-- The rows of a host slot that its host or an Installer writes, acting at once. -/
def hostRow (k sub : Nat) : Row :=
  match sub with
  | 1 => { lo := 1, hi := 1, ty := .u32, acc := .rwHost, cls := 0 }
  | 2 => inst 2 .u8 (if k = 0 then 2 else 1) (.le 2) 0
  | 6 => { lo := 6, hi := 6, ty := .u16, acc := .rwHostInst, stored := true, cls := 0, chk := .le 3600 }
  | 0x0A => cmd 0x0A .u32 .woHost .any 0
  | 0x0B => cmd 0x0B .u32 .woHostInst .any 0
  | 0x0C => cmd 0x0C .u32 (.wo 2) .any 0
  | _ => go 0x0D (.wo 2)

theorem actsNow_host {k sub : Nat} (hk : k < 8) (hs : sub ∈ [1, 2, 6, 0x0A, 0x0B, 0x0C, 0x0D]) :
    ActsNow (hostIdx k) sub (.hostSlot k) (hostRow k sub) := by
  have hb : blockOf (hostIdx k) = some (.hostSlot k) := blockOf_hostIdx (decide_eq_true hk)
  simp only [List.mem_cons, List.not_mem_nil, or_false] at hs
  rcases hs with rfl | rfl | rfl | rfl | rfl | rfl | rfl <;>
    exact ⟨(describe_of_block hb (by decide)).trans rfl, rfl, rfl, by simp, rfl⟩

/-- The rows of the shadow bank's object. -/
def bankRow (sub : Nat) : Row :=
  if sub ≤ 8 then { lo := 1, hi := 8, ty := .bool, acc := .rwHostInst, cls := 0 } else go sub (.wo 1)

theorem actsNow_bank {sub : Nat} (h1 : 1 ≤ sub) (h2 : sub ≤ 10) : ActsNow 0x5F00 sub .bank (bankRow sub) := by
  obtain rfl | rfl | rfl | rfl | rfl | rfl | rfl | rfl | rfl | rfl : sub = 1 ∨ sub = 2 ∨ sub = 3 ∨ sub = 4 ∨ sub = 5 ∨ sub = 6 ∨ sub = 7 ∨
    sub = 8 ∨ sub = 9 ∨ sub = 10 := by omega
  all_goals exact ⟨rfl, rfl, rfl, by simp, rfl⟩

section
variable (o : Hub) (w : Who) (k v old : Nat) (data : List Byte)

theorem Hub.immediate_of_role (hv : v ≠ 0) : o.immediate w (.hostSlot k) (hostRow k 2) (hostIdx k) 2 v data old =
    { o with objs := tput o.objs (key (hostIdx k) 2) v, live := tput o.live (key (hostIdx k) 2) v } :=
  if_neg hv

theorem Hub.immediate_of_timeout : o.immediate w (.hostSlot k) (hostRow k 6) (hostIdx k) 6 v data old =
    (o.setNow (key (hostIdx k) 6) v).restartSession k := rfl

theorem Hub.immediate_of_claim (hr : o.sup.restarting = false) :
    o.immediate w (.hostSlot k) (hostRow k 1) (hostIdx k) 1 v data old = o.claimWrite w v :=
  if_neg (by simp [Hub.recordIf, Hub.forceIf, recorded, hostRow, hr])

theorem Hub.immediate_of_force : o.immediate w (.hostSlot k) (hostRow k 0x0D) (hostIdx k) 0x0D 1 data old = o.forceRelease k := rfl

theorem Hub.immediate_of_take : o.immediate w (.hostSlot k) (hostRow k 0x0A) (hostIdx k) 0x0A v data old = o.ownerWill v (some k) := rfl
theorem Hub.immediate_of_release : o.immediate w (.hostSlot k) (hostRow k 0x0B) (hostIdx k) 0x0B v data old = o.ownerWill v none := rfl
theorem Hub.immediate_of_assign : o.immediate w (.hostSlot k) (hostRow k 0x0C) (hostIdx k) 0x0C v data old = o.ownerWill v (some k) := rfl

theorem Hub.immediate_of_bankMode (hk : k < 8) : o.immediate w .bank (bankRow (k + 1)) 0x5F00 (k + 1) v data old =
    { o with objs := tput o.objs (key 0x5F00 (k + 1)) v, live := tput o.live (key 0x5F00 (k + 1)) v } := by
  obtain rfl | rfl | rfl | rfl | rfl | rfl | rfl | rfl : k = 0 ∨ k = 1 ∨ k = 2 ∨ k = 3 ∨ k = 4 ∨ k = 5 ∨ k = 6 ∨ k = 7 := by omega
  all_goals rfl

/-- COMMIT is ordered, and its command waits for the boundary. -/
def Hub.commitOrdered (o : Hub) (w : Who) : Hub :=
  (({ o with commitSeq := o.commitSeq + 1 } : Hub).modHost w.host (fun x => { x with commitState := 1, commitSeq := o.commitSeq })).modMailbox w
    (fun m => { m with waiting := .commit })

theorem Hub.commitOrdered_state : ((o.commitOrdered w).host w.host).commitState = 1 := by
  have hhost : (o.commitOrdered w).host w.host =
      (({ o with commitSeq := o.commitSeq + 1 } : Hub).modHost w.host (fun x => { x with commitState := 1, commitSeq := o.commitSeq })).host w.host :=
    (congrArg (fun g : Hub => g.host w.host) (Hub.modMailbox_rest _ w _) :)
  rw [hhost, Hub.modHost_host]

theorem Hub.commitOrdered_rest :
    { o.commitOrdered w with mailTwi := o.mailTwi, mailTether := o.mailTether, hosts := o.hosts } = { o with commitSeq := o.commitSeq + 1 } :=
  (congrArg (fun g : Hub => { g with hosts := o.hosts }) (Hub.modMailbox_rest
    (({ o with commitSeq := o.commitSeq + 1 } : Hub).modHost w.host (fun x => { x with commitState := 1, commitSeq := o.commitSeq })) w
    (fun m => { m with waiting := .commit })) :)

theorem Hub.immediate_of_commit : o.immediate w .bank (bankRow 9) 0x5F00 9 1 data old = o.commitOrdered w := rfl

theorem Hub.immediate_of_discard : o.immediate w .bank (bankRow 0x0A) 0x5F00 0x0A 1 data old = o.discardEdits w.host := rfl

end

end Sys2Proof.Machine

open Sys2Proof Sys2Proof.Machine

/-- Settles O53: each row has one equation for its effect on the hub that took it. -/
theorem hostsClaimOwnAndCommit : Obligations.HostsClaimOwnAndCommit := by
  unfold Obligations.HostsClaimOwnAndCommit
  refine ⟨?free, ?conflict, ?tether, ?release, ?role, ?timeout, ?force, ?take, ?give, ?assign, ?bank, ?commit, ?discard⟩
  case free =>
    intro s k tag hk h1 h2 hs hsup hc
    refine answers_of_run (f := fun h => h.claimRow s.snap ⟨.twoWire, k⟩ 1 tag) rfl (decide_eq_true hk) ?_
    have hsup' : s.hub.ungate.sup.restarting = false := (congrArg (fun g : Hub => g.sup.restarting) s.hub.ungate_rest :).trans hsup
    rw [Hub.claimRow_of_serves hs h2, Hub.claimCommand_of_claim hsup', Hub.claimNow_of_free (by rw [Hub.ungate_host]; exact hc) (by omega)]
    obtain ⟨p, hp⟩ := Hub.restartSession_host (s.hub.ungate.modHost k (·.claimedBy tag)) k
    obtain ⟨q, hq⟩ := Hub.touch_host ((s.hub.ungate.modHost k (·.claimedBy tag)).restartSession k) k
    rw [Hub.alertSettle_host, hq, hp, Hub.modHost_host]
    refine ⟨rfl, rfl, rfl, rfl, fun j hj => ?_, Hub.eq_of_besideAccess ?_⟩
    · rw [Hub.alertSettle_host, Hub.touch_host_other _ hj, Hub.restartSession_host_other _ hj, Hub.modHost_host_other _ _ hj, Hub.ungate_host]
    · rw [Hub.alertSettle_besideAccess, Hub.touch_besideAccess, Hub.restartSession_besideAccess, Hub.modHost_besideAccess, Hub.ungate_besideAccess]
  case conflict =>
    intro s k tag hk h1 h2 hs hsup hc ht
    refine answers_of_run (f := fun h => h.claimRow s.snap ⟨.twoWire, k⟩ 1 tag) rfl (decide_eq_true hk) ?_
    have hsup' : s.hub.ungate.sup.restarting = false := (congrArg (fun g : Hub => g.sup.restarting) s.hub.ungate_rest :).trans hsup
    rw [Hub.claimRow_of_serves hs h2, Hub.claimCommand_of_claim hsup',
      Hub.claimNow_of_other_tag (by rw [Hub.ungate_host]; exact hc) (by rw [Hub.ungate_host]; exact ht) (by omega)]
    obtain ⟨q, hq⟩ := Hub.touch_host ((s.hub.ungate.modHost k (fun x => { x with result := 3, conflicts := satInc 255 x.conflicts })).cause 98
      (.hostAndInstallers k)) k
    rw [Hub.alertSettle_host, hq, Hub.cause_host, Hub.modHost_host, Hub.ungate_host]
    exact ⟨hc, rfl, rfl, (Hub.alertSettle_causes _ _ _).mpr ((Hub.touch_causes _ _ _ _).mpr (Hub.cause_causes _ _ _))⟩
  case tether =>
    intro s k tag hk h1 h2 ha hsup hc
    have hclaimed : ((s.hub.opened ⟨.tether, k⟩ (writeOf (hostIdx k) 1 (tag * 65536 + 1))).host k).claimed = false :=
      (Hub.opened_claimed _ _ _ _).trans hc
    have hsup' : (s.hub.opened ⟨.tether, k⟩ (writeOf (hostIdx k) 1 (tag * 65536 + 1))).sup.restarting = false := by rw [Hub.opened_sup]; exact hsup
    have he : exec (.hostClaim ⟨.tether, k⟩ tag) s = runWrite true ⟨.tether, k⟩ (hostIdx k) 1 (tag * 65536 + 1) s := by
      rw [runWrite, Bool.and_true]
      exact congrArg (fun f : Hub → Hub => run (isWho ⟨.tether, k⟩) f s) (funext fun h => Hub.claimRow_of_tether h2)
    refine actsAtOnce_of_now he rfl ha (actsNow_host hk (by simp)) (by simp [hostRow, Ty.bytes]; omega)
      ((Hub.immediate_of_claim _ _ _ _ _ _ hsup').trans ((Hub.claimWrite_of_tag hsup').trans (Hub.claimNow_of_free_tether hclaimed (by omega))))
      (Hub.restartSession_mailbox _ _ _) (fun h hl => ?_)
    generalize s.hub.opened ⟨.tether, k⟩ (writeOf (hostIdx k) 1 (tag * 65536 + 1)) = o at hl ⊢
    obtain ⟨p, hp⟩ := Hub.restartSession_host (o.modHost k (·.claimedOver tag)) k
    rw [hl.host, hp, Hub.modHost_host]
    refine ⟨rfl, rfl, rfl, rfl, fun j hj => ?_, ?_⟩
    · rw [hl.host, Hub.restartSession_host_other _ hj, Hub.modHost_host_other _ _ hj]
    · rw [hl.rest]
      exact (congrArg (fun x : Hub => ({ x with hosts := o.hosts } : Hub).besideCommand o) ((o.modHost k (·.claimedOver tag)).restartSession_rest k) :)
  case release =>
    intro s k tag hk h2 hs hsup hc ht h0
    refine answers_of_run (f := fun h => h.claimRow s.snap ⟨.twoWire, k⟩ 2 tag) rfl (decide_eq_true hk) ?_
    have hsup' : s.hub.ungate.sup.restarting = false := (congrArg (fun g : Hub => g.sup.restarting) s.hub.ungate_rest :).trans hsup
    rw [Hub.claimRow_of_serves hs h2, Hub.claimCommand_of_release hsup',
      Hub.releaseNow_of_tag (by rw [Hub.ungate_host]; exact hc) (by rw [Hub.ungate_host]; exact ht) h0]
    rw [Hub.touch_of_unclaimed (by rw [Hub.modHost_host, Hub.endSession_host]; rfl), Hub.alertSettle_host, Hub.modHost_host, Hub.endSession_host]
    refine ⟨rfl, rfl, rfl, rfl, ?_, ?_, fun j hj => ?_⟩
    · rw [Hub.alertSettle_deadline _ (by simp), Hub.modHost_deadline, Hub.endSession_deadline]
    · exact (congrArg Hub.owners (Hub.alertSettle_rest _) :).trans (congrArg Hub.owners s.hub.ungate_rest :)
    · rw [Hub.alertSettle_host, Hub.modHost_host_other _ _ hj, Hub.endSession_host_other _ _ hj, Hub.ungate_host]
  case role =>
    intro s w k v hk h1 h2 ha
    refine actsAtOnce_of_now rfl (decide_eq_true hk) ha (actsNow_host hk (by simp)) (by simp [hostRow, inst, Ty.bytes]; omega)
      (Hub.immediate_of_role _ _ _ _ _ _ (by omega)) rfl (fun h hl => ⟨?_, ?_, ?_⟩)
    · exact (congrArg Hub.objs hl.rest :)
    · exact (congrArg Hub.live hl.rest :)
    · rw [hl.rest]
      rfl
  case timeout =>
    intro s w k v hk hv ha
    refine actsAtOnce_of_now rfl (decide_eq_true hk) ha (actsNow_host hk (by simp)) (by simp [hostRow, Ty.bytes]; omega)
      (Hub.immediate_of_timeout _ _ _ _ _ _) (Hub.restartSession_mailbox _ _ _) (fun h hl => ⟨?_, ?_, fun hc hv0 hp => ?_, ?_⟩)
    · exact (congrArg Hub.objs hl.rest :).trans (congrArg Hub.objs (Hub.restartSession_rest _ _) :)
    · exact (congrArg Hub.live hl.rest :).trans (congrArg Hub.live (Hub.restartSession_rest _ _) :)
    · rw [hl.deadline _ (by simp), Hub.restartSession_of_runs (h := Hub.setNow _ _ _) ((Hub.opened_claimed _ _ _ _).trans hc)
        (by rw [Hub.setNow_sessionTimeout]; exact hv0) ((Hub.opened_sessionsPaused _ _ _).trans hp), Hub.deadline_start, if_pos rfl,
        Hub.setNow_sessionTimeout]
      exact congrArg (fun x => some (x + secs v)) (Hub.opened_now _ _ _)
    · rw [hl.rest]
      generalize s.hub.opened w (writeOf (hostIdx k) 6 v) = o
      exact (congrArg (fun x : Hub => ({ x with objs := o.objs, live := o.live } : Hub).besideCommand o)
        ((o.setNow (key (hostIdx k) 6) v).restartSession_rest k) :)
  case force =>
    intro s w k hk ha hc hp
    refine actsAtOnce_of_now rfl (decide_eq_true hk) ha (actsNow_host hk (by simp)) (by simp [hostRow, go, cmd, Ty.bytes])
      ((Hub.immediate_of_force _ _ _ _ _).trans ((Hub.forceRelease_of_claimed ((Hub.opened_claimed _ _ _ _).trans hc)).trans
        (Hub.loseSession_of_retain ((Hub.opened_live? _ _ _ _ _).trans hp)))) (Hub.sessionLost_mailbox _ _ _)
      (fun h hl => ⟨?_, ?_, ?_, fun j hj => ?_, ?_⟩)
    · rw [hl.host, Hub.sessionLost, Hub.cause_host, Hub.endSession_host]
      rfl
    · exact (hl.causes _ _).mpr (Hub.cause_causes _ _ _)
    · rw [hl.deadline _ (by simp), Hub.sessionLost, Hub.cause_deadline, Hub.endSession_deadline]
    · rw [hl.host, Hub.sessionLost, Hub.cause_host, Hub.endSession_host_other _ _ hj]
    · rw [hl.rest]
      generalize s.hub.opened w (writeOf (hostIdx k) 0x0D 1) = o
      exact (congrArg (fun x : Hub => x.besideCommand o) (o.sessionLost_rest k) :)
  case take =>
    intro s w k y hk hy ha
    exact actsAtOnce_of_now rfl (decide_eq_true hk) ha (actsNow_host hk (by simp)) (by simp [hostRow, cmd, Ty.bytes]; omega)
      (Hub.immediate_of_take _ _ _ _ _ _) (Hub.ownerWill_mailbox _ _ _ _) (fun h hl => ownerWill_acts hl)
  case give =>
    intro s w k y hk hy ha
    exact actsAtOnce_of_now rfl (decide_eq_true hk) ha (actsNow_host hk (by simp)) (by simp [hostRow, cmd, Ty.bytes]; omega)
      (Hub.immediate_of_release _ _ _ _ _ _) (Hub.ownerWill_mailbox _ _ _ _) (fun h hl => ownerWill_acts hl)
  case assign =>
    intro s w k y hk hy ha
    exact actsAtOnce_of_now rfl (decide_eq_true hk) ha (actsNow_host hk (by simp)) (by simp [hostRow, cmd, Ty.bytes]; omega)
      (Hub.immediate_of_assign _ _ _ _ _ _) (Hub.ownerWill_mailbox _ _ _ _) (fun h hl => ownerWill_acts hl)
  case bank =>
    intro s w k v hk hv ha
    refine actsAtOnce_of_now rfl (decide_eq_true hk) ha (actsNow_bank (by omega) (by omega)) ?_
      (Hub.immediate_of_bankMode _ _ _ _ _ _ hk) rfl (fun h hl => ⟨?_, ?_, ?_⟩)
    · simp only [bankRow, show k + 1 ≤ 8 by omega, if_true, Ty.bytes]
      omega
    · exact (congrArg Hub.objs hl.rest :)
    · exact (congrArg Hub.live hl.rest :)
    · rw [hl.rest]
      rfl
  case commit =>
    intro s w ha
    obtain ⟨hresult, hnone, -⟩ := s.hub.opened_mailbox w (writeOf 0x5F00 9 1)
    obtain ⟨hd, hc, hq, hb, hact⟩ := actsNow_bank (sub := 9) (by decide) (by decide)
    have hw := Hub.writeObject_of_immediate ha.2 hd hc hq hb hact
    have hmail : ((s.hub.opened w (writeOf 0x5F00 9 1)).commitOrdered w).mailbox w =
        { (s.hub.opened w (writeOf 0x5F00 9 1)).mailbox w with waiting := .commit } := by
      rw [Hub.commitOrdered, Hub.modMailbox_mailbox, Hub.modHost_mailbox]
      rfl
    have hans : (s.hub.opened w (writeOf 0x5F00 9 1)).answer s.snap w (writeOf 0x5F00 9 1) =
        ((0, 0, []), (s.hub.opened w (writeOf 0x5F00 9 1)).commitOrdered w) :=
      congrArg (fun x : Nat × Hub => ((x.1, 0, []), x.2)) hw
    refine answers_of_command (r := writeOf 0x5F00 9 1) (ok := isWho w && true) rfl (by rw [ha.1.1]; rfl) ha.1 ?_
    rw [Hub.process_of_waiting hans (by rw [hmail]; simp), Hub.alertSettle_mailbox, hmail, Hub.alertSettle_host]
    have hopen := s.hub.opened_rest w (writeOf 0x5F00 9 1)
    generalize s.hub.opened w (writeOf 0x5F00 9 1) = o at hresult hnone hopen
    have hrest := o.commitOrdered_rest w
    have hset := (o.commitOrdered w).alertSettle_rest
    refine ⟨hresult, rfl, hnone, o.commitOrdered_state w, ?_, ?_, ?_, ?_⟩
    · exact (congrArg Hub.commitSeq hset :).trans ((congrArg Hub.commitSeq hrest :).trans (congrArg (fun g : Hub => g.commitSeq + 1) hopen :))
    · exact (congrArg Hub.objs hset :).trans ((congrArg Hub.objs hrest :).trans (congrArg Hub.objs hopen :))
    · exact (congrArg Hub.live hset :).trans ((congrArg Hub.live hrest :).trans (congrArg Hub.live hopen :))
    · exact (congrArg Hub.shadow hset :).trans ((congrArg Hub.shadow hrest :).trans (congrArg Hub.shadow hopen :))
  case discard =>
    intro s w ha
    refine actsAtOnce_of_now rfl rfl ha (actsNow_bank (by omega) (by omega)) (by decide) (Hub.immediate_of_discard _ _ _ _) rfl (fun h hl => ⟨?_, ?_⟩)
    · exact (congrArg Hub.shadow hl.rest :)
    · rw [hl.rest]
      rfl
end

section
/-! SUPPORT. INSTANTIATE (R169, R183): its host becomes the owner of the process, and the process's sends follow their owner (R171). -/

namespace Sys2Proof.Machine

/-- A claim about a row over `run` is a claim about its effect. -/
theorem Answers.of_run {i : Instr} {s : State} {ok : Bool} {f : Hub → Hub} {P : Hub → Prop} (ha : Answers i s P) (he : exec i s = run ok f s) :
    P (f s.hub) := by
  obtain ⟨t, ht, -, -, hp⟩ := ha
  obtain ⟨-, rfl⟩ := run_next.1 (he.symm.trans ht)
  exact hp

/-- A hub in full service with an Installer claimed and an EQ of one channel staged as process 0, whose record still covers send 0. -/
def stagedOverSend : State :=
  { State.reset with hub := { State.reset.hub with
      boot := { step := 8, service := 2, full := true }, hosts := [(0, { claimed := true })], objs := [(key (procIdx 0) 1, 2)]
      procs := [(0, { state := 1 })] } }

/-- Its Installer may place the process. -/
theorem stagedOverSend_admits : stagedOverSend.hub.admits ⟨.twoWire, 0⟩ (procIdx 0) 5 1 ∧ stagedOverSend.hub.placeResult 0 = 0 := by
  refine ⟨⟨⟨rfl, rfl, by decide +kernel, rfl, by simp⟩, by decide +kernel⟩, by decide +kernel⟩

/-- The send's selection moves to its new owner's trim. -/
theorem stagedOverSend_sinks :
    (stagedOverSend.hub.writeRowOf stagedOverSend.snap ⟨.twoWire, 0⟩ (procIdx 0) 5 1).sinks.length = 1 := by decide +kernel

end Sys2Proof.Machine

open Sys2Proof Sys2Proof.Machine

/-- Refutes O54: a process without an owner gains one at INSTANTIATE, and the selections of the sends its record covers move with it, which the clause
counts among what stays. -/
theorem not_unitCommandsActAtOnce : ¬ Obligations.UnitCommandsActAtOnce := by
  unfold Obligations.UnitCommandsActAtOnce
  rintro ⟨-, -, -, -, -, -, -, -, -, -, -, hplace, -⟩
  obtain ⟨hadmits, hresult⟩ := stagedOverSend_admits
  have hrow : exec (.instantiate ⟨.twoWire, 0⟩ 0 1) stagedOverSend =
      run true (fun h => h.writeRowOf stagedOverSend.snap ⟨.twoWire, 0⟩ (procIdx 0) 5 1) stagedOverSend := rfl
  obtain ⟨-, -, -, -, -, -, -, -, -, hrest⟩ := Answers.of_run (hplace stagedOverSend ⟨.twoWire, 0⟩ 0 rfl hadmits hresult) hrow
  have hsinks := (congrArg (fun g : Hub => g.sinks.length) hrest :)
  exact absurd (stagedOverSend_sinks.symm.trans hsinks) (by decide +kernel)
end

section
/-! SUPPORT. Commands of the store, the events, the power modes and the update, at the moment they are accepted (R277, R280, R326, R332, R333, R341,
R365, R380 to R382, R408, R411, R414, R418). -/

namespace Sys2Proof.Machine

/-! ## A write of bytes -/

section
variable {s : State} {i : Instr} {w : Who} {idx sub : Nat} {b : Blk} {r : Row} {data : List Byte} {Q : Hub → Hub → Prop}

theorem ActsNow.writeObject {h : Hub} {ty : Nat} (hrow : ActsNow idx sub b r) (ha : h.writeAbort w.host idx sub ty data = 0) :
    h.writeObject w idx sub ty data = (0, h.immediate w b r idx sub (ofBytes data) data (h.live? idx sub)) := by
  obtain ⟨hd, hc, hq, hb, hact⟩ := hrow
  exact Hub.writeObject_of_immediate ha hd hc hq hb hact

/-- A row of the immediate class that changes every hub by `G`. -/
theorem actsAtOnce_of_change {ok : Bool} {v : Nat} {G : Hub → Hub} (he : exec i s = runWrite ok w idx sub v s) (hok : ok = true)
    (ha : s.hub.admits w idx sub v) (hrow : ActsNow idx sub b r) (hv : v < 256 ^ r.ty.bytes)
    (hg : ∀ o old, Hub.immediate o w b r idx sub v (toBytes r.ty.bytes v) old = G o) (hm : ∀ o, (G o).mailbox w = o.mailbox w)
    (hQ : ∀ o h, Hub.Left (G o) o w h → Q o h) : ActsAtOnce i w (writeOf idx sub v) s Q :=
  actsAtOnce_of_now he hok ha hrow hv (hg _ _) (hm _) (hQ _)

/-- The same for a row that is written bytes. -/
theorem actsAtOnce_of_bytes {G : Hub → Hub} (he : exec i s = runCommand w (requestOf 2 idx sub 0 data) s) (ha : s.hub.admitsBytes w idx sub 0 data)
    (hrow : ActsNow idx sub b r) (hg : ∀ o old, Hub.immediate o w b r idx sub (ofBytes data) data old = G o)
    (hm : ∀ o, (G o).mailbox w = o.mailbox w) (hQ : ∀ o h, Hub.Left (G o) o w h → Q o h) :
    ActsAtOnce i w (requestOf 2 idx sub 0 data) s Q := by
  exact actsAtOnce_of_write (r := requestOf 2 idx sub 0 data) he ha.1.1 ha.1 rfl rfl
    ((hrow.writeObject ha.2).trans (congrArg (fun x => ((0 : Nat), x)) (hg _ _))) (hm _) (hQ _)

end

/-! ## The rows -/

theorem actsNow_store : ActsNow 0x1200 1 .store (go 1 (.wo 1)) := ⟨rfl, rfl, rfl, by simp, rfl⟩
theorem actsNow_factoryReset : ActsNow 0x1200 3 .store (cmd 3 .u8 (.wo 2) (.oneOf [0xA5]) 0) := ⟨rfl, rfl, rfl, by simp, rfl⟩
theorem actsNow_occurClear : ActsNow 0xA000 6 .events (cmd 6 .u8 (.wo 2) (.oneOf [0, 1, 2, 3, 4, 5, 6, 7, 255]) 0) := ⟨rfl, rfl, rfl, by simp, rfl⟩
theorem actsNow_wakeDown : ActsNow 0xD000 0x0D .tether (go 0x0D (.wo 1)) := ⟨rfl, rfl, rfl, by simp, rfl⟩
theorem actsNow_request : ActsNow 0x9000 1 .power (cmd 1 .u8 (.wo 1) (.range 1 3) 0) := ⟨rfl, rfl, rfl, by simp, rfl⟩
theorem actsNow_padRelease : ActsNow 0x9000 0x10 .power (cmd 0x10 .u16 (.wo 1) (.mask 0xFF) 0) := ⟨rfl, rfl, rfl, by simp, rfl⟩
theorem actsNow_control : ActsNow 0xB000 1 .update (cmd 1 .u8 (.wo 2) (.range 1 4) 0) := ⟨rfl, rfl, rfl, by simp, rfl⟩
theorem actsNow_image : ActsNow 0xB000 2 .update (cmd 2 (.domain 240) (.wo 2) .any 0) := ⟨rfl, rfl, rfl, by simp, rfl⟩

/-- The row of an event mask. -/
def eventMaskRow : Row := { lo := 2, hi := 2, ty := .domain 16, acc := .rwHost, stored := true, cls := 0 }
theorem actsNow_eventMask : ActsNow 0xA000 2 .events eventMaskRow := ⟨rfl, rfl, rfl, by simp, rfl⟩

/-- The row of WAKE_OUT. -/
def wakeOutRow : Row := { lo := 0x0A, hi := 0x0A, ty := .bool, acc := .rw 1, cls := 0 }
theorem actsNow_wakeOut : ActsNow 0x9000 0x0A .power wakeOutRow := ⟨rfl, rfl, rfl, by simp, rfl⟩

/-- The row of READER_CONTROL. -/
def readerRow : Row := { lo := 0x60, hi := 0x63, ty := .u8, acc := .wo 1, cls := 0, chk := .oneOf [1, 2] }
theorem actsNow_reader {c : Nat} (hc : isChannel c = true) : ActsNow 0x9000 (0x60 + c) .power readerRow := by
  have hr : c < 4 := by simpa [isChannel] using hc
  obtain rfl | rfl | rfl | rfl : c = 0 ∨ c = 1 ∨ c = 2 ∨ c = 3 := by omega
  all_goals exact ⟨rfl, rfl, rfl, by simp, rfl⟩

/-- The row of MAKER_KEY. -/
def makerRow : Row := { cmd 0x13 (.domain 233) (.wo 2) .any 0 with stored := true }
theorem actsNow_maker : ActsNow 0xB000 0x13 .update makerRow := ⟨rfl, rfl, rfl, by simp, rfl⟩

section
variable (o : Hub) (w : Who) (v old : Nat) (data : List Byte)

theorem Hub.immediate_of_factoryReset : o.immediate w .store (cmd 3 .u8 (.wo 2) (.oneOf [0xA5]) 0) 0x1200 3 v data old =
    o.modStore (fun s => { s with resetArmed := true }) := rfl

theorem Hub.immediate_of_occurClear (hv : v ≠ 0xFF) :
    o.immediate w .events (cmd 6 .u8 (.wo 2) (.oneOf [0, 1, 2, 3, 4, 5, 6, 7, 255]) 0) 0xA000 6 v data old = o.clearOccurrences v := if_neg hv

theorem Hub.immediate_of_occurClear_all :
    o.immediate w .events (cmd 6 .u8 (.wo 2) (.oneOf [0, 1, 2, 3, 4, 5, 6, 7, 255]) 0) 0xA000 6 0xFF data old =
      o.forAll (List.range 8) Hub.clearOccurrences := rfl

theorem Hub.immediate_of_wakeDown : o.immediate w .tether (go 0x0D (.wo 1)) 0xD000 0x0D 1 data old = o.wakeDown := rfl

theorem Hub.immediate_of_request : o.immediate w .power (cmd 1 .u8 (.wo 1) (.range 1 3) 0) 0x9000 1 v data old = o.hostRequest v := rfl

theorem Hub.immediate_of_padRelease : o.immediate w .power (cmd 0x10 .u16 (.wo 1) (.mask 0xFF) 0) 0x9000 0x10 v data old = o.padRelease v := rfl

theorem Hub.immediate_of_wakeOut : o.immediate w .power wakeOutRow 0x9000 0x0A v data old =
    (o.setNow (key 0x9000 0x0A) v).modPwr (fun p => { p with wakeOut := decide (v = 1) }) := rfl

theorem Hub.immediate_of_reader {c : Nat} (hc : isChannel c = true) :
    o.immediate w .power readerRow 0x9000 (0x60 + c) v data old = o.readerControl c v := by
  have hr : c < 4 := by simpa [isChannel] using hc
  obtain rfl | rfl | rfl | rfl : c = 0 ∨ c = 1 ∨ c = 2 ∨ c = 3 := by omega
  all_goals rfl

theorem Hub.immediate_of_eventMask : o.immediate w .events eventMaskRow 0xA000 2 v data old = o.writeMask w.host (BitVec.ofNat 128 v) := rfl

theorem Hub.immediate_of_control : o.immediate w .update (cmd 1 .u8 (.wo 2) (.range 1 4) 0) 0xB000 1 v data old = o.control v := rfl

theorem Hub.immediate_of_image : o.immediate w .update (cmd 2 (.domain 240) (.wo 2) .any 0) 0xB000 2 v data old =
    o.imageData w.host (field data 0 4) (data.drop 4) := rfl

theorem Hub.immediate_of_maker : o.immediate w .update makerRow 0xB000 0x13 v data old = o.makerKey data := rfl

/-- A STORE joins the queue, and its command waits for its rows. -/
def Hub.storeOrdered (o : Hub) (w : Who) : Hub := (o.modMailbox w (fun m => { m with waiting := .store })).request (.command w)

theorem Hub.storeOrdered_mailbox : (o.storeOrdered w).mailbox w = { o.mailbox w with waiting := .store } := by
  have hreq : ∀ g : Hub, (g.request (.command w)).mailbox w = g.mailbox w := fun g => by
    unfold Hub.request Hub.when
    split <;> rfl
  exact (hreq _).trans (Hub.modMailbox_mailbox o w _)

theorem Hub.storeOrdered_store (hd : o.supply.dip = false) :
    (o.storeOrdered w).store = { o.store with queue := o.store.queue ++ [.command w], e5Done := false } := by
  have hrest := o.modMailbox_rest w (fun m => { m with waiting := .store })
  have hstore : (o.modMailbox w (fun m => { m with waiting := .store })).store = o.store := (congrArg Hub.store hrest :)
  have hdip : (o.modMailbox w (fun m => { m with waiting := .store })).supply.dip = false := (congrArg (fun g : Hub => g.supply.dip) hrest :).trans hd
  rw [Hub.storeOrdered, Hub.request_of_no_dip _ hdip, Hub.modStore, hstore]

theorem Hub.storeOrdered_rest (hd : o.supply.dip = false) :
    { o.storeOrdered w with mailTwi := o.mailTwi, mailTether := o.mailTether, store := o.store } = o := by
  have hrest := o.modMailbox_rest w (fun m => { m with waiting := .store })
  have hdip : (o.modMailbox w (fun m => { m with waiting := .store })).supply.dip = false := (congrArg (fun g : Hub => g.supply.dip) hrest :).trans hd
  rw [Hub.storeOrdered, Hub.request_of_no_dip _ hdip]
  exact (congrArg (fun g : Hub => { g with mailTwi := o.mailTwi, mailTether := o.mailTether, store := o.store }) hrest :)

theorem Hub.immediate_of_store : o.immediate w .store (go 1 (.wo 1)) 0x1200 1 1 data old = o.storeOrdered w := rfl

end

/-! ## Events (R332, R333, R341) -/

section
variable (h : Hub) (k : Nat)

theorem Hub.clearOccurrences_occurrences (j e : Nat) : (h.clearOccurrences k).occurrences j e = if j = k then 0 else h.occurrences j e := by
  unfold Hub.occurrences Hub.clearOccurrences
  split
  · next hj => simp [hj, tgetD, tget]
  · next hj => rw [tgetD_tput_other _ _ _ hj]

theorem Hub.clearOccurrences_rest : { h.clearOccurrences k with occ := h.occ } = h := rfl

end

theorem Hub.forAll_clearOccurrences (h : Hub) (ks : List Nat) (j e : Nat) :
    (h.forAll ks Hub.clearOccurrences).occurrences j e = if j ∈ ks then 0 else h.occurrences j e := by
  induction ks generalizing h with
  | nil => rfl
  | cons k ks ih =>
    refine (ih (h.clearOccurrences k)).trans ?_
    rw [Hub.clearOccurrences_occurrences]
    by_cases hj : j = k <;> simp [hj]

theorem Hub.forAll_clearOccurrences_rest (h : Hub) (ks : List Nat) : { h.forAll ks Hub.clearOccurrences with occ := h.occ } = h := by
  induction ks generalizing h with
  | nil => rfl
  | cons k ks ih => exact (congrArg (fun g : Hub => { g with occ := h.occ }) (ih (h.clearOccurrences k)) :)

theorem Hub.forAll_clearOccurrences_mailbox (h : Hub) (ks : List Nat) (w : Who) : (h.forAll ks Hub.clearOccurrences).mailbox w = h.mailbox w := by
  have hrest := h.forAll_clearOccurrences_rest ks
  generalize h.forAll ks Hub.clearOccurrences = g at hrest
  exact (congrArg (fun g : Hub => g.mailbox w) hrest :)

theorem BitVec.and_of_and_not {n : Nat} {a b : BitVec n} (hz : a &&& ~~~ b = 0) : a &&& b = a := by
  ext j hj
  have hbit := congrArg (fun x : BitVec n => x[j]) hz
  simp at hbit
  cases ha : a[j] <;> simp_all

theorem ofNat_ofBytes_toBytes (bits : BitVec 128) : BitVec.ofNat 128 (ofBytes (toBytes 16 bits.toNat)) = bits := by
  rw [ofBytes_toBytes (by simpa using bits.isLt)]
  simp

/-- A mask that passes its check holds events that exist. -/
theorem Hub.eventMask_of_writeAbort {h : Hub} {k : Nat} {bits : BitVec 128} (ha : h.writeAbort k 0xA000 2 0 (toBytes 16 bits.toNat) = 0) :
    bits &&& eventBits = bits := by
  obtain ⟨-, -, hval, -, -⟩ := Hub.checks_of_writeAbort actsNow_eventMask.described ha
  have hobj : h.objectCheck k .events 2 (ofBytes (toBytes 16 bits.toNat)) (toBytes 16 bits.toNat) = 0 := firstAbort_eq_zero hval _ (by simp)
  have habort : abortUnless (decide (BitVec.ofNat 128 (ofBytes (toBytes 16 bits.toNat)) &&& ~~~ eventBits = 0)) 6 = 0 := hobj
  rw [ofNat_ofBytes_toBytes] at habort
  refine BitVec.and_of_and_not (Decidable.byContradiction fun hne => ?_)
  rw [decide_eq_false hne] at habort
  cases habort

theorem Hub.writeMask_eventMask (h : Hub) (k j : Nat) (bits : BitVec 128) :
    (h.writeMask k bits).eventMask j = if j = k then bits &&& eventBits else h.eventMask j := by
  unfold Hub.eventMask Hub.writeMask
  split
  · next hj => rw [hj, tgetD_tput]
  · next hj => rw [tgetD_tput_other _ _ _ hj]

theorem Hub.clearPending_pending (h : Hub) (k j : Nat) (bits : BitVec 128) :
    (h.clearPending k bits).pending j = if j = k then h.pending k &&& ~~~ bits else h.pending j := by
  unfold Hub.pending Hub.clearPending
  split
  · next hj => rw [hj, tgetD_tput]; rfl
  · next hj => rw [tgetD_tput_other _ _ _ hj]

theorem Hub.writeObject_of_pending {h : Hub} {w : Who} {ty : Nat} {data : List Byte} (ha : h.writeAbort w.host 0xA000 1 ty data = 0) :
    h.writeObject w 0xA000 1 ty data = (0, h.clearPending w.host (BitVec.ofNat 128 (ofBytes data))) :=
  Hub.writeObject_of_atOnce ha rfl

/-! ## Power requests and readers (R365, R380) -/

section
variable {h : Hub} {v c : Nat}

theorem Hub.hostRequest_of_active (ha : h.activating = false) : h.hostRequest v = h.powerRequest v 512 := if_neg (by simp [ha])

theorem Hub.powerRequest_of_free (h1 : h.pwr.requested = 0) (h2 : h.pwr.progress = 0) (h3 : h.pwr.pendingReq = 0) (h4 : h.activating = false)
    (wake : Nat) : h.powerRequest v wake = h.modPwr (fun p => { p with requested := v, reqCause := wake }) :=
  if_pos ⟨h1, h2, h3, h4⟩

theorem Hub.powerRequest_of_pending (hp : h.pwr.pendingReq ≠ 0) (wake : Nat) :
    h.powerRequest v wake = (h.modPwr (fun p => { p with pendingReq := v, pendCause := wake, lastResult := 4 })).cause 9 := by
  unfold Hub.powerRequest
  rw [if_neg (by simp [hp])]
  simp only [hp, Hub.when, decide_true, if_true, ne_eq, not_false_eq_true]
  rfl

theorem Hub.readerAbort_of_writeAbort {w : Who} {ty : Nat} {data : List Byte} (hc : isChannel c = true)
    (ha : h.writeAbort w.host 0x9000 (0x60 + c) ty data = 0) : h.readerAbort c (ofBytes data) = 0 := by
  have hr : c < 4 := by simpa [isChannel] using hc
  obtain ⟨-, -, -, hstate, -⟩ := Hub.checks_of_writeAbort (actsNow_reader hc).described ha
  rw [Hub.stateCheck, if_neg (by omega), if_pos (by omega), Nat.add_sub_cancel_left] at hstate
  exact hstate

theorem Fade.to_m1 (r : Fade) (m t0 len : Nat) : (r.to m t0 len).m1 = m := by
  unfold Fade.to
  split
  · next hr => exact hr.1
  · rfl

theorem Hub.playing_of_readerAbort (ha : h.readerAbort c 2 = 0) : (h.chan c).reader = 2 :=
  Decidable.byContradiction fun hne => by simp [Hub.readerAbort, hne] at ha

theorem Hub.readerPlay_chan (h : Hub) (c : Nat) : ((h.readerPlay c).chan c).reader = 2 ∧
    ((h.readerPlay c).chan c).fade = { m0 := 0, m1 := unity, t0 := h.now, len := ms 2 } ∧ ((h.readerPlay c).chan c).ring = (h.chan c).ring := by
  unfold Hub.readerPlay
  dsimp only
  rw [Hub.modChan_chan]
  exact ⟨rfl, rfl, rfl⟩

theorem Hub.readerPlay_chan_other (h : Hub) {c d : Nat} (hd : d ≠ c) : (h.readerPlay c).chan d = h.chan d := Hub.modChan_chan_other _ _ hd

theorem Hub.readerStop_rest (h : Hub) (c : Nat) : { h.readerStop c with chans := h.chans, timers := h.timers } = h := by
  unfold Hub.readerStop
  split <;> rfl

/-- A channel whose reader stops over 10 ms (R380). -/
def WatchChan.stopping (x : WatchChan) (now : Nat) : WatchChan := { x with reader := 3, fade := x.fade.to 0 now (ms 10) }

theorem Hub.readerStop_of_playing (hp : (h.chan c).reader = 2) :
    h.readerStop c = (h.modChan c (fun x => x.stopping h.now)).start (.reader c) (ms 10) := if_pos hp

theorem Hub.readerStop_chan (hp : (h.chan c).reader = 2) : (h.readerStop c).chan c = (h.chan c).stopping h.now := by
  rw [Hub.readerStop_of_playing hp, Hub.start_chan, Hub.modChan_chan]

theorem Hub.readerStop_deadline (hp : (h.chan c).reader = 2) : (h.readerStop c).deadline (.reader c) = some (h.now + 10 * 96) := by
  rw [Hub.readerStop_of_playing hp, Hub.deadline_start, if_pos rfl]
  rfl

theorem Hub.readerStop_chan_other (hp : (h.chan c).reader = 2) {d : Nat} (hd : d ≠ c) : (h.readerStop c).chan d = h.chan d := by
  rw [Hub.readerStop_of_playing hp, Hub.start_chan, Hub.modChan_chan_other _ _ hd]

end

section
variable (h : Hub) (w : Who) (r : Request)

theorem Hub.opened_chan (c : Nat) : (h.opened w r).chan c = h.chan c := (congrArg (fun g : Hub => g.chan c) (h.opened_rest w r) :)
theorem Hub.opened_upd : (h.opened w r).upd = h.upd := (congrArg Hub.upd (h.opened_rest w r) :)
theorem Hub.opened_ext : (h.opened w r).ext = h.ext := (congrArg Hub.ext (h.opened_rest w r) :)
theorem Hub.opened_activating : (h.opened w r).activating = h.activating := (congrArg Hub.activating (h.opened_rest w r) :)

/-- Taking a command may ungate the clocks, and leaves the power state otherwise. -/
theorem Hub.opened_pwr : ∃ g, (h.opened w r).pwr = { h.pwr with hostGate := g } := by
  have hungate : ∃ g, (h.touch w.host).ungate.pwr = { (h.touch w.host).pwr with hostGate := g } := by
    unfold Hub.ungate
    split
    · exact ⟨true, rfl⟩
    · exact ⟨_, rfl⟩
  obtain ⟨g, hg⟩ := hungate
  have htouch : (h.touch w.host).pwr = h.pwr := (congrArg Hub.pwr (h.touch_rest w.host) :)
  exact ⟨g, (congrArg Hub.pwr ((h.touch w.host).ungate.modMailbox_rest w _) :).trans (by rw [hg, htouch])⟩

end

/-! ## The update (R411, R414) -/

section
variable {h : Hub} {k : Nat} {data : List Byte}

/-- A transfer opened by host `k` with its first bytes (R411). -/
def Update.begun (u : Update) (k : Nat) (data : List Byte) : Update :=
  { u with state := 1, next := data.length, size := 0, written := 0, lastError := 0, host := k, staged := data, waiting := [], header := []
           ops := none, retried := false, activateDue := false, everything := false, flags := 0 }

theorem Hub.imageData_of_first (hd : data.length < 320) : h.imageData k 0 data = h.modUpd (fun u => u.begun k data) := by
  unfold Hub.imageData
  rw [if_pos rfl]
  exact (if_pos rfl).trans (if_neg (by show ¬320 ≤ data.length; omega))

theorem Hub.imageData_of_next (hs : h.upd.state = 1) (hn : h.upd.next ≠ 0) (hd : (h.upd.staged ++ data).length < 320) :
    h.imageData k h.upd.next data = h.modUpd (fun u => { u with staged := u.staged ++ data, next := u.next + data.length }) := by
  unfold Hub.imageData
  rw [if_neg hn, if_pos rfl]
  exact (if_pos hs).trans (if_neg (by show ¬320 ≤ (h.upd.staged ++ data).length; omega))

/-- ABORT ends a transfer without an error; outside one it is itself the error. -/
theorem Hub.control_abort (h : Hub) : (h.control 1).upd.state = (if h.upd.state = 1 then 0 else 7) ∧ (h.control 1).upd.host = 0xFF ∧
    (h.control 1).upd.staged = [] ∧ (h.control 1).upd.waiting = [] ∧
    (h.control 1).upd.lastError = (if h.upd.state = 1 then h.upd.lastError else 17) := by
  unfold Hub.control
  by_cases hs : h.upd.state = 1
  · simp only [if_pos hs]
    exact ⟨rfl, rfl, rfl, rfl, rfl⟩
  · simp only [if_neg hs]
    exact ⟨rfl, rfl, rfl, rfl, rfl⟩

theorem Hub.control_abort_rest (h : Hub) : { h.control 1 with upd := h.upd } = h := by
  unfold Hub.control
  by_cases hs : h.upd.state = 1
  · simp only [if_pos hs]
    rfl
  · simp only [if_neg hs]
    rfl

theorem field_of_offset {off : Nat} (ho : off < 2 ^ 32) (data : List Byte) : field (toBytes 4 off ++ data) 0 4 = off := by
  unfold field
  rw [List.drop_zero, List.take_append_of_le_length (by simp), List.take_of_length_le (by simp)]
  exact ofBytes_toBytes (by omega)

theorem drop_of_offset (off : Nat) (data : List Byte) : (toBytes 4 off ++ data).drop 4 = data := by
  rw [List.drop_append_of_le_length (by simp), List.drop_of_length_le (by simp), List.nil_append]

theorem Hub.immediate_of_firstImage (o : Hub) (w : Who) (v old : Nat) (hd : data.length < 320) :
    o.immediate w .update (cmd 2 (.domain 240) (.wo 2) .any 0) 0xB000 2 v (toBytes 4 0 ++ data) old = o.modUpd (fun u => u.begun w.host data) := by
  rw [Hub.immediate_of_image, field_of_offset (by decide), drop_of_offset, Hub.imageData_of_first hd]

end

/-! ## MAKER_KEY (R408) -/

section
variable {h : Hub} {w : Who} {data : List Byte}

/-- The checks of a MAKER_KEY by an Installer outside Watch come down to the key's own. -/
theorem Hub.writeAbort_of_maker (hc : h.claimed w.host = true) (hr : h.role w.host = 2) (hp : h.pwr.state = 0) (hn : data.length = 233) :
    h.writeAbort w.host 0xB000 0x13 0 data = h.makerAbort data := by
  have hserve : h.serviceCheck 0xB000 true = 0 := by
    have h2 : h.served 0xB000 = 2 := by
      unfold Hub.served
      rw [hp]
      split <;> rfl
    unfold Hub.serviceCheck
    rw [h2]
    rfl
  have htype : typeCheck .update makerRow 0x13 0 data = 0 := by
    simp [typeCheck, makerRow, cmd, Ty.lengthOk, hn, abortUnless]
  have hrole : h.roleCheck w.host .update makerRow 0x13 = 0 := by
    simp [Hub.roleCheck, makerRow, cmd, hr, abortUnless]
  have hclaim : h.claimCheck w.host 0xB000 0x13 true = 0 := by
    simp [Hub.claimCheck, hc, abortUnless]
  have hval : h.valueCheck w.host .update makerRow 0x13 data = h.makerAbort data := by
    have hlast : ∀ a : Nat, firstAbort [0, a] = a := fun a => by simp [firstAbort]; omega
    exact hlast _
  have hone : ∀ a : Nat, firstAbort [0, 0, 0, 0, 0, 0, a, 0, 0, 0] = a := fun a => by
    simp [firstAbort]
    omega
  unfold Hub.writeAbort
  rw [blockOf_of_describe actsNow_maker.described, actsNow_maker.described]
  dsimp only
  rw [hclaim, hrole, htype, hserve, hval]
  exact hone _

theorem Hub.answer_of_refused_maker {snap : Hub} (ha : h.writeAbort w.host 0xB000 0x13 0 data = 0x06) :
    h.answer snap w (requestOf 2 0xB000 0x13 0 data) = ((0x06, 0, []), h) := by
  have hb : blockOf 0xB000 = some .update := rfl
  have hw := Hub.writeObject_of_refused ha (by decide)
  rw [Hub.refusal_of_plain h (by simp [hb]) (by simp [hb]) (by simp [hb])] at hw
  exact congrArg (fun x : Nat × Hub => ((x.1, 0, []), x.2)) hw

theorem Hub.makerAbort_of_unset (hk : h.makerKey? = none) : h.makerAbort data = if Config.makerKeyOk data then 0 else 0x06 := by
  simp [Hub.makerAbort, hk]

theorem Hub.makerKey_of_no_dip (hd : h.supply.dip = false) : h.makerKey data =
    (h.modUpd (fun u => { u with makerKey := some data })).modStore (fun s => { s with queue := s.queue ++ [.makerKey], e5Done := false }) :=
  Hub.request_of_no_dip (h := h.modUpd (fun u => { u with makerKey := some data })) .makerKey hd

end

end Sys2Proof.Machine

open Sys2Proof Sys2Proof.Machine

/-- Settles O55: each row has one equation for its effect on the hub that took it. -/
theorem systemCommandsActAtOnce : Obligations.SystemCommandsActAtOnce := by
  unfold Obligations.SystemCommandsActAtOnce
  refine ⟨?store, ?factory, ?occur, ?occurAll, ?pending, ?mask, ?burst, ?request, ?replace, ?play, ?stop, ?pads, ?wakeOut, ?image, ?more, ?abort,
    ?activate, ?schedule, ?cancel, ?maker⟩
  case store =>
    intro s w ha hdip
    obtain ⟨hresult, hnone, -⟩ := s.hub.opened_mailbox w (writeOf 0x1200 1 1)
    have hw := actsNow_store.writeObject ha.2
    have hsup : (s.hub.opened w (writeOf 0x1200 1 1)).supply.dip = false := (congrArg Supply.dip (s.hub.opened_supply w _)).trans hdip
    have hstore := s.hub.opened_store w (writeOf 0x1200 1 1)
    have hmail := (s.hub.opened w (writeOf 0x1200 1 1)).storeOrdered_mailbox w
    have hans : (s.hub.opened w (writeOf 0x1200 1 1)).answer s.snap w (writeOf 0x1200 1 1) =
        ((0, 0, []), (s.hub.opened w (writeOf 0x1200 1 1)).storeOrdered w) :=
      congrArg (fun x : Nat × Hub => ((x.1, 0, []), x.2)) hw
    refine answers_of_command (r := writeOf 0x1200 1 1) (ok := isWho w && true) rfl (by rw [ha.1.1]; rfl) ha.1 ?_
    rw [Hub.process_of_waiting hans (by rw [hmail]; simp), Hub.alertSettle_mailbox, hmail, ← hstore]
    generalize s.hub.opened w (writeOf 0x1200 1 1) = o at hresult hnone hsup
    have hset := (o.storeOrdered w).alertSettle_rest
    refine ⟨hresult, rfl, hnone, ?_, ?_⟩
    · exact (congrArg (fun g : Hub => g.store.queue) hset :).trans (congrArg Store.queue (o.storeOrdered_store w hsup))
    · refine (congrArg (fun g : Hub => { g.besideCommand o with store := o.store }) hset :).trans ?_
      exact (congrArg (fun g : Hub => { g with twi := o.twi, timers := o.timers }) (o.storeOrdered_rest w hsup) :)
  case factory =>
    exact fun s w ha => actsAtOnce_of_change rfl rfl ha actsNow_factoryReset (by decide) (fun o _ => Hub.immediate_of_factoryReset o w _ _ _)
      (fun _ => rfl) (fun o h hl => hl.rest)
  case occur =>
    intro s w k hk ha
    refine actsAtOnce_of_change rfl rfl ha actsNow_occurClear (by simp [cmd, Ty.bytes]; omega)
      (fun o _ => Hub.immediate_of_occurClear o w k _ _ (by omega)) (fun _ => rfl) (fun o h hl => ⟨fun e => ?_, fun j e hj => ?_, ?_⟩)
    · exact (congrArg (fun g : Hub => g.occurrences k e) hl.rest :).trans ((Hub.clearOccurrences_occurrences _ _ _ _).trans (if_pos rfl))
    · exact (congrArg (fun g : Hub => g.occurrences j e) hl.rest :).trans ((Hub.clearOccurrences_occurrences _ _ _ _).trans (if_neg hj))
    · rw [hl.rest]
      rfl
  case occurAll =>
    intro s w ha
    refine actsAtOnce_of_change (G := fun o => o.forAll (List.range 8) Hub.clearOccurrences) rfl rfl ha actsNow_occurClear (by decide) (fun o _ => Hub.immediate_of_occurClear_all o w _ _)
      (fun o => o.forAll_clearOccurrences_mailbox _ w) (fun o h hl => ?_)
    have hrest := o.forAll_clearOccurrences_rest (List.range 8)
    have hocc := o.forAll_clearOccurrences (List.range 8)
    generalize o.forAll (List.range 8) Hub.clearOccurrences = g at hrest hocc hl
    refine ⟨fun k e hk => ?_, ?_⟩
    · exact (congrArg (fun g : Hub => g.occurrences k e) hl.rest :).trans ((hocc k e).trans (if_pos (List.mem_range.mpr hk)))
    · rw [hl.rest]
      exact (congrArg (fun g : Hub => g.besideCommand o) hrest :)
  case pending =>
    intro s w bits ha
    have hw := Hub.writeObject_of_pending ha.2
    rw [ofNat_ofBytes_toBytes] at hw
    refine actsAtOnce_of_write (r := requestOf 2 0xA000 1 0 (toBytes 16 bits.toNat)) rfl ha.1.1 ha.1 rfl rfl hw ?_ ?_
    all_goals generalize s.hub.opened w (requestOf 2 0xA000 1 0 (toBytes 16 bits.toNat)) = o
    · rfl
    · refine fun h hl => ⟨?_, fun j hj => ?_, ?_⟩
      · exact (congrArg (fun g : Hub => g.pending w.host) hl.rest :).trans ((Hub.clearPending_pending _ _ _ _).trans (if_pos rfl))
      · exact (congrArg (fun g : Hub => g.pending j) hl.rest :).trans ((Hub.clearPending_pending _ _ _ _).trans (if_neg hj))
      · rw [hl.rest]
        rfl
  case mask =>
    intro s w bits ha
    have hbits := Hub.eventMask_of_writeAbort ha.2
    refine actsAtOnce_of_bytes rfl ha actsNow_eventMask (fun o old => (Hub.immediate_of_eventMask o w _ old _).trans
      (congrArg (o.writeMask w.host) (ofNat_ofBytes_toBytes bits))) (fun _ => rfl) (fun o h hl => ⟨?_, fun j hj => ?_, ?_⟩)
    · exact (congrArg (fun g : Hub => g.eventMask w.host) hl.rest :).trans ((Hub.writeMask_eventMask _ _ _ _).trans ((if_pos rfl).trans hbits))
    · exact (congrArg (fun g : Hub => g.eventMask j) hl.rest :).trans ((Hub.writeMask_eventMask _ _ _ _).trans (if_neg hj))
    · rw [hl.rest]
      rfl
  case burst =>
    intro s w ha
    have hnow := s.hub.opened_now w (writeOf 0xD000 0x0D 1)
    refine actsAtOnce_of_now rfl rfl ha actsNow_wakeDown (by decide) (Hub.immediate_of_wakeDown _ _ _ _) ?_ ?_
    all_goals generalize s.hub.opened w (writeOf 0xD000 0x0D 1) = o at hnow
    · rfl
    · refine fun h hl => ⟨?_, ?_⟩
      · rw [hl.deadline _ (by simp), Hub.wakeDown, Hub.deadline_start, if_pos rfl, hnow]
        rfl
      · rw [hl.rest]
        rfl
  case request =>
    intro s w v hv ha h1 h2 h3 h4
    obtain ⟨g, hg⟩ := s.hub.opened_pwr w (writeOf 0x9000 1 v)
    have hact := (s.hub.opened_activating w (writeOf 0x9000 1 v)).trans h4
    refine actsAtOnce_of_now rfl rfl ha actsNow_request (by simp [cmd, Ty.bytes]; omega) ((Hub.immediate_of_request _ _ _ _ _).trans
      ((Hub.hostRequest_of_active hact).trans (Hub.powerRequest_of_free (by rw [hg]; exact h1) (by rw [hg]; exact h2) (by rw [hg]; exact h3) hact _)))
      rfl (fun h hl => hl.rest)
  case replace =>
    intro s w v hv ha h3 h4
    obtain ⟨g, hg⟩ := s.hub.opened_pwr w (writeOf 0x9000 1 v)
    have hact := (s.hub.opened_activating w (writeOf 0x9000 1 v)).trans h4
    refine actsAtOnce_of_now rfl rfl ha actsNow_request (by simp [cmd, Ty.bytes]; omega) ((Hub.immediate_of_request _ _ _ _ _).trans
      ((Hub.hostRequest_of_active hact).trans (Hub.powerRequest_of_pending (by rw [hg]; exact h3) _))) ?_ ?_
    all_goals
      generalize s.hub.opened w (writeOf 0x9000 1 v) = o
      generalize ho : o.modPwr (fun p => { p with pendingReq := v, pendCause := 512, lastResult := 4 }) = g
    · rw [Hub.cause_mailbox, ← ho]
      rfl
    · have hrest : { g with pwr := o.pwr } = o := by rw [← ho]; rfl
      refine fun h hl => ⟨?_, (hl.causes _ _).mpr (Hub.cause_causes _ _ _), ?_⟩
      · exact (congrArg Hub.pwr hl.rest :).trans (by rw [← ho]; rfl)
      · rw [hl.rest]
        exact (congrArg (fun g : Hub => { g.besideCommand o with evDue := o.evDue }) hrest :)
  case play =>
    intro s w c hc ha
    have hchan := s.hub.opened_chan w (writeOf 0x9000 (0x60 + c) 1)
    have hnow := s.hub.opened_now w (writeOf 0x9000 (0x60 + c) 1)
    refine actsAtOnce_of_now rfl hc ha (actsNow_reader hc) (by simp [readerRow, Ty.bytes]) (Hub.immediate_of_reader _ _ _ _ _ hc) rfl ?_
    generalize s.hub.opened w (writeOf 0x9000 (0x60 + c) 1) = o at hchan hnow
    intro h hl
    have hof : ∀ d, h.chan d = (o.readerPlay c).chan d := fun d => (congrArg (fun g : Hub => g.chan d) hl.rest :)
    obtain ⟨hreader, hfade, hring⟩ := o.readerPlay_chan c
    rw [hof c]
    refine ⟨hreader, ?_, hring, fun d hd => (hof d).trans (o.readerPlay_chan_other hd), ?_⟩
    · rw [hfade, hnow]
      rfl
    · rw [hl.rest]
      rfl
  case stop =>
    intro s w c hc ha
    have habort := Hub.readerAbort_of_writeAbort hc ha.2
    have hnow := s.hub.opened_now w (writeOf 0x9000 (0x60 + c) 2)
    have hbytes : ofBytes (objectBytes 0x9000 (0x60 + c) 2) = 2 := by
      rw [objectBytes_of_describe (actsNow_reader hc).described]
      rfl
    rw [hbytes] at habort
    refine actsAtOnce_of_now rfl hc ha (actsNow_reader hc) (by simp [readerRow, Ty.bytes]) (Hub.immediate_of_reader _ _ _ _ _ hc) ?_ ?_
    all_goals generalize s.hub.opened w (writeOf 0x9000 (0x60 + c) 2) = o at habort hnow
    · exact (congrArg (fun g : Hub => g.mailbox w) (o.readerStop_rest c) :)
    · intro h hl
      have hplays := Hub.playing_of_readerAbort habort
      have hof : ∀ d, h.chan d = (o.readerStop c).chan d := fun d => (congrArg (fun g : Hub => g.chan d) hl.rest :)
      rw [hof c, Hub.readerStop_chan hplays, ← hnow]
      refine ⟨rfl, Fade.to_m1 _ _ _ _, (hl.deadline _ (by simp)).trans (Hub.readerStop_deadline hplays),
        fun d hd => (hof d).trans (Hub.readerStop_chan_other hplays hd), ?_⟩
      rw [hl.rest]
      exact (congrArg (fun g : Hub => g.besideCommand o) (o.readerStop_rest c) :)
  case pads =>
    exact fun s w v hv ha => actsAtOnce_of_change rfl rfl ha actsNow_padRelease (by simp [cmd, Ty.bytes]; omega)
      (fun o _ => Hub.immediate_of_padRelease o w v _ _) (fun _ => rfl) (fun o h hl => hl.rest)
  case wakeOut =>
    intro s w v hv ha
    refine actsAtOnce_of_change rfl rfl ha actsNow_wakeOut (by simp [wakeOutRow, Ty.bytes]; omega)
      (fun o _ => Hub.immediate_of_wakeOut o w v _ _) (fun _ => rfl) (fun o h hl => ⟨?_, ?_, ?_⟩)
    · exact (congrArg Hub.pwr hl.rest :)
    · exact (congrArg (fun g : Hub => g.accepted 0x9000 0x0A) hl.rest :).trans (tgetD_tput _ _ _ _)
    · rw [hl.rest]
      rfl
  case image =>
    intro s w data hd ha
    refine actsAtOnce_of_bytes rfl ha actsNow_image (fun o old => Hub.immediate_of_firstImage o w _ old hd) (fun _ => rfl)
      (fun o h hl => ?_)
    have hupd : h.upd = o.upd.begun w.host data := (congrArg Hub.upd hl.rest :)
    rw [hupd]
    refine ⟨rfl, rfl, rfl, rfl, rfl, ?_⟩
    rw [hl.rest]
    rfl
  case more =>
    intro s w data hs hn hlt hd ha
    have hupd := s.hub.opened_upd w (requestOf 2 0xB000 2 0 (toBytes 4 s.hub.upd.next ++ data))
    have hw := actsNow_image.writeObject ha.2
    rw [Hub.immediate_of_image, field_of_offset hlt, drop_of_offset] at hw
    refine actsAtOnce_of_write (r := requestOf 2 0xB000 2 0 (toBytes 4 s.hub.upd.next ++ data)) rfl ha.1.1 ha.1 rfl rfl hw ?_ ?_
    all_goals
      generalize s.hub.opened w (requestOf 2 0xB000 2 0 (toBytes 4 s.hub.upd.next ++ data)) = o at hupd
      rw [← hupd] at hs hn hd ⊢
      rw [Hub.imageData_of_next hs hn hd]
    · rfl
    · exact fun h hl => hl.rest
  case abort =>
    intro s w ha
    refine actsAtOnce_of_change rfl rfl ha actsNow_control (by decide) (fun o _ => Hub.immediate_of_control o w 1 _ _)
      (fun o => (congrArg (fun g : Hub => g.mailbox w) o.control_abort_rest :)) (fun o h hl => ?_)
    have hupd : h.upd = (o.control 1).upd := (congrArg Hub.upd hl.rest :)
    obtain ⟨hstate, hhost, hstaged, hwaiting, herror⟩ := o.control_abort
    rw [hupd]
    refine ⟨hstate, hhost, hstaged, hwaiting, herror, ?_⟩
    rw [hl.rest]
    exact (congrArg (fun g : Hub => g.besideCommand o) o.control_abort_rest :)
  case activate =>
    exact fun s w ha => actsAtOnce_of_change rfl rfl ha actsNow_control (by decide) (fun o _ => Hub.immediate_of_control o w 2 _ _) (fun _ => rfl)
      (fun o h hl => hl.rest)
  case schedule =>
    exact fun s w ha => actsAtOnce_of_change rfl rfl ha actsNow_control (by decide) (fun o _ => Hub.immediate_of_control o w 3 _ _) (fun _ => rfl)
      (fun o h hl => hl.rest)
  case cancel =>
    exact fun s w ha => actsAtOnce_of_change rfl rfl ha actsNow_control (by decide) (fun o _ => Hub.immediate_of_control o w 4 _ _) (fun _ => rfl)
      (fun o h hl => hl.rest)
  case maker =>
    intro s w data ht hc hr hp hk hdip hn
    have hcheck : (s.hub.opened w (requestOf 2 0xB000 0x13 0 data)).writeAbort w.host 0xB000 0x13 0 data =
        if Config.makerKeyOk data then 0 else 0x06 := by
      rw [Hub.writeAbort_of_maker ((s.hub.opened_claimed w _ _).trans hc) ((s.hub.opened_live? w _ _ _).trans hr) ((s.hub.opened_state w _).trans hp) hn,
        Hub.makerAbort_of_unset]
      rw [Hub.makerKey?, s.hub.opened_upd, s.hub.opened_ext]
      exact hk
    by_cases hok : Config.makerKeyOk data = true
    · rw [if_pos hok] at hcheck
      simp only [if_pos hok]
      have hw := actsNow_maker.writeObject hcheck
      have hupd := s.hub.opened_upd w (requestOf 2 0xB000 0x13 0 data)
      have hstore := s.hub.opened_store w (requestOf 2 0xB000 0x13 0 data)
      have hsup := (congrArg Supply.dip (s.hub.opened_supply w (requestOf 2 0xB000 0x13 0 data))).trans hdip
      rw [Hub.immediate_of_maker, Hub.makerKey_of_no_dip hsup] at hw
      refine actsAtOnce_of_write (i := .makerKey w data) (r := requestOf 2 0xB000 0x13 0 data) (Q := fun o h => h.besideCommand o = { o with
        upd := { s.hub.upd with makerKey := some data }, store := { s.hub.store with queue := s.hub.store.queue ++ [.makerKey], e5Done := false } })
        rfl ht.1 ht rfl rfl hw ?_ ?_
      all_goals
        generalize s.hub.opened w (requestOf 2 0xB000 0x13 0 data) = o at hupd hstore
        clear hw
      · rfl
      · intro h hl
        rw [← hupd, ← hstore]
        exact hl.rest
    · rw [if_neg hok] at hcheck
      simp only [if_neg hok]
      refine answers_of_answer (r := requestOf 2 0xB000 0x13 0 data) rfl ht.1 ht (Hub.answer_of_refused_maker hcheck) rfl (fun h hl _ ho => ⟨ho, ?_⟩)
      exact hl.rest
end

section
/-! SUPPORT. Commands, resets, image data and notifications over the Tether link (R322 to R324). -/

namespace Sys2Proof.Machine

/-! ## A command frame (R322) -/

section
variable {h : Hub} {p : TetherPort} {bs : List Byte} {k : Nat}

/-- A hub that takes no command: the last RESP of the host number is not remembered, and none of its commands runs. -/
def Mailbox.fresh (m : Mailbox) : Prop := m.result ≠ 1 ∧ m.lastSeq = none

theorem Hub.commandFrame_of_own (hr : h.receives p = true) (hok : frameOk bs = true) (ht : frameAt bs 3 = 1 ∨ frameAt bs 3 = 2)
    (ho : h.isOwn (frameAt bs 0) = true) : h.commandFrame p bs = h.frameCommand p bs := by
  have hroll : isHeldRoll p bs = false := by rcases ht with ht | ht <;> simp [isHeldRoll, ht]
  have hconsume : ∀ g : Hub, g.consume p bs = g.frameCommand p bs := fun g => by rcases ht with ht | ht <;> simp only [Hub.consume, ht]
  rw [show h.commandFrame p bs = h.frameReceive p { bytes := bs, ending := .eof } from if_pos ht,
    Hub.frameReceive_of_whole hr hok hroll (by omega), Hub.byDest_of_own hr ho, hconsume]

/-- A command whose mailbox is fresh is neither a retry of the one that runs nor of the one that has ended. -/
theorem Hub.frameCommand_of_fresh (hd : frameAt bs 0 ≠ 63) (hm : (h.mailbox ⟨.tether, frameAt bs 2⟩).fresh) :
    h.frameCommand p bs = ((h.touch (frameAt bs 2)).ungate).startCommand ⟨.tether, frameAt bs 2⟩ (frameRequest bs) (frameAt bs 4) (decide (p = .down))
      false id := by
  obtain ⟨hresult, hlast⟩ := hm
  unfold Hub.frameCommand
  dsimp only
  rw [if_neg hd, Hub.ungate_mailbox, Hub.touch_mailbox, if_neg (by simp [hresult]), if_neg (by simp [hlast])]

theorem Hub.accessed_stable (h : Hub) (k : Nat) : ((h.touch k).ungate).pwr.stable = h.pwr.stable := by
  have htouch : (h.touch k).pwr = h.pwr := (congrArg Hub.pwr (h.touch_rest k) :)
  unfold Hub.ungate
  split
  · exact (congrArg Power.stable htouch :)
  · exact (congrArg Power.stable htouch :)

theorem Hub.accessed_serves (h : Hub) (k : Nat) : ((h.touch k).ungate).serviceBusy = h.serviceBusy ∧ ((h.touch k).ungate).tetherHeld = h.tetherHeld := by
  obtain ⟨hub, huh⟩ := (h.touch k).ungate_serves
  obtain ⟨htb, hth⟩ := h.touch_serves k
  exact ⟨hub.trans htb, huh.trans hth⟩

theorem Hub.accessed_mailbox (h : Hub) (k : Nat) (w : Who) : ((h.touch k).ungate).mailbox w = h.mailbox w := by
  rw [Hub.ungate_mailbox, Hub.touch_mailbox]

/-- A command that is taken, its processing still to come. -/
theorem Hub.startCommand_of_free {w : Who} {r : Request} {seq : Nat} {down silent : Bool} (hs : h.pwr.stable = false)
    (hm : (h.mailbox w).result ≠ 1) (hb : h.serviceBusy = false) (hh : h.tetherHeld = false) :
    h.startCommand w r seq down silent id = ((h.touch w.host).ungate).modMailbox w (fun m => m.take r seq down silent) := by
  obtain ⟨hbusy, hheld⟩ := h.accessed_serves w.host
  rw [hb] at hbusy
  rw [hh] at hheld
  have hrestart : ((h.touch w.host).ungate).sup.restarting = false := by
    simp only [Hub.serviceBusy, Bool.or_eq_false_iff] at hbusy
    exact hbusy.1
  have hturns : ((h.touch w.host).ungate).turnsAway w r = false := by simp [Hub.turnsAway, hbusy, hheld]
  unfold Hub.startCommand
  dsimp only
  rw [if_neg (by simp [hs]), Hub.accessed_mailbox, if_neg hm, if_neg (by simp [hturns]), if_neg (by rw [Hub.modMailbox_sup]; simp [hrestart])]
  rfl

theorem Hub.stable_of_receives (hr : h.receives p = true) : h.pwr.stable = false := by
  unfold Hub.receives at hr
  simp only [Bool.and_eq_true, Bool.not_eq_true'] at hr
  exact hr.1.2

/-! ## RESET (R323) -/

theorem Hub.touch_deadline_of_ne {t : Timer} (ht : t ≠ .session k) : (h.touch k).deadline t = h.deadline t := by
  unfold Hub.touch Hub.restartSession
  dsimp only
  repeat' split
  · rw [Hub.modHost_deadline, Hub.deadline_cancel, if_neg ht]
  · rw [Hub.modHost_deadline, Hub.deadline_cancel, if_neg ht]
  · rw [Hub.deadline_start, if_neg ht]
  · rfl

theorem Hub.touch_hostClaimed (h : Hub) (k : Nat) : (h.touch k).claimed k = (h.host k).claimed := by
  obtain ⟨q, hq⟩ := h.touch_host k
  exact (congrArg HostSlot.claimed hq :)

theorem Hub.touch_role (h : Hub) (k j : Nat) : (h.touch k).role j = h.role j := (congrArg (fun g : Hub => g.role j) (h.touch_rest k) :)

theorem Hub.resetAbort_of_claimed (hc : (h.host k).claimed = true) : (h.touch k).resetAbort k = if h.role k = 2 then 0 else 0x03 := by
  unfold Hub.resetAbort
  rw [Hub.touch_hostClaimed, hc, Hub.touch_role]
  rfl

/-- A RESET for this hub alone is answered, and resets it 1 ms later if its session may. -/
theorem Hub.frameReset_of_claimed {dest seq : Nat} (hd : dest ≠ 63) (hc : (h.host k).claimed = true) :
    ∃ f, h.frameReset p dest k seq [0xA5#8, 0x5A#8] =
      if h.role k = 2 then ((h.touch k).modTet f).start .reset (ms 1) else (h.touch k).modTet f := by
  have habort := Hub.resetAbort_of_claimed hc
  obtain ⟨f, hf⟩ := (h.touch k).sendResp_eq (decide (p = .down)) ((h.touch k).respBytes k seq 0 0 0 ((h.touch k).resetAbort k) [])
  refine ⟨f, ?_⟩
  unfold Hub.frameReset
  dsimp only
  rw [if_neg (by decide), if_neg hd, hf, habort]
  by_cases hrole : h.role k = 2
  · rw [if_pos hrole, if_pos hrole, if_pos rfl]
  · rw [if_neg hrole, if_neg hrole, if_neg (by decide)]

/-! ## BULK (R323) -/

/-- The first data of an image by BULK is written as a command's is, and answered. -/
theorem Hub.frameBulk_of_first {dest seq : Nat} {data : List Byte} (hd : dest ≠ 63) (hb : h.serviceBusy = false)
    (ha : ((h.touch k).ungate).writeAbort k 0xB000 2 0 (toBytes 4 0 ++ data) = 0) (hl : data.length < 320) :
    ∃ f, h.frameBulk p dest k seq 0 data = (((h.touch k).ungate).modUpd (fun u => u.begun k data)).modTet f := by
  have hbusy := (h.accessed_serves k).1.trans hb
  have hw := actsNow_image.writeObject (w := ⟨.tether, k⟩) ha
  rw [Hub.immediate_of_firstImage _ _ _ _ hl] at hw
  unfold Hub.frameBulk
  dsimp only
  rw [if_neg hd, if_neg (by simp [hbusy]), hw]
  exact Hub.sendResp_eq _ _ _

/-! ## NOTIFY (R324) -/

theorem Hub.notify_eq (h : Hub) (k : Nat) (payload : List Byte) : ∃ f, h.notify k payload = h.modTet f := by
  unfold Hub.notify
  split
  · exact ⟨id, rfl⟩
  · exact h.transmit_eq _ _ _ _

theorem Hub.notifyEvents_of_repeated (hr : h.live? 0xD000 0x0B ≠ 0) :
    ∃ f, h.notifyEvents k = (h.modTet f).start (.notifyRepeat k) (us (h.live? 0xD000 0x0B)) := by
  obtain ⟨f, hf⟩ := h.notify_eq k (0 :: h.pendingBytes k)
  refine ⟨f, ?_⟩
  unfold Hub.notifyEvents
  dsimp only
  rw [hf]
  exact if_neg hr

theorem Hub.notifyAgain_of_due (hd : h.due (.notifyRepeat k) = true) : h.notifyAgain k =
    if (h.host k).claimed && (h.host k).onTether && h.alerting k then (h.cancel (.notifyRepeat k)).notifyEvents k else h.cancel (.notifyRepeat k) :=
  Hub.whenDue_due hd

end

/-- Settles O35: a frame for this hub is consumed by its TYPE. -/
theorem tetherCommandsAndResets : Obligations.TetherCommandsAndResets := by
  refine ⟨?started, ?taken, ?resets, ?stays, ?bulk, ?again, ?ends⟩
  case started =>
    intro s p bs hr hok ht ho ha hm hl
    have hd : frameAt bs 0 ≠ 63 := fun hd => ha ((by simpa [Hub.isOwn] using ho : frameAt bs 0 = s.hub.tet.address ∧ _).1.symm.trans hd)
    refine answers_of_always (f := (·.commandFrame p bs)) rfl ?_
    rw [Hub.commandFrame_of_own hr hok ht ho]
    exact Hub.frameCommand_of_fresh hd ⟨hm, hl⟩
  case taken =>
    intro s p bs hr hok ht ho ha hm hl hb hh
    have hd : frameAt bs 0 ≠ 63 := fun hd => ha ((by simpa [Hub.isOwn] using ho : frameAt bs 0 = s.hub.tet.address ∧ _).1.symm.trans hd)
    obtain ⟨hbusy, hheld⟩ := s.hub.accessed_serves (frameAt bs 2)
    refine answers_of_always (f := (·.commandFrame p bs)) rfl ?_
    rw [Hub.commandFrame_of_own hr hok (Or.inl ht) ho, Hub.frameCommand_of_fresh hd ⟨hm, hl⟩,
      Hub.startCommand_of_free ((s.hub.accessed_stable _).trans (Hub.stable_of_receives hr)) (by rw [Hub.accessed_mailbox]; exact hm)
        (hbusy.trans hb) (hheld.trans hh), Hub.modMailbox_mailbox]
    exact ⟨rfl, rfl, rfl, rfl, rfl, rfl⟩
  case resets =>
    intro s p src k seq hk hr ho ha hc hrole
    obtain ⟨f, hf⟩ := Hub.frameReset_of_claimed (p := p) (seq := seq) ha hc
    refine answers_of_run (f := (fun h => h.byDest p s.hub.tet.address (frameBytes s.hub.tet.address src k 7 seq [] [0xA5#8, 0x5A#8])
      (·.frameReset p s.hub.tet.address k seq [0xA5#8, 0x5A#8]))) rfl hk ?_
    rw [Hub.byDest_of_own hr ho, hf, if_pos hrole]
    have htouch := s.hub.touch_rest k
    generalize s.hub.touch k = g at htouch
    refine ⟨?_, (congrArg (fun g : Hub => { g with tet := s.hub.tet }) htouch :)⟩
    rw [Hub.deadline_start, if_pos rfl]
    exact congrArg (fun n => some (n + 96)) (congrArg Hub.now htouch :)
  case stays =>
    intro s p src k seq hk hr ho ha hc hrole
    obtain ⟨f, hf⟩ := Hub.frameReset_of_claimed (p := p) (seq := seq) ha hc
    refine answers_of_run (f := (fun h => h.byDest p s.hub.tet.address (frameBytes s.hub.tet.address src k 7 seq [] [0xA5#8, 0x5A#8])
      (·.frameReset p s.hub.tet.address k seq [0xA5#8, 0x5A#8]))) rfl hk ?_
    rw [Hub.byDest_of_own hr ho, hf, if_neg hrole]
    exact Hub.touch_deadline_of_ne (by simp)
  case bulk =>
    intro s p src k seq data hk hr ho ha hb hw hl
    obtain ⟨f, hf⟩ := Hub.frameBulk_of_first (p := p) (seq := seq) ha hb hw hl
    refine answers_of_run (f := (fun h => h.byDest p s.hub.tet.address (frameBytes s.hub.tet.address src k 8 seq [] (toBytes 4 0 ++ data))
      (·.frameBulk p s.hub.tet.address k seq 0 data))) rfl hk ?_
    rw [Hub.byDest_of_own hr ho, hf]
    have hrest := s.hub.accessed_rest k
    generalize (s.hub.touch k).ungate = g at hrest
    have hupd : g.upd = s.hub.upd := (congrArg Hub.upd hrest :)
    refine ⟨congrArg (fun u : Update => u.begun k data) hupd, ?_⟩
    exact (congrArg (fun g : Hub => { g with upd := s.hub.upd, tet := s.hub.tet }) hrest :)
  case again =>
    intro s k hk hd hc ht ha hl
    obtain ⟨f, hf⟩ := Hub.notifyEvents_of_repeated (h := s.hub.cancel (.notifyRepeat k)) (k := k) hl
    refine answers_of_run (f := (·.notifyAgain k)) rfl hk ?_
    rw [Hub.notifyAgain_of_due hd, if_pos (by simp [hc, ht, ha]), hf]
    refine ⟨?_, rfl⟩
    rw [Hub.deadline_start, if_pos rfl]
    rfl
  case ends =>
    intro s k hk hd ha
    refine answers_of_run (f := (·.notifyAgain k)) rfl hk ?_
    rw [Hub.notifyAgain_of_due hd, if_neg (by simp [ha])]
    refine ⟨?_, rfl⟩
    rw [Hub.deadline_cancel, if_pos rfl]

end Sys2Proof.Machine
end

section
/-! SUPPORT. The Tether's addresses and its time (R315 to R321): what a frame that is sent leaves of the hub, and each row where its condition holds. -/

namespace Sys2Proof.Machine

/-! ## What sending leaves (R307, R308, R318) -/

/-- All of the hub but what its ports send and count, and which echoes they wait for. -/
def Hub.besideWire (h : Hub) : Hub := { h with tet := { h.tet with tx := [], fwdDrops := 0, upEcho := false, downEcho := false } }

section
variable (h : Hub) (p : TetherPort) (k : TxKind) (bs : List Byte)

theorem Hub.transmit_besideWire (a : Bool) : (h.transmit p k bs a).besideWire = h.besideWire := by
  unfold Hub.transmit
  split <;> rfl

theorem Hub.forward_besideWire (a : Bool) : (h.forward p k bs a).besideWire = h.besideWire := by
  unfold Hub.forward
  split
  · dsimp only
    split
    · rfl
    · exact h.transmit_besideWire p k bs a
  · rfl

theorem Hub.passOn_besideWire (dest : Nat) : (h.passOn p dest k bs).besideWire = h.besideWire := by
  unfold Hub.passOn
  split
  · exact h.forward_besideWire _ _ _ _
  · rfl

theorem Hub.transmitEcho_besideWire : (h.transmitEcho p k).besideWire = h.besideWire := by
  unfold Hub.transmitEcho
  split <;> rfl

theorem Hub.echoRequest_besideWire : (h.echoRequest p).besideWire = h.besideWire := by
  refine Eq.trans ?_ (h.transmitEcho_besideWire p .echoReq)
  unfold Hub.echoRequest
  cases p <;> rfl

end

section
variable {g h : Hub}

theorem Hub.eq_of_besideWire (hb : g.besideWire = h.besideWire) : { g with tet := h.tet } = h := (congrArg (fun x : Hub => { x with tet := h.tet }) hb :)

theorem Hub.causes_of_besideWire (hb : g.besideWire = h.besideWire) (e : Nat) : g.causes e ↔ h.causes e :=
  iff_of_eq (congrArg (fun x : Hub => x.causes e) hb :)

theorem Hub.deadline_of_besideWire (hb : g.besideWire = h.besideWire) (t : Timer) : g.deadline t = h.deadline t :=
  (congrArg (fun x : Hub => x.deadline t) hb :)

theorem Hub.address_of_besideWire (hb : g.besideWire = h.besideWire) :
    g.tet.address = h.tet.address ∧ g.tet.position = h.tet.position ∧ g.tet.provisional = h.tet.provisional :=
  ⟨(congrArg (fun x : Hub => x.tet.address) hb :), (congrArg (fun x : Hub => x.tet.position) hb :), (congrArg (fun x : Hub => x.tet.provisional) hb :)⟩

end

/-! ## Addresses (R315, R316) -/

section
variable {h : Hub} {p : TetherPort} {r : RollCall} {a place : Nat}

/-- The hub that holds a provisional address for 100 ms. -/
def Hub.heldAddress (h : Hub) (a place : Nat) : Hub :=
  (h.modTet (fun t => { t with provisional := some (a, place) })).start .rollcall (ms 100)

theorem Hub.heldAddress_rest (h : Hub) (a place : Nat) : { h.heldAddress a place with tet := h.tet, timers := h.timers } = h := rfl

theorem Hub.heldAddress_deadline (h : Hub) (a place : Nat) : (h.heldAddress a place).deadline .rollcall = some (h.now + 100 * 96) := by
  rw [Hub.heldAddress, Hub.deadline_start, if_pos rfl]
  rfl

theorem Hub.rollCall_of_available (hr : h.receives .up = true) (hreturn : r.returning = false) (ha : h.provisionalFor r = some a) (dest src host seq : Nat) :
    (h.rollCall .up r dest src host seq).besideWire = (h.heldAddress a (r.counter + 1)).besideWire := by
  unfold Hub.rollCall
  dsimp only
  rw [if_pos hr, if_neg (by simp [hreturn]), ha]
  simp only [Option.isSome_some, if_true]
  split
  · exact Hub.transmit_besideWire _ _ _ _ _
  · exact Hub.transmit_besideWire _ _ _ _ _

/-- The hub that has adopted an address. -/
def Hub.adopted (h : Hub) (a place : Nat) : Hub :=
  (((h.modTet (fun t => { t with address := a, position := place, provisional := none })).cancel .rollcall).modStore
    (fun s => { s with queue := s.queue ++ [.address], e5Done := false })).cause evRollCall

theorem Hub.adopted_rest (h : Hub) (a place : Nat) :
    { h.adopted a place with tet := h.tet, timers := h.timers, store := h.store, evDue := h.evDue } = h := rfl

theorem Hub.adopted_deadline (h : Hub) (a place : Nat) : (h.adopted a place).deadline .rollcall = none := by
  rw [Hub.adopted, Hub.cause_deadline]
  exact (Hub.deadline_cancel _ _ _).trans (if_pos rfl)

theorem Hub.confirmRow_of_match (hr : h.receives p = true) (hp : h.tet.provisional = some (a, place)) (hm : r.list[place - 1]? = some a)
    (hd : h.supply.dip = false) : (h.confirmRow p r).besideWire = (h.adopted a place).besideWire := by
  have hconfirm : h.confirm r = h.adopted a place := by
    unfold Hub.confirm
    rw [hp]
    dsimp only
    rw [if_pos hm]
    exact congrArg (fun g : Hub => g.cause evRollCall) (Hub.request_of_no_dip _ (by exact hd))
  unfold Hub.confirmRow
  rw [if_pos hr, hconfirm]
  exact Hub.passOn_besideWire _ _ _ _ _

end

/-! ## Time (R319 to R321) -/

section
variable (h : Hub) (p : TetherPort) (f : SyncFrame) (arrival : Nat)

/-- The Tether time of a SYNC frame at its arrival, and the local time of it. -/
def Hub.syncTime : Nat := f.time + f.delayAcc + h.delayOf p
def Hub.syncLocal : Nat := 65536 * h.now + arrival

/-- How far a SYNC frame is from the estimate. -/
def Hub.syncError : Int := (h.syncTime p f : Int) - h.tetherAt (h.syncLocal arrival)

/-- SYNC frames that agree with the estimate in a row, and those that do not, after one. -/
def Hub.goodAfter : Nat :=
  if f.timeValid && !h.tet.syncs.isEmpty && syncWithin (h.syncError p f arrival) 100 then if h.syncRecent then h.tet.goodSyncs + 1 else 1 else 0
def Hub.badAfter : Nat := if !h.tet.syncs.isEmpty && !syncWithin (h.syncError p f arrival) 1000 then h.tet.badSyncs + 1 else 0

/-- The link's time after a SYNC frame. -/
def Hub.syncTether : Tether :=
  { h.tet with
    time := h.syncTime p f, timeAt := h.syncLocal arrival, syncs := ((h.syncLocal arrival, h.syncTime p f) :: h.tet.syncs).take 16
    lastSync := some h.now, pathDelay := f.delayAcc + h.delayOf p, ring := f.ring, ringBroken := f.ringBroken, timeValid := f.timeValid
    generation := f.generation % 256, goodSyncs := h.goodAfter p f arrival, badSyncs := h.badAfter p f arrival }

/-- The hub after the time of a SYNC frame has been taken, a broken ring reported. -/
def Hub.syncTaken : Hub := (h.modTet (fun _ => h.syncTether p f arrival)).when (decide (h.tet.ringBroken ≠ f.ringBroken)) (·.cause evRingBroken)

theorem Hub.syncUse_eq : h.syncUse p f arrival =
    ((h.syncTaken p f arrival).timeLockJudge.detect 3 (tetherPhase (h.syncTime p f) (h.syncLocal arrival))).wckoutTether := rfl

theorem Hub.syncTaken_tet : (h.syncTaken p f arrival).tet = h.syncTether p f arrival := Hub.when_cause_tet _ _ _ _

theorem Hub.syncTaken_rest : { h.syncTaken p f arrival with tet := h.tet, evDue := h.evDue } = h := by
  unfold Hub.syncTaken Hub.when
  split <;> rfl

theorem Hub.wckoutTether_rest : { h.wckoutTether with clk := h.clk } = h := by
  unfold Hub.wckoutTether
  dsimp only
  split <;> rfl

theorem Hub.wckoutTether_sample : h.wckoutTether.clk.sample = h.clk.sample := by
  unfold Hub.wckoutTether
  dsimp only
  split <;> rfl

theorem Hub.detect_rest (n : Nat) (e : Int) : { h.detect n e with clk := h.clk } = h := by
  unfold Hub.detect
  split <;> rfl

theorem Hub.detect_sample (n : Nat) (e : Int) : (h.detect n e).clk.sample = if h.clk.anchor = n then some e else h.clk.sample := by
  unfold Hub.detect
  split <;> rfl

end

section
variable {h : Hub} {p : TetherPort} {f : SyncFrame} {arrival residence : Nat}

/-- The first SYNC frame of its millisecond is used, then sent on. -/
theorem Hub.sync_of_fresh (hr : h.receives p = true)
    (hf : ∀ l, h.tet.lastSync = some l → l + 95 ≤ h.now) :
    (h.sync p f ⟨arrival, residence⟩ 0 0 0).besideWire = (h.syncUse p f arrival).besideWire := by
  unfold Hub.sync
  rw [if_pos hr]
  dsimp only
  rw [Hub.echoRequest_besideWire, Hub.passOn_besideWire]
  refine congrArg Hub.besideWire (if_pos ?_)
  cases hl : h.tet.lastSync with
  | none => rfl
  | some l => exact decide_eq_true (hf l hl)

/-- A lock that is not reached leaves the hub as it is. -/
theorem Hub.timeLockJudge_of_unlocked (hl : h.tet.timeLocked = false) (hg : h.tet.goodSyncs < 8) : h.timeLockJudge = h := by
  unfold Hub.timeLockJudge
  rw [if_neg (by simp [hl]), if_neg (by simp; omega)]

/-- A link with what its ports send and count, and which echoes they wait for, taken from another. -/
def Tether.wiredAs (t u : Tether) : Tether := { t with tx := u.tx, fwdDrops := u.fwdDrops, upEcho := u.upEcho, downEcho := u.downEcho }

/-- A SYNC frame that is used and brings no lock. -/
structure Hub.Synced (h : Hub) (p : TetherPort) (f : SyncFrame) (arrival : Nat) (g : Hub) : Prop where
  tet : g.tet.wiredAs h.tet = h.syncTether p f arrival
  ring : h.tet.ringBroken ≠ f.ringBroken → g.causes 103
  sample : g.clk.sample = if h.clk.anchor = 3 then some (tetherPhase (h.syncTime p f) (h.syncLocal arrival)) else h.clk.sample
  rest : { g with tet := h.tet, evDue := h.evDue, clk := h.clk } = h

theorem Hub.synced_of_unlocked (hr : h.receives p = true)
    (hf : ∀ l, h.tet.lastSync = some l → l + 95 ≤ h.now) (hl : h.tet.timeLocked = false)
    (hg : h.goodAfter p f arrival < 8) : Hub.Synced h p f arrival (h.sync p f ⟨arrival, residence⟩ 0 0 0) := by
  have hwire := Hub.sync_of_fresh (arrival := arrival) (f := f) (residence := residence) hr hf
  have htet := h.syncTaken_tet p f arrival
  have htaken := h.syncTaken_rest p f arrival
  have hring : h.tet.ringBroken ≠ f.ringBroken → (h.syncTaken p f arrival).causes 103 := fun hne => by
    unfold Hub.syncTaken
    rw [decide_eq_true hne]
    exact Hub.cause_causes _ _ _
  rw [Hub.syncUse_eq, Hub.timeLockJudge_of_unlocked (by rw [htet]; exact hl) (by rw [htet]; exact hg)] at hwire
  generalize h.sync p f ⟨arrival, residence⟩ 0 0 0 = g at hwire
  generalize h.syncTaken p f arrival = k at hwire htet htaken hring
  have hk : k.clk = h.clk := (congrArg Hub.clk htaken :)
  have hdetect := k.detect_rest 3 (tetherPhase (h.syncTime p f) (h.syncLocal arrival))
  have hsample := k.detect_sample 3 (tetherPhase (h.syncTime p f) (h.syncLocal arrival))
  generalize k.detect 3 (tetherPhase (h.syncTime p f) (h.syncLocal arrival)) = d at hwire hdetect hsample
  have hout := d.wckoutTether_rest
  have hkept := d.wckoutTether_sample
  generalize d.wckoutTether = o at hwire hout hkept
  have hall : { g.besideWire with clk := h.clk } = { k.besideWire with clk := h.clk } :=
    (congrArg (fun x : Hub => { x with clk := h.clk }) hwire :).trans ((congrArg (fun x : Hub => { x.besideWire with clk := h.clk }) hout :).trans
      (congrArg (fun x : Hub => { x.besideWire with clk := h.clk }) hdetect :))
  refine ⟨?_, fun hne => ?_, ?_, ?_⟩
  · exact (congrArg (fun x : Hub => x.tet.wiredAs h.tet) hall :).trans (congrArg (fun t : Tether => t.wiredAs h.tet) htet :)
  · exact (iff_of_eq (congrArg (fun x : Hub => x.causes 103) hall :)).mpr (hring hne)
  · rw [show g.clk.sample = o.clk.sample from (congrArg (fun x : Hub => x.clk.sample) hwire :), hkept, hsample, hk]
  · exact (congrArg (fun x : Hub => { x with tet := h.tet, evDue := h.evDue }) hall :).trans (congrArg (fun x : Hub => { x with clk := h.clk }) htaken :)

/-! ## The lock (R321) -/

theorem Hub.timeLockJudge_of_good (hl : h.tet.timeLocked = false) (hv : h.tet.timeValid = true) (hg : 8 ≤ h.tet.goodSyncs) :
    h.timeLockJudge = (h.modTet (fun t => { t with timeLocked := true, goodSyncs := 0 })).cause evTimeLock := by
  unfold Hub.timeLockJudge
  rw [if_neg (by simp [hl]), if_pos (by simp [hv, hg])]
  unfold Hub.timeLock
  rw [if_neg (by simp [hl])]
  rfl

/-- The hub whose time lock is gone, its anchor not yet judged. -/
def Hub.unlocked (h : Hub) : Hub := (h.modTet (fun t => { t with timeLocked := false, goodSyncs := 0 })).cause evTimeLock

theorem Hub.unlocked_rest (h : Hub) : { h.unlocked with tet := h.tet, evDue := h.evDue } = h := rfl
theorem Hub.unlocked_tet (h : Hub) : h.unlocked.tet = { h.tet with timeLocked := false, goodSyncs := 0 } := rfl
theorem Hub.unlocked_causes (h : Hub) : h.unlocked.causes 104 := Hub.cause_causes _ _ _

theorem Hub.timeLockJudge_of_lost (hl : h.tet.timeLocked = true) (hb : h.tet.timeValid = false ∨ h.syncRecent = false ∨ 3 ≤ h.tet.badSyncs) :
    h.timeLockJudge = h.unlocked.anchorLoss := by
  unfold Hub.timeLockJudge
  rw [if_pos hl, if_neg (by
    rcases hb with hb | hb | hb
    · simp [hb]
    · simp [hb]
    · simp; omega)]
  unfold Hub.timeLock
  rw [if_neg (by simp [hl])]
  rfl

theorem Hub.timeLockJudge_of_held (hl : h.tet.timeLocked = true) (hv : h.tet.timeValid = true) (hs : h.syncRecent = true) (hb : h.tet.badSyncs < 3) :
    h.timeLockJudge = h := by
  unfold Hub.timeLockJudge
  rw [if_pos hl, if_pos (by simp [hv, hs, hb])]

theorem Hub.reinLoss_besideClk (h : Hub) : h.reinLoss.besideClk = h.besideClk := by
  unfold Hub.reinLoss
  split
  · exact Hub.reinLeave_besideClk _ _
  · split
    · rw [Hub.reinLeave_besideClk, Hub.when_cause_besideClk]
    · rfl

theorem Hub.anchorLoss_besideClk (h : Hub) : h.anchorLoss.besideClk = h.besideClk := by
  unfold Hub.anchorLoss
  split
  · rfl
  · exact h.reinLoss_besideClk

theorem Hub.anchorLoss_keeps_causes {e : Nat} (he : h.causes e) : h.anchorLoss.causes e := by
  unfold Hub.anchorLoss
  split
  · exact he
  · unfold Hub.reinLoss
    split
    · exact Hub.reinLeave_keeps_causes _ _ he
    · split
      · refine Hub.reinLeave_keeps_causes _ _ ?_
        unfold Hub.when
        split
        · exact Hub.causes_cause he _ _
        · exact he
      · exact he

theorem Hub.anchorUsable_of_unlocked (ha : h.clk.anchor = 3) (hl : h.tet.timeLocked = false) : h.anchorUsable = false := by
  unfold Hub.anchorUsable
  rw [ha]
  simp [hl]

/-! ## Link delay (R318) -/

theorem Hub.echoReply_of_last {ns : Nat} (he : h.tet.upEcho = true) (ht : h.tet.upTrips = 63) : h.echoReply .up ns =
    { h with tet := { h.tet with upEcho := false, upTrips := 0, upSum := 0, upDelay := linkDelay (h.tet.upSum + ns) } } := by
  simp only [Hub.echoReply, he, if_true, Hub.modTet, ht]

theorem syncWithin_weaken {e : Int} (he : syncWithin e 100 = true) : syncWithin e 1000 = true := by
  unfold syncWithin at he ⊢
  have he := of_decide_eq_true he
  exact decide_eq_true (by omega)

end

/-- Settles O36: each row is an equation where its condition holds, up to what the ports send. -/
theorem tetherAddressesAndTime : Obligations.TetherAddressesAndTime := by
  refine ⟨?roll, ?confirm, ?timeout, ?first, ?agrees, ?delay, ?trip, ?locks, ?unlocks, ?holds⟩
  case roll =>
    intro s r a hr hreturn ha
    refine answers_of_always (f := (·.rollCall .up r (if r.returning then 0 else 63) 0 0 0)) rfl ?_
    have hw := Hub.rollCall_of_available hr hreturn ha (if r.returning then 0 else 63) 0 0 0
    obtain ⟨haddress, -, hprovisional⟩ := Hub.address_of_besideWire hw
    have hdeadline := (Hub.deadline_of_besideWire hw .rollcall).trans (s.hub.heldAddress_deadline a _)
    refine ⟨hprovisional, haddress, hdeadline, ?_⟩
    have hrest := s.hub.heldAddress_rest a (r.counter + 1)
    generalize s.hub.heldAddress a (r.counter + 1) = k at hw hrest
    exact (congrArg (fun x : Hub => { x with tet := s.hub.tet, timers := s.hub.timers }) hw :).trans hrest
  case confirm =>
    intro s p r a place hr hp hm hd
    refine answers_of_always (f := (·.confirmRow p r)) rfl ?_
    have hw := Hub.confirmRow_of_match hr hp hm hd
    obtain ⟨haddress, hposition, hprovisional⟩ := Hub.address_of_besideWire hw
    refine ⟨haddress, hposition, hprovisional, (Hub.deadline_of_besideWire hw _).trans (s.hub.adopted_deadline a place),
      (Hub.causes_of_besideWire hw _).mpr (Hub.cause_causes _ _ _), (congrArg (fun x : Hub => x.store.queue) hw :), ?_⟩
    have hrest := s.hub.adopted_rest a place
    generalize s.hub.adopted a place = k at hw hrest
    exact (congrArg (fun x : Hub => { x with tet := s.hub.tet, timers := s.hub.timers, store := s.hub.store, evDue := s.hub.evDue }) hw :).trans hrest
  case timeout =>
    intro s hd
    refine answers_of_always (f := Hub.rollcallTimeout) rfl ?_
    rw [Hub.rollcallTimeout, Hub.whenDue_due hd]
    exact ⟨rfl, (Hub.deadline_cancel _ _ _).trans (if_pos rfl), rfl⟩
  case first =>
    intro s p f arrival residence hr hlast hsyncs hlocked
    have hgood : s.hub.goodAfter p f arrival = 0 := by simp [Hub.goodAfter, hsyncs]
    have hbad : s.hub.badAfter p f arrival = 0 := by simp [Hub.badAfter, hsyncs]
    obtain ⟨htet, hring, hsample, hrest⟩ := Hub.synced_of_unlocked (f := f) (arrival := arrival) (residence := residence) hr (by simp [hlast]) hlocked
      (by omega)
    refine answers_of_always (f := (·.sync p f ⟨arrival, residence⟩ 0 0 0)) rfl ?_
    generalize s.hub.sync p f ⟨arrival, residence⟩ 0 0 0 = g at htet hring hsample hrest
    refine ⟨(congrArg Tether.time htet :), (congrArg Tether.timeAt htet :), (congrArg Tether.lastSync htet :), (congrArg Tether.syncs htet :).trans ?_,
      (congrArg Tether.goodSyncs htet :).trans hgood, (congrArg Tether.badSyncs htet :).trans hbad, (congrArg Tether.timeValid htet :),
      (congrArg Tether.generation htet :), (congrArg Tether.pathDelay htet :), hring, hsample, hrest⟩
    rw [Hub.syncTether, hsyncs]
    rfl
  case agrees =>
    intro s p f arrival residence l hr hlast hl1 hl2 hsyncs hlocked hvalid hgood hwithin
    have hknown : s.hub.tet.syncs.isEmpty = false := by simpa using hsyncs
    have hrecent : s.hub.syncRecent = true := by simp [Hub.syncRecent, hlast, ms, hl2]
    have hclose : syncWithin (s.hub.syncError p f arrival) 100 = true := hwithin
    have hafter : s.hub.goodAfter p f arrival = s.hub.tet.goodSyncs + 1 := by simp [Hub.goodAfter, hvalid, hknown, hclose, hrecent]
    have hbad : s.hub.badAfter p f arrival = 0 := by simp [Hub.badAfter, syncWithin_weaken hclose]
    obtain ⟨htet, -, -, hrest⟩ := Hub.synced_of_unlocked (f := f) (arrival := arrival) (residence := residence) hr
      (by simpa [hlast] using hl1) hlocked (by omega)
    refine answers_of_always (f := (·.sync p f ⟨arrival, residence⟩ 0 0 0)) rfl ?_
    generalize s.hub.sync p f ⟨arrival, residence⟩ 0 0 0 = g at htet hrest
    exact ⟨(congrArg Tether.goodSyncs htet :).trans hafter, (congrArg Tether.badSyncs htet :).trans hbad, (congrArg Tether.timeLocked htet :).trans hlocked,
      hrest⟩
  case delay =>
    intro s ns he ht
    refine answers_of_always (f := (·.echoReply .up ns)) rfl ?_
    rw [Hub.echoReply_of_last he ht]
    generalize linkDelay (s.hub.tet.upSum + ns) = d
    exact ⟨rfl, rfl⟩
  case trip =>
    intro s ns he ht
    refine answers_of_always (f := (·.echoReply .down ns)) rfl ?_
    have hreply : s.hub.echoReply .down ns = s.hub.modTet (fun t => { t with downEcho := false, downTrips := t.downTrips + 1, downSum := t.downSum + ns }) :=
      (if_pos he).trans (Hub.modTet_congr (if_neg (by omega)))
    rw [hreply]
    exact ⟨rfl, rfl⟩
  case locks =>
    intro s hl hv hg
    refine answers_of_always (f := Hub.timeLockJudge) rfl ?_
    rw [Hub.timeLockJudge_of_good hl hv hg]
    exact ⟨rfl, Hub.cause_causes _ _ _, rfl⟩
  case unlocks =>
    intro s hl hb
    refine answers_of_always (f := Hub.timeLockJudge) rfl ?_
    rw [Hub.timeLockJudge_of_lost hl hb]
    have htet := s.hub.unlocked_tet
    have hrest := s.hub.unlocked_rest
    have hcause := s.hub.unlocked_causes
    generalize s.hub.unlocked = k at htet hrest hcause
    have hbeside := k.anchorLoss_besideClk
    have hclk : k.clk = s.hub.clk := (congrArg Hub.clk hrest :)
    refine ⟨(congrArg Hub.tet hbeside :).trans htet, Hub.anchorLoss_keeps_causes hcause, fun ha hrein => ?_, ?_⟩
    · rw [← hclk] at ha hrein ⊢
      rw [Hub.anchorLoss_of_locked hrein (Hub.anchorUsable_of_unlocked ha (by rw [htet])), Hub.reinLeave_clk]
      exact ⟨rfl, rfl, Hub.reinLeave_causes _ _ hrein⟩
    · exact (congrArg (fun x : Hub => { x with tet := s.hub.tet, evDue := s.hub.evDue, clk := s.hub.clk, timers := s.hub.timers }) hbeside :).trans
        (congrArg (fun x : Hub => { x with clk := s.hub.clk, timers := s.hub.timers }) hrest :)
  case holds =>
    intro s hl hv hs hb
    exact answers_of_always (f := Hub.timeLockJudge) rfl (Hub.timeLockJudge_of_held hl hv hs hb)

end Sys2Proof.Machine
end

section
/-! SUPPORT. Entering and leaving Watch (R365 to R368): each step where its condition holds. -/

namespace Sys2Proof.Machine

/-! ## The end of quiesce (R367) -/

section
variable {h : Hub}

theorem Hub.due_of_unarmed {t : Timer} (ha : h.armed t = false) : h.due t = false := by
  unfold Hub.armed at ha
  unfold Hub.due
  cases hd : h.deadline t with
  | none => rfl
  | some d => simp [hd] at ha

/-- A pass whose every step leaves the hub as it is leaves it as it is. -/
theorem Hub.forAll_of_fixed {step : Hub → Nat → Hub} {ns : List Nat} (hs : ∀ n, step h n = h) : h.forAll ns step = h := by
  induction ns with
  | nil => rfl
  | cons n ns ih => exact (congrArg (fun g : Hub => g.forAll ns step) (hs n)).trans ih

theorem Hub.domainsBoundary_of_idle (hig : ∀ k, h.armed (.igOff k) = false) (hhps : h.armed .hpsOff = false) : h.domainsBoundary = h := by
  have hgroups : h.forAll (List.range 12) Hub.groupOff = h := Hub.forAll_of_fixed fun k => if_neg (by simp [Hub.due_of_unarmed (hig k)])
  unfold Hub.domainsBoundary
  rw [hgroups]
  exact if_neg (by simp [Hub.due_of_unarmed hhps])

/-- An input whose front end has lost its power. -/
def Input.off (x : Input) : Input := { x with stream := { x.stream with gate := Fade.steady 0 }, fe := .unpowered }

theorem Hub.zeroStream_setFe {n : Nat} (hn : n ≤ 48) : (h.zeroStream n).setFe n .unpowered = h.modInput n Input.off := by
  unfold Hub.zeroStream Hub.modStream Hub.setFe
  rw [if_pos hn, if_pos hn, Hub.modInput_modInput]
  rfl

/-- The input is unpowered but where it is watched and the hub goes to Watch. -/
def Hub.inputDown (h : Hub) (n : Nat) : Hub := if h.isWatchInput n ∧ h.pwr.progress = 2 then h else h.modInput n Input.off

theorem Hub.inputDown_withoutInputs (h : Hub) (n : Nat) : (h.inputDown n).withoutInputs = h.withoutInputs := by
  unfold Hub.inputDown
  split <;> rfl

theorem Hub.inputDown_other (h : Hub) (n m : Nat) (hm : m ≠ n) : (h.inputDown n).input m = h.input m := by
  unfold Hub.inputDown
  split
  · rfl
  · simp [hm]

/-- The hub with its switched domains off (R367). -/
def Hub.switchedOff (h : Hub) : Hub :=
  (h.cancel .quiesce).modPwr (fun p => { p with quiesced := true, domains := p.domains - (p.domains &&& 0x3FF000) })

/-- The inputs of a hub that goes to Watch are down. -/
def Hub.inputsDown (h : Hub) : Hub := h.switchedOff.forAll (upTo 1 48) Hub.inputDown

theorem Hub.inputsDown_withoutInputs (h : Hub) : h.inputsDown.withoutInputs = h.switchedOff.withoutInputs :=
  Hub.forAll_keeps Hub.inputDown_withoutInputs _ _

theorem Hub.inputsDown_pwr (h : Hub) : h.inputsDown.pwr = h.switchedOff.pwr := by
  have hkeep := h.inputsDown_withoutInputs
  generalize h.inputsDown = g at hkeep ⊢
  exact (congrArg Hub.pwr hkeep :)

theorem Hub.switchedOff_rest (h : Hub) : { h.switchedOff with pwr := h.pwr, timers := h.timers } = h := rfl

theorem Hub.inputsDown_input {n : Nat} (hn : isInput n = true) (hp : h.pwr.progress = 2) :
    h.inputsDown.input n = if h.isWatchInput n = true then h.input n else (h.input n).off := by
  obtain ⟨g, hg, hk, he⟩ := Hub.forAll_at (R := fun g m => g.input m) (K := Hub.withoutInputs) Hub.inputDown_other Hub.inputDown_withoutInputs
    (nodup_upTo 1 48) (mem_upTo.mpr (isInput_range hn)) h.switchedOff
  have hw : g.isWatchInput n = h.isWatchInput n := (congrArg (fun x : Hub => x.isWatchInput n) hk :)
  have hprogress : g.pwr.progress = 2 := (congrArg (fun x : Hub => x.pwr.progress) hk :).trans hp
  refine he.trans ?_
  unfold Hub.inputDown
  rw [hw, hprogress]
  by_cases hi : h.isWatchInput n = true
  · rw [if_pos ⟨hi, rfl⟩, if_pos hi]
    exact hg
  · rw [if_neg (by simp [hi]), if_neg hi, Hub.input_modInput, if_pos rfl, hg]
    rfl

theorem Hub.quiesceEnd_of_watch (hs : h.pwr.state = 2) (hp : h.pwr.progress = 2) (hq : h.pwr.quiesced = false)
    (hig : ∀ k, h.armed (.igOff k) = false) (hhps : h.armed .hpsOff = false) (hover : h.quiesceOver = true) (hdsp : h.dsp.on = false) :
    h.quiesceEnd = h.inputsDown.reinEnterWatch.start .watchEntry (ms 3) := by
  have hdown : ((h.cancel .quiesce).modPwr (fun p => { p with quiesced := true })).domainsDown = h.switchedOff := by
    unfold Hub.domainsDown
    rw [if_neg (by exact ne_true_of_eq_false hdsp)]
    rfl
  have hpass : h.switchedOff.forAll (upTo 1 48) (fun h n => if h.isWatchInput n ∧ h.pwr.progress = 2 then h else (h.zeroStream n).setFe n .unpowered) =
      h.inputsDown := by
    refine Hub.forAll_congr (fun n hn g => ?_) _
    have hle : n ≤ 48 := by
      have := mem_upTo.mp hn
      omega
    rw [Hub.zeroStream_setFe hle]
    rfl
  have hprogress : h.inputsDown.pwr.progress = 2 := (congrArg Power.progress h.inputsDown_pwr).trans hp
  unfold Hub.quiesceEnd
  rw [if_pos ⟨hs, Or.inl hp, hq⟩]
  dsimp only
  rw [Hub.domainsBoundary_of_idle hig hhps, if_pos hover, hdown, hpass, if_pos hprogress]

/-! ## The steps of a transition (R365, R367, R368) -/

theorem Hub.powerNext_of_none (hp : h.pwr.pendingReq = 0) : h.powerNext = h := if_pos (Or.inl hp)

theorem Hub.pauseSessions_rest (h : Hub) : { h.pauseSessions with hosts := h.hosts, timers := h.timers } = h := by
  have hkeep : ({ h.pauseSessions with hosts := [], timers := [] } : Hub) = { h with hosts := [], timers := [] } :=
    Hub.forAll_keeps (K := fun g : Hub => { g with hosts := [], timers := [] }) (fun g k => by split <;> rfl) _ h
  generalize h.pauseSessions = g at hkeep
  exact (congrArg (fun x : Hub => { x with hosts := h.hosts, timers := h.timers }) hkeep :)

theorem Hub.pauseSessions_pwr (h : Hub) : h.pauseSessions.pwr = h.pwr := by
  have hkeep := h.pauseSessions_rest
  generalize h.pauseSessions = g at hkeep ⊢
  exact (congrArg Hub.pwr hkeep :)

theorem Hub.watchEntryComplete_of_due (hp : h.pwr.progress = 2) (hq : h.pwr.quiesced = true) (hd : h.due .watchEntry = true)
    (hn : h.pwr.pendingReq = 0) : h.watchEntryComplete = ((h.cancel .watchEntry).pauseSessions).powerDone 1 := by
  unfold Hub.watchEntryComplete
  rw [if_pos ⟨hp, hq⟩, Hub.whenDue_due hd]
  have hpwr := (h.cancel .watchEntry).pauseSessions_pwr
  generalize (h.cancel .watchEntry).pauseSessions = g at hpwr
  exact Hub.powerNext_of_none ((congrArg Power.pendingReq hpwr).trans hn)

/-- The next step of leaving Watch falls due `n` ms later. -/
def Hub.exitStepNext (h : Hub) (step n : Nat) : Hub := (h.modPwr (fun p => { p with exitStep := step })).start .watchExit (ms n)

section
variable (hp : h.pwr.progress = 1) (hd : h.due .watchExit = true)
include hp hd

theorem Hub.watchExitStep_of_first (he : h.pwr.exitStep = 1) : h.watchExitStep = (h.cancel .watchExit).watchExit2.exitStepNext 2 1 := by
  have hstep : (h.cancel .watchExit).pwr.exitStep = 1 := he
  unfold Hub.watchExitStep
  rw [if_pos hp, Hub.whenDue_due hd]
  simp only [hstep]
  rfl

theorem Hub.watchExitStep_of_second (he : h.pwr.exitStep = 2) : h.watchExitStep = (h.cancel .watchExit).watchExit3.exitStepNext 3 10 := by
  have hstep : (h.cancel .watchExit).pwr.exitStep = 2 := he
  unfold Hub.watchExitStep
  rw [if_pos hp, Hub.whenDue_due hd]
  simp only [hstep]
  rfl

theorem Hub.watchExitStep_of_last (he : h.pwr.exitStep = 3) (hn : h.pwr.pendingReq = 0) :
    h.watchExitStep = (h.cancel .watchExit).powerDone 0 := by
  have hstep : (h.cancel .watchExit).pwr.exitStep = 3 := he
  unfold Hub.watchExitStep
  rw [if_pos hp, Hub.whenDue_due hd]
  simp only [hstep]
  exact Hub.powerNext_of_none hn

end

theorem Hub.exitStepNext_deadline (step n : Nat) : (h.exitStepNext step n).deadline .watchExit = some (h.now + ms n) :=
  (Hub.deadline_start _ _ _ _).trans (if_pos rfl)

theorem Hub.exitStepNext_rest (step n : Nat) : { h.exitStepNext step n with pwr := h.pwr, timers := h.timers } = h := rfl

/-! ## The paths of a watch channel (R368) -/

/-- A path that is usable at once. -/
def PathState.ready (p : PathState) : PathState := { p with usable := true, stable := 64 }

/-- The combiner of an input that crossfades to the full splice. -/
def Tandem.splicing (t : Tandem) (now : Nat) : Tandem := { t with l := t.l.ready, h := t.h.ready, toM := t.toM.to 0 now (ms 10) }

theorem Hub.watchExit3_eq (h : Hub) :
    h.watchExit3 = h.forAll ((upTo 1 48).filter h.isWatchInput) (fun h n => h.modTandem n (fun t => t.splicing h.now)) := rfl

theorem Hub.modTandem_withoutInputs (h : Hub) (n : Nat) (f : Tandem → Tandem) : (h.modTandem n f).withoutInputs = h.withoutInputs := rfl

theorem Hub.watchExit3_withoutInputs (h : Hub) : h.watchExit3.withoutInputs = h.withoutInputs :=
  Hub.forAll_keeps (fun g n => g.modTandem_withoutInputs n _) _ h

theorem Hub.watchExit3_input {n : Nat} (hn : isInput n = true) (hw : h.isWatchInput n = true) :
    h.watchExit3.input n = { h.input n with tandem := (h.input n).tandem.splicing h.now } := by
  obtain ⟨g, hg, hk, he⟩ := Hub.forAll_at (R := fun g m => g.input m) (K := Hub.withoutInputs)
    (step := fun h n => h.modTandem n (fun t => t.splicing h.now)) (fun g n m hm => by simp [Hub.modTandem, hm])
    (fun g n => g.modTandem_withoutInputs n _) (List.Pairwise.filter _ (nodup_upTo 1 48))
    (List.mem_filter.mpr ⟨mem_upTo.mpr (isInput_range hn), hw⟩) h
  rw [h.watchExit3_eq, he]
  simp only [Hub.modTandem, Hub.input_modInput, if_true, hg, Hub.now_of_withoutInputs hk]

end

/-- Settles O37: each step of either transition is an equation where it falls due. -/
theorem watchIsEnteredAndLeft : Obligations.WatchIsEnteredAndLeft := by
  refine ⟨?quiesced, ?entered, ?first, ?second, ?left⟩
  case quiesced =>
    intro s hs hp hq hig hhps hover hdsp
    refine answers_of_always (f := Hub.quiesceEnd) rfl ?_
    rw [Hub.quiesceEnd_of_watch hs hp hq hig hhps hover hdsp]
    have hkeep := s.hub.inputsDown_withoutInputs
    have hinput := fun n (hn : isInput n = true) => Hub.inputsDown_input (h := s.hub) hn hp
    generalize s.hub.inputsDown = g at hkeep hinput
    have hclk : g.clk = s.hub.clk := (congrArg Hub.clk hkeep :)
    refine ⟨(congrArg Hub.pwr hkeep :), ?_, ?_, fun n hn hw => (hinput n hn).trans (if_pos hw), fun n hn hw => ?_, ?_⟩
    · rw [← hclk]
      rfl
    · rw [Hub.deadline_start, if_pos rfl]
      exact congrArg (fun n => some (n + 3 * 96)) (congrArg Hub.now hkeep :)
    · have hoff := (hinput n hn).trans (if_neg (by simp [hw]))
      exact ⟨congrArg Input.fe hoff, congrArg (fun x : Input => x.stream.gate) hoff⟩
    · exact (congrArg (fun x : Hub => { x with pwr := s.hub.pwr, clk := s.hub.clk, ins := s.hub.ins, timers := s.hub.timers }) hkeep :)
  case entered =>
    intro s hp hq hd hn
    refine answers_of_always (f := Hub.watchEntryComplete) rfl ?_
    rw [Hub.watchEntryComplete_of_due hp hq hd hn]
    have hkeep := (s.hub.cancel .watchEntry).pauseSessions_rest
    have hpaused := fun k (hk : k < 8) => Hub.pauseSessions_deadline (h := s.hub.cancel .watchEntry) hk
    generalize (s.hub.cancel .watchEntry).pauseSessions = g at hkeep hpaused
    have hpwr : g.pwr = s.hub.pwr := (congrArg Hub.pwr hkeep :)
    refine ⟨?_, Hub.cause_causes _ _ _, fun k hk => (Hub.cause_deadline _ _ _ _).trans (hpaused k hk), ?_⟩
    · rw [← hpwr]
      rfl
    · exact (congrArg (fun x : Hub => { x with pwr := s.hub.pwr, timers := s.hub.timers, evDue := s.hub.evDue }) hkeep :)
  case first =>
    intro s hp hd he
    refine answers_of_always (f := Hub.watchExitStep) rfl ?_
    rw [Hub.watchExitStep_of_first hp hd he]
    generalize (s.hub.cancel .watchExit).watchExit2 = g
    exact ⟨rfl, Hub.exitStepNext_deadline _ _⟩
  case second =>
    intro s hp hd he
    refine answers_of_always (f := Hub.watchExitStep) rfl ?_
    rw [Hub.watchExitStep_of_second hp hd he]
    have hkeep := (s.hub.cancel .watchExit).watchExit3_withoutInputs
    have hinput := fun n (hn : isInput n = true) hw => Hub.watchExit3_input (h := s.hub.cancel .watchExit) hn hw
    generalize (s.hub.cancel .watchExit).watchExit3 = g at hkeep hinput
    have hpwr : g.pwr = s.hub.pwr := (congrArg Hub.pwr hkeep :)
    have hnow : g.now = s.hub.now := (congrArg Hub.now hkeep :)
    refine ⟨?_, (Hub.exitStepNext_deadline _ _).trans (by rw [hnow]; rfl), fun n hn hw => ?_, ?_⟩
    · rw [← hpwr]
      rfl
    · have hi : (g.exitStepNext 3 10).input n = _ := hinput n hn hw
      rw [hi]
      exact ⟨rfl, rfl, rfl⟩
    · exact (congrArg (fun x : Hub => { x with pwr := s.hub.pwr, ins := s.hub.ins, timers := s.hub.timers }) hkeep :)
  case left =>
    intro s hp hd he hn
    refine answers_of_always (f := Hub.watchExitStep) rfl ?_
    rw [Hub.watchExitStep_of_last hp hd he hn]
    refine ⟨rfl, Hub.cause_causes _ _ _, ?_, rfl⟩
    exact (Hub.cause_deadline _ _ _ _).trans ((Hub.deadline_cancel _ _ _).trans (if_pos rfl))

end Sys2Proof.Machine
end

section
/-! SUPPORT. The entry to Stable, the wakes out of it (R369 to R371, R381, R382) and the ticks of the detectors (R376 to R378). -/

namespace Sys2Proof.Machine

/-! ## The entry to Stable (R369) -/

section
variable {h : Hub}

/-- A source loses its power. -/
def Hub.unpower (h : Hub) (n : Nat) : Hub := (h.zeroStream n).setFe n .unpowered

theorem Hub.unpower_besideSources (h : Hub) (n : Nat) : (h.unpower n).besideSources = h.besideSources := by simp [Hub.unpower, Hub.zeroStream]

/-- What a pass over the sources sees of one. -/
def Hub.sourceState (h : Hub) (n : Nat) : Stream × FeState := (h.stream n, h.fe n)

theorem Hub.unpower_sourceState_other (h : Hub) (n m : Nat) (hm : m ≠ n) : (h.unpower n).sourceState m = h.sourceState m := by
  simp [Hub.unpower, Hub.zeroStream, Hub.sourceState, hm]

theorem Hub.unpower_sourceState (h : Hub) (n : Nat) :
    (h.unpower n).sourceState n = ({ h.stream n with gate := Fade.steady 0 }, .unpowered) := by
  simp [Hub.unpower, Hub.zeroStream, Hub.sourceState]

/-- All sources lose their power. -/
def Hub.unpowerAll (h : Hub) : Hub := h.forAll (upTo 1 52) Hub.unpower

theorem Hub.unpowerAll_besideSources (h : Hub) : h.unpowerAll.besideSources = h.besideSources := Hub.forAll_keeps Hub.unpower_besideSources _ h

theorem Hub.unpowerAll_sourceState {src : Nat} (hs : isTrimSource src = true) :
    h.unpowerAll.sourceState src = ({ h.stream src with gate := Fade.steady 0 }, .unpowered) := by
  have hmem : src ∈ upTo 1 52 := by
    simp only [isTrimSource, Bool.and_eq_true, decide_eq_true_eq] at hs
    exact mem_upTo.mpr ⟨by omega, by omega⟩
  obtain ⟨g, hg, -, he⟩ := Hub.forAll_at (R := Hub.sourceState) (K := fun _ => ()) Hub.unpower_sourceState_other (fun _ _ => rfl) (nodup_upTo 1 52) hmem h
  have hstream : g.stream src = h.stream src := congrArg Prod.fst hg
  rw [Hub.unpowerAll, he, Hub.unpower_sourceState, hstream]

/-- Only the always-on domain runs on. -/
def Hub.alwaysOnAlone (h : Hub) : Hub :=
  let h := h.modClk (fun c => { c with pllLocked := false, running := false })
  { ((h.modTet (fun t => { t with tx := [], upLink := false, downLink := false })).modTwi (fun t => { t with alertState := 0 })).modPwr (fun p =>
      { p with stable := true, domains := 0, progress := 0, state := 2 }) with framesRun := false, sup := { h.sup with running := false } }

/-- All of the hub but what stops in Stable. -/
def Hub.besideStop (h : Hub) : Hub :=
  { h with pwr := {}, tet := {}, twi := {}, timers := [], framesRun := false, clk := { storedHold := 0 }, sup := {} }

theorem Hub.besideStop_stopped (h : Hub) (x : Supervisor) : ({ h with framesRun := false, sup := x } : Hub).besideStop = h.besideStop := rfl
theorem Hub.modPwr_besideStop (h : Hub) (f : Power → Power) : (h.modPwr f).besideStop = h.besideStop := rfl
theorem Hub.modTwi_besideStop (h : Hub) (f : Twi → Twi) : (h.modTwi f).besideStop = h.besideStop := rfl
theorem Hub.modTet_besideStop (h : Hub) (f : Tether → Tether) : (h.modTet f).besideStop = h.besideStop := rfl
theorem Hub.modClk_besideStop (h : Hub) (f : Clock → Clock) : (h.modClk f).besideStop = h.besideStop := rfl

theorem Hub.alwaysOnAlone_besideStop (h : Hub) : h.alwaysOnAlone.besideStop = h.besideStop := by
  rw [Hub.alwaysOnAlone, Hub.besideStop_stopped, Hub.modPwr_besideStop, Hub.modTwi_besideStop, Hub.modTet_besideStop, Hub.modClk_besideStop]

theorem Hub.eq_of_besideStop {g k o : Hub} (hb : g.besideStop = k.besideStop) (hk : k.besideSources = o.besideSources) : { g with
    pwr := o.pwr, tet := o.tet, twi := o.twi, timers := o.timers, framesRun := o.framesRun, clk := o.clk, sup := o.sup, ins := o.ins, hms := o.hms } = o :=
  (congrArg (fun x : Hub => { x with
    pwr := o.pwr, tet := o.tet, twi := o.twi, timers := o.timers, framesRun := o.framesRun, clk := o.clk, sup := o.sup, ins := o.ins, hms := o.hms }) hb :).trans
  (congrArg (fun x : Hub => { x with
    pwr := o.pwr, tet := o.tet, twi := o.twi, timers := o.timers, framesRun := o.framesRun, clk := o.clk, sup := o.sup, ins := o.ins, hms := o.hms }) hk :)

theorem Hub.alwaysOnAlone_pwr (h : Hub) : h.alwaysOnAlone.pwr = { h.pwr with stable := true, domains := 0, progress := 0, state := 2 } := rfl
theorem Hub.alwaysOnAlone_tet (h : Hub) : h.alwaysOnAlone.tet = { h.tet with tx := [], upLink := false, downLink := false } := rfl
theorem Hub.alwaysOnAlone_twi (h : Hub) : h.alwaysOnAlone.twi = { h.twi with alertState := 0 } := rfl
theorem Hub.alwaysOnAlone_clk (h : Hub) : h.alwaysOnAlone.clk = { h.clk with pllLocked := false, running := false } := rfl
theorem Hub.alwaysOnAlone_sup (h : Hub) : h.alwaysOnAlone.sup = { h.sup with running := false } := rfl
theorem Hub.alwaysOnAlone_framesRun (h : Hub) : h.alwaysOnAlone.framesRun = false := rfl
theorem Hub.alwaysOnAlone_ins (h : Hub) : h.alwaysOnAlone.ins = h.ins := (congrArg Hub.ins h.alwaysOnAlone_besideStop :)
theorem Hub.alwaysOnAlone_hms (h : Hub) : h.alwaysOnAlone.hms = h.hms := (congrArg Hub.hms h.alwaysOnAlone_besideStop :)

theorem Hub.alwaysOnAlone_sourceState (h : Hub) (n : Nat) : h.alwaysOnAlone.sourceState n = h.sourceState n := by
  unfold Hub.sourceState Hub.stream Hub.fe Hub.input Hub.headMic
  rw [Hub.alwaysOnAlone_ins, Hub.alwaysOnAlone_hms]

theorem Hub.stableEntry_of_due (hp : h.pwr.progress = 3) (hq : h.pwr.quiesced = true) (hf : h.pwr.flushHeld = false)
    (hd : h.due .stableEntry = true) : h.stableEntry = (h.cancel .stableEntry).unpowerAll.alwaysOnAlone :=
  (if_pos ⟨hp, hq, hf⟩).trans (Hub.whenDue_due hd)

theorem State.stableEntry_of_unlatched {s : State} (hl : s.hub.stableEntry.pwr.latchedWake = []) : s.stableEntry = s.mapHub Hub.stableEntry :=
  if_neg (fun hw => hw.2 hl)

/-! ## Wakes (R370, R371) -/

theorem State.wake_of_stable {s : State} {c : WakeSource} (ha : s.hub.wakeArmed c = true) (hs : s.hub.pwr.stable = true) :
    s.wake c = s.reboot (·.wakeReset [c] false) := (if_pos ha).trans (if_pos hs)

theorem State.wake_of_entry {s : State} {c : WakeSource} (ha : s.hub.wakeArmed c = true) (hs : s.hub.pwr.stable = false) (hp : s.hub.pwr.progress = 3)
    (hc : c ≠ .timer) : s.wake c = s.mapHub (·.latchWake c) :=
  (if_pos ha).trans ((if_neg (by simp [hs])).trans (if_pos ⟨hp, hc⟩))

/-- What the wake reset of one source leaves. -/
theorem Hub.wakeReset_facts (h : Hub) (c : WakeSource) (hr : h.store.resetArmed = false) :
    (h.wakeReset [c] false).boot.resetFlags = (h.boot.resetFlags &&& 256) ||| 128 ∧
    (h.wakeReset [c] false).pwr.wakeCause = h.pwr.wakeCause ||| 2 ^ wakeBitOf c ∧ (h.wakeReset [c] false).nv = h.nv ∧
    (h.wakeReset [c] false).ext = h.ext := by
  unfold Hub.wakeReset Hub.resetBy
  simp [hr, Hub.when, Hub.modPwr]

theorem wakes_of_stable {i : Instr} {s : State} {c : WakeSource} (he : exec i s = .next (s.wake c)) (ha : s.hub.wakeArmed c = true)
    (hs : s.hub.pwr.stable = true) (hr : s.hub.store.resetArmed = false) :
    ∃ t, exec i s = .next t ∧ t.snap = t.hub ∧ t.pending = s.pending ∧ t.hub.pwr.stable = false ∧ t.hub.boot.step = 0 ∧
      t.hub.boot.resetFlags = (s.hub.boot.resetFlags &&& 256) ||| 128 ∧ t.hub.pwr.wakeCause = s.hub.pwr.wakeCause ||| 2 ^ wakeBitOf c ∧
      t.hub.nv = s.hub.nv ∧ t.hub.ext = s.hub.ext :=
  ⟨_, he.trans (congrArg Host.Outcome.next (State.wake_of_stable ha hs)), rfl, rfl, rfl, rfl, s.hub.wakeReset_facts c hr⟩

/-! ## The flush that a dip holds (R369, R381) -/

/-- The pads as they are latched. -/
def Hub.padLatch (h : Hub) : PadLatch :=
  { wckout := h.pad .wckout (4096 * h.now) 0, mclk0 := h.pad .mclko0 (4096 * h.now) 0, mclk1 := h.pad .mclko1 (4096 * h.now) 0 }

theorem Hub.latchPads_eq (h : Hub) : h.latchPads = h.modPwr (fun p => { p with padHeld := 0xFF, latch := some h.padLatch }) := rfl

/-- A flush that has given up. -/
def Hub.gaveUp (h : Hub) : Hub := (h.cancel .stableFlush).modPwr (fun p => { p with wakeCause := p.wakeCause ||| 2 ^ 11 })

theorem Hub.gaveUp_padLatch (h : Hub) : h.gaveUp.padLatch = h.padLatch := rfl

theorem Hub.flushIncomplete_of_held (hf : h.pwr.flushHeld = true) (hs : h.supply.dip = true) (hd : h.due .stableFlush = true) :
    h.flushIncomplete = h.gaveUp.flushOver := by
  unfold Hub.flushIncomplete
  rw [if_pos (by simp [hf, hs]), Hub.whenDue_due hd]
  rfl

/-- All of the hub but its power state and the deadlines. -/
def Hub.besidePower (h : Hub) : Hub := { h with pwr := {}, timers := [] }

theorem Hub.modPwr_besidePower (h : Hub) (f : Power → Power) : (h.modPwr f).besidePower = h.besidePower := rfl
theorem Hub.cancel_besidePower (h : Hub) (t : Timer) : (h.cancel t).besidePower = h.besidePower := rfl
theorem Hub.start_besidePower (h : Hub) (t : Timer) (n : Nat) : (h.start t n).besidePower = h.besidePower := rfl

theorem Hub.eq_of_besidePower {g o : Hub} (hb : g.besidePower = o.besidePower) : { g with pwr := o.pwr, timers := o.timers } = o :=
  (congrArg (fun x : Hub => { x with pwr := o.pwr, timers := o.timers }) hb :)

theorem Hub.flushOver_besidePower (h : Hub) : h.flushOver.besidePower = h.besidePower := by
  rw [Hub.flushOver, Hub.start_besidePower, Hub.cancel_besidePower, Hub.modPwr_besidePower, Hub.latchPads_eq, Hub.modPwr_besidePower]

theorem Hub.gaveUp_besidePower (h : Hub) : h.gaveUp.besidePower = h.besidePower := rfl

theorem Hub.flushOver_pwr (h : Hub) : h.flushOver.pwr = { h.pwr with padHeld := 0xFF, latch := some h.padLatch, flushHeld := false } := rfl

theorem Hub.flushOver_deadline (h : Hub) : h.flushOver.deadline .stableEntry = some (h.now + 5 * 96) := by
  rw [Hub.flushOver, Hub.deadline_start, if_pos rfl]
  rfl

end

/-! ## Detectors (R376 to R378) -/

section
variable {h : Hub} {c : Nat} {bands : List Int} {rms : Int}

/-- The detectors of a channel run. -/
structure Hub.Detects (h : Hub) (c : Nat) : Prop where
  input : h.watchInput c ≠ 0
  full : h.boot.full = true
  stable : h.pwr.stable = false
  entry : h.pwr.progress ≠ 3
  idle : h.upd.state ≠ 6

/-- The signature detector of a channel at a tick, and the level detector after it. -/
def Hub.signatureRun (h : Hub) (c : Nat) (level : Nat → Int) : Hub :=
  if h.watchFlag c 0 && decide (h.watchSetting 0x34 c ≠ 0) then h.signature c level else h.detectorReset c
def Hub.levelRun (h : Hub) (c : Nat) (rms : Int) : Hub := if h.watchFlag c 1 then h.levelDetect c rms else h.levelReset c

theorem Hub.signatureRun_of_enabled {level : Nat → Int} (h0 : h.watchFlag c 0 = true) (hn : h.watchSetting 0x34 c ≠ 0) :
    h.signatureRun c level = h.signature c level := if_pos (by simp [h0, hn])
theorem Hub.signatureRun_of_disabled {level : Nat → Int} (h0 : h.watchFlag c 0 = false) : h.signatureRun c level = h.detectorReset c :=
  if_neg (by simp [h0])
theorem Hub.levelRun_of_enabled (h1 : h.watchFlag c 1 = true) : h.levelRun c rms = h.levelDetect c rms := if_pos h1
theorem Hub.levelRun_of_disabled (h1 : h.watchFlag c 1 = false) : h.levelRun c rms = h.levelReset c := if_neg (ne_true_of_eq_false h1)

/-- A muted input gives the detectors silence. -/
def Hub.heardBands (h : Hub) (c : Nat) (bands : List Int) (b : Nat) : Int :=
  if decide ((h.stream (h.watchInput c)).gate.at h.now = 0) then silence else (bands[b]?).getD silence
def Hub.heardLevel (h : Hub) (c : Nat) (rms : Int) : Int := if decide ((h.stream (h.watchInput c)).gate.at h.now = 0) then silence else rms

theorem Hub.heardBands_of_open (hg : (h.stream (h.watchInput c)).gate.at h.now ≠ 0) : h.heardBands c bands = fun b => (bands[b]?).getD silence :=
  funext fun _ => if_neg (by simp [hg])
theorem Hub.heardLevel_of_open (hg : (h.stream (h.watchInput c)).gate.at h.now ≠ 0) : h.heardLevel c rms = rms := if_neg (by simp [hg])

theorem Hub.signatureTick_of_detects (hd : h.Detects c) :
    h.signatureTick c bands rms = (h.signatureRun c (h.heardBands c bands)).levelRun c (h.heardLevel c rms) := by
  obtain ⟨hi, hf, hs, hp, hu⟩ := hd
  unfold Hub.signatureTick
  exact if_neg (by simp [hi, hf, hs, hp, hu])

/-- A run begins in a band that is loud enough. -/
theorem Hub.signature_of_loud {level : Nat → Int} (hr : (h.chan c).inRun = false)
    (ha : stepMin (h.watchStep c (h.chan c).progress) ≤ level (stepBand (h.watchStep c (h.chan c).progress))) :
    h.signature c level = h.modChan c (fun x => { x with inRun := true, runLen := 1 }) := by
  unfold Hub.signature
  dsimp only
  rw [if_neg (by simp [hr]), if_pos (decide_eq_true ha)]

theorem Hub.modChan_modChan (h : Hub) (c : Nat) (f g : WatchChan → WatchChan) : (h.modChan c f).modChan c g = h.modChan c (fun x => g (f x)) := by
  simp [Hub.modChan, Hub.chan, tput_tput]

/-- The level detector of a channel about to fire. -/
structure Hub.Fires (h : Hub) (c : Nat) (rms : Int) : Prop where
  armed : (h.chan c).armed = true
  idle : (h.chan c).reader = 0
  loud : toS32 (h.watchSetting 0x2C c) ≤ rms
  held : h.live? 0x9000 0x0E ≤ 10000 * ((h.chan c).above + 1)
  noWake : h.watchFlag c 5 = false
  noOut : h.watchFlag c 7 = false

/-- A channel's pre-roll is marked, with the event of the detector that fired and its own. -/
def Hub.marked (h : Hub) (c event : Nat) : Hub :=
  ((h.cause event).modChan c (fun x =>
    { x with mark := (h.frameCount + 18446744073709551616 - us (h.watchSetting 0x28 c)) % 18446744073709551616, reader := 1 })).cause evPrerollReady

theorem Hub.marked_chan (h : Hub) (c event : Nat) : (h.marked c event).chan c =
    { h.chan c with mark := (h.frameCount + 18446744073709551616 - us (h.watchSetting 0x28 c)) % 18446744073709551616, reader := 1 } :=
  Hub.modChan_chan (h.cause event) c (fun x =>
    { x with mark := (h.frameCount + 18446744073709551616 - us (h.watchSetting 0x28 c)) % 18446744073709551616, reader := 1 })

theorem Hub.marked_chan_other (h : Hub) {c d : Nat} (event : Nat) (hd : d ≠ c) : (h.marked c event).chan d = h.chan d :=
  Hub.modChan_chan_other (h.cause event) (fun x =>
    { x with mark := (h.frameCount + 18446744073709551616 - us (h.watchSetting 0x28 c)) % 18446744073709551616, reader := 1 }) hd

theorem Hub.marked_causes (h : Hub) (c event : Nat) : (h.marked c event).causes event ∧ (h.marked c event).causes 119 := by
  refine ⟨Hub.causes_cause ?_ _ _, Hub.cause_causes _ _ _⟩
  exact Hub.cause_causes h event _

/-- All of the hub but its watch channels and what is due. -/
def Hub.besideMark (h : Hub) : Hub := { h with chans := [], evDue := [] }

theorem Hub.cause_besideMark (h : Hub) (event : Nat) : (h.cause event).besideMark = h.besideMark := rfl
theorem Hub.modChan_besideMark (h : Hub) (c : Nat) (f : WatchChan → WatchChan) : (h.modChan c f).besideMark = h.besideMark := rfl

theorem Hub.marked_rest (h : Hub) (c event : Nat) : { h.marked c event with chans := h.chans, evDue := h.evDue } = h := by
  have hbeside : (h.marked c event).besideMark = h.besideMark := by
    rw [Hub.marked, Hub.cause_besideMark, Hub.modChan_besideMark, Hub.cause_besideMark]
  generalize h.marked c event = g at hbeside
  exact (congrArg (fun x : Hub => { x with chans := h.chans, evDue := h.evDue }) hbeside :)

/-- The firing of a level detector that neither wakes nor drives WAKE_OUT. -/
theorem Hub.watchFire_of_idle {event wakeBit outBit wake : Nat} (hr : (h.chan c).reader = 0) (hw : h.watchFlag c wakeBit = false)
    (ho : h.watchFlag c outBit = false) : h.watchFire c event wakeBit outBit wake = h.marked c event := by
  have hw' : (h.marked c event).watchFlag c wakeBit = false := hw
  have ho' : (h.marked c event).watchFlag c outBit = false := ho
  have hmark : (if (h.chan c).reader = 2 ∨ (h.chan c).reader = 3 then h.cause event else h.marked c event) = h.marked c event := if_neg (by simp [hr])
  unfold Hub.watchFire
  change (let g := if (h.chan c).reader = 2 ∨ (h.chan c).reader = 3 then h.cause event else h.marked c event
    let g := if g.watchFlag c outBit then g.modPwr (fun p => { p with wakeOut := true }) else g
    if g.watchFlag c wakeBit then _ else g) = _
  rw [hmark]
  dsimp only
  rw [show (if (h.marked c event).watchFlag c outBit then (h.marked c event).modPwr (fun p => { p with wakeOut := true }) else h.marked c event) =
    h.marked c event from if_neg (ne_true_of_eq_false ho'), if_neg (ne_true_of_eq_false hw')]

/-- The counters of a level detector after a tick. -/
def Hub.levelCounted (h : Hub) (c : Nat) (rms : Int) : Hub :=
  h.modChan c (fun x => { x with
    above := if toS32 (h.watchSetting 0x2C c) ≤ rms then (h.chan c).above + 1 else 0
    below := if rms ≤ toS32 (h.watchSetting 0x2C c) - 300 then (h.chan c).below + 1 else 0 })

theorem Hub.levelDetect_of_fires (hf : h.Fires c rms) :
    h.levelDetect c rms = ((h.levelCounted c rms).modChan c (fun x => { x with armed := false })).watchFire c evLevel 5 7 8 := by
  unfold Hub.levelDetect
  dsimp only
  rw [if_pos hf.armed]
  refine (if_pos ⟨hf.loud, ?_⟩)
  rw [if_pos hf.loud]
  exact hf.held

end

section
variable {h : Hub} {c : Nat} {rms : Int}

/-- The hub as the counters of a level detector that fires leave it. -/
def Hub.disarmed (h : Hub) (c : Nat) (rms : Int) : Hub := (h.levelCounted c rms).modChan c (fun x => { x with armed := false })

theorem Hub.disarmed_chan (hl : toS32 (h.watchSetting 0x2C c) ≤ rms) : ((h.disarmed c rms).chan c).armed = false ∧
    ((h.disarmed c rms).chan c).above = (h.chan c).above + 1 ∧ ((h.disarmed c rms).chan c).reader = (h.chan c).reader := by
  rw [Hub.disarmed, Hub.modChan_chan, Hub.levelCounted, Hub.modChan_chan]
  exact ⟨rfl, if_pos hl, rfl⟩

theorem Hub.disarmed_chan_other (h : Hub) {d : Nat} (rms : Int) (hd : d ≠ c) : (h.disarmed c rms).chan d = h.chan d := by
  rw [Hub.disarmed, Hub.modChan_chan_other _ _ hd, Hub.levelCounted, Hub.modChan_chan_other _ _ hd]

theorem Hub.disarmed_rest (h : Hub) (c : Nat) (rms : Int) : { h.disarmed c rms with chans := h.chans } = h := rfl

theorem Hub.detectorReset_chan (h : Hub) (c : Nat) :
    (h.detectorReset c).chan c = { h.chan c with progress := 0, inRun := false, runLen := 0, gap := 0 } := Hub.modChan_chan _ _ _

theorem Hub.detectorReset_chan_other (h : Hub) {d : Nat} (hd : d ≠ c) : (h.detectorReset c).chan d = h.chan d := Hub.modChan_chan_other _ _ hd

theorem Hub.detectorReset_rest (h : Hub) (c : Nat) : { h.detectorReset c with chans := h.chans } = h := rfl

/-- A level detector that fires marks the pre-roll of its channel. -/
theorem Hub.levelDetect_marks (hf : h.Fires c rms) : h.levelDetect c rms = (h.disarmed c rms).marked c evLevel := by
  obtain ⟨-, -, hreader⟩ := h.disarmed_chan hf.loud
  rw [Hub.levelDetect_of_fires hf]
  exact Hub.watchFire_of_idle (hreader.trans hf.idle) hf.noWake hf.noOut

end

/-- Settles O38: each row is an equation where its condition holds. -/
theorem stableAndItsWakes : Obligations.StableAndItsWakes := by
  refine ⟨?entry, ?wakes, ?timer, ?comparator, ?latched, ?flush⟩
  case entry =>
    intro s hp hq hf hd hl
    have hentry := Hub.stableEntry_of_due hp hq hf hd
    have hkeep := (s.hub.cancel .stableEntry).unpowerAll_besideSources
    have hsource := fun src (hs : isTrimSource src = true) => Hub.unpowerAll_sourceState (h := s.hub.cancel .stableEntry) hs
    generalize (s.hub.cancel .stableEntry).unpowerAll = g at hentry hkeep hsource
    have hlatched : s.hub.stableEntry.pwr.latchedWake = [] := by
      rw [hentry]
      exact (congrArg (fun x : Hub => x.pwr.latchedWake) hkeep :).trans hl
    refine ⟨s.mapHub Hub.stableEntry, congrArg Host.Outcome.next (State.stableEntry_of_unlatched hlatched), rfl, rfl, ?_⟩
    rw [show (s.mapHub Hub.stableEntry).hub = s.hub.stableEntry from rfl, hentry]
    have hpwr : g.pwr = s.hub.pwr := (congrArg Hub.pwr hkeep :)
    have htet : g.tet = s.hub.tet := (congrArg Hub.tet hkeep :)
    have htwi : g.twi = s.hub.twi := (congrArg Hub.twi hkeep :)
    have hclk : g.clk = s.hub.clk := (congrArg Hub.clk hkeep :)
    have hsup : g.sup = s.hub.sup := (congrArg Hub.sup hkeep :)
    refine ⟨by rw [Hub.alwaysOnAlone_pwr, hpwr], g.alwaysOnAlone_framesRun, by rw [Hub.alwaysOnAlone_tet, htet], by rw [Hub.alwaysOnAlone_twi, htwi],
      by rw [Hub.alwaysOnAlone_clk, hclk], by rw [Hub.alwaysOnAlone_sup, hsup], fun src hs => ?_,
      Hub.eq_of_besideStop g.alwaysOnAlone_besideStop hkeep⟩
    have hst := (g.alwaysOnAlone_sourceState src).trans (hsource src hs)
    exact ⟨congrArg Prod.fst hst, congrArg Prod.snd hst⟩
  case wakes =>
    exact fun s c ha hs hr => wakes_of_stable rfl ha hs hr
  case timer =>
    intro s ha hs hr
    obtain ⟨t, he, hsnap, hpend, hst, -, hflags, hcause, hnv, -⟩ := wakes_of_stable (i := .wakeTimerExpiry) rfl ha hs hr
    exact ⟨t, he, hsnap, hpend, hst, hcause, hflags, hnv⟩
  case comparator =>
    intro s c hc ha hs hr
    obtain ⟨t, he, hsnap, hpend, hst, -, hflags, hcause, hnv, -⟩ := wakes_of_stable (i := .wakeComparatorFire c) (if_pos hc) ha hs hr
    exact ⟨t, he, hsnap, hpend, hst, hcause, hflags, hnv⟩
  case latched =>
    intro s c hc ha hs hp
    refine ⟨s.mapHub (·.latchWake (.comparator c)), (if_pos hc).trans (congrArg Host.Outcome.next (State.wake_of_entry ha hs hp (by simp))), rfl, rfl,
      mem_withOne _ _, rfl, rfl, rfl⟩
  case flush =>
    intro s hf hs hd
    refine answers_of_always (f := Hub.flushIncomplete) rfl ?_
    rw [Hub.flushIncomplete_of_held hf hs hd, Hub.flushOver_pwr, Hub.gaveUp_padLatch, Hub.flushOver_deadline]
    exact ⟨rfl, rfl, Hub.eq_of_besidePower ((Hub.flushOver_besidePower _).trans s.hub.gaveUp_besidePower)⟩

/-- Settles O39: each detector of a channel is an equation for its tick. -/
theorem detectorsTick : Obligations.DetectorsTick := by
  refine ⟨?begins, ?fires, ?reset, ?unassigned⟩
  case begins =>
    intro s c bands rms hc hi hf hs hp hu h0 h1 hn hr hg hl
    refine answers_of_run (f := (·.signatureTick c bands rms)) rfl hc ?_
    rw [Hub.signatureTick_of_detects ⟨hi, hf, hs, hp, hu⟩]
    rw [Hub.heardBands_of_open hg, Hub.signatureRun_of_enabled h0 hn, Hub.signature_of_loud hr hl, Hub.levelRun_of_disabled (by exact h1),
      Hub.levelReset, Hub.modChan_modChan]
    exact ⟨Hub.modChan_chan _ _ _, fun d hd => Hub.modChan_chan_other _ _ hd, rfl⟩
  case fires =>
    intro s c bands rms hc hi hf hs hp hu h0 h1 h5 h7 hg harm hidle hloud hheld
    refine answers_of_run (f := (·.signatureTick c bands rms)) rfl hc ?_
    have hchan := s.hub.detectorReset_chan c
    have hother := fun d (hd : d ≠ c) => s.hub.detectorReset_chan_other hd
    have hrest := s.hub.detectorReset_rest c
    rw [Hub.signatureTick_of_detects ⟨hi, hf, hs, hp, hu⟩, Hub.heardLevel_of_open hg, Hub.signatureRun_of_disabled h0, Hub.levelRun_of_enabled (by exact h1)]
    have hfires : (s.hub.detectorReset c).Fires c rms := ⟨by rw [hchan]; exact harm, by rw [hchan]; exact hidle, hloud, by rw [hchan]; exact hheld, h5, h7⟩
    rw [Hub.levelDetect_marks hfires]
    obtain ⟨harmed, habove, -⟩ := Hub.disarmed_chan hfires.loud
    have hdother := fun d (hd : d ≠ c) => (s.hub.detectorReset c).disarmed_chan_other rms hd
    have hdrest := (s.hub.detectorReset c).disarmed_rest c rms
    rw [hchan] at habove
    generalize s.hub.detectorReset c = k at hother hrest harmed habove hdother hdrest
    generalize k.disarmed c rms = g at harmed habove hdother hdrest
    have hg : { g with chans := s.hub.chans } = s.hub := (congrArg (fun x : Hub => { x with chans := s.hub.chans }) hdrest :).trans hrest
    have hmark := g.marked_chan c evLevel
    obtain ⟨hfired, hready⟩ := g.marked_causes c evLevel
    have hcount : g.frameCount = s.hub.frameCount := (congrArg Hub.frameCount hg :)
    have hlen : g.watchSetting 0x28 c = s.hub.watchSetting 0x28 c := (congrArg (fun x : Hub => x.watchSetting 0x28 c) hg :)
    refine ⟨?_, ?_, ?_, ?_, hfired, hready, fun d hd => ?_, ?_⟩
    · rw [hmark]; exact harmed
    · rw [hmark]
    · rw [hmark]; exact habove
    · rw [hmark, hcount, hlen]
    · exact (g.marked_chan_other _ hd).trans ((hdother d hd).trans (hother d hd))
    · exact (congrArg (fun x : Hub => { x with chans := s.hub.chans, evDue := s.hub.evDue }) (g.marked_rest c evLevel) :).trans
        (congrArg (fun x : Hub => { x with evDue := s.hub.evDue }) hg :)
  case reset =>
    intro s c bands rms hc hi hf hs hp hu h0 h1
    refine answers_of_run (f := (·.signatureTick c bands rms)) rfl hc ?_
    rw [Hub.signatureTick_of_detects ⟨hi, hf, hs, hp, hu⟩]
    rw [Hub.signatureRun_of_disabled h0, Hub.levelRun_of_disabled (by exact h1), Hub.levelReset, Hub.detectorReset, Hub.modChan_modChan]
    exact ⟨Hub.modChan_chan _ _ _, fun d hd => Hub.modChan_chan_other _ _ hd, rfl⟩
  case unassigned =>
    intro s c bands rms hc hi
    exact answers_of_run (f := (·.signatureTick c bands rms)) rfl hc (if_pos (Or.inl hi))

end Sys2Proof.Machine
end


section
/-! SUPPORT. Core frames and block boundaries: what a frame applies, and when neither comes (R6, R7, R266, R267). -/

namespace Sys2Proof.Machine

/-! ## A frame that places a process -/

/-- A running hub with process 0 staged as one channel of TYPE 2, and its INSTANTIATE waiting for the next frame. -/
def placingFrame : State :=
  { State.reset with
    hub := { Hub.fresh with framesRun := true, objs := [(key (procIdx 0) 1, 2), (key (procIdx 0) 2, 1)], frameQ := [⟨key (procIdx 0) 5, 1⟩] } }

theorem Answers.of_next {i : Instr} {s t : State} {P : Hub → Prop} (ha : Answers i s P) (he : exec i s = .next t) : P t.hub := by
  obtain ⟨u, hu, -, -, hp⟩ := ha
  cases hu.symm.trans he
  exact hp

/-- The placement of R183 leaves its number in SEQUENCE. -/
theorem placingFrame_objs : tget (placingFrame.frameBoundary []).hub.objs (key (procIdx 0) 0x0E) = some 1 := by decide +kernel

/-- Refutes O44: a write that places a process comes into force at the frame boundary (R267), and the placement writes OPTION and SEQUENCE into the
dictionary (R183), so `objs` does not stay as it was. -/
theorem not_framesAndBlocksFollow : ¬ Obligations.FramesAndBlocksFollow := by
  rintro ⟨hframe, -⟩
  obtain ⟨-, -, -, -, -, -, hobjs, -⟩ := (hframe placingFrame [] rfl rfl).of_next rfl
  have hseq := placingFrame_objs
  rw [hobjs] at hseq
  exact absurd hseq (by decide)

end Sys2Proof.Machine
end


section
/-! SUPPORT. Timers that raise their events and sessions that end at their timeout (R166, R337). -/

namespace Sys2Proof.Machine

/-! ## The timers of R337 -/

/-- The next period of timer `i`, in whole blocks. -/
def Hub.timerPeriod (h : Hub) (i : Nat) : Nat := (us (h.live? 0xA000 (8 + i)) + 31) / 32 * 32

theorem Hub.timerPeriod_ne_zero {h : Hub} {i : Nat} (hv : h.live? 0xA000 (8 + i) ≠ 0) : h.timerPeriod i ≠ 0 := by
  unfold Hub.timerPeriod us
  omega

theorem Hub.timerExpiry_of_due {h : Hub} {i d : Nat} (hd : h.deadline (.timer i) = some d) (hdue : h.due (.timer i) = true)
    (hv : h.live? 0xA000 (8 + i) ≠ 0) : h.timerExpiry i = (h.startAt (.timer i) (d + h.timerPeriod i)).cause (121 + i) := by
  simp only [Hub.timerExpiry, hd, if_pos hdue]
  exact congrArg (fun g : Hub => g.cause (121 + i)) (if_neg (Hub.timerPeriod_ne_zero hv))

theorem Hub.timerExpiry_of_early {h : Hub} {i : Nat} (hdue : h.due (.timer i) = false) : h.timerExpiry i = h := by
  unfold Hub.timerExpiry
  split
  · exact if_neg (by simp [hdue])
  · rfl

/-! ## The end of a session -/

theorem Hub.sessionExpiry_of_due {h : Hub} {k : Nat} (hc : (h.host k).claimed = true) (hp : h.sessionsPaused = false)
    (hd : h.due (.session k) = true) : h.sessionExpiry k = (h.cancel (.session k)).loseSession k :=
  (if_pos ⟨hc, hp⟩).trans (Hub.whenDue_due hd)

theorem Hub.sessionLost_host (h : Hub) (k : Nat) : (h.sessionLost k).host k = (h.host k).ended := Hub.endSession_host h k

theorem Hub.sessionLost_host_other (h : Hub) {j k : Nat} (hj : j ≠ k) : (h.sessionLost k).host j = h.host j := Hub.endSession_host_other h k hj

theorem Hub.sessionLost_causes (h : Hub) (k : Nat) : (h.sessionLost k).causes 99 (.hostAndInstallers k) := Hub.cause_causes _ _ _

theorem Hub.sessionLost_deadline (h : Hub) (k : Nat) : (h.sessionLost k).deadline (.session k) = none := Hub.endSession_deadline h k

/-- A hub once the time of a session has run out and its host keeps what it owns. -/
theorem Hub.expired_rest (h : Hub) (k : Nat) :
    { ((h.cancel (.session k)).sessionLost k).alertSettle with hosts := h.hosts, timers := h.timers, twi := h.twi, evDue := h.evDue } = h := by
  have hs := Hub.alertSettle_rest (h := (h.cancel (.session k)).sessionLost k)
  exact (congrArg (fun g : Hub => { g with hosts := h.hosts, timers := h.timers, twi := h.twi, evDue := h.evDue }) hs :)

/-! ## Objects that lose their owner -/

/-- What the release of every object of host `k` does to one key. -/
def Hub.disown (k : Nat) (h : Hub) (key : Nat) : Hub := if h.ownerComing key = some k then h.ownerWill key none else h

theorem Hub.disown_coming (k : Nat) (h : Hub) (key o : Nat) :
    (h.disown k key).ownerComing o = h.ownerComing o ∨ (h.disown k key).ownerComing o = none := by
  unfold Hub.disown
  split
  · by_cases ho : o = key
    · exact .inr (ho ▸ Hub.ownerWill_coming h key none)
    · exact .inl (Hub.ownerWill_coming_other h none ho)
  · exact .inl rfl

theorem Hub.disown_coming_self (k : Nat) (h : Hub) (key : Nat) : (h.disown k key).ownerComing key ≠ some k := by
  unfold Hub.disown
  split
  · simp [Hub.ownerWill_coming]
  · assumption

theorem Hub.disownAll_keeps_none {k o : Nat} (keys : List Nat) {h : Hub} (hn : h.ownerComing o = none) :
    (keys.foldl (Hub.disown k) h).ownerComing o = none := by
  induction keys generalizing h with
  | nil => exact hn
  | cons key keys ih => exact ih ((h.disown_coming k key o).elim (·.trans hn) id)

/-- A host whose keys are released is the coming owner of none of them. -/
theorem Hub.disownAll_coming {k o : Nat} {keys : List Nat} (ho : o ∈ keys) {h : Hub} (hk : h.ownerComing o = some k) :
    (keys.foldl (Hub.disown k) h).ownerComing o = none := by
  induction keys generalizing h with
  | nil => exact absurd ho (by simp)
  | cons key keys ih =>
    rcases h.disown_coming k key o with hs | hn
    · by_cases he : o = key
      · exact absurd (hs.trans hk) (he ▸ h.disown_coming_self k key)
      · exact ih ((List.mem_cons.mp ho).resolve_left he) (hs.trans hk)
    · exact Hub.disownAll_keeps_none keys hn

theorem mem_of_tget {α : Type} {t : Table α} {k : Nat} {a : α} (h : tget t k = some a) : (k, a) ∈ t := by
  induction t with
  | nil => cases h
  | cons e r ih =>
    obtain ⟨j, b⟩ := e
    unfold tget at h
    split at h
    · next hj =>
      cases h
      exact hj ▸ List.mem_cons_self
    · exact List.mem_cons_of_mem _ (ih h)

/-- The keys R166 releases name every object whose coming owner the host is. -/
theorem Hub.mem_released {h : Hub} {k o : Nat} (hk : h.ownerComing o = some k) :
    o ∈ h.ownedKeys k ++ (h.ownerDue.filter (fun e => decide (e.2 = some k))).map (·.1) := by
  unfold Hub.ownerComing at hk
  split at hk
  · next e he =>
    obtain ⟨hmem, heq⟩ := List.mem_filter.mp (List.mem_of_getLast? he)
    exact List.mem_append_right _ (List.mem_map.mpr ⟨e, List.mem_filter.mpr ⟨hmem, decide_eq_true hk⟩, of_decide_eq_true heq⟩)
  · exact List.mem_append_left _ (List.mem_map.mpr ⟨(o, k), List.mem_filter.mpr ⟨mem_of_tget hk, decide_eq_true rfl⟩, rfl⟩)

theorem Hub.releaseOwned_coming {h : Hub} {k o : Nat} (hk : h.ownerComing o = some k) : (h.releaseOwned k).ownerComing o = none :=
  Hub.disownAll_coming (Hub.mem_released hk) hk

theorem Hub.disownAll_rest (k : Nat) (keys : List Nat) (h : Hub) : { keys.foldl (Hub.disown k) h with ownerDue := [] } = { h with ownerDue := [] } := by
  induction keys generalizing h with
  | nil => rfl
  | cons key keys ih =>
    refine (ih _).trans ?_
    unfold Hub.disown
    split
    · exact (congrArg (fun g : Hub => { g with ownerDue := [] }) (h.ownerWill_rest key none) :)
    · rfl

theorem Hub.releaseOwned_host (h : Hub) (k j : Nat) : (h.releaseOwned k).host j = h.host j :=
  (congrArg (fun g : Hub => g.host j) (Hub.disownAll_rest k _ h) :)

theorem Hub.loseSession_of_release {h : Hub} {k : Nat} (hp : h.live? (hostIdx k) 7 = 1) :
    h.loseSession k = ((h.endSession k).releaseOwned k).cause 99 (.hostAndInstallers k) := by
  have hp' : (h.endSession k).live? (hostIdx k) 7 = 1 := hp
  exact congrArg (fun g : Hub => g.cause 99 (.hostAndInstallers k)) (if_pos hp')

theorem Hub.alertSettle_coming (h : Hub) (o : Nat) : h.alertSettle.ownerComing o = h.ownerComing o :=
  (congrArg (fun g : Hub => g.ownerComing o) h.alertSettle_rest :)

/-! ## The obligation -/

/-- Settles O45: one period is added to the last deadline, and of a lost session's objects TIMEOUT_POLICY 1 leaves none with its host. -/
theorem timersAndSessionsExpire : Obligations.TimersAndSessionsExpire := by
  refine ⟨?timer, ?early, ?retain, ?release⟩
  case timer =>
    intro s i d hi hd hdue hv
    refine answers_of_run (f := (·.timerExpiry i)) rfl (decide_eq_true hi) ?_
    rw [Hub.timerExpiry_of_due hd hdue hv]
    refine ⟨?_, Hub.cause_causes _ _ _, fun u hu => ?_, rfl⟩
    · rw [Hub.cause_deadline, Hub.startAt_deadline, Hub.timerPeriod]
    · rw [Hub.cause_deadline, Hub.startAt_deadline_other _ _ hu]
  case early =>
    intro s i hi hdue
    exact answers_of_run (f := (·.timerExpiry i)) rfl (decide_eq_true hi) (Hub.timerExpiry_of_early hdue)
  case retain =>
    intro s k hk hc hp hd hpol
    refine answers_of_run (f := fun h => (h.sessionExpiry k).alertSettle) rfl (decide_eq_true hk) ?_
    dsimp only
    have hpol' : (s.hub.cancel (.session k)).live? (hostIdx k) 7 = 0 := hpol
    rw [Hub.sessionExpiry_of_due hc hp hd, Hub.loseSession_of_retain hpol']
    refine ⟨?_, ?_, ?_, (congrArg Hub.owners (Hub.expired_rest s.hub k) :), fun j hj => ?_, Hub.expired_rest s.hub k⟩
    · rw [Hub.alertSettle_host, Hub.sessionLost_host, Hub.cancel_host]
      rfl
    · exact (Hub.alertSettle_causes _ _ _).mpr (Hub.sessionLost_causes _ k)
    · exact (Hub.alertSettle_deadline _ (by simp)).trans (Hub.sessionLost_deadline _ k)
    · rw [Hub.alertSettle_host, Hub.sessionLost_host_other _ hj, Hub.cancel_host]
  case release =>
    intro s k hk hc hp hd hpol
    refine answers_of_run (f := fun h => (h.sessionExpiry k).alertSettle) rfl (decide_eq_true hk) ?_
    have hpol' : (s.hub.cancel (.session k)).live? (hostIdx k) 7 = 1 := hpol
    rw [Hub.sessionExpiry_of_due hc hp hd, Hub.loseSession_of_release hpol']
    refine ⟨?_, fun o ho => ?_⟩
    · rw [Hub.alertSettle_host, Hub.cause_host, Hub.releaseOwned_host, Hub.endSession_host]
      rfl
    · have ho' : ((s.hub.cancel (.session k)).endSession k).ownerComing o = some k := ho
      exact (Hub.alertSettle_coming _ o).trans (Hub.releaseOwned_coming ho')

end Sys2Proof.Machine
end


section
/-! SUPPORT. Resets (R398 to R400, R431): what a reset leaves, and the phantom ramps it begins. -/

namespace Sys2Proof.Machine

/-! ## The inputs of a hub that resets -/

/-- A table that lists what `f` has for the keys of a list has the entry of `f` at each of them. -/
theorem tget_filterMap {α : Type} {f : Nat → Option (Nat × α)} (hf : ∀ k e, f k = some e → e.1 = k) {k : Nat} {x : α} (hk : f k = some (k, x))
    {l : List Nat} (hl : k ∈ l) : tget (l.filterMap f) k = some x := by
  induction l with
  | nil => cases hl
  | cons j l ih =>
    by_cases hj : j = k
    · rw [hj, List.filterMap_cons_some hk]
      exact if_pos rfl
    · have hrest := ih ((List.mem_cons.mp hl).resolve_left (Ne.symm hj))
      cases hfj : f j with
      | none => rw [List.filterMap_cons_none hfj, hrest]
      | some e =>
        rw [List.filterMap_cons_some hfj]
        exact (if_neg (by rw [hf j e hfj]; exact hj)).trans hrest

theorem timerOf_phantomRamps (ins : Table Input) (n : Nat) :
    timerOf (ins.map (fun e => (Timer.phantomRamp e.1, e.2.phantom.pf.len))) (.phantomRamp n) = (tget ins n).map (·.phantom.pf.len) := by
  induction ins with
  | nil => rfl
  | cons e ins ih =>
    simp only [List.map_cons, timerOf, tget, Timer.phantomRamp.injEq]
    split
    · rfl
    · exact ih

theorem Hub.phantomReset_key (h : Hub) (n : Nat) (e : Nat × Input) (he : h.phantomReset n = some e) : e.1 = n := by
  unfold Hub.phantomReset at he
  dsimp only at he
  split at he
  · cases he
  · cases he
    rfl

/-- The phantom ramp of an input from the voltage at the reset, at VPH per 200 ms (R398). -/
def Hub.resetRamp (h : Hub) (n : Nat) : Phantom :=
  { state := .rampOff
    pf := { v0 := h.pfMv n, v1 := 0, t0 := 0, len := if h.vphMv = 0 then 0 else (ms 200 * h.pfMv n + h.vphMv - 1) / h.vphMv } }

theorem Hub.phantomReset_of_live {h : Hub} {n : Nat} (hv : h.pfMv n ≠ 0) :
    h.phantomReset n = some (n, { Input.fresh n with phantom := h.resetRamp n }) := if_neg hv

theorem Hub.resetBy_input {h : Hub} {n : Nat} (hn : isInput n = true) (hv : h.pfMv n ≠ 0) (cause wake : Nat) :
    tget (h.resetBy cause false wake).ins n = some { Input.fresh n with phantom := h.resetRamp n } :=
  tget_filterMap h.phantomReset_key (Hub.phantomReset_of_live hv) (mem_upTo.mpr (isInput_range hn))

/-! ## What a reset leaves -/

theorem Hub.resetBy_keeps_alwaysOn (h : Hub) (cause : Nat) : h.alwaysOnKept (h.resetBy cause false 0) := by
  refine ⟨Nat.or_zero _, rfl, rfl, fun n hn hv => ?_⟩
  have hi := Hub.resetBy_input hn hv cause 0
  have hphantom : ((h.resetBy cause false 0).input n).phantom = h.resetRamp n := by rw [Hub.input, hi]; rfl
  have hramp : (h.resetBy cause false 0).deadline (.phantomRamp n) = some (h.resetRamp n).pf.len :=
    (timerOf_phantomRamps _ n).trans (congrArg (Option.map (·.phantom.pf.len)) hi)
  rw [hphantom]
  exact ⟨rfl, rfl, rfl, hramp⟩

/-- A row that resets the hub restarts it with the flag of its cause. -/
theorem restarts_of_resetBy {i : Instr} {s : State} {cause flags : Nat} {powerOn : Bool} {P : Hub → Prop}
    (he : exec i s = .next (s.reboot (·.resetBy cause powerOn 0)))
    (hflags : (if powerOn then 0 else s.hub.boot.resetFlags &&& 256) ||| 2 ^ cause = flags) (hp : P (s.hub.resetBy cause powerOn 0)) :
    Restarts i s flags P :=
  ⟨_, he, rfl, rfl, rfl, rfl, hflags ▸ rfl, rfl, rfl, rfl, rfl, rfl, rfl, rfl, rfl, hp⟩

/-- Settles O40: each row is `resetBy` with its cause; the inputs whose PFn stood above 0 V ramp down. -/
theorem resetsRestart : Obligations.ResetsRestart := by
  refine ⟨?powerOn, ?resetN, ?core, ?thermal, ?lowPower, ?highPower⟩
  case powerOn =>
    intro s
    exact restarts_of_resetBy (cause := 1) (powerOn := true) rfl (by simp) ⟨rfl, rfl, rfl, rfl⟩
  case resetN =>
    intro s
    exact restarts_of_resetBy (cause := 2) (powerOn := false) rfl rfl ⟨s.hub.resetBy_keeps_alwaysOn 2, rfl⟩
  case core =>
    intro s c
    exact restarts_of_resetBy (cause := 3) (powerOn := false) rfl rfl ⟨s.hub.resetBy_keeps_alwaysOn 3, rfl⟩
  case thermal =>
    intro s
    exact restarts_of_resetBy (cause := 5) (powerOn := false) rfl rfl ⟨s.hub.resetBy_keeps_alwaysOn 5, rfl⟩
  case lowPower =>
    intro s hl
    refine restarts_of_resetBy (cause := 4) (powerOn := false) ?_ rfl ⟨s.hub.resetBy_keeps_alwaysOn 4, rfl⟩
    exact congrArg Host.Outcome.next (if_pos hl)
  case highPower =>
    intro s hl
    exact congrArg Host.Outcome.next (if_neg (by simp [hl]))

end Sys2Proof.Machine
end


section
/-! SUPPORT. Reduced service, the image check and the handover to full service (R387, R395 to R397, R422). -/

namespace Sys2Proof.Machine

/-! ## The clocks start (R203) -/

/-- All of the hub but its clock and the draws. -/
def Hub.besideRoot (h : Hub) : Hub := { h with clk := { storedHold := 0 }, draws := 0 }

section
variable (h : Hub)

theorem Hub.modClk_besideRoot (f : Clock → Clock) : (h.modClk f).besideRoot = h.besideRoot := rfl

theorem Hub.wckoutApply_besideRoot : h.wckoutApply.besideRoot = h.besideRoot := by
  unfold Hub.wckoutApply
  dsimp only
  split
  · rfl
  · exact (Hub.modClk_besideRoot _ _).trans rfl

theorem Hub.clockOutputs_besideRoot : h.clockOutputs.besideRoot = h.besideRoot := by
  unfold Hub.clockOutputs
  split
  · exact (Hub.wckoutApply_besideRoot _).trans (Hub.modClk_besideRoot _ _)
  · rfl

theorem Hub.wckoutApply_running : h.wckoutApply.clk.running = h.clk.running := by
  unfold Hub.wckoutApply
  dsimp only
  split <;> rfl

theorem Hub.clockOutputs_running : h.clockOutputs.clk.running = h.clk.running := by
  unfold Hub.clockOutputs
  split
  · exact Hub.wckoutApply_running _
  · rfl

/-- The clock with its stored anchor, running from the centre value. -/
def Hub.rooted (h : Hub) : Hub :=
  (h.modClk (fun c => { c with running := true, anchor := h.clockSetting 4, anchorPort := h.clockSetting 5 })).centre.clockOutputs

theorem Hub.rooted_besideRoot : h.rooted.besideRoot = h.besideRoot :=
  (Hub.clockOutputs_besideRoot _).trans ((Hub.modClk_besideRoot _ _).trans (Hub.modClk_besideRoot _ _))

theorem Hub.rooted_running : h.rooted.clk.running = true := Hub.clockOutputs_running _

/-- The loop of a clock that starts follows its anchor. -/
def Hub.following (h : Hub) : Hub := (h.modClk (fun c => { c with rein := 1 })).loopStart

theorem Hub.clockStart_cases : h.clockStart = h.rooted ∨ h.clockStart = h.rooted.following := by
  have hc : h.clockStart = if h.rooted.clk.xtalFail then h.rooted else if h.rooted.clk.anchor = 0 then h.rooted else h.rooted.following := rfl
  rw [hc]
  split
  · exact .inl rfl
  · split
    · exact .inl rfl
    · exact .inr rfl

theorem Hub.clockStart_besideRoot : h.clockStart.besideRoot = h.besideRoot := by
  rcases h.clockStart_cases with hc | hc <;> rw [hc]
  · exact h.rooted_besideRoot
  · exact ((Hub.modClk_besideRoot _ _).trans (Hub.modClk_besideRoot _ _)).trans h.rooted_besideRoot

theorem Hub.clockStart_running : h.clockStart.clk.running = true := by
  rcases h.clockStart_cases with hc | hc <;> rw [hc] <;> exact h.rooted_running

end

/-! ## Reduced service (R387, R390, R393) -/

/-- All of the hub but what reduced service starts. -/
def Hub.besideService (h : Hub) : Hub :=
  { h with boot := {}, clk := { storedHold := 0 }, sinks := [], ports := [], timers := [], evDue := [], pwr := {}, draws := 0 }

/-- Bring-up, the clock and the power state. -/
def Hub.serviceCore (h : Hub) : Boot × Clock × Power := (h.boot, h.clk, h.pwr)

/-- The hub in service, its clocks running. -/
def Hub.clocked (h : Hub) : Hub :=
  (h.modBoot (fun b => { b with step := 7, service := 1 })).clockStart.modPwr (fun p => { p with latch := none })

/-- A fallback route is live (R390). -/
def Hub.routeLive (h : Hub) (v : Nat) : Hub :=
  h.modSink (routeSink v) (fun x => { x with source := routeSource v, fbGain := some (routeLevel v) })

def Hub.routed (h : Hub) : Hub := (h.routes.filter h.routeKept).foldl Hub.routeLive h

def Hub.fallbackStart (h : Hub) (p : Nat) : Hub := h.modPort p (fun x => { x with startDue := true })

def Hub.portsStarted (h : Hub) : Hub := h.forAll ((List.range 8).filter h.fallbackPort) Hub.fallbackStart

/-- The timers of R337 count, and E0 is due, with E11 where pads are held. -/
def Hub.announced (h : Hub) : Hub :=
  let g := ((h.timerSet 0).timerSet 1).cause evResetFlags
  g.when (decide (g.pwr.padHeld ≠ 0)) (·.cause evPadHold)

theorem Hub.reducedService_of_due {h : Hub} (hs : h.boot.step = 6) (hb : h.clk.bootHold = false) (hn : 35 * 96 ≤ h.now) :
    h.reducedService = h.clocked.routed.portsStarted.announced := by
  have hdue : h.bootTime (if h.clk.bootHold then 80 else 60) ≤ h.now := by simpa [Hub.bootTime, hb, ms] using hn
  exact if_pos ⟨hs, hdue⟩

section
variable (h : Hub)

theorem Hub.clocked_besideService : h.clocked.besideService = h.besideService :=
  (congrArg Hub.besideService (Hub.clockStart_besideRoot (h.modBoot (fun b => { b with step := 7, service := 1 }))) :)

theorem Hub.clocked_boot : h.clocked.boot = { h.boot with step := 7, service := 1 } :=
  (congrArg Hub.boot (Hub.clockStart_besideRoot (h.modBoot (fun b => { b with step := 7, service := 1 }))) :)

theorem Hub.clocked_running : h.clocked.clk.running = true := Hub.clockStart_running _

theorem Hub.clocked_pwr : h.clocked.pwr = { h.pwr with latch := none } :=
  (congrArg (fun g : Hub => { g.pwr with latch := none }) (Hub.clockStart_besideRoot (h.modBoot (fun b => { b with step := 7, service := 1 }))) :)

theorem Hub.clocked_sinks : h.clocked.sinks = h.sinks :=
  (congrArg Hub.sinks (Hub.clockStart_besideRoot (h.modBoot (fun b => { b with step := 7, service := 1 }))) :)

theorem Hub.foldl_routeLive_besideService (vs : List Nat) : (vs.foldl Hub.routeLive h).besideService = h.besideService :=
  Hub.forAll_keeps (K := Hub.besideService) (step := Hub.routeLive) (fun _ _ => rfl) vs h

theorem Hub.foldl_routeLive_core (vs : List Nat) : (vs.foldl Hub.routeLive h).serviceCore = h.serviceCore :=
  Hub.forAll_keeps (K := Hub.serviceCore) (step := Hub.routeLive) (fun _ _ => rfl) vs h

theorem Hub.routed_besideService : h.routed.besideService = h.besideService := Hub.foldl_routeLive_besideService h _
theorem Hub.routed_core : h.routed.serviceCore = h.serviceCore := Hub.foldl_routeLive_core h _

theorem Hub.foldl_routeLive_sink (vs : List Nat) {k : Nat} (hk : k ∉ vs.map routeSink) : (vs.foldl Hub.routeLive h).sink k = h.sink k := by
  induction vs generalizing h with
  | nil => rfl
  | cons v vs ih =>
    rw [List.map_cons, List.mem_cons, not_or] at hk
    exact (ih _ hk.2).trans (Hub.modSink_sink_other _ _ hk.1)

theorem Hub.portsStarted_besideService : h.portsStarted.besideService = h.besideService :=
  Hub.forAll_keeps (K := Hub.besideService) (step := Hub.fallbackStart) (fun _ _ => rfl) _ h

theorem Hub.portsStarted_core : h.portsStarted.serviceCore = h.serviceCore :=
  Hub.forAll_keeps (K := Hub.serviceCore) (step := Hub.fallbackStart) (fun _ _ => rfl) _ h

theorem Hub.portsStarted_sinks : h.portsStarted.sinks = h.sinks :=
  Hub.forAll_keeps (K := Hub.sinks) (step := Hub.fallbackStart) (fun _ _ => rfl) _ h

theorem Hub.portsStarted_port {p : Nat} (hp : p < 8) (hf : h.fallbackPort p = true) : (h.portsStarted.port p).startDue = true := by
  obtain ⟨g, -, -, hg⟩ := Hub.forAll_at (R := Hub.port) (K := fun _ => ()) (step := Hub.fallbackStart)
    (fun g n m hm => g.modPort_port_other (fun x => { x with startDue := true }) hm)
    (fun _ _ => rfl) (List.Pairwise.filter _ List.nodup_range) (List.mem_filter.mpr ⟨List.mem_range.mpr hp, hf⟩) h
  exact (congrArg Port.startDue hg).trans (congrArg Port.startDue (g.modPort_port p (fun x => { x with startDue := true })) :)

theorem Hub.timerSet_besideTimers (i : Nat) : { h.timerSet i with timers := h.timers } = h := by
  unfold Hub.timerSet
  dsimp only
  split <;> rfl

/-- Everything but the deadlines and the causes is as before. -/
theorem Hub.announced_rest : { h.announced with timers := h.timers, evDue := h.evDue } = h := by
  have h0 := h.timerSet_besideTimers 0
  have h1 := (h.timerSet 0).timerSet_besideTimers 1
  have h2 : { (h.timerSet 0).timerSet 1 with timers := h.timers } = h :=
    (congrArg (fun g : Hub => { g with timers := h.timers }) h1 :).trans h0
  unfold Hub.announced Hub.when
  dsimp only
  split <;> exact (congrArg (fun g : Hub => { g with evDue := h.evDue }) h2 :)

theorem Hub.announced_besideService : h.announced.besideService = h.besideService := (congrArg Hub.besideService h.announced_rest :)
theorem Hub.announced_core : h.announced.serviceCore = h.serviceCore := (congrArg Hub.serviceCore h.announced_rest :)
theorem Hub.announced_sinks : h.announced.sinks = h.sinks := (congrArg Hub.sinks h.announced_rest :)
theorem Hub.announced_ports : h.announced.ports = h.ports := (congrArg Hub.ports h.announced_rest :)

theorem Hub.announced_causes : h.announced.causes 0 := by
  have h0 : (((h.timerSet 0).timerSet 1).cause evResetFlags).causes 0 := Hub.cause_causes _ _ _
  unfold Hub.announced Hub.when
  dsimp only
  split
  · exact Hub.causes_cause h0 _ _
  · exact h0

theorem Hub.announced_causes_padHold (hp : h.pwr.padHeld ≠ 0) : h.announced.causes 11 := by
  have h1 : (((h.timerSet 0).timerSet 1).cause evResetFlags).pwr = h.pwr :=
    (congrArg Hub.pwr ((h.timerSet 0).timerSet_besideTimers 1) :).trans (congrArg Hub.pwr (h.timerSet_besideTimers 0) :)
  unfold Hub.announced
  dsimp only
  rw [h1, decide_eq_true hp]
  exact Hub.when_cause_causes _ _ _

/-- The stages of reduced service, read together. -/
theorem Hub.serviceStages_besideService : h.clocked.routed.portsStarted.announced.besideService = h.besideService := by
  rw [Hub.announced_besideService, Hub.portsStarted_besideService, Hub.routed_besideService, Hub.clocked_besideService]

theorem Hub.serviceStages_core : h.clocked.routed.portsStarted.announced.serviceCore = h.clocked.serviceCore := by
  rw [Hub.announced_core, Hub.portsStarted_core, Hub.routed_core]

end

section
variable (h : Hub)

theorem Hub.besideService_live (i sub : Nat) : h.besideService.live? i sub = h.live? i sub := rfl
theorem Hub.besideService_accepted (i sub : Nat) : h.besideService.accepted i sub = h.accepted i sub := rfl

theorem Hub.besideService_fallbackPort (p : Nat) : h.besideService.fallbackPort p = h.fallbackPort p := by
  simp only [Hub.fallbackPort, Hub.startCheck, Hub.besideService_live, Hub.besideService_accepted]
  rfl

theorem Hub.besideService_routeKept (v : Nat) : h.besideService.routeKept v = h.routeKept v := by
  simp only [Hub.routeKept, Hub.routeEndOk, Hub.besideService_fallbackPort, Hub.besideService_accepted]
  rfl

theorem Hub.besideService_routes : h.besideService.routes = h.routes := by
  simp only [Hub.routes, Hub.besideService_live]

/-- Routes, and which of them are kept, do not depend on what reduced service starts. -/
theorem Hub.besideService_routesKept : h.besideService.routes.filter h.besideService.routeKept = h.routes.filter h.routeKept := by
  rw [Hub.besideService_routes, funext h.besideService_routeKept]

end

theorem Hub.clocked_routes (h : Hub) : h.clocked.routes.filter h.clocked.routeKept = h.routes.filter h.routeKept := by
  rw [← Hub.besideService_routesKept, h.clocked_besideService, Hub.besideService_routesKept]

theorem Hub.clocked_routed_fallbackPort (h : Hub) (p : Nat) : h.clocked.routed.fallbackPort p = h.fallbackPort p := by
  have hb : h.clocked.routed.besideService = h.besideService := (Hub.routed_besideService _).trans h.clocked_besideService
  rw [← Hub.besideService_fallbackPort, hb, Hub.besideService_fallbackPort]

theorem Hub.eq_of_besideService {g h : Hub} (hb : g.besideService = h.besideService) :
    { g with boot := h.boot, clk := h.clk, sinks := h.sinks, ports := h.ports, timers := h.timers, evDue := h.evDue, pwr := h.pwr, draws := h.draws } = h :=
  (congrArg (fun k : Hub =>
    { k with boot := h.boot, clk := h.clk, sinks := h.sinks, ports := h.ports, timers := h.timers, evDue := h.evDue, pwr := h.pwr, draws := h.draws }) hb :)

theorem Hub.sink_of_sinks {g h : Hub} (hs : g.sinks = h.sinks) (k : Nat) : g.sink k = h.sink k := by rw [Hub.sink, Hub.sink, hs]
theorem Hub.port_of_ports {g h : Hub} (hs : g.ports = h.ports) (p : Nat) : g.port p = h.port p := by rw [Hub.port, Hub.port, hs]

/-- What reduced service leaves where a route is not concerned (R390). -/
theorem Hub.serviceStages_sink {h : Hub} {k : Nat} (hk : k ∉ (h.routes.filter h.routeKept).map routeSink) :
    h.clocked.routed.portsStarted.announced.sink k = h.sink k := by
  rw [Hub.sink_of_sinks (Hub.announced_sinks _), Hub.sink_of_sinks (Hub.portsStarted_sinks _), Hub.routed, h.clocked_routes,
    Hub.foldl_routeLive_sink _ _ hk, Hub.sink_of_sinks h.clocked_sinks]

theorem Hub.serviceStages_port {h : Hub} {p : Nat} (hp : p < 8) (hf : h.fallbackPort p = true) :
    (h.clocked.routed.portsStarted.announced.port p).startDue = true := by
  rw [Hub.port_of_ports (Hub.announced_ports _)]
  exact Hub.portsStarted_port _ hp ((h.clocked_routed_fallbackPort p).trans hf)

theorem Hub.padHeld_of_core {g h : Hub} (hc : g.serviceCore = h.serviceCore) : g.pwr.padHeld = h.pwr.padHeld :=
  congrArg (fun x : Boot × Clock × Power => x.2.2.padHeld) hc

theorem Hub.clocked_padHeld (h : Hub) : h.clocked.pwr.padHeld = h.pwr.padHeld := by rw [Hub.clocked_pwr]

theorem Hub.serviceStages_padHeld (h : Hub) : h.clocked.routed.portsStarted.pwr.padHeld = h.pwr.padHeld := by
  rw [Hub.padHeld_of_core (Hub.portsStarted_core _), Hub.padHeld_of_core (Hub.routed_core _), Hub.clocked_padHeld]

/-- Bring-up, the clock and the power state of reduced service. -/
theorem Hub.serviceStages_boot (h : Hub) : h.clocked.routed.portsStarted.announced.boot = { h.boot with step := 7, service := 1 } :=
  (congrArg (fun x : Boot × Clock × Power => x.1) h.serviceStages_core).trans h.clocked_boot

theorem Hub.serviceStages_running (h : Hub) : h.clocked.routed.portsStarted.announced.clk.running = true :=
  (congrArg (fun x : Boot × Clock × Power => x.2.1.running) h.serviceStages_core).trans h.clocked_running

theorem Hub.serviceStages_pwr (h : Hub) : h.clocked.routed.portsStarted.announced.pwr = { h.pwr with latch := none } :=
  (congrArg (fun x : Boot × Clock × Power => x.2.2) h.serviceStages_core).trans h.clocked_pwr

/-! ## The image check and full service (R396, R397, R422) -/

theorem Hub.cause_silent (h : Hub) (e : Nat) : { h.cause e with evDue := [] } = { h with evDue := [] } := rfl

/-- A boot that goes on in reduced service. -/
def Hub.bootFailed (h : Hub) (r : Nat) : Hub :=
  ((h.modBoot (fun b => { b with bootResult := r })).cause evReducedService).cause evUpdateFailed

theorem Hub.bootFailed_rest (h : Hub) (r : Nat) : { h.bootFailed r with boot := h.boot, evDue := h.evDue } = h := by
  have hs := (Hub.cause_silent ((h.modBoot (fun b => { b with bootResult := r })).cause evReducedService) evUpdateFailed).trans
    (Hub.cause_silent (h.modBoot (fun b => { b with bootResult := r })) evReducedService)
  exact (congrArg (fun g : Hub => { g with boot := h.boot, evDue := h.evDue }) hs :)

/-- A hub that reaches full service. -/
def Hub.inFullService (h : Hub) : Hub :=
  ((h.cancel .handoverService).modBoot (fun b => { b with service := 2, fullAt := h.now % 18446744073709551616 })).cause evFullService

theorem Hub.inFullService_rest (h : Hub) : { h.inFullService with boot := h.boot, evDue := h.evDue, timers := h.timers } = h :=
  (congrArg (fun g : Hub => { g with boot := h.boot, evDue := h.evDue, timers := h.timers })
    (Hub.cause_silent ((h.cancel .handoverService).modBoot (fun b => { b with service := 2, fullAt := h.now % 18446744073709551616 })) evFullService) :)

theorem Hub.imageChecked_of_open {h : Hub} {image : List Byte} {recs sig : Bool} (hs : 6 ≤ h.boot.step) (hr : h.boot.bootResult = 0)
    (hf : h.boot.full = false) (hp : h.pwr.progress ≠ 3) (hst : h.pwr.stable = false) (hv : h.supply.vioFault = false) :
    h.imageChecked image recs sig =
      if h.bootResultOf image recs sig = 1 then
        { (h.modBoot (fun b => { b with bootResult := h.bootResultOf image recs sig })).modBoot
            (fun b => { b with thDue := true, header := image.take 320, versions := imageVersions image }) with sup := { h.sup with running := true } }
      else h.bootFailed (h.bootResultOf image recs sig) :=
  if_pos ⟨hs, hr, hf, hp, hst, hv⟩

theorem Hub.fullService_of_due {h : Hub} (hf : h.boot.full = true) (hs : h.boot.service = 1) (hn : h.now % 32 = 0)
    (hd : h.due .handoverService = true) :
    h.fullService = h.inFullService :=
  (if_pos ⟨hf, hs, hn⟩).trans (Hub.whenDue_due hd)

/-! ## The obligation -/

/-- Settles O42: reduced service runs in the stages clocks, routes, ports and announcements, each with what it leaves unchanged. -/
theorem serviceBegins : Obligations.ServiceBegins := by
  refine ⟨?reduced, ?notYet, ?checked, ?pending, ?full, ?notFull⟩
  case reduced =>
    intro s hs hb hn
    refine answers_of_always (f := Hub.reducedService) rfl ?_
    rw [Hub.reducedService_of_due hs hb hn]
    refine ⟨s.hub.serviceStages_boot, s.hub.serviceStages_running, s.hub.serviceStages_pwr, Hub.announced_causes _, fun hp => ?_,
      fun p hp hf => Hub.serviceStages_port hp hf, fun k hk => Hub.serviceStages_sink hk, Hub.eq_of_besideService s.hub.serviceStages_besideService⟩
    exact Hub.announced_causes_padHold _ (fun h0 => hp (s.hub.serviceStages_padHeld.symm.trans h0))
  case notYet =>
    intro s hs
    exact answers_of_always (f := Hub.reducedService) rfl (if_neg (fun hc => hs hc.1))
  case checked =>
    intro s image recs sig hs hr hf hp hst hv
    refine answers_of_always (f := (·.imageChecked image recs sig)) rfl ?_
    rw [Hub.imageChecked_of_open hs hr hf hp hst hv]
    by_cases hres : s.hub.bootResultOf image recs sig = 1
    · rw [if_pos hres, if_pos hres, hres]
      rfl
    · rw [if_neg hres, if_neg hres]
      exact ⟨rfl, Hub.causes_cause (Hub.cause_causes _ _ _) _ _, Hub.cause_causes _ _ _, Hub.bootFailed_rest _ _⟩
  case pending =>
    intro h image recs sig hu
    exact if_pos (.inl hu)
  case full =>
    intro s hf hs hn hd
    refine answers_of_always (f := Hub.fullService) rfl ?_
    rw [Hub.fullService_of_due hf hs hn hd]
    exact ⟨rfl, Hub.cause_causes _ _ _, Hub.cancel_deadline s.hub .handoverService, s.hub.inFullService_rest⟩
  case notFull =>
    intro s hs
    exact answers_of_always (f := Hub.fullService) rfl (if_neg (fun hc => hs hc.2.1))

end Sys2Proof.Machine
end


section
/-! SUPPORT. The store read of bring-up (R387 step 3, R388, R389): the dictionary it leaves. -/

namespace Sys2Proof.Machine

/-- What every step of a pass keeps, the pass keeps. -/
theorem Hub.foldl_keeps {α β : Type} {K : Hub → β} {step : Hub → α → Hub} (hK : ∀ g a, K (step g a) = K g) (l : List α) (h : Hub) :
    K (l.foldl step h) = K h := by
  induction l generalizing h with
  | nil => rfl
  | cons a l ih => exact (ih _).trans (hK h a)

/-! ## What the dictionary holds -/

/-- Bring-up's record, the rows, the accepted values, those in force, and the store. -/
structure StoredPart where
  step : Nat
  flags : Nat
  rows : Table Nat
  accepted : Table Nat
  inForce : Table Nat
  store : Store

def Hub.storedPart (h : Hub) : StoredPart := ⟨h.boot.step, h.boot.resetFlags, h.nv, h.objs, h.live, h.store⟩

section
variable (h : Hub)

theorem Hub.modTandem_storedPart (n : Nat) (f : Tandem → Tandem) : (h.modTandem n f).storedPart = h.storedPart := rfl
theorem Hub.modInput_storedPart (n : Nat) (f : Input → Input) : (h.modInput n f).storedPart = h.storedPart := rfl
theorem Hub.modOutput_storedPart (n : Nat) (f : Output → Output) : (h.modOutput n f).storedPart = h.storedPart := rfl
theorem Hub.modAudio_storedPart (n : Nat) (f : AudioPart → AudioPart) : (h.modAudio n f).storedPart = h.storedPart := rfl

theorem Hub.modStream_storedPart (n : Nat) (f : Stream → Stream) : (h.modStream n f).storedPart = h.storedPart := by
  unfold Hub.modStream
  split <;> rfl

theorem Hub.modSlice_storedPart (sl : SliceId) (f : Slice → Slice) : (h.modSlice sl f).storedPart = h.storedPart := by cases sl <;> rfl
theorem Hub.modRelief_storedPart (u : ReliefUnit) (f : Relief → Relief) : (h.modRelief u f).storedPart = h.storedPart := by cases u <;> rfl

end

/-! ## The stages of the store read -/

/-- The slice of a stored retirement number. -/
def retiredSlice (i : Nat) : SliceId := if i ≤ 48 then .input i else .output (i - 100)

/-- A retired slice stands relieved. -/
def Hub.retireStored (h : Hub) (i : Nat) : Hub :=
  let g := (h.modSlice (retiredSlice i) (fun x => { x with state := .relieved, declared := true, retired := true })).modRelief (unitOf (retiredSlice i))
    (fun r => { r with state := 3, serves := numberOf (retiredSlice i) })
  match retiredSlice i with
  | .input _ => g
  | .output n => g.modOutput n (fun o => { o with onRelief := true })

theorem Hub.retireStored_storedPart (h : Hub) (i : Nat) : (h.retireStored i).storedPart = h.storedPart := by
  unfold Hub.retireStored
  dsimp only
  split
  · rw [Hub.modRelief_storedPart, Hub.modSlice_storedPart]
  · rw [Hub.modOutput_storedPart, Hub.modRelief_storedPart, Hub.modSlice_storedPart]

/-- The committed sets, exclusions and retirements of the store. -/
def Hub.rowsKept (h : Hub) (e : Outside) : Hub :=
  e.retired.foldl Hub.retireStored
    (e.exclusions.foldl (fun h x => h.modTandem x.1 (fun t =>
      { t with l := { t.l with excluded := bit x.2 0 }, m := { t.m with excluded := bit x.2 1 }, h := { t.h with excluded := bit x.2 2 } }))
      (e.stores.foldl (fun h x => h.modTandem x.1 (fun t => { t with bankA := x.2, bankB := x.2, factory := false })) h))

theorem Hub.rowsKept_storedPart (h : Hub) (e : Outside) : (h.rowsKept e).storedPart = h.storedPart := by
  unfold Hub.rowsKept
  rw [Hub.foldl_keeps Hub.retireStored_storedPart]
  exact (Hub.foldl_keeps (K := Hub.storedPart) (fun g x => g.modTandem_storedPart x.1 _) e.exclusions _).trans
    (Hub.foldl_keeps (K := Hub.storedPart) (fun g x => g.modTandem_storedPart x.1 _) e.stores h)

theorem Hub.recordsStored_eq (h : Hub) : h.recordsStored = { h.rowsKept h.ext with owners := h.ext.owners, sram := { (h.rowsKept h.ext).sram with
    retired := tgetD (h.rowsKept h.ext).nv (key 0xC000 0x1A) 0, spares := 2 - popcount (tgetD (h.rowsKept h.ext).nv (key 0xC000 0x1A) 0) 12 } } := rfl

theorem Hub.recordsStored_storedPart (h : Hub) : h.recordsStored.storedPart = h.storedPart :=
  (congrArg Hub.storedPart h.recordsStored_eq).trans (h.rowsKept_storedPart h.ext)

theorem Hub.recordsStored_owners (h : Hub) : h.recordsStored.owners = h.ext.owners := congrArg Hub.owners h.recordsStored_eq

/-! ## Stored audio settings -/

/-- The stored part and who owns what. -/
def Hub.storedOwned (h : Hub) : StoredPart × Table Nat := (h.storedPart, h.owners)

theorem Hub.modStream_storedOwned (h : Hub) (n : Nat) (f : Stream → Stream) : (h.modStream n f).storedOwned = h.storedOwned := by
  unfold Hub.modStream
  split <;> rfl

/-- Polarity and filter of a source as stored. -/
def Hub.filterStored (h : Hub) (n : Nat) : Hub :=
  let inv := decide (h.live? (frontIdx n) 3 = 1)
  let hpf := h.live? (frontIdx n) 4
  if inv || hpf ≠ 0 then h.modStream n (fun x => { x with inverted := inv, polTarget := inv, hpf := hpf }) else h

/-- Impedance of an input as stored. -/
def Hub.impedanceStored (h : Hub) (n : Nat) : Hub :=
  let z := h.live? (frontIdx n) 2
  if n ≤ 48 ∧ z ≠ 0 then h.modInput n (fun x => { x with impedance := z }) else h

def Hub.frontStored (h : Hub) (n : Nat) : Hub := (h.filterStored n).impedanceStored n

/-- Gain, mute and delay of an output as stored. -/
def Hub.outputStored (h : Hub) (n : Nat) : Hub :=
  let mute (v : Nat) : Fade := Fade.steady (if v = 1 then 0 else unity)
  let i := outIdx n + 1
  if h.live.any (fun e => decide (e.1 / 256 = i)) then
    h.modAudio n (fun a => { a with gain := Ramp.steady (gainLevel (h.live? i 1)), mute := mute (h.live? i 2), delay := us (h.live? i 3) })
  else h

/-- Gain, mute and short buses of a headphone as stored. -/
def Hub.phoneStored (h : Hub) (j : Nat) : Hub :=
  let mute (v : Nat) : Fade := Fade.steady (if v = 1 then 0 else unity)
  let i := hpIdx j
  h.modHeadphone j (fun x => { x with gain := Ramp.steady (gainLevel (h.live? i 1)), mute := mute (h.live? i 2), shortL := h.live? i 6, shortR := h.live? i 7 })

/-- Gains, mute and spread of the speaker as stored. -/
def Hub.speakerStored (h : Hub) : Hub :=
  let mute (v : Nat) : Fade := Fade.steady (if v = 1 then 0 else unity)
  let i := spkIdx
  h.modSpk (fun x =>
    { x with gainL := Ramp.steady (gainLevel (h.live? i 1)), gainR := Ramp.steady (gainLevel (h.live? i 2)), mute := mute (h.live? i 3)
             spread := decide (h.live? i 8 = 1) })

theorem Hub.audioStored_eq (h : Hub) :
    h.audioStored =
      (((h.forAll (upTo 1 52) Hub.frontStored).forAll (upTo 1 32) Hub.outputStored).forAll (upTo 1 4) Hub.phoneStored).speakerStored := rfl

theorem Hub.filterStored_storedOwned (h : Hub) (n : Nat) : (h.filterStored n).storedOwned = h.storedOwned := by
  unfold Hub.filterStored
  dsimp only
  split
  · exact h.modStream_storedOwned n _
  · rfl

theorem Hub.impedanceStored_storedOwned (h : Hub) (n : Nat) : (h.impedanceStored n).storedOwned = h.storedOwned := by
  unfold Hub.impedanceStored
  dsimp only
  split <;> rfl

theorem Hub.frontStored_storedOwned (h : Hub) (n : Nat) : (h.frontStored n).storedOwned = h.storedOwned :=
  (Hub.impedanceStored_storedOwned _ n).trans (h.filterStored_storedOwned n)

theorem Hub.outputStored_storedOwned (h : Hub) (n : Nat) : (h.outputStored n).storedOwned = h.storedOwned := by
  unfold Hub.outputStored
  dsimp only
  split <;> rfl

theorem Hub.phoneStored_storedOwned (h : Hub) (j : Nat) : (h.phoneStored j).storedOwned = h.storedOwned := rfl
theorem Hub.speakerStored_storedOwned (h : Hub) : h.speakerStored.storedOwned = h.storedOwned := rfl

theorem Hub.audioStored_storedOwned (h : Hub) : h.audioStored.storedOwned = h.storedOwned := by
  rw [Hub.audioStored_eq, Hub.speakerStored_storedOwned, Hub.forAll_keeps Hub.phoneStored_storedOwned]
  exact (Hub.forAll_keeps Hub.outputStored_storedOwned _ _).trans (Hub.forAll_keeps Hub.frontStored_storedOwned _ _)

/-! ## The store read -/

/-- The rows that did not fail. -/
def Hub.goodRows (h : Hub) (failed : List (Nat × Nat)) : Table Nat := h.nv.filter (fun e => !(failed.map (fun x => key x.1 x.2)).contains e.1)

/-- The objects of a table of rows. -/
def objectRows (rows : Table Nat) : Table Nat := rows.filter (fun e => decide (e.1 < 0x1000000))

/-- The objects that act in reduced service. -/
def reducedRows (objs : Table Nat) : Table Nat := objs.filter (fun e => actsReduced (tgetD objs (key 0x1210 1) 0) e.1)

section
variable (h : Hub)

theorem Hub.modClk_storedOwned (f : Clock → Clock) : (h.modClk f).storedOwned = h.storedOwned := rfl
theorem Hub.modTet_storedOwned (f : Tether → Tether) : (h.modTet f).storedOwned = h.storedOwned := rfl
theorem Hub.twiStored_storedOwned : h.twiStored.storedOwned = h.storedOwned := rfl
theorem Hub.routesDropped_storedOwned (n : Nat) : (h.modBoot (fun b => { b with routesDropped := n })).storedOwned = h.storedOwned := rfl

/-- What the ports and the clock take of the store leaves the dictionary as it is. -/
theorem Hub.portsTold_storedOwned (f : Clock → Clock) (d : Tether → Tether) (n : Nat) :
    (((h.modClk f).modTet d).modBoot (fun b => { b with routesDropped := n })).twiStored.storedOwned = h.storedOwned := by
  rw [Hub.twiStored_storedOwned, Hub.routesDropped_storedOwned, Hub.modTet_storedOwned, Hub.modClk_storedOwned]

end

theorem Hub.audio_of_records (h : Hub) : h.recordsStored.audioStored.storedOwned = (h.storedPart, h.ext.owners) :=
  (Hub.audioStored_storedOwned _).trans (congr (congrArg Prod.mk h.recordsStored_storedPart) h.recordsStored_owners)

/-- An unreadable store leaves every object at its default (R389). -/
theorem Hub.storeRead_unreadable (h : Hub) (failed : List (Nat × Nat)) :
    (h.storeRead true failed).storedOwned =
      (⟨h.boot.step, h.boot.resetFlags ||| 1024, [], [], [], { h.store with failed := true }⟩, []) := by
  unfold Hub.storeRead
  extract_lets bad nv factory h1 h2 h3 objs fb masks h4 h5 h6 h7 h8 h9
  have hports : h9.twiStored.storedOwned = h6.storedOwned := Hub.portsTold_storedOwned h6 _ _ _
  exact hports.trans ((Hub.audio_of_records h5).trans rfl)

/-- The rows that verify are accepted; those of R388 act (R389). -/
theorem Hub.storeRead_readable (h : Hub) (failed : List (Nat × Nat)) :
    (h.storeRead false failed).storedOwned =
      (⟨h.boot.step, if failed = [] then h.boot.resetFlags else h.boot.resetFlags ||| 1024, h.goodRows failed, objectRows (h.goodRows failed),
        reducedRows (objectRows (h.goodRows failed)), h.store⟩, h.ext.owners) := by
  unfold Hub.storeRead
  extract_lets bad nv factory h1 h2 h3 objs fb masks h4 h5 h6 h7 h8 h9
  have hports : h9.twiStored.storedOwned = h6.storedOwned := Hub.portsTold_storedOwned h6 _ _ _
  refine hports.trans ((Hub.audio_of_records h5).trans ?_)
  cases failed <;> rfl

end Sys2Proof.Machine
end


section
/-! SUPPORT. The timed steps of bring-up (R204, R387, R389, R455, R469). -/

namespace Sys2Proof.Machine

/-! ## The core frames start (R387 step 4) -/

/-- All of the hub but the inputs and the deadlines. -/
def Hub.besideRamps (h : Hub) : Hub := { h with ins := [], timers := [] }

theorem Hub.modPhantom_besideRamps (h : Hub) (n : Nat) (f : Phantom → Phantom) : (h.modPhantom n f).besideRamps = h.besideRamps := rfl
theorem Hub.startAt_besideRamps (h : Hub) (t : Timer) (d : Nat) : (h.startAt t d).besideRamps = h.besideRamps := rfl

/-- One input of `phantomRebase`: a ramp begun by the reset goes on in core frames. -/
def Hub.rebase (t : Nat) (h : Hub) (n : Nat) : Hub :=
  if h.armed (.phantomRamp n) then
    let r := (h.input n).phantom.pf
    (h.modPhantom n (fun p => { p with pf := { v0 := r.at (ms t), v1 := 0, t0 := 0, len := r.len - ms t } })).startAt (.phantomRamp n) (r.len - ms t)
  else h

theorem Hub.phantomRebase_eq (h : Hub) (t : Nat) : h.phantomRebase t = h.forAll (upTo 1 48) (Hub.rebase t) := rfl

theorem Hub.rebase_besideRamps (t : Nat) (h : Hub) (n : Nat) : (h.rebase t n).besideRamps = h.besideRamps := by
  unfold Hub.rebase
  split
  · exact (Hub.startAt_besideRamps _ _ _).trans (Hub.modPhantom_besideRamps _ _ _)
  · rfl

theorem Hub.rebase_deadline (t : Nat) {u : Timer} (hu : ∀ n, u ≠ .phantomRamp n) (h : Hub) (n : Nat) : (h.rebase t n).deadline u = h.deadline u := by
  unfold Hub.rebase
  split
  · exact Hub.startAt_deadline_other _ _ (hu n)
  · rfl

theorem Hub.phantomRebase_besideRamps (h : Hub) (t : Nat) : (h.phantomRebase t).besideRamps = h.besideRamps :=
  Hub.forAll_keeps (Hub.rebase_besideRamps t) _ h

theorem Hub.phantomRebase_deadline (h : Hub) (t : Nat) {u : Timer} (hu : ∀ n, u ≠ .phantomRamp n) : (h.phantomRebase t).deadline u = h.deadline u :=
  Hub.forAll_keeps (K := fun g => g.deadline u) (Hub.rebase_deadline t hu) _ h

/-- A hub at FRAME_COUNT 0. -/
def Hub.frameZero (h : Hub) : Hub := { h with now := 0, sub := 0, framesRun := true, blockDone := false }

theorem Hub.framesStart_of_crystal {h : Hub} (hb : h.clk.bootHold = false) : h.framesStart = h.frameZero.centre.pllLock.phantomRebase 25 :=
  if_neg (ne_true_of_eq_false hb)

/-- What the start of the frames leaves in view. -/
structure FramesBegun where
  boot : Boot
  now : Nat
  sub : Nat
  framesRun : Bool
  blockDone : Bool
  pllLocked : Bool

def Hub.framesBegun (h : Hub) : FramesBegun := ⟨h.boot, h.now, h.sub, h.framesRun, h.blockDone, h.clk.pllLocked⟩

theorem Hub.framesBegun_of_besideRamps {g h : Hub} (hb : g.besideRamps = h.besideRamps) : g.framesBegun = h.framesBegun :=
  (congrArg Hub.framesBegun hb :)

theorem Hub.framesStart_begun {h : Hub} (hb : h.clk.bootHold = false) : h.framesStart.framesBegun = ⟨h.boot, 0, 0, true, false, true⟩ := by
  rw [Hub.framesStart_of_crystal hb, Hub.framesBegun_of_besideRamps (Hub.phantomRebase_besideRamps _ _)]
  rfl

theorem Hub.frameZero_holdDue (h : Hub) :
    h.frameZero.centre.holdDue = match h.clk.holdStoredAt with | some f => max (60 * 96000) (f + 3600 * 96000) | none => 60 * 96000 := by
  have hd : h.frameZero.centre.holdDue = match h.clk.holdStoredAt with | some f => max (0 + secs 60) (f + secs 3600) | none => 0 + secs 60 := rfl
  rw [hd]
  cases h.clk.holdStoredAt <;> rfl

theorem Hub.framesStart_storedHold {h : Hub} (hb : h.clk.bootHold = false) :
    h.framesStart.deadline .storedHold = some h.frameZero.centre.holdDue := by
  rw [Hub.framesStart_of_crystal hb, Hub.phantomRebase_deadline _ _ (fun _ => by simp), Hub.pllLock_eq, Hub.startAt_deadline]

/-! ## The front ends start (R387 step 5): the settling of the sources -/

/-- All of the hub but sources, outputs, headphones, speaker and deadlines. -/
def Hub.besideFronts (h : Hub) : Hub := { h with ins := [], hms := [], outs := [], hps := [], spk := {}, timers := [] }

theorem Hub.besideFronts_of_besideSources {g h : Hub} (hb : g.besideSources = h.besideSources) : g.besideFronts = h.besideFronts :=
  (congrArg (fun k : Hub => { k with outs := [], hps := [], spk := {} }) hb :)

/-- The deadlines of the sources that settle. -/
def Hub.settles (h : Hub) (m : Nat) : Option Nat := h.deadline (.settle m)

section
variable (h : Hub) (n : Nat)

theorem Hub.start_settles {t : Timer} (d : Nat) (ht : ∀ m, Timer.settle m ≠ t) : (h.start t d).settles = h.settles :=
  funext fun m => Hub.startAt_deadline_other h _ (ht m)

theorem Hub.cancel_settles {t : Timer} (ht : ∀ m, Timer.settle m ≠ t) : (h.cancel t).settles = h.settles :=
  funext fun m => Hub.cancel_deadline_other h (ht m)

theorem Hub.modStream_settles (f : Stream → Stream) : (h.modStream n f).settles = h.settles := by unfold Hub.modStream; split <;> rfl
theorem Hub.setFe_settles (x : FeState) : (h.setFe n x).settles = h.settles := by unfold Hub.setFe; split <;> rfl
theorem Hub.modInput_settles (f : Input → Input) : (h.modInput n f).settles = h.settles := rfl
theorem Hub.modHeadMic_settles (f : HeadMic → HeadMic) : (h.modHeadMic n f).settles = h.settles := rfl
theorem Hub.modPhantom_settles (f : Phantom → Phantom) : (h.modPhantom n f).settles = h.settles := rfl

theorem Hub.phantomOff_settles (st : PhantomState) : (h.phantomOff n st).settles = h.settles :=
  (Hub.cancel_settles _ (by simp)).trans ((Hub.start_settles _ _ (by simp)).trans (h.modPhantom_settles n _))

theorem Hub.phantomRequestOn_settles : (h.phantomRequestOn n).settles = h.settles := by
  unfold Hub.phantomRequestOn
  split
  · exact (Hub.cancel_settles _ (by simp)).trans ((Hub.cancel_settles _ (by simp)).trans (h.modPhantom_settles n _))
  · exact (Hub.cancel_settles _ (by simp)).trans ((Hub.start_settles _ _ (by simp)).trans (h.modPhantom_settles n _))

theorem Hub.phantomApply_settles (v : Bool) : (h.phantomApply n v).settles = h.settles := by
  unfold Hub.phantomApply
  dsimp only
  split
  · exact h.modPhantom_settles n _
  split
  · exact h.phantomRequestOn_settles n
  · rfl
  · rfl
  · exact h.phantomOff_settles n _
  · rfl
  · exact h.phantomOff_settles n _
  · exact h.modPhantom_settles n _
  · exact h.modPhantom_settles n _
  · split
    · exact h.modPhantom_settles n _
    · exact h.phantomRequestOn_settles n
  · split
    · exact h.modPhantom_settles n _
    · exact h.modPhantom_settles n _
  · exact h.modPhantom_settles n _
  · rfl

theorem Hub.polarityApply_settles (v : Bool) : (h.polarityApply n v).settles = h.settles := by
  unfold Hub.polarityApply
  dsimp only
  split
  · split
    · exact (Hub.cancel_settles _ (by simp)).trans ((Hub.modStream_settles _ n _).trans (h.modStream_settles n _))
    · exact h.modStream_settles n _
  · split
    · exact h.modStream_settles n _
    · exact (Hub.start_settles _ _ (by simp)).trans ((Hub.modStream_settles _ n _).trans (h.modStream_settles n _))

theorem Hub.frontSet_settles (sub v : Nat) : (h.frontSet n sub v).settles = h.settles := by
  unfold Hub.frontSet
  split
  · split
    · exact h.phantomApply_settles n _
    · exact h.modHeadMic_settles _ _
  · split
    · exact h.modInput_settles n _
    · exact h.modHeadMic_settles _ _
  · exact h.polarityApply_settles n _
  · exact h.modStream_settles n _
  · rfl

theorem Hub.frontHeld_settles : (h.frontHeld n).settles = h.settles :=
  (Hub.foldl_keeps (fun g (e : Nat × Nat) => g.frontSet_settles n e.1 e.2) _ _).trans (h.modStream_settles n _)

/-- The settling of a source that is powered. -/
def Hub.settleBegun : Hub := (h.zeroStream n).start (.settle n) (ms 20)

theorem Hub.settle_eq : h.settle n =
    if (h.settleBegun n).hwMuted n then ((h.settleBegun n).setFe n .hwMuted).modStream n (fun x => { x with privacy := true })
    else ((h.settleBegun n).frontHeld n).setFe n .settling := rfl

theorem Hub.settle_settles : (h.settle n).settles = (h.settleBegun n).settles := by
  rw [Hub.settle_eq]
  split
  · exact (Hub.modStream_settles _ n _).trans (Hub.setFe_settles _ n _)
  · exact (Hub.setFe_settles _ n _).trans (Hub.frontHeld_settles _ n)

theorem Hub.settle_besideSources : (h.settle n).besideSources = h.besideSources := by
  have hbegun : (h.settleBegun n).besideSources = h.besideSources := (Hub.start_besideSources _ _ _).trans (h.modStream_besideSources n _)
  rw [Hub.settle_eq]
  split
  · rw [Hub.modStream_besideSources, Hub.setFe_besideSources, hbegun]
  · rw [Hub.setFe_besideSources, (Hub.frontStep_frontHeld _ n).beside, hbegun]

theorem Hub.zeroStream_now : (h.zeroStream n).now = h.now := Hub.now_of_besideSources (h.modStream_besideSources n _)

theorem Hub.settle_deadline_same : (h.settle n).settles n = some (h.now + ms 20) := by
  rw [Hub.settle_settles]
  exact (Hub.startAt_deadline _ _ _).trans (by rw [Hub.zeroStream_now])

theorem Hub.settle_deadline_other {m : Nat} (hm : m ≠ n) : (h.settle n).settles m = h.settles m := by
  rw [Hub.settle_settles]
  exact (Hub.startAt_deadline_other _ _ (by simpa using hm)).trans (congrFun (h.modStream_settles n _) m)

end

/-- Every source settles. -/
def Hub.sourcesSettled (h : Hub) : Hub := h.forAll (upTo 1 52) Hub.settle

theorem Hub.sourcesSettled_besideSources (h : Hub) : h.sourcesSettled.besideSources = h.besideSources :=
  Hub.forAll_keeps Hub.settle_besideSources _ h

theorem Hub.sourcesSettled_settles (h : Hub) {n : Nat} (hn : isTrimSource n = true) : h.sourcesSettled.settles n = some (h.now + ms 20) := by
  have hmem : n ∈ upTo 1 52 := by
    simp only [isTrimSource, Bool.and_eq_true, decide_eq_true_eq] at hn
    exact mem_upTo.mpr (by omega)
  obtain ⟨g, -, hbeside, hg⟩ := Hub.forAll_at (R := Hub.settles) (K := Hub.besideSources) (fun g n m hm => g.settle_deadline_other n hm)
    Hub.settle_besideSources (nodup_upTo 1 52) hmem h
  exact hg.trans ((g.settle_deadline_same n).trans (by rw [Hub.now_of_besideSources hbeside]))

/-! ## Outputs, headphones and speaker start -/

/-- Everything but the units, with the settling of the sources. -/
def Hub.frontsView (h : Hub) : Hub × (Nat → Option Nat) := (h.besideFronts, h.settles)

section
variable (h : Hub)

theorem Hub.modHeadMic_frontsView (n : Nat) (f : HeadMic → HeadMic) : (h.modHeadMic n f).frontsView = h.frontsView := rfl
theorem Hub.modOutput_frontsView (n : Nat) (f : Output → Output) : (h.modOutput n f).frontsView = h.frontsView := rfl
theorem Hub.modHeadphone_frontsView (n : Nat) (f : Headphone → Headphone) : (h.modHeadphone n f).frontsView = h.frontsView := rfl
theorem Hub.modSpk_frontsView (f : Speaker → Speaker) : (h.modSpk f).frontsView = h.frontsView := rfl

theorem Hub.start_frontsView {t : Timer} (d : Nat) (ht : ∀ m, Timer.settle m ≠ t) : (h.start t d).frontsView = h.frontsView :=
  congrArg (Prod.mk h.besideFronts) (h.start_settles d ht)

theorem Hub.outputPower_frontsView (n : Nat) (c : OutCfg) : (h.outputPower n c).frontsView = h.frontsView := by
  unfold Hub.outputPower
  dsimp only
  split
  · exact h.modOutput_frontsView n _
  · exact (Hub.start_frontsView _ _ (by simp)).trans (h.modOutput_frontsView n _)

theorem Hub.spkStart_frontsView (lead : Nat) : (h.spkStart lead).frontsView = h.frontsView := by
  unfold Hub.spkStart
  split
  · split
    · exact h.modSpk_frontsView _
    · split
      · exact (Hub.start_frontsView _ _ (by simp)).trans (h.modSpk_frontsView _)
      · exact h.modSpk_frontsView _
  · exact h.modSpk_frontsView _

theorem Hub.spkStart_hpPowerup (lead : Nat) : (h.spkStart lead).deadline .hpPowerup = h.deadline .hpPowerup := by
  unfold Hub.spkStart
  split
  · split
    · rfl
    · split
      · exact Hub.startAt_deadline_other _ _ (by simp)
      · rfl
  · rfl

/-- A headphone at its power-up. -/
def Hub.phonePowered (h : Hub) (j : Nat) : Hub :=
  h.modHeadphone j (fun x =>
    { x with powered := true, openAt := none, closeAt := none, fast := h.supply.fastMute || h.supply.avddFault, fade := Fade.steady 0 })

/-- The headphones powered, and the speaker's enable as stored. -/
def Hub.phonesPowered (h : Hub) : Hub :=
  let g := h.forAll (upTo 1 4) Hub.phonePowered
  g.modSpk (fun x => { x with powerup := 2, enable := decide (g.live? spkIdx 6 = 1), fast := g.supply.fastMute })

theorem Hub.hpsPower_eq : h.hpsPower = (h.phonesPowered.start .hpPowerup (ms 2)).spkStart (ms 2) := rfl

theorem Hub.phonesPowered_frontsView : h.phonesPowered.frontsView = h.frontsView :=
  (Hub.modSpk_frontsView _ _).trans (Hub.forAll_keeps (K := Hub.frontsView) (fun g j => g.modHeadphone_frontsView j _) _ h)

theorem Hub.hpsPower_frontsView : h.hpsPower.frontsView = h.frontsView := by
  rw [Hub.hpsPower_eq, Hub.spkStart_frontsView, Hub.start_frontsView _ _ (by simp), Hub.phonesPowered_frontsView]

theorem Hub.now_of_frontsView {g h : Hub} (hv : g.frontsView = h.frontsView) : g.now = h.now :=
  congrArg (fun v : Hub × (Nat → Option Nat) => v.1.now) hv

theorem Hub.hpsPower_hpPowerup : h.hpsPower.deadline .hpPowerup = some (h.now + ms 2) := by
  rw [Hub.hpsPower_eq, Hub.spkStart_hpPowerup]
  exact (Hub.startAt_deadline _ _ _).trans (by rw [Hub.now_of_frontsView h.phonesPowered_frontsView])

/-- The outputs of one group are powered with their stored configurations (R91). -/
def Hub.groupPowered (h : Hub) (k : Nat) : Hub := (upTo (4 * k + 1) 4).foldl (fun h n => h.outputPower n (h.settledCfg n)) h

theorem Hub.groupPowered_frontsView (k : Nat) : (h.groupPowered k).frontsView = h.frontsView :=
  Hub.foldl_keeps (K := Hub.frontsView) (fun g n => g.outputPower_frontsView n _) _ h

/-- The bias of a headset microphone as stored. -/
def Hub.biasStored (h : Hub) (m : Nat) : Hub :=
  h.modHeadMic m (fun x => { x with biasEnable := decide (h.live? (hmIdx m) 1 = 1), biasVoltage := h.live? (hmIdx m) 2
                                    bias := if h.live? (hmIdx m) 1 = 1 then .on else .off })

/-- Microphones, output groups, biases and headphones, once the sources settle. -/
def Hub.unitsPowered (h : Hub) (groups : List Nat) : Hub :=
  ((groups.foldl Hub.groupPowered (h.forAll (upTo 1 4) Hub.connectMic)).forAll (upTo 1 4) Hub.biasStored).hpsPower

theorem Hub.biased_frontsView (groups : List Nat) :
    ((groups.foldl Hub.groupPowered (h.forAll (upTo 1 4) Hub.connectMic)).forAll (upTo 1 4) Hub.biasStored).frontsView = h.frontsView := by
  refine (Hub.forAll_keeps (K := Hub.frontsView) (step := Hub.biasStored) (fun g m => g.modHeadMic_frontsView m _) _ _).trans ?_
  refine (Hub.foldl_keeps Hub.groupPowered_frontsView groups _).trans ?_
  exact Hub.forAll_keeps (K := Hub.frontsView) (step := Hub.connectMic) (fun g m => g.modHeadMic_frontsView m _) _ h

theorem Hub.unitsPowered_frontsView (groups : List Nat) : (h.unitsPowered groups).frontsView = h.frontsView :=
  (Hub.hpsPower_frontsView _).trans (h.biased_frontsView groups)

theorem Hub.unitsPowered_hpPowerup (groups : List Nat) : (h.unitsPowered groups).deadline .hpPowerup = some (h.now + ms 2) :=
  (Hub.hpsPower_hpPowerup _).trans (by rw [Hub.now_of_frontsView (h.biased_frontsView groups)])

/-! ## DOMAIN_ENABLE at step 5 (R384, R387) -/

/-- DOMAIN_ENABLE with the output groups in use. -/
def enableOf (groups : List Nat) : Nat := groups.foldl (fun v k => v + 2 ^ (12 + k)) 0xF00FFF

/-- The output groups in use. -/
def Hub.groupsUsed (h : Hub) : List Nat := (List.range 8).filter h.groupUsed

/-- The domains of step 5 are enabled and on, and the dictionary holds them. -/
def Hub.domainsStored (h : Hub) (v : Nat) : Hub :=
  let g := h.modPwr (fun p => { p with enable := v, domains := v, padHeld := if h.live? 0x9000 0x12 = 1 then clearBits p.padHeld (h.live? 0x1210 1) else p.padHeld })
  { g with objs := tput g.objs (key 0x9000 7) v, live := tput g.live (key 0x9000 7) v }

theorem Hub.frontEnds_eq : h.frontEnds = (h.domainsStored (enableOf h.groupsUsed)).sourcesSettled.unitsPowered h.groupsUsed := rfl

theorem Hub.frontEnds_besideFronts : h.frontEnds.besideFronts = (h.domainsStored (enableOf h.groupsUsed)).besideFronts := by
  rw [Hub.frontEnds_eq]
  exact (congrArg Prod.fst (Hub.unitsPowered_frontsView _ _)).trans (Hub.besideFronts_of_besideSources (Hub.sourcesSettled_besideSources _))

theorem Hub.frontEnds_settles {n : Nat} (hn : isTrimSource n = true) : h.frontEnds.deadline (.settle n) = some (h.now + 20 * 96) := by
  rw [Hub.frontEnds_eq]
  exact (congrArg (fun v : Hub × (Nat → Option Nat) => v.2 n) (Hub.unitsPowered_frontsView _ _)).trans (Hub.sourcesSettled_settles _ hn)

theorem Hub.frontEnds_hpPowerup : h.frontEnds.deadline .hpPowerup = some (h.now + 2 * 96) := by
  rw [Hub.frontEnds_eq]
  refine (Hub.unitsPowered_hpPowerup _ _).trans ?_
  rw [Hub.now_of_besideSources (Hub.sourcesSettled_besideSources _)]
  rfl

theorem Hub.frontEnds_boot : h.frontEnds.boot = h.boot := (congrArg Hub.boot h.frontEnds_besideFronts :)
theorem Hub.frontEnds_enable : h.frontEnds.pwr.enable = enableOf h.groupsUsed := (congrArg (fun g : Hub => g.pwr.enable) h.frontEnds_besideFronts :)
theorem Hub.frontEnds_domains : h.frontEnds.pwr.domains = enableOf h.groupsUsed := (congrArg (fun g : Hub => g.pwr.domains) h.frontEnds_besideFronts :)

theorem Hub.frontEnds_accepted : h.frontEnds.accepted 0x9000 7 = enableOf h.groupsUsed :=
  (congrArg (fun g : Hub => g.accepted 0x9000 7) h.frontEnds_besideFronts :).trans (tgetD_tput h.objs (key 0x9000 7) _ _)

end

/-- Each bit of DOMAIN_ENABLE above the front ends is set where its group is in use. -/
theorem enableOf_bits : ∀ b0 b1 b2 b3 b4 b5 b6 b7 : Bool, ∀ k < 8,
    bit (enableOf ((List.range 8).filter (fun k => [b0, b1, b2, b3, b4, b5, b6, b7].getD k false))) (12 + k) =
      [b0, b1, b2, b3, b4, b5, b6, b7].getD k false := by decide +kernel

theorem bit_enableOf (p : Nat → Bool) {k : Nat} (hk : k < 8) : bit (enableOf ((List.range 8).filter p)) (12 + k) = p k := by
  have hlist : ∀ j < 8, [p 0, p 1, p 2, p 3, p 4, p 5, p 6, p 7].getD j false = p j := by
    intro j hj
    match j, hj with
    | 0, _ | 1, _ | 2, _ | 3, _ | 4, _ | 5, _ | 6, _ | 7, _ => rfl
  have hfilter : (List.range 8).filter (fun j => [p 0, p 1, p 2, p 3, p 4, p 5, p 6, p 7].getD j false) = (List.range 8).filter p :=
    List.filter_congr (fun j hj => hlist j (List.mem_range.mp hj))
  have hbits := enableOf_bits (p 0) (p 1) (p 2) (p 3) (p 4) (p 5) (p 6) (p 7) k hk
  rw [hfilter, hlist k hk] at hbits
  exact hbits

/-! ## The steps -/

/-- A step of bring-up is taken. -/
def Hub.atStep (h : Hub) (n : Nat) : Hub := h.modBoot (fun b => { b with step := n })

/-- What the next step of bring-up does, `n` steps taken. -/
def Hub.stepAfter (h : Hub) (u : Bool) (f : List (Nat × Nat)) (n : Nat) : Hub :=
  match n with
  | 0 => h.strapsSampled.atStep 1
  | 1 => h.atStep 2
  | 2 => (h.storeRead u f).atStep 3
  | 3 => if h.ext.xinOk || h.clk.bootHold then h.framesStart.atStep 4 else h
  | 4 => if h.bootTime 35 ≤ h.now then h.frontEnds.atStep 5 else h
  | 5 => if h.bootTime 40 ≤ h.now then h.qspiStart.atStep 6 else h
  | _ => h

theorem Hub.bringUpStep_of_awake {h : Hub} (hf : h.boot.factoryTest = false) (hs : h.pwr.stable = false) (u : Bool) (f : List (Nat × Nat)) :
    h.bringUpStep u f = h.stepAfter u f h.boot.step := by
  refine (if_neg (by simp [hf, hs])).trans ?_
  generalize h.boot.step = n
  match n with
  | 0 | 1 | 2 | 3 | 4 | 5 | _ + 6 => rfl

theorem Hub.bringUpStep_of_held {h : Hub} (hh : h.boot.factoryTest = true ∨ h.pwr.stable = true) (u : Bool) (f : List (Nat × Nat)) :
    h.bringUpStep u f = h := if_pos hh

theorem Hub.bootTime_of_crystal {h : Hub} (hb : h.clk.bootHold = false) (t : Nat) : h.bootTime t = ms (t - 25) := if_neg (ne_true_of_eq_false hb)

/-- Without a crystal, and before 45 ms, bring-up waits at its fourth step (R204). -/
theorem Hub.bringUpStep_of_noCrystal {h : Hub} (hs : h.boot.step = 3) (hx : h.ext.xinOk = false) (hb : h.clk.bootHold = false) (u : Bool)
    (f : List (Nat × Nat)) : h.bringUpStep u f = h := by
  by_cases hh : h.boot.factoryTest = true ∨ h.pwr.stable = true
  · exact Hub.bringUpStep_of_held hh u f
  · rw [not_or, Bool.not_eq_true, Bool.not_eq_true] at hh
    rw [Hub.bringUpStep_of_awake hh.1 hh.2, hs]
    exact if_neg (by simp [hx, hb])

/-- Before step 6 no read that waited goes on (R302). -/
theorem Hub.portServes_of_early {h : Hub} (hs : h.boot.step < 6) : h.portServes = h := by
  unfold Hub.portServes
  split
  · exact if_neg (by omega)
  · rfl

theorem Hub.portServes_of_none {h : Hub} (hn : h.twi.stretched = none) : h.portServes = h := by rw [Hub.portServes, hn]

/-- The dictionary of a store read with the rows of `failed` left out (R389). -/
def Hub.ReadFrom (g h : Hub) (failed : List (Nat × Nat)) : Prop :=
  g.nv = h.nv.filter (fun e => !(failed.map (fun x => key x.1 x.2)).contains e.1) ∧ g.objs = g.nv.filter (fun e => decide (e.1 < 0x1000000)) ∧
  g.live = g.objs.filter (fun e => actsReduced (tgetD g.objs (key 0x1210 1) 0) e.1) ∧ g.owners = h.ext.owners ∧
  g.boot.resetFlags = (if failed = [] then h.boot.resetFlags else h.boot.resetFlags ||| 1024)

theorem Hub.ReadFrom.atStep {g h : Hub} {failed : List (Nat × Nat)} (hr : g.ReadFrom h failed) (n : Nat) : (g.atStep n).ReadFrom h failed := hr

/-- A step of bring-up before the last, for a hub that is neither in factory test nor in Stable. -/
theorem answers_of_step {s : State} {u : Bool} {f : List (Nat × Nat)} {n : Nat} {g : Hub} {P : Hub → Prop} (hf : s.hub.boot.factoryTest = false)
    (hs : s.hub.pwr.stable = false) (hn : s.hub.boot.step = n) (he : s.hub.stepAfter u f n = g.atStep (n + 1)) (hlt : n < 5) (hp : P (g.atStep (n + 1))) :
    Answers (.bringUpStep u f) s P := by
  refine answers_of_always (f := fun h => (h.bringUpStep u f).portServes) rfl ?_
  have hearly : (g.atStep (n + 1)).boot.step < 6 := Nat.succ_lt_succ hlt
  have hstep : s.hub.bringUpStep u f = g.atStep (n + 1) := by rw [Hub.bringUpStep_of_awake hf hs, hn, he]
  rw [hstep, Hub.portServes_of_early hearly]
  exact hp

/-- The core frames of a hub with a crystal. -/
theorem Hub.framesStart_shown {h : Hub} (hb : h.clk.bootHold = false) :
    h.framesStart.boot = h.boot ∧ h.framesStart.now = 0 ∧ h.framesStart.sub = 0 ∧ h.framesStart.framesRun = true ∧
      h.framesStart.blockDone = false ∧ h.framesStart.clk.pllLocked = true := by
  simpa only [Hub.framesBegun, FramesBegun.mk.injEq] using Hub.framesStart_begun hb

theorem Hub.storeRead_unreadable_shown (h : Hub) (f : List (Nat × Nat)) :
    (h.storeRead true f).nv = [] ∧ (h.storeRead true f).objs = [] ∧ (h.storeRead true f).live = [] ∧ (h.storeRead true f).owners = [] ∧
      (h.storeRead true f).store.failed = true ∧ (h.storeRead true f).boot.resetFlags = h.boot.resetFlags ||| 1024 := by
  have hr := h.storeRead_unreadable f
  simp only [Hub.storedOwned, Hub.storedPart, Prod.mk.injEq, StoredPart.mk.injEq] at hr
  obtain ⟨⟨-, hflags, hrows, hobjs, hlive, hstore⟩, howners⟩ := hr
  exact ⟨hrows, hobjs, hlive, howners, by rw [hstore], hflags⟩

theorem Hub.storeRead_readable_shown (h : Hub) (f : List (Nat × Nat)) : (h.storeRead false f).ReadFrom h f := by
  have hr := h.storeRead_readable f
  simp only [Hub.storedOwned, Hub.storedPart, Prod.mk.injEq, StoredPart.mk.injEq] at hr
  obtain ⟨⟨-, hflags, hrows, hobjs, hlive, -⟩, howners⟩ := hr
  unfold Hub.ReadFrom
  rw [hrows, hobjs, hlive]
  exact ⟨rfl, rfl, rfl, howners, hflags⟩

theorem Hub.frontEnds_shown (h : Hub) :
    h.frontEnds.boot = h.boot ∧ (∀ k, k < 8 → bit h.frontEnds.pwr.enable (12 + k) = h.groupUsed k) ∧
      h.frontEnds.pwr.domains = h.frontEnds.pwr.enable ∧ h.frontEnds.accepted 0x9000 7 = h.frontEnds.pwr.enable ∧
      (∀ n, isTrimSource n = true → h.frontEnds.deadline (.settle n) = some (h.now + 20 * 96)) ∧
      h.frontEnds.deadline .hpPowerup = some (h.now + 2 * 96) := by
  rw [h.frontEnds_enable]
  exact ⟨h.frontEnds_boot, fun k hk => bit_enableOf _ hk, h.frontEnds_domains, h.frontEnds_accepted, fun n hn => h.frontEnds_settles hn,
    h.frontEnds_hpPowerup⟩

/-- Settles O41: each clause is the step of its number; the store read, the start of the frames and the front ends have their stages above. -/
theorem bringUpTakesItsSteps : Obligations.BringUpTakesItsSteps := by
  refine ⟨?straps, ?second, ?unreadable, ?readable, ?frames, ?noCrystal, ?fronts, ?flash⟩
  case straps =>
    intro s u f hf hs hn
    exact answers_of_step hf hs hn rfl (by omega) rfl
  case second =>
    intro s u f hf hs hn
    exact answers_of_step hf hs hn rfl (by omega) rfl
  case unreadable =>
    intro s f hf hs hn
    have hread := s.hub.storeRead_unreadable_shown f
    refine answers_of_step (g := s.hub.storeRead true f) hf hs hn rfl (by omega) ?_
    generalize s.hub.storeRead true f = g at hread ⊢
    exact ⟨rfl, hread⟩
  case readable =>
    intro s f hf hs hn
    have hread := s.hub.storeRead_readable_shown f
    refine answers_of_step (g := s.hub.storeRead false f) hf hs hn rfl (by omega) ?_
    generalize s.hub.storeRead false f = g at hread ⊢
    exact ⟨rfl, hread.atStep 3⟩
  case frames =>
    intro s u f hf hs hn hx hb
    have hstart : s.hub.stepAfter u f 3 = s.hub.framesStart.atStep 4 := if_pos (by simp [hx])
    obtain ⟨hboot, hnow, hsub, hrun, hdone, hpll⟩ := Hub.framesStart_shown hb
    exact answers_of_step hf hs hn hstart (by omega) ⟨congrArg (fun b : Boot => { b with step := 4 }) hboot, hnow, hsub, hrun, hdone, hpll,
      (Hub.framesStart_storedHold hb).trans (congrArg some s.hub.frameZero_holdDue)⟩
  case noCrystal =>
    intro s u f hn hx hb
    refine answers_of_always (f := fun h => (h.bringUpStep u f).portServes) rfl ?_
    rw [Hub.bringUpStep_of_noCrystal hn hx hb]
    exact Hub.portServes_of_early (by omega)
  case fronts =>
    intro s u f hf hs hn hb hnow
    have hdue : s.hub.bootTime 35 ≤ s.hub.now := by
      rw [Hub.bootTime_of_crystal hb]
      exact hnow
    have hshown := s.hub.frontEnds_shown
    refine answers_of_step (g := s.hub.frontEnds) hf hs hn (if_pos hdue) (by omega) ?_
    generalize s.hub.frontEnds = g at hshown ⊢
    obtain ⟨hboot, hrest⟩ := hshown
    exact ⟨congrArg (fun b : Boot => { b with step := 5 }) hboot, hrest⟩
  case flash =>
    intro s u f hf hs hn hb hstretched
    refine answers_of_always (f := fun h => (h.bringUpStep u f).portServes) rfl ?_
    have htime : s.hub.bootTime 40 = 15 * 96 := Hub.bootTime_of_crystal hb 40
    have hstep : s.hub.bringUpStep u f = if s.hub.bootTime 40 ≤ s.hub.now then s.hub.qspiStart.atStep 6 else s.hub := by
      rw [Hub.bringUpStep_of_awake hf hs, hn]
      rfl
    rw [hstep, htime]
    split
    · exact Hub.portServes_of_none hstretched
    · exact Hub.portServes_of_none hstretched

end Sys2Proof.Machine
end
